-- ==== Sys2Proof/Word.lean ====
section
/-! DEFINITION. The word types of the VBH8A: 32-bit registers and message words (R97, R110), bytes of frames and of the spool (R372), and 256-bit words of the darned memories (R24). -/

namespace Sys2Proof

/-- A register, a message word or a context word (R97, R110, R159). -/
abbrev Word := BitVec 32

/-- A byte of a serial frame or of the spool (R82, R372). -/
abbrev Byte := BitVec 8

/-- One word of a memory held under the darning code (R24). -/
abbrev DarnWord := BitVec 256

/-- Entry `i` of a fixed array. -/
def vget {α : Type} {n : Nat} (v : Vector α n) (i : Fin n) : α := v[i.val]'i.isLt

/-- The array with entry `i` replaced. -/
def vset {α : Type} {n : Nat} (v : Vector α n) (i : Fin n) (x : α) : Vector α n := v.set i.val x i.isLt

end Sys2Proof
end

