-- ==== Sys2Proof/Syntax.lean ====
section
/-! DEFINITION. The syntax of the VBH8A's commands: every row of spec/opcode_table.json, with the operands each takes. -/

namespace Sys2Proof

/-- The five masters of R109, in the order of their IDs. -/
inductive Master where
  | host | exec | link | safe | maint
  deriving DecidableEq, Repr

/-- AX0 to AX7 (R6). -/
abbrev Axis := Fin 8
/-- C0 to C15: coil 2n is coil A and coil 2n + 1 coil B of axis n (R6). -/
abbrev Coil := Fin 16
/-- Leg j of an axis, leg 4n + j of the device (R6, R39). -/
abbrev Leg := Fin 4
/-- A motion context (R159). -/
abbrev Ctx := Fin 256
/-- A precision converter PC0 to PC3 (R279). -/
abbrev Conv := Fin 4
/-- A window comparator (R294). -/
abbrev Cmp := Fin 16
/-- A source of the fault collector (R333). -/
abbrev Source := Fin 128
/-- A register page (R5). -/
abbrev Page := Fin 128
/-- An index within a page (R5). -/
abbrev Index := Fin 128
/-- A Bobbin port (R345). -/
abbrev LinkPort := Fin 4
/-- A link address (R131, R350). -/
abbrev LinkAddr := BitVec 11
/-- An STO group (R50). -/
abbrev Group := Fin 2

/-- The two bridges of an axis: coil A and coil B (R6). -/
inductive Bridge where
  | a | b
  deriving DecidableEq, Repr

/-- The two safety channels (R306). -/
inductive Channel where
  | safeCore | selvedge
  deriving DecidableEq, Repr

/-- The four STO balls in the order of SAF_STO.BALLS (R50). -/
inductive StoBall where
  | stoa0 | stob0 | stoa1 | stob1
  deriving DecidableEq, Repr

/-- The two PLLs (R12). -/
inductive Pll where
  | pllA | pllB
  deriving DecidableEq, Repr

/-- The two cores that IDLE gates (R74). -/
inductive GatedCore where
  | exec | link
  deriving DecidableEq, Repr

/-- The two serial ports that carry frames: the host port (R80) and the maintenance port (R55). -/
inductive SerialPort where
  | host | maint
  deriving DecidableEq, Repr

/-- The three request channels of firmware: BCH0, BCH2 and BCH4 (R136). -/
inductive ReqChan where
  | host | link | maint
  deriving DecidableEq, Repr

/-- The supply whose supervisor makes a BOR (R64). -/
inductive Supply where
  | vsup | vdd11 | vio
  deriving DecidableEq, Repr

/-- Who brings a core into reset: a keyed write of SYS_RSTCTL (R78), or firmware itself (a slot switch, R381, or the
deferred reset of RESET, R152). -/
inductive CoreResetBy where
  | write (m : Master) (w : Word)
  | firmware
  deriving DecidableEq, Repr

/-- One sample of ROLE1, ROLE0 and DEFMODE (R47). -/
structure StrapSample where
  role    : Fin 4
  defmode : Bool
  deriving DecidableEq, Repr

/-- What the boot ROM reads from the spool device itself: its identification (9Fh) and the facts of R409. -/
structure SpoolProbe where
  jedec    : BitVec 24
  /-- SFDP found; without it the capacity is 16 MB (R373). -/
  sfdp     : Bool
  /-- Capacity that SFDP reports, in 64 KB units. -/
  capUnits : Nat
  erase4k  : Bool
  dummy8   : Bool
  addr4    : Bool
  b7       : Bool
  deriving DecidableEq, Repr

/-- An event that a motion context may select (R165): an AXIO ball changes level, a comparator's edge event (R298), or the
motion-engine event of a tack compare of a coil (R246). -/
inductive MotionEvent where
  | axio (ball : Fin 32) (level : Bool)
  | comparator (c : Cmp) (level : Bool)
  | tack (ax : Axis) (br : Bridge)
  deriving DecidableEq, Repr

/-- One delta-sigma sample: the code of the shunt voltage from CSPc to CSNc, before the front end's reversal (R200) and the offset (R273), and
whether an overload occurred within its window (R276). -/
structure ModSample where
  code : Int
  ovl  : Bool
  deriving DecidableEq, Repr

/-- A tack's trigger of an injected sequence as it arrives in the PREC domain: for one converter, or the common one (R246, R283). -/
inductive InjTrigger where
  | tack (pc : Conv)
  | common
  deriving DecidableEq, Repr

/-- The eight memories held under the darning code, in the order of R24. -/
inductive DarnMem where
  | exec | link | ctx | safe | ret | erom | srom | wj
  deriving DecidableEq, Repr

/-- What a read of a darned word finds (R25). -/
inductive BitError where
  | none | single | double
  deriving DecidableEq, Repr

/-- The slot of a long operation: one per axis and one for the device (R149). -/
inductive LongSlot where
  | axis (ax : Axis)
  | device
  deriving DecidableEq, Repr

/-- The faults of the collector in itself (R343). -/
inductive CollectorFault where
  | parity | copies | toggle
  deriving DecidableEq, Repr

/-- A regular Bobbin frame (R350): the fields of W0 and W1 and the payload words. -/
structure LinkFrame where
  cls     : Fin 4
  dest    : LinkAddr
  src     : LinkAddr
  pres    : Bool
  txn     : Byte
  payload : List Word
  /-- No code error, the length agrees with LEN and the CRC is correct (R351). -/
  intact  : Bool
  deriving DecidableEq, Repr

/-- The body of a stitch frame (R352) and how its two copies arrived (R354). -/
structure StitchFrame where
  dest   : LinkAddr
  txn    : Byte
  sseq   : Byte
  arg    : BitVec 16
  /-- The first copy passes R351. -/
  first  : Bool
  /-- The second copy passes R351. -/
  second : Bool
  deriving DecidableEq, Repr

/-- A SYNC frame as it arrives (R369). -/
structure SyncFrame where
  time   : Nat
  corr   : Nat
  hops   : Nat
  intact : Bool
  deriving DecidableEq, Repr


/-- A command of the VBH8A: one constructor per row of spec/opcode_table.json, in the table's order.
The operands carry what the environment supplies: the master that makes an access and the word it writes, the axis, coil,
bridge or port concerned, and a measured value where the event brings one. -/
inductive Instr where
  /-- POWER_ON (R63): VSUP rises through 16.0 V with the AON rail unpowered, starting a POR and the power-up sequence. -/
  | powerOn
  /-- BROWN_OUT (R70): The VSUP reset supervisor or a VDD11 or VIO brown-out asserts and the device makes a BOR. -/
  | brownOut (supply : Supply)
  /-- REVERSE_CONNECTION (R58): VSUP is connected with reversed polarity, so the device holds RPD low and drives no gate. -/
  | reverseConnection
  /-- PIN_RESET (R70): RESET_N is held low long enough to cause a warm pin reset. -/
  | pinReset
  /-- CHIP_RESET_END (R63): The chip reset ends, the collector takes present level sources as started and the boot ROM begins. -/
  | chipResetEnd
  /-- STRAP_LATCH (R47): The boot ROM samples ROLE and DEFMODE, repeats the sample sets while they disagree, and measures ISET. -/
  | strapLatch (sets : List (List StrapSample)) (isetMv : Nat)
  /-- BOOT_SEQUENCE (R377): The boot ROM reads the spool header, loads and checks the LINK and EXEC images, and starts both cores. -/
  | bootSequence (probe : SpoolProbe)
  /-- TRIAL_CONFIRM (R379): After READY has held for 60 s without a watchdog reset, firmware clears the trial bit in a new header. -/
  | trialConfirm
  /-- OPEN_END_LEARNING (R182): With no settings in door mode, firmware learns the open end after the first home, using a stall-ended velocity context. -/
  | openEndLearning (ax : Axis)
  /-- VSUP_WARN_ASSERT (R67): VSUP falls below the warning level, which sets WARN, raises VSUP_WARN and starts ride-through. -/
  | vsupWarnAssert (vsupMv : Nat)
  /-- VSUP_WARN_RELEASE (R67): VSUP rises above the warning release level and WARN clears. -/
  | vsupWarnRelease (vsupMv : Nat)
  /-- RIDE_THROUGH_END (R68): RTEXT milliseconds after WARN clears, ride-through ends and the contexts continue their profiles. -/
  | rideThroughEnd
  /-- VG_UV_ASSERT (R66): VG falls below its undervoltage level, so every gate is held off and VG_UV is raised. -/
  | vgUvAssert
  /-- VG_UV_RELEASE (R66): VG recovers and each driver resumes at its next commanded edge. -/
  | vgUvRelease
  /-- VIO_LIMIT (R62): VIO enters current limit, setting VIO_LIM and raising the VIO_LIM source. -/
  | vioLimit (active : Bool)
  /-- CRST (R78): A keyed write of SYS_RSTCTL.CRST causes a CRST warm reset. -/
  | crst (m : Master) (w : Word)
  /-- EXECRST (R32): The EXEC core enters reset, which keeps the hardware state and opens the handover window. -/
  | execrst (by_ : CoreResetBy)
  /-- LINKRST (R35): The LINK core enters reset while forwarding and class-0 execution continue. -/
  | linkrst (by_ : CoreResetBy)
  /-- BLOCK_RESET (R73): A keyed write of SYS_BRST, or a BRST reaction, resets one block, turning its gates off first. -/
  | blockReset (m : Master) (w : Word)
  /-- BLOCK_RESET_END (R70): The 1 µs block reset ends. -/
  | blockResetEnd (page : Page)
  /-- WATCHDOG_KICK (R72): EXEC writes SYS_WDKICK: the key restarts the watchdog, and any other value causes a watchdog reset. -/
  | watchdogKick (m : Master) (w : Word)
  /-- WATCHDOG_EXPIRY (R72): The EXEC watchdog expires and causes a watchdog warm reset. -/
  | watchdogExpiry
  /-- HANDOVER_WINDOW_CLOSE (R33): 200 ms after EXEC reset entry, the active contexts of unclaimed axes abort and CLAIM_TIMEOUT is raised. -/
  | handoverWindowClose
  /-- AXIS_CLAIM (R33): EXEC writes SYS_AXCLAIM.CLAIM to reclaim axes. -/
  | axisClaim (m : Master) (w : Word)
  /-- RUN_REQUEST (R74): A keyed SYS_PWRCTL.REQ = RUN starts the return from STANDBY and the relock of PLL-B. -/
  | runRequest (m : Master) (w : Word)
  /-- PLLB_RELOCK (R74): PLL-B relocks after a RUN request and the PWM, MOD and PREC domains resume. -/
  | pllbRelock
  /-- STANDBY_REQUEST (R75): A keyed SYS_PWRCTL.REQ = STANDBY is accepted or refused. -/
  | standbyRequest (m : Master) (w : Word)
  /-- SLEEP_REQUEST (R75): A keyed SYS_PWRCTL.REQ = SLEEP enters SLEEP or is refused with a REFUSE reason. -/
  | sleepRequest (m : Master) (w : Word)
  /-- IDLE_ENTRY (R74): Both the EXEC and LINK cores execute their wait instruction and are clock-gated. -/
  | idleEntry
  /-- IDLE_EXIT (R74): An unmasked doorbell bit or interrupt ungates its core. -/
  | idleExit (core : GatedCore)
  /-- WAKE (R76): An enabled wake source in SLEEP gives a wake warm reset, and SYS_TIME resumes as R77 states. -/
  | wake (src : Word) (sleepNs : Nat)
  /-- WAKE_TIMER_EXPIRY (R76): SYS_WAKETMR expires in SLEEP and wakes the device. -/
  | wakeTimerExpiry (sleepNs : Nat)
  /-- PRES_N_CHANGE (R389): PRES_N changes; a low of at least 20 ms starts the 600 s presence period when it ends. -/
  | presNChange (level : Bool) (lowMs : Nat)
  /-- PRESENCE_EXPIRY (R389): The presence period runs out while PRES_N is high. -/
  | presenceExpiry
  /-- MOTION_TICK (R9): SYS_TIME reaches a 25,000 ns multiple and the motion engine updates AX0 to AX7 in order. -/
  | motionTick (cycles : Nat)
  /-- TIMED_START (R165): SYS_TIME reaches a queue head's TSTART: it starts, starts LATE, or aborts with reason 9. -/
  | timedStart (ax : Axis)
  /-- REST_DELAY_EXPIRY (R173): MOVING has been 0 for RESTDLY ms and the current level becomes REST. -/
  | restDelayExpiry (ax : Axis)
  /-- RECLOSE_DELAY_EXPIRY (R177): The RCDELAY after a reverse ends and the context resumes its motion. -/
  | recloseDelayExpiry (ax : Axis)
  /-- MOTION_EVENT (R165): A selected AXIO edge, comparator edge or tack trigger is latched for an event-started context. -/
  | motionEvent (e : MotionEvent)
  /-- STEP_EDGE (R181): A rising STEP edge counts +1 or −1 by DIR. -/
  | stepEdge (ax : Axis)
  /-- ENA_FALL (R181): ENA falls: the current level goes OFF, counting stops and FERR clears. -/
  | enaFall (ax : Axis)
  /-- ENCODER_EDGE (R194): An A/B quadrature edge changes CR_ENCCNT. -/
  | encoderEdge (ax : Axis) (up : Bool)
  /-- ENCODER_Z_EDGE (R194): A rising Z edge loads CR_ENCZ and may end a method-3 home. -/
  | encoderZEdge (ax : Axis)
  /-- CTX_ALLOC_READ (R163): A read of CTX_ALLOC makes the lowest FREE context LOADED, or returns NONE. -/
  | ctxAllocRead (m : Master)
  /-- CTX_WORD_WRITE (R162): A master writes words 0 to 31 of a LOADED context; a write in any other state is ignored. -/
  | ctxWordWrite (m : Master) (k : Fin 64) (w : Word)
  /-- CTX_CMD_START (R162): CTX_CMD START checks the context and queues it on an axis, or refuses it with a RESULT. -/
  | ctxCmdStart (m : Master) (ctx : Ctx) (ax : Axis)
  /-- CTX_CMD_ABORT (R161): CTX_CMD ABORT removes a QUEUED context at once, or aborts an ACTIVE one at the next tick. -/
  | ctxCmdAbort (m : Master) (ctx : Ctx)
  /-- CTX_CMD_RELEASE (R161): CTX_CMD RELEASE returns a LOADED, DONE or ABORTED context to FREE. -/
  | ctxCmdRelease (m : Master) (ctx : Ctx)
  /-- ME_CTL_HALT (R173): A write of ME_CTL.HALT halts the axis or releases its halt. -/
  | meCtlHalt (m : Master) (ax : Axis) (halt : Bool)
  /-- OBSCONT (R178): ME_CTL.OBSCONT ends an obstacle hold or re-close delay and resumes the motion. -/
  | obscont (m : Master) (ax : Axis)
  /-- OBSABORT (R178): ME_CTL.OBSABORT ends the held context ABORTED with reason 6. -/
  | obsabort (m : Master) (ax : Axis)
  /-- FERRCLR (R181): ME_CTL.FERRCLR clears the following-error state. -/
  | ferrclr (m : Master) (ax : Axis)
  /-- ME_POS_WRITE (R436): A write of ME_POS at rest sets the position and adjusts ME_EOFS to keep the electrical angle. -/
  | mePosWrite (m : Master) (ax : Axis) (hi lo : Word)
  /-- ME_DISABLE (R171): Clearing ME_CFG.EN aborts the ACTIVE and QUEUED contexts with reason 14 and sets the level OFF. -/
  | meDisable (m : Master) (ax : Axis)
  /-- HALT_ALL_HOLD (R124): A master with halt rights sets its MBX_HALT bit and HALT-ALL holds every axis. -/
  | haltAllHold (m : Master)
  /-- HALT_ALL_RELEASE (R125): A master clears its MBX_HALT bit; HALT-ALL ends when no holder remains. -/
  | haltAllRelease (m : Master)
  /-- FAST_PATH_SAMPLE (R274): Every 800 ns the 16 modulators deliver fast-path samples to the regulators and the SAFE core. -/
  | fastPathSample (xs : List ModSample)
  /-- ALIGNED_SAMPLE (R275): A TGT 0 tack trigger arrives at the MOD domain and an aligned sample goes to the coil's regulator. -/
  | alignedSample (coil : Coil) (x : ModSample)
  /-- FINE_PATH_SAMPLE (R274): Every 6.4 µs the fine-path samples reach the load observer, which updates its estimates. -/
  | finePathSample (xs : List ModSample)
  /-- OBSERVER_VALID (R214): The validity conditions have held for 256 consecutive updates and VALID sets. -/
  | observerValid (ax : Axis)
  /-- OBSERVER_LOCK (R215): The filtered PLL error has stayed within LKTH for 512 updates and LOCK sets. -/
  | observerLock (ax : Axis)
  /-- BACK_EMF_COLLAPSE (R225): The back-EMF has stayed below 0.4 of the expected value for COLT ms, giving stall cause 3. -/
  | backEmfCollapse (ax : Axis)
  /-- PRESS_PROBE_START (R221): The axis has rested for RESDLY and the press probe starts injecting. -/
  | pressProbeStart (ax : Axis)
  /-- PRESS_PROBE_HALF_WINDOW (R223): An 8 ms half-window ends and δpp and the saliency are computed. -/
  | pressProbeHalfWindow (ax : Axis)
  /-- WAVE_TABLE_CHECK (R185): Every 1 µs one waveform table entry is parity-checked, and a mismatch raises CFG_PARITY. -/
  | waveTableCheck (entry : Fin 1024) (bad : List Axis)
  /-- CR_WDATA_WRITE (R185): A write of CR_WDATA sets one table entry and advances CR_WADDR. -/
  | crWdataWrite (m : Master) (ax : Axis) (w : Word)
  /-- CR_OVR_WRITE (R208): A write of CR_OVR selects a held current vector or direct coil voltages. -/
  | crOvrWrite (m : Master) (ax : Axis) (w : Word)
  /-- PERIOD_BOUNDARY (R243): A bridge's period starts; it adopts the latest tick record and transfers committed shadows. -/
  | periodBoundary (ax : Axis) (br : Bridge)
  /-- COMMUTATION (R240): A commanded turn-off at a placed position starts a commutation and masks the coil's trips. -/
  | commutation (ax : Axis) (leg : Leg) (high : Bool)
  /-- TURN_ON_START (R240): Once both the dead time has expired and the interlock has recorded the opposite gate off, the turn-on starts. -/
  | turnOnStart (ax : Axis) (leg : Leg)
  /-- INTERLOCK_TIMEOUT (R257): The gate commanded off is not recorded off in time: no turn-on takes place and GATE_STUCKn is raised. -/
  | interlockTimeout (ax : Axis) (leg : Leg)
  /-- MASK_END (R240): TBLANK after the turn-on the trip mask ends, and a trip found active is acted on. -/
  | maskEnd (ax : Axis) (br : Bridge) (reg ilim : Bool)
  /-- REG_TRIP (R237): The REG comparator ends a COFF on-phase or a CON off-phase. -/
  | regTrip (ax : Axis) (br : Bridge) (active : Bool)
  /-- ILIM_TRIP (R248): An unmasked ILIM trip ends the pulse and is counted. -/
  | ilimTrip (ax : Axis) (br : Bridge) (active : Bool)
  /-- MAX_ON_TIME (R237): A COFF on-phase reaches 200 µs − TOFF and ends. -/
  | maxOnTime (ax : Axis) (br : Bridge)
  /-- OFF_TIME_END (R237): TOFF ends, extended to 10 µs when needed, and the next COFF on-phase starts. -/
  | offTimeEnd (ax : Axis) (br : Bridge)
  /-- ON_TIME_END (R238): TON ends in CON and the fast-decay off-phase begins. -/
  | onTimeEnd (ax : Axis) (br : Bridge)
  /-- PERIOD_MAX_END (R238): A CON period reaches 200 µs and the off-phase ends whatever the current. -/
  | periodMaxEnd (ax : Axis) (br : Bridge)
  /-- TACK_FIRE (R246): An enabled tack compare reaches its position and sends its trigger. -/
  | tackFire (ax : Axis) (br : Bridge) (k : Fin 4)
  /-- COMMIT (R243): PWM_CTL.COMMIT requests a shadow transfer at the next boundary. -/
  | commit (m : Master) (ax : Axis)
  /-- LATCH_CLEAR (R250): PWM_CTL.LCLRA or LCLRB clears a latch-off, or is held pending while ILIM is active. -/
  | latchClear (m : Master) (ax : Axis) (br : Bridge)
  /-- PENDING_CLEAR_APPLY (R250): ILIM of a coil goes inactive and its pending latch clear takes effect. -/
  | pendingClearApply (ax : Axis) (br : Bridge)
  /-- PWM_ENABLE (R252): PWM_CFG.EN set moves the shadows and starts the first period 100 ns later. -/
  | pwmEnable (m : Master) (ax : Axis)
  /-- PWM_DISABLE (R251): PWM_CFG.EN cleared turns all gates of both bridges off and stops the tacks. -/
  | pwmDisable (m : Master) (ax : Axis)
  /-- VDS_SHORT (R265): An armed VDS monitor sees VDS above VTH for tF and raises GD_VDSn. -/
  | vdsShort (ax : Axis) (leg : Leg) (high active : Bool)
  /-- HARD_SHORT (R266): The shunt voltage stays above HSTH for 150 ns and GD_HSn is raised. -/
  | hardShort (ax : Axis) (br : Bridge) (active : Bool)
  /-- BOOTSTRAP_UV_ASSERT (R263): VBST − VSH falls below 7.5 V and the high side is held off. -/
  | bootstrapUvAssert (ax : Axis) (leg : Leg)
  /-- BOOTSTRAP_UV_RELEASE (R263): The bootstrap rises above 8.0 V and the high side may turn on again. -/
  | bootstrapUvRelease (ax : Axis) (leg : Leg)
  /-- GATE_BUDGET_WINDOW (R255): Each 1 ms window updates GDG_IGATE, and a value above 500 mA raises GD_BUDGET. -/
  | gateBudgetWindow (mA : Nat)
  /-- PRECH (R262): GD_CTL.PRECH turns on the four low sides of the axis to precharge the bootstraps. -/
  | prech (m : Master) (ax : Axis)
  /-- PRECHARGE_END (R262): PRET × 10 µs elapses and the low sides are turned off. -/
  | prechargeEnd (ax : Axis)
  /-- DIAG (R268): GD_CTL.DIAG starts the off-state diagnostic with all gates off. -/
  | diag (m : Master) (ax : Axis)
  /-- DIAG_COMPLETE (R269): The diagnostic steps end: GD_DIAG is written with DONE, and GD_WIREn is raised on any finding. -/
  | diagComplete (ax : Axis) (shvs shgnd : BitVec 4) (openA openB : Bool)
  /-- STEST (R271): GD_CTL.STEST starts the comparator self-test of the axis. -/
  | stest (m : Master) (ax : Axis)
  /-- SELFTEST_COMPLETE (R271): All 30 comparators have been tested and GD_STRES is written with DONE. -/
  | selftestComplete (ax : Axis) (failed : BitVec 30)
  /-- GD_WREP_WRITE (R270): Firmware writes the wiring report, which raises GD_WIREn while any bit is 1. -/
  | gdWrepWrite (m : Master) (ax : Axis) (w : Word)
  /-- CSM_ENABLE (R274): Setting CSM_CFG.EN starts the common decimation counter. -/
  | csmEnable (m : Master)
  /-- CSM_CCFG_WRITE (R277): A write of CSM_CCFGc turns a modulator on or off or changes its gain, under the ON rule. -/
  | csmCcfgWrite (m : Master) (coil : Coil) (w : Word)
  /-- MODULATOR_OVERLOAD (R276): The shunt input exceeds 1.2 × full scale, so the modulator resets and marks OVL. -/
  | modulatorOverload (coil : Coil) (active : Bool)
  /-- RSTART (R282): PC_CTL.RSTART starts the regular sequence at entry 0. -/
  | rstart (m : Master) (pc : Conv)
  /-- RSTOP (R282): PC_CTL.RSTOP abandons the present entry and stops the regular sequence. -/
  | rstop (m : Master) (pc : Conv)
  /-- ISTART (R283): PC_CTL.ISTART triggers the injected sequence. -/
  | istart (m : Master) (pc : Conv)
  /-- INJECTED_TRIGGER (R283): A tack or common trigger arrives at the PREC domain and starts, or misses, an injected sequence. -/
  | injectedTrigger (t : InjTrigger)
  /-- RSYNC (R282): REF_SYNC.RSYNC starts the regular sequence of every enabled converter. -/
  | rsync (m : Master)
  /-- ISYNC (R285): REF_SYNC.ISYNC is a common injected trigger to all four converters. -/
  | isync (m : Master)
  /-- PC_SETTLE_END (R280): An entry's settling delay ends and its decimator restarts. -/
  | pcSettleEnd (pc : Conv)
  /-- PC_ENTRY_RESULT (R287): A conversion completes and writes PC_RESe with OVR and RNS, then the sequence moves on. -/
  | pcEntryResult (pc : Conv) (code : Int) (ovr : Bool)
  /-- CAL (R291): PC_CTL.CAL starts or queues a zero or full-scale calibration of one entry. -/
  | cal (m : Master) (pc : Conv) (w : Word)
  /-- CAL_COMPLETE (R291): Four calibration results are in and the coefficient is set, or CALERR is set. -/
  | calComplete (pc : Conv) (codes : List Int) (bad : Bool)
  /-- COMPARATOR_RESOLVE (R297): At its first evaluation after the start time a comparator resolves or stays UNRES. -/
  | comparatorResolve (c : Cmp) (uV : Int)
  /-- COMPARATOR_EDGE (R298): A resolved comparator output changes, which drives capture, alarm, fault and event routes. -/
  | comparatorEdge (c : Cmp) (uV : Int)
  /-- CMP_ALARM_NOTIFY (R300): Firmware mirrors a window alarm routed to EXEC into MBX_FLAG_1_0. -/
  | cmpAlarmNotify (win : Fin 8)
  /-- CMP_CCFG_WRITE (R305): A write of CMP_CCFGc changes a comparator's configuration under the ON rule. -/
  | cmpCcfgWrite (m : Master) (c : Cmp) (w : Word)
  /-- TIE_RELEASE (R301): 2 µs after TIE returns to 0 the consumers follow the output again. -/
  | tieRelease (c : Cmp)
  /-- STO_CHANGE (R314): An STO ball changes, and a filtered demand removes that channel's enables from the group. -/
  | stoChange (ch : Channel) (ball : StoBall) (level : Bool)
  /-- STO_DISCREPANCY (R315): STOA and STOB have disagreed for 50 ms, so the discrepancy latches and SAF_DISC is raised. -/
  | stoDiscrepancy (ch : Channel) (g : Group)
  /-- DISCREPANCY_CLEAR (R315): Both balls of the group have read 0 for 10 ms and the discrepancy latch clears. -/
  | discrepancyClear (ch : Channel) (g : Group)
  /-- STO_QUALIFIED (R316): Both balls have read 1 for 10 ms and the group permits torque again. -/
  | stoQualified (ch : Channel) (g : Group)
  /-- SEAL_SAMPLE (R312): Each channel samples the sealed switches every 1 ms and checks them against its latch. -/
  | sealSample (ch : Channel) (code : Byte)
  /-- SELVEDGE_SINC2_RESULT (R318): Every 800 ns the Selvedge logic compares each sinc2 result with the class ceiling and the SF3 quadrant. -/
  | selvedgeSinc2Result (xs : List ModSample)
  /-- SAFE_CURRENT_EVAL (R319): Every 6.4 µs the SAFE core checks each axis's current vector against its ceilings and SF3 reference. -/
  | safeCurrentEval
  /-- STANDSTILL_DECLARE (R322): END has read 1 for 10 ms and the channel declares safe standstill. -/
  | standstillDeclare (ch : Channel) (ax : Axis)
  /-- STANDSTILL_WITHDRAW (R322): END has read 0 for 10 ms and safe standstill is withdrawn. -/
  | standstillWithdraw (ch : Channel) (ax : Axis)
  /-- CROSS_COMPARISON (R325): Every 1 ms the channels exchange and compare their state words. -/
  | crossComparison
  /-- ENABLE_READBACK_FAIL (R309): The combined enable has read 1 for 5 µs while the channel's own enable is 0, giving cause 7. -/
  | enableReadbackFail (ch : Channel) (ax : Axis)
  /-- ENABLE_DECAY (R308): A channel clock stops toggling and its enables fall within 1 µs. -/
  | enableDecay (ch : Channel)
  /-- SOUT_READBACK_FAIL (R328): SOUT has read back high for 50 µs against a low command, giving cause 5. -/
  | soutReadbackFail (ch : Channel) (g : Group)
  /-- DARK_PULSE_START (R329): The Selvedge logic drives a high SOUT low for a 300 µs dark test pulse. -/
  | darkPulseStart (g : Group)
  /-- DARK_PULSE_END (R330): A dark pulse ends and its test is evaluated, passed or discarded. -/
  | darkPulseEnd (g : Group) (readbackLow : Bool)
  /-- STOP (R324): The WCH1 STOP request applies or withdraws SAFE_STOP for groups. -/
  | stop
  /-- CEIL (R324): The WCH1 CEIL request sets an axis's configured ceiling. -/
  | ceil
  /-- SENSE (R324): The WCH1 SENSE request sets an axis's closing sense. -/
  | sense
  /-- CLEAR (R324): The WCH1 CLEAR request clears the SF2 and SF3 trips of axes whose causes have gone. -/
  | clear
  /-- SAFE_CORE_READY (R331): The SAFE core completes its ROM CRC, SRAM test and seal check and sets SRDY. -/
  | safeCoreReady (romOk : Bool) (ver : BitVec 16)
  /-- SELVEDGE_READY (R331): The Selvedge logic's seal samples agree 1 ms after reset and it sets HRDY. -/
  | selvedgeReady (first second : Byte)
  /-- SAFE_ROM_CHECK (R332): The periodic SAFE ROM CRC check runs, and a failure gives cause 10. -/
  | safeRomCheck (ok : Bool)
  /-- SAFE_WATCHDOG_EXPIRY (R36): The SAFE core watchdog expires and the safe state is entered with cause 8. -/
  | safeWatchdogExpiry
  /-- CLOCK_MONITOR_WINDOW (R18): A monitor window ends and its count is judged against the accepted range. -/
  | clockMonitorWindow (mon : Fin 6) (count : BitVec 16)
  /-- PLL_LOCK_LOSS (R20): A PLL loses lock and CLK_PLLA or CLK_PLLB is raised within 1 µs. -/
  | pllLockLoss (pll : Pll) (stopped : Bool)
  /-- BUS_TIMEOUT (R17): A cross-domain access finds its destination clock absent for 2 µs and ends in a bus error. -/
  | busTimeout (m : Master) (page : Page) (index : Index)
  /-- TIM_TIME_WRITE (R22): A write of TIM_TIME HI applies the staged LO as a step of SYS_TIME. -/
  | timTimeWrite (m : Master) (hi lo : Word)
  /-- TIMER_ALARM (R23): SYS_TIME reaches an enabled TIM_ALMa and the core's timer interrupt asserts. -/
  | timerAlarm (a : Fin 2)
  /-- DARNED_MEMORY_READ (R25): A memory read corrects a single-bit error or ends in a bus error on a double-bit error. -/
  | darnedMemoryRead (m : Master) (mem : DarnMem) (word : Nat) (err : BitError)
  /-- NARROW_MEMORY_WRITE (R26): A write narrower than 256 bits reads, corrects, merges and rewrites the word. -/
  | narrowMemoryWrite (m : Master) (mem : DarnMem) (word : Nat) (lane : Fin 8) (w : Word) (err : BitError)
  /-- SCRUB_VISIT (R28): Every 1 µs the scrubber reads one word of each memory and corrects or reports it. -/
  | scrubVisit (visits : List (DarnMem × Nat × BitError × Bool))
  /-- PARITY_SCRUB (R102): The configuration parity scrubber finds a mismatch and raises the block's CFG_PARITY. -/
  | parityScrub (page : Page) (index : Index)
  /-- SYS_DARNCLR (R29): A write of SYS_DARNCLR clears the selected darn counters. -/
  | sysDarnclr (m : Master) (w : Word) (same : List (DarnMem × Nat))
  /-- REGISTER_WRITE (R103): A write of a register without a row of its own, under the enable, access and parity rules. -/
  | registerWrite (m : Master) (addr : BitVec 32) (width : Nat) (w : Word)
  /-- WRITE_FRAME (R88): A write frame on the host or maintenance port is staged and committed whole, or rejected. -/
  | writeFrame (p : SerialPort) (cmd : Byte) (words : List Word) (edges : Nat)
  /-- READ_FRAME (R85): A read frame returns the status byte and words, with side effects applied at its commit. -/
  | readFrame (p : SerialPort) (cmd : Byte) (edges tckPs taken : Nat)
  /-- HSP_PAGE_WRITE (R86): A write of HSP_PAGE selects the page of the port's next frame. -/
  | hspPageWrite (p : SerialPort) (w : Word)
  /-- HSP_READY_WRITE (R106): EXEC writes READY, which ends start-up and sets MBX_LOCK if it is still 0. -/
  | hspReadyWrite (m : Master) (w : Word)
  /-- MAINTENANCE_MODE_WRITE (R106): MAINT writes HSP_MODE.MAINT under presence to enter or leave maintenance mode. -/
  | maintenanceModeWrite (m : Master) (w : Word)
  /-- TEST_MODE_ENTRY (R106): Test mode is entered through the maintenance port during start-up and opens page 0x7E. -/
  | testModeEntry
  /-- MAILBOX_MSG_WRITE (R118): The sender writes a message word, which is refused while FULL. -/
  | mailboxMsgWrite (m : Master) (ch : Fin 8) (k : Fin 16) (w : Word)
  /-- MAILBOX_GO (R115): CTL.GO posts a block message, which sets FULL and SEQ, checks the CRC and rings the doorbell. -/
  | mailboxGo (m : Master) (ch : Fin 8) (w : Word)
  /-- MAILBOX_TAKE (R116): The receiver's read of TAKE returns the header and clears FULL and ORPHAN. -/
  | mailboxTake (m : Master) (ch : Fin 8)
  /-- WORD_POST (R117): The sender writes MBX_WDATAn, which sets FULL and the doorbell bit. -/
  | wordPost (m : Master) (ch : Fin 8) (w : Word)
  /-- WORD_TAKE (R117): The receiver's read of MBX_WDATAn clears FULL and ORPHAN. -/
  | wordTake (m : Master) (ch : Fin 8)
  /-- BINDING_WRITE (R114): EXEC writes a binding entry before the lock, which is checked for FULL, self-binding and bad IDs. -/
  | bindingWrite (m : Master) (entry : Fin 16) (w : Word)
  /-- BINDING_LOCK (R113): A write of MBX_LOCK.LOCK freezes the binding table and MBX_HALTRT. -/
  | bindingLock (m : Master) (w : Word)
  /-- FLAG_WRITE (R123): Master s writes MBX_FLAG_s_t to raise or lower doorbell FLAG bits. -/
  | flagWrite (m : Master) (s t : Fin 5) (w : Word)
  /-- ATTN_WRITE (R121): A master writes its MBX_ATTN bits to request attention. -/
  | attnWrite (m : Master) (w : Word)
  /-- DBMASK_WRITE (R122): A master writes its doorbell mask, which changes its interrupt or IRQ_N. -/
  | dbmaskWrite (m : Master) (t : Fin 5) (w : Word)
  /-- EVENT_POST (R150): Firmware posts a queued event message once its channel has room, or counts lost events. -/
  | eventPost (ch : ReqChan)
  /-- LONG_OP_END (R149): A long operation ends and firmware posts its code-1 event with the result. -/
  | longOpEnd (slot : LongSlot) (result : Byte) (data : List Word)
  /-- RELAY_TIMEOUT (R144): A relayed transaction gets no response within the relay timeout and is answered TIMEOUT. -/
  | relayTimeout (txn : Byte)
  /-- DEFERRED_RESET (R152): After the RESET or FW_SWITCH response is taken, or 10 ms after posting, the reset follows. -/
  | deferredReset
  /-- GET_ID (R152): Opcode 0x00 returns identity, stepping, version, straps and link address. -/
  | opGetId (ch : ReqChan)
  /-- GET_STATUS (R152): Opcode 0x01 returns mode, power state, axes, faults, time and presence. -/
  | opGetStatus (ch : ReqChan)
  /-- SET_POWER (R152): Opcode 0x02 requests RUN, STANDBY or SLEEP. -/
  | opSetPower (ch : ReqChan)
  /-- RESET (R152): Opcode 0x03 schedules a CRST, an EXEC core reset or a LINK core reset after its response. -/
  | opReset (ch : ReqChan)
  /-- GET_TIME (R152): Opcode 0x04 returns SYS_TIME. -/
  | opGetTime (ch : ReqChan)
  /-- SET_TIME (R152): Opcode 0x05 steps SYS_TIME, except at a worker. -/
  | opSetTime (ch : ReqChan)
  /-- PING (R152): Opcode 0x06 echoes its words. -/
  | opPing (ch : ReqChan)
  /-- SET_EVENTS (R152): Opcode 0x07 sets the event masks per destination. -/
  | opSetEvents (ch : ReqChan)
  /-- AXIS_EN (R152): Opcode 0x10 enables or disables an axis. -/
  | opAxisEn (ch : ReqChan)
  /-- SET_ROLE (R152): Opcode 0x11 sets the axis role and, for door, the template context. -/
  | opSetRole (ch : ReqChan)
  /-- SET_MOTOR (R152): Opcode 0x12 sets the motor parameters of a disabled axis. -/
  | opSetMotor (ch : ReqChan)
  /-- SET_CURRENT (R152): Opcode 0x13 sets the run and rest currents and the rest delay. -/
  | opSetCurrent (ch : ReqChan)
  /-- SET_COMMUT (R152): Opcode 0x14 sets the commutation mode and crossovers. -/
  | opSetCommut (ch : ReqChan)
  /-- SET_DOOR (R152): Opcode 0x15 sets leaf mass, travel per microstep and the door ends under presence. -/
  | opSetDoor (ch : ReqChan)
  /-- GET_AXIS (R152): Opcode 0x16 returns the axis state, position, velocity, load angle, force and current. -/
  | opGetAxis (ch : ReqChan)
  /-- IDENTIFY (R209): Opcode 0x18 starts motor identification as a long operation. -/
  | opIdentify (ch : ReqChan)
  /-- GET_IDENT (R152): Opcode 0x19 returns the identified motor values. -/
  | opGetIdent (ch : ReqChan)
  /-- LOAD_WAVE (R152): Opcode 0x1A writes waveform table entries of a disabled axis. -/
  | opLoadWave (ch : ReqChan)
  /-- CTX_ALLOC (R152): Opcode 0x20 allocates a context and fixes its AUTOREL choice. -/
  | opCtxAlloc (ch : ReqChan)
  /-- CTX_LOAD (R152): Opcode 0x21 writes words of a LOADED context. -/
  | opCtxLoad (ch : ReqChan)
  /-- CTX_START (R152): Opcode 0x22 queues a context on an axis, optionally timed. -/
  | opCtxStart (ch : ReqChan)
  /-- CTX_ABORT (R152): Opcode 0x23 aborts a QUEUED or ACTIVE context. -/
  | opCtxAbort (ch : ReqChan)
  /-- CTX_RELEASE (R152): Opcode 0x24 releases a context. -/
  | opCtxRelease (ch : ReqChan)
  /-- CTX_STATUS (R152): Opcode 0x25 returns a context's state, axis and abort reason. -/
  | opCtxStatus (ch : ReqChan)
  /-- MOVE_TO (R437): Opcode 0x26 builds and starts a position context from the axis limits. -/
  | opMoveTo (ch : ReqChan)
  /-- JOG (R437): Opcode 0x27 builds and starts a preempting velocity context. -/
  | opJog (ch : ReqChan)
  /-- HOME (R437): Opcode 0x28 builds and starts a home context as a long operation. -/
  | opHome (ch : ReqChan)
  /-- HALT (R152): Opcode 0x29 halts the axes of its bitmap until RESUME. -/
  | opHalt (ch : ReqChan)
  /-- SET_POS (R152): Opcode 0x2A sets the position of an axis at rest. -/
  | opSetPos (ch : ReqChan)
  /-- RESUME (R152): Opcode 0x2B ends the HALT of the axes of its bitmap. -/
  | opResume (ch : ReqChan)
  /-- OBST_REL (R152): Opcode 0x2C continues or aborts a held obstacle action. -/
  | opObstRel (ch : ReqChan)
  /-- DOOR (R437): Opcode 0x2D opens or closes door axes with auto-released contexts. -/
  | opDoor (ch : ReqChan)
  /-- SET_LIMITS (R152): Opcode 0x30 sets the velocity, acceleration and jerk limits and ME_HDEC. -/
  | opSetLimits (ch : ReqChan)
  /-- SET_ENERGY (R152): Opcode 0x31 sets the kinetic-energy caps under presence. -/
  | opSetEnergy (ch : ReqChan)
  /-- SET_FORCE (R152): Opcode 0x32 sets the closing-force limit and obstacle action under presence. -/
  | opSetForce (ch : ReqChan)
  /-- SET_CEILING (R320): Opcode 0x33 sends a configured current ceiling to the SAFE core. -/
  | opSetCeiling (ch : ReqChan)
  /-- GET_SAFETY (R152): Opcode 0x34 returns the safety registers 0x50/0x00 to 0x50/0x07. -/
  | opGetSafety (ch : ReqChan)
  /-- SAFE_STOP (R317): Opcode 0x36 applies or withdraws safe torque off for groups. -/
  | opSafeStop (ch : ReqChan)
  /-- SET_SUPPLY (R65): Opcode 0x37 rewrites the VSUP warning and ride-through settings. -/
  | opSetSupply (ch : ReqChan)
  /-- PC_ENTRY (R152): Opcode 0x40 configures a precision converter sequence entry. -/
  | opPcEntry (ch : ReqChan)
  /-- PC_RUN (R152): Opcode 0x41 starts or stops converters. -/
  | opPcRun (ch : ReqChan)
  /-- PC_READ (R152): Opcode 0x42 returns converter results. -/
  | opPcRead (ch : ReqChan)
  /-- PC_CAL (R291): Opcode 0x43 starts a calibration as a long operation. -/
  | opPcCal (ch : ReqChan)
  /-- REF_CTL (R288): Opcode 0x44 enables or disables the reference buffer. -/
  | opRefCtl (ch : ReqChan)
  /-- CMP_SET (R300): Opcode 0x45 configures a comparator and its routes. -/
  | opCmpSet (ch : ReqChan)
  /-- CMP_READ (R152): Opcode 0x46 returns comparator outputs and UNRES. -/
  | opCmpRead (ch : ReqChan)
  /-- CMP_CHECK (R302): Opcode 0x47 checks comparators as a long operation. -/
  | opCmpCheck (ch : ReqChan)
  /-- COIL_READ (R152): Opcode 0x48 returns fine-path coil currents. -/
  | opCoilRead (ch : ReqChan)
  /-- FAULT_LIST (R342): Opcode 0x50 returns the latched record bitmap. -/
  | opFaultList (ch : ReqChan)
  /-- FAULT_GET (R342): Opcode 0x51 returns one fault record. -/
  | opFaultGet (ch : ReqChan)
  /-- FAULT_CLR (R342): Opcode 0x52 clears records whose causes have gone, sending CLEAR for SAF_TRIP first. -/
  | opFaultClr (ch : ReqChan)
  /-- FAULT_REACT (R342): Opcode 0x53 sets a source's reaction and FPIN under presence. -/
  | opFaultReact (ch : ReqChan)
  /-- LOG_INFO (R152): Opcode 0x54 returns the logbook head, tail and count. -/
  | opLogInfo (ch : ReqChan)
  /-- LOG_READ (R391): Opcode 0x55 returns one logbook record. -/
  | opLogRead (ch : ReqChan)
  /-- LOG_MARK (R152): Opcode 0x56 adds a host mark record to the logbook. -/
  | opLogMark (ch : ReqChan)
  /-- ODOMETER (R152): Opcode 0x57 returns an axis's cycles, travel and obstacle count. -/
  | opOdometer (ch : ReqChan)
  /-- SET_READ (R384): Opcode 0x60 reads the settings staging image. -/
  | opSetRead (ch : ReqChan)
  /-- SET_WRITE (R384): Opcode 0x61 writes the settings staging image. -/
  | opSetWrite (ch : ReqChan)
  /-- SET_COMMIT (R388): Opcode 0x62 writes the staging image to the primary and mirror blocks. -/
  | opSetCommit (ch : ReqChan)
  /-- SET_CAPTURE (R152): Opcode 0x63 copies the live configuration into the staging image. -/
  | opSetCapture (ch : ReqChan)
  /-- FW_WRITE (R152): Opcode 0x64 writes image data into an inactive slot. -/
  | opFwWrite (ch : ReqChan)
  /-- FW_VERIFY (R376): Opcode 0x65 checks a slot and reports it valid, failing or blank. -/
  | opFwVerify (ch : ReqChan)
  /-- FW_SWITCH (R380): Opcode 0x66 makes a valid slot active for one core on trial. -/
  | opFwSwitch (ch : ReqChan)
  /-- LINK_STATUS (R152): Opcode 0x70 returns role, address, port states and transactions. -/
  | opLinkStatus (ch : ReqChan)
  /-- ENUMERATE (R359): Opcode 0x71 starts enumeration at a manager as a long operation. -/
  | opEnumerate (ch : ReqChan)
  /-- WORKER_MAP (R152): Opcode 0x72 returns a bitmap of known worker addresses. -/
  | opWorkerMap (ch : ReqChan)
  /-- GROUP (R152): Opcode 0x73 joins a worker to a group or removes it. -/
  | opGroup (ch : ReqChan)
  /-- SET_ORPHAN (R365): Opcode 0x74 sets the orphan timeout and action. -/
  | opSetOrphan (ch : ReqChan)
  /-- SET_RELAY (R144): Opcode 0x75 sets the manager's relay timeout. -/
  | opSetRelay (ch : ReqChan)
  /-- WIRING_CHECK (R229): Opcode 0x80 runs the wiring check as a long operation. -/
  | opWiringCheck (ch : ReqChan)
  /-- GD_SELFTEST (R271): Opcode 0x81 runs the gate-drive comparator self-test as a long operation. -/
  | opGdSelftest (ch : ReqChan)
  /-- PRESS_PROBE (R221): Opcode 0x82 switches the press probe on or off. -/
  | opPressProbe (ch : ReqChan)
  /-- DARN_READ (R152): Opcode 0x83 returns the eight darn counters. -/
  | opDarnRead (ch : ReqChan)
  /-- REG_READ (R152): Opcode 0x84 reads internal registers. -/
  | opRegRead (ch : ReqChan)
  /-- REG_WRITE (R152): Opcode 0x85 writes an internal register for MAINT in maintenance mode. -/
  | opRegWrite (ch : ReqChan)
  /-- FAULT_RAISE (R339): A raised source reaches the collector, which latches or updates its record and applies the reaction. -/
  | faultRaise (raises : List (Source × Word))
  /-- FC_CLR (R340): A write of FC_CLRj clears records whose sources are no longer present. -/
  | fcClr (m : Master) (j : Fin 4) (w : Word)
  /-- FC_ACK (R340): A write of FC_ACKj clears PEND of records. -/
  | fcAck (m : Master) (j : Fin 4) (w : Word)
  /-- FC_SWSET (R333): A write of FC_SWSET sets or clears the software sources SW0 to SW3. -/
  | fcSwset (m : Master) (w : Word)
  /-- COLLECTOR_FAULT (R344): A fault in the collector itself enters the collector's safe state. -/
  | collectorFault (f : CollectorFault)
  /-- RX_SYNC_GAIN (R349): A Bobbin receiver sees 16 clean K28.5 symbols and gains sync. -/
  | rxSyncGain (p : LinkPort)
  /-- PORT_UP (R349): A receiver has held sync for 1 ms and its port becomes UP. -/
  | portUp (p : LinkPort)
  /-- PORT_DOWN (R349): A receiver loses sync, so the port ceases to be UP, BREAK is sent and hem-back turns. -/
  | portDown (p : LinkPort) (codeErrors : Nat)
  /-- HEM_BACK_END (R368): A failed port has been UP for 10 ms, so turning stops and REPAIR is sent. -/
  | hemBackEnd (p : LinkPort)
  /-- REQUEST_FRAME (R356): A regular request frame arrives and is taken, sent on, or both. -/
  | requestFrame (p : LinkPort) (f : LinkFrame) (busy : Bool)
  /-- RESPONSE_FRAME (R356): A response frame arrives, is forwarded, and at the manager completes its transaction. -/
  | responseFrame (p : LinkPort) (f : LinkFrame) (busy : Bool)
  /-- EVENT_FRAME (R356): An event frame from a worker arrives at or passes towards the manager. -/
  | eventFrame (p : LinkPort) (f : LinkFrame) (busy : Bool)
  /-- BUFFERED_FRAME_SEND (R357): A stored regular frame leaves once its transmitter is free, in class order. -/
  | bufferedFrameSend (p : LinkPort)
  /-- STITCH_SEND (R354): The manager's engine sends a class-0 request as a double stitch, spaced 10 µs apart. -/
  | stitchSend
  /-- STITCH_HALT (R355): An accepted HALT stitch frame writes ME_CTL.HALT on the axes of its bitmap. -/
  | stitchHalt (p : LinkPort) (f : StitchFrame)
  /-- STITCH_OBST_REL (R355): An accepted OBST_REL stitch frame writes OBSCONT or OBSABORT. -/
  | stitchObstRel (p : LinkPort) (f : StitchFrame)
  /-- STITCH_SAFE_STOP (R355): An accepted SAFE_STOP stitch frame drives the SAFE core's link stop input. -/
  | stitchSafeStop (p : LinkPort) (f : StitchFrame)
  /-- STITCH_PING (R355): An accepted PING stitch frame is answered with its argument. -/
  | stitchPing (p : LinkPort) (f : StitchFrame)
  /-- SYNC_SEND (R369): Every 1 ms the manager sends a SYNC frame on every UP port. -/
  | syncSend
  /-- SYNC_FRAME (R369): A worker stamps and forwards a SYNC frame and corrects SYS_TIME from the offset. -/
  | syncFrame (p : LinkPort) (f : SyncFrame)
  /-- SYNC_LOSS (R369): No SYNC has been accepted for 3 ms and LNK_TSYNC becomes present. -/
  | syncLoss
  /-- ENUM (R359): A worker takes an ENUM frame, measures its arrival port and answers ENUMRSP, or sends it on. -/
  | enum (p : LinkPort) (k : Nat) (r : Byte)
  /-- ENUMRSP (R360): The manager records a responding worker, sets its address and sends ASSIGN or REFUSE. -/
  | enumrsp (p : LinkPort) (k : Nat) (r : Byte) (addr : LinkAddr) (other : Bool) (dly : Nat)
  /-- ENUM_TIMEOUT (R359): No ENUMRSP arrives within 1 ms and the port is recorded as a chain. -/
  | enumTimeout
  /-- ASSIGN (R360): A worker takes its address, position and upstream port from an ASSIGN frame. -/
  | assign (p : LinkPort) (k : Nat) (up : Bool) (r : Byte) (addr : LinkAddr) (pos : Nat)
  /-- DREQ (R361): A neighbour answers a delay request with DRSP and its residence time. -/
  | dreq (p : LinkPort) (residence : Nat)
  /-- GROUP_FRAME (R358): A GROUP frame sets or clears a group membership in LNK_GRPj. -/
  | groupFrame (p : LinkPort) (dest : LinkAddr) (group : Fin 64) (join : Bool)
  /-- JOIN_SEND (R362): A worker with no address sends JOIN every 1 s and on each upstream port-up. -/
  | joinSend
  /-- JOIN (R362): The manager answers a JOIN by enumerating the port it arrived on. -/
  | join (p : LinkPort) (src : LinkAddr)
  /-- REFUSE (R363): A refused worker sets JOINREF, raises LNK_JOINREF and holds no address. -/
  | refuse (p : LinkPort) (k : Nat) (r : Byte)
  /-- ALIVE_SEND (R364): Every 100 ms an addressed worker sends an ALIVE notice. -/
  | aliveSend
  /-- ALIVE (R364): The manager notes an ALIVE notice from a worker. -/
  | alive (p : LinkPort) (src : LinkAddr)
  /-- BREAK (R368): The manager acts on a BREAK notice, declares unreachable workers departed and reroutes paths. -/
  | break_ (p : LinkPort) (src : LinkAddr) (port : Fin 2)
  /-- REPAIR (R368): The manager restores the nearer-side paths after a REPAIR notice. -/
  | repair (p : LinkPort) (src : LinkAddr) (port : Fin 2)
  /-- WORKER_DEPART (R364): No ALIVE notice from a worker for 300 ms, so it departs and its transactions end UNREACH. -/
  | workerDepart (addr : LinkAddr)
  /-- ORPHAN_TIMEOUT (R365): No frame from the manager for TMO ms, so the worker halts or finishes and holds. -/
  | orphanTimeout
  /-- LHOLD_SET (R383): A keyed SPL_CORE.LHOLD = 1 holds the LINK core in reset for a LINK image switch. -/
  | lholdSet (m : Master) (w : Word)
  /-- LHOLD_CLEAR (R383): Clearing LHOLD starts the LINK core at LENT. -/
  | lholdClear (m : Master) (w : Word)
  /-- HANDOVER_IMAGE_LOAD (R381): After the master port queue drains, the boot ROM loads the new EXEC image and starts it. -/
  | handoverImageLoad
  /-- LOG_FLUSH_TIMEOUT (R393): The oldest gathered record has waited 60 s and a page is programmed with fillers. -/
  | logFlushTimeout
  /-- WJ_ADDR_WRITE (R395): A write of WJ_ADDR starts a read of a wear-journal word. -/
  | wjAddrWrite (m : Master) (w : Word)
  /-- WJ_READ_COMPLETE (R395): A wear-journal read completes into WJ_D0 to WJ_D7. -/
  | wjReadComplete (err : BitError)
  /-- WJ_WRITE (R396): WJ_CTL.WRITE starts a wear-journal word write with verify. -/
  | wjWrite (m : Master) (w : Word)
  /-- WJ_WRITE_COMPLETE (R396): A wear-journal write completes, and a failed verify sets VFAIL and raises WJ_ERR. -/
  | wjWriteComplete (ok : Bool)
  /-- MSP_PUSH (R400): A write of MSP_TXC pushes an entry into the transmit queue, or is ignored when the queue is full. -/
  | mspPush (m : Master) (w : Word)
  /-- MSP_ENTRY_START (R401): An entry starts shifting once it is present and the receive queue has room. -/
  | mspEntryStart
  /-- MSP_ENTRY_COMPLETE (R401): An entry finishes, pushes its received word, and holds or releases the select. -/
  | mspEntryComplete (rx : Word)
  /-- MSP_RXD_READ (R402): An EXEC read of MSP_RXD returns and removes the oldest received word. -/
  | mspRxdRead (m : Master)
  /-- REL (R404): MSP_CTL.REL releases a held select after the entry in progress. -/
  | rel (m : Master)
  /-- FLUSH (R410): MSP_CTL.FLUSH discards queued entries and received words. -/
  | flush (m : Master)
  /-- MSP_DISABLE (R410): Clearing MSP_CFG.EN ends the entry at a byte boundary and empties both queues. -/
  | mspDisable (m : Master)
  /-- CON_MIN_PERIOD_END (R238): In CON, when REG has already found the current at or below the valley, the off-phase ends once the period has lasted 10 µs. -/
  | conMinPeriodEnd (ax : Axis) (br : Bridge)
  /-- DRSP (R361): A DRSP frame from the neighbour arrives, and after 64 exchanges the link delay of the port is written to LNK_DLYp. -/
  | drsp (p : LinkPort) (roundTrip residence : Nat)
  /-- ENUM_RETURN (R359): The manager's own ENUM arrives at another of its ports, so the two ports are recorded as a loop and positions are reassigned. -/
  | enumReturn (p : LinkPort)
  /-- LINK_CORE_RESTART (R367): The LINK core leaves reset after a SYS_RSTCTL.LINKRST; a manager re-enumerates every port and a worker resumes time correction. -/
  | linkCoreRestart
  deriving DecidableEq, Repr

end Sys2Proof
end

