-- ==== Sys2Proof/Config.lean ====
section
/-! DEFINITION. What an implementation of the VBH8A fixes and what the spec leaves open: free values without a body. A number drawn
from `State.free` selects a fresh value each time. -/

namespace Sys2Proof

/-- A choice the spec leaves between two outcomes (log entry 4). -/
opaque Config.freeBit : Nat → Bool

/-- A word the spec does not state (log entry 4). -/
opaque Config.freeWord : Nat → Word

/-- A signed quantity the spec bounds but does not fix, or does not state at all (log entry 4). -/
opaque Config.freeInt : Nat → Int

/-- The angle of the vector (a, b), atan2(b, a), in microsteps of 1/4096 of a period; how it is rounded is open (log entry 5). -/
opaque Config.angleOf : Int → Int → Nat

/-- One update, each 6.4 µs, of a first-order low-pass with a corner in Hz: from its last value and its input to its new value. R212 names
the filter and gives no discretisation (log entry 42). -/
opaque Config.lowPass (cornerHz : Nat) (last input : Int) : Int

/-- One update, each 6.4 µs, of a first-order filter with a time constant in 0.1 µs (R215, R219; log entry 42). -/
opaque Config.lag (tau : Nat) (last input : Int) : Int

/-- The current error after a regulator's 2 kHz notch (R222): the spec gives neither its bandwidth nor its state (log entry 43). -/
opaque Config.notched (draw : Nat) (err : Int) : Int

/-- The 10 check bits of the darning code over a 256-bit word: R24 names the code and not the order of its bits (log entry 60). -/
opaque Config.darnBits : DarnWord → BitVec 10

/-- Minor and build of the baseline firmware's version word; its major is 0 (R152; log entry 71). -/
opaque Config.baselineVersion : BitVec 24

/-- The words of a settings image: that which SET_CAPTURE makes of the live configuration, given as the entries that restore it (R152 names the
copy, and neither the choice nor the order of the entries is stated), or that which a failed write left (log entry 72). -/
opaque Config.freeImage : Nat → List (Word × List Word) → List Word

end Sys2Proof
end

