-- ==== Sys2Proof/Machine/Bits.lean ====
section
/-! DEFINITION. Bit fields, signed fields, the CRC-32 of R119 and sparse maps with natural-number keys. -/

namespace Sys2Proof.Machine

/-- Bit `i` of a word. -/
def bitOf (w : Word) (i : Nat) : Bool := w.getLsbD i

/-- Field [hi:lo] of a word, read as an unsigned number. -/
def fldOf (w : Word) (hi lo : Nat) : Nat := (w.toNat >>> lo) % 2 ^ (hi + 1 - lo)

/-- The word whose bits [hi:lo] are 1. -/
def maskOf (hi lo : Nat) : Word := BitVec.ofNat 32 ((2 ^ (hi + 1 - lo) - 1) <<< lo)

/-- `w` with field [hi:lo] holding the low bits of `v`. -/
def putFld (w : Word) (hi lo v : Nat) : Word :=
  (w &&& ~~~(maskOf hi lo)) ||| BitVec.ofNat 32 ((v % 2 ^ (hi + 1 - lo)) <<< lo)

/-- `w` with bit `i` holding `b`. -/
def putBit (w : Word) (i : Nat) (b : Bool) : Word :=
  if b then w ||| BitVec.ofNat 32 (1 <<< i) else w &&& ~~~(BitVec.ofNat 32 (1 <<< i))

/-- A number of `bits` bits read as two's complement. -/
def sextN (bits n : Nat) : Int :=
  let m := n % 2 ^ bits
  if m < 2 ^ (bits - 1) then (m : Int) else (m : Int) - (2 ^ bits : Nat)

/-- Field [hi:lo] read as a signed number. -/
def sfldOf (w : Word) (hi lo : Nat) : Int := sextN (hi + 1 - lo) (fldOf w hi lo)

/-- The low `bits` bits of a signed number. -/
def lowBits (bits : Nat) (x : Int) : Nat := (x % ((2 ^ bits : Nat) : Int)).toNat

/-- A signed number as a register word, modulo 2^32. -/
def wordOfInt (x : Int) : Word := BitVec.ofInt 32 x

/-- A natural number as a register word, modulo 2^32. -/
def wordOfNat (n : Nat) : Word := BitVec.ofNat 32 n

/-- 1 for true, 0 for false. -/
def b2n (b : Bool) : Nat := if b then 1 else 0

/-- `x` limited to `lo`..`hi`. -/
def clampI (lo hi x : Int) : Int := if x < lo then lo else if hi < x then hi else x

/-- `x` limited to at most `m` in magnitude. -/
def clampMag (m x : Int) : Int := clampI (-m) m x

/-- The sign of a number: -1, 0 or 1. -/
def sgn (x : Int) : Int := if x < 0 then -1 else if 0 < x then 1 else 0

/-- The upper word of a value held in R99's layout. -/
def hiWord (x : Int) : Word := wordOfInt (x / 4294967296)

/-- The lower word of a value held in R99's layout. -/
def loWord (x : Int) : Word := wordOfInt x

/-- The signed value that HI and LO hold (R99). -/
def ofHiLo (hi lo : Word) : Int := hi.toInt * 4294967296 + lo.toNat

/-- The unsigned value that HI and LO hold (R99). -/
def ofHiLoU (hi lo : Word) : Nat := hi.toNat * 4294967296 + lo.toNat

/-- The word whose bit i is `f i`, for i below `n`. -/
def packBits : Nat → (Nat → Bool) → Nat
  | 0, _ => 0
  | n + 1, f => packBits n f + (if f n then 2 ^ n else 0)

/-- How many of the indices below `n` satisfy `f`. -/
def countBits : Nat → (Nat → Bool) → Nat
  | 0, _ => 0
  | n + 1, f => countBits n f + b2n (f n)

/-- Integer square root, rounded down, by bits from 2^k downwards. -/
def isqrtFrom : Nat → Nat → Nat → Nat
  | 0, n, r => if (r + 1) * (r + 1) ≤ n then r + 1 else r
  | k + 1, n, r =>
    let c := r + 2 ^ (k + 1)
    isqrtFrom k n (if c * c ≤ n then c else r)

/-- The largest r below 2^80 with r * r at most `n`. -/
def isqrt (n : Nat) : Nat := isqrtFrom 79 n 0

/-! The CRC-32 of R119: IEEE 802.3 polynomial, initial value all ones, reflected, final XOR of all ones. -/

/-- One bit of the reflected CRC-32. -/
def crcBit (c : Word) : Word := if bitOf c 0 then (c >>> 1) ^^^ 0xEDB88320#32 else c >>> 1

/-- One byte of the reflected CRC-32, least significant bit first. -/
def crcByte (c : Word) (b : Byte) : Word :=
  crcBit (crcBit (crcBit (crcBit (crcBit (crcBit (crcBit (crcBit (c ^^^ b.setWidth 32))))))))

/-- The CRC-32 of a byte stream (R119). -/
def crc32 (bs : List Byte) : Word := (bs.foldl crcByte 0xFFFFFFFF#32) ^^^ 0xFFFFFFFF#32

/-- The bytes of a word, most significant first (R119, R348, R372). -/
def bytesOfWord (w : Word) : List Byte :=
  [(w >>> 24).setWidth 8, (w >>> 16).setWidth 8, (w >>> 8).setWidth 8, w.setWidth 8]

/-- The word that four bytes spell, most significant first. -/
def wordOfBytes (a b c d : Byte) : Word :=
  (a.setWidth 32 <<< 24) ||| (b.setWidth 32 <<< 16) ||| (c.setWidth 32 <<< 8) ||| d.setWidth 32

/-- The CRC-32 of words in ascending order, each most significant byte first (R119). -/
def crc32Words (ws : List Word) : Word := crc32 (ws.flatMap bytesOfWord)

/-! Sparse maps: lists of key and value, keys strictly rising in the canonical form. -/

/-- The entry at key `k`. -/
def spFind {α : Type} : List (Nat × α) → Nat → Option α
  | [], _ => none
  | (k', v) :: t, k => if k' = k then some v else spFind t k

/-- The map without key `k`. -/
def spDel {α : Type} : List (Nat × α) → Nat → List (Nat × α)
  | [], _ => []
  | (k', v) :: t, k => if k' = k then spDel t k else (k', v) :: spDel t k

/-- The map with an entry placed before the first greater key. -/
def spIns {α : Type} : List (Nat × α) → Nat → α → List (Nat × α)
  | [], k, v => [(k, v)]
  | (k', v') :: t, k, v => if k < k' then (k, v) :: (k', v') :: t else (k', v') :: spIns t k v

/-- The map with key `k` holding `v`. -/
def spPut {α : Type} (l : List (Nat × α)) (k : Nat) (v : α) : List (Nat × α) := spIns (spDel l k) k v

/-- The map with key `k` reading `v`, where an unlisted key reads `d`: the entry is removed when `v` is `d`. -/
def spSet {α : Type} [DecidableEq α] (d : α) (l : List (Nat × α)) (k : Nat) (v : α) : List (Nat × α) :=
  if v = d then spDel l k else spPut l k v

/-- Keys strictly rising, each above `lo` when one is given. -/
def spSortedFrom {α : Type} : Option Nat → List (Nat × α) → Bool
  | _, [] => true
  | none, (k, _) :: t => spSortedFrom (some k) t
  | some b, (k, _) :: t => b < k && spSortedFrom (some k) t

/-- Keys strictly rising. -/
def spSorted {α : Type} (l : List (Nat × α)) : Bool := spSortedFrom none l

end Sys2Proof.Machine
end

