-- ==== Sys2Proof/Machine/Regs.lean ====
section
/-! DEFINITION. The register map of the VBH8A: the locator lines and field tables of spec/01 to spec/18 (R5, R7), written out by
script from the spec's own tables. `R.<MNEMONIC>` is the register's address as page * 128 + index; registers of an axis take the axis,
arrays take the index. -/

namespace Sys2Proof.Machine

/-- Access codes of R7. -/
inductive Access where
  | rw | ro | wo | rw1 | rwp | wc
  deriving DecidableEq, Repr

/-- One locator of the register map: `count` registers from `index` on, their reset value, the bits a write may store, the bits
that R103 protects while the block's EN is 1, and whether they are parity-protected (R102). -/
structure RegRow where
  index  : Nat
  count  : Nat
  reset  : Word
  mask   : Word
  cfg    : Word
  parity : Bool
  acc    : Access
  /-- HI, LO and HI2 of one multi-word value (R99). -/
  multi  : Bool
  deriving DecidableEq, Repr

/-- The address of index `i` of page `p` (R5). -/
def regKey (p i : Nat) : Nat := p * 128 + i

/-- CLK_STAT (R20). -/
def R.CLK_STAT : Nat := regKey 0x02 0x00
/-- CLK_CNT (R20). -/
def R.CLK_CNT (i : Nat) : Nat := regKey 0x02 (0x01 + i)
/-- TIM_CFG (R23). -/
def R.TIM_CFG : Nat := regKey 0x70 0x00
/-- TIM_STAT (R23). -/
def R.TIM_STAT : Nat := regKey 0x70 0x01
/-- TIM_TIME (R23), HI. -/
def R.TIM_TIME : Nat := regKey 0x70 0x04
/-- TIM_RATE (R23). -/
def R.TIM_RATE : Nat := regKey 0x70 0x07
/-- TIM_ALM0 (R23), HI. -/
def R.TIM_ALM0 : Nat := regKey 0x70 0x08
/-- TIM_ALM1 (R23), HI. -/
def R.TIM_ALM1 : Nat := regKey 0x70 0x0B
/-- TIM_TICK (R23). -/
def R.TIM_TICK : Nat := regKey 0x70 0x0E
/-- SYS_DARN (R29). -/
def R.SYS_DARN (i : Nat) : Nat := regKey 0x01 (0x60 + i)
/-- SYS_DARNCLR (R29). -/
def R.SYS_DARNCLR : Nat := regKey 0x01 0x68
/-- SYS_AXCLAIM (R33). -/
def R.SYS_AXCLAIM : Nat := regKey 0x01 0x50
/-- SYS_STRAP (R49). -/
def R.SYS_STRAP : Nat := regKey 0x01 0x10
/-- SYS_RSTCAUSE (R77). -/
def R.SYS_RSTCAUSE : Nat := regKey 0x01 0x00
/-- SYS_RSTCTL (R78). -/
def R.SYS_RSTCTL : Nat := regKey 0x01 0x01
/-- SYS_BRST (R78). -/
def R.SYS_BRST : Nat := regKey 0x01 0x02
/-- SYS_SUPSTAT (R78). -/
def R.SYS_SUPSTAT : Nat := regKey 0x01 0x03
/-- SYS_SUPCFG (R78). -/
def R.SYS_SUPCFG : Nat := regKey 0x01 0x04
/-- SYS_PWRCTL (R78). -/
def R.SYS_PWRCTL : Nat := regKey 0x01 0x05
/-- SYS_PWRSTAT (R78). -/
def R.SYS_PWRSTAT : Nat := regKey 0x01 0x06
/-- SYS_WAKECFG (R78). -/
def R.SYS_WAKECFG : Nat := regKey 0x01 0x07
/-- SYS_WAKETMR (R78). -/
def R.SYS_WAKETMR : Nat := regKey 0x01 0x08
/-- SYS_WAKESRC (R78). -/
def R.SYS_WAKESRC : Nat := regKey 0x01 0x09
/-- SYS_WDT (R78). -/
def R.SYS_WDT : Nat := regKey 0x01 0x0A
/-- SYS_WDKICK (R78). -/
def R.SYS_WDKICK : Nat := regKey 0x01 0x0B
/-- HSP_ID (R108). -/
def R.HSP_ID : Nat := regKey 0x00 0x00
/-- HSP_STEP (R108). -/
def R.HSP_STEP : Nat := regKey 0x00 0x01
/-- HSP_CFG (R108). -/
def R.HSP_CFG : Nat := regKey 0x00 0x02
/-- HSP_STAT (R108). -/
def R.HSP_STAT : Nat := regKey 0x00 0x03
/-- HSP_READY (R108). -/
def R.HSP_READY : Nat := regKey 0x00 0x04
/-- HSP_MODE (R108). -/
def R.HSP_MODE : Nat := regKey 0x00 0x05
/-- HSP_PAGE (R108). -/
def R.HSP_PAGE : Nat := regKey 0x00 0x7F
/-- MBX_BINDB (R129). -/
def R.MBX_BINDB (i : Nat) : Nat := regKey 0x03 (0x00 + i)
/-- MBX_BINDW (R129). -/
def R.MBX_BINDW (i : Nat) : Nat := regKey 0x03 (0x08 + i)
/-- MBX_LOCK (R129). -/
def R.MBX_LOCK : Nat := regKey 0x03 0x10
/-- MBX_HALTRT (R129). -/
def R.MBX_HALTRT : Nat := regKey 0x03 0x11
/-- MBX_DB (R129). -/
def R.MBX_DB (i : Nat) : Nat := regKey 0x03 (0x20 + i)
/-- MBX_DBMASK (R129). -/
def R.MBX_DBMASK (i : Nat) : Nat := regKey 0x03 (0x28 + i)
/-- MBX_HALT (R129). -/
def R.MBX_HALT : Nat := regKey 0x03 0x30
/-- MBX_ATTN (R129). -/
def R.MBX_ATTN : Nat := regKey 0x03 0x31
/-- MBX_FLAG (R129). -/
def R.MBX_FLAG (i : Nat) : Nat := regKey 0x03 (0x40 + i)
/-- MBX_WDATA (R129). -/
def R.MBX_WDATA (i : Nat) : Nat := regKey 0x03 (0x60 + i)
/-- MBX_WSTAT (R129). -/
def R.MBX_WSTAT : Nat := regKey 0x03 0x68
/-- ME_CFG (R182). -/
def R.ME_CFG (n : Nat) : Nat := regKey (0x10 + n) 0x00
/-- ME_CTL (R182). -/
def R.ME_CTL (n : Nat) : Nat := regKey (0x10 + n) 0x01
/-- ME_STAT (R182). -/
def R.ME_STAT (n : Nat) : Nat := regKey (0x10 + n) 0x02
/-- ME_Q (R182). -/
def R.ME_Q (n : Nat) : Nat := regKey (0x10 + n) 0x03
/-- ME_POS (R182), HI. -/
def R.ME_POS (n : Nat) : Nat := regKey (0x10 + n) 0x04
/-- ME_VEL (R182), HI. -/
def R.ME_VEL (n : Nat) : Nat := regKey (0x10 + n) 0x07
/-- ME_ACC (R182). -/
def R.ME_ACC (n : Nat) : Nat := regKey (0x10 + n) 0x0A
/-- ME_TGT (R182), HI. -/
def R.ME_TGT (n : Nat) : Nat := regKey (0x10 + n) 0x0B
/-- ME_VLIM (R182). -/
def R.ME_VLIM (n : Nat) : Nat := regKey (0x10 + n) 0x0E
/-- ME_HDEC (R182). -/
def R.ME_HDEC (n : Nat) : Nat := regKey (0x10 + n) 0x0F
/-- ME_MASS (R182). -/
def R.ME_MASS (n : Nat) : Nat := regKey (0x10 + n) 0x10
/-- ME_KPM (R182). -/
def R.ME_KPM (n : Nat) : Nat := regKey (0x10 + n) 0x11
/-- ME_VEO (R182). -/
def R.ME_VEO (n : Nat) : Nat := regKey (0x10 + n) 0x12
/-- ME_VEC (R182). -/
def R.ME_VEC (n : Nat) : Nat := regKey (0x10 + n) 0x13
/-- ME_PMIN (R182), HI. -/
def R.ME_PMIN (n : Nat) : Nat := regKey (0x10 + n) 0x14
/-- ME_PMAX (R182), HI. -/
def R.ME_PMAX (n : Nat) : Nat := regKey (0x10 + n) 0x17
/-- ME_OPEN (R182), HI. -/
def R.ME_OPEN (n : Nat) : Nat := regKey (0x10 + n) 0x1A
/-- ME_CLOSED (R182), HI. -/
def R.ME_CLOSED (n : Nat) : Nat := regKey (0x10 + n) 0x1D
/-- ME_REST (R182). -/
def R.ME_REST (n : Nat) : Nat := regKey (0x10 + n) 0x20
/-- ME_GEAR (R182). -/
def R.ME_GEAR (n : Nat) : Nat := regKey (0x10 + n) 0x21
/-- ME_FOLLOW (R182). -/
def R.ME_FOLLOW (n : Nat) : Nat := regKey (0x10 + n) 0x22
/-- ME_EOFS (R182). -/
def R.ME_EOFS (n : Nat) : Nat := regKey (0x10 + n) 0x23
/-- ME_CYC (R182), HI. -/
def R.ME_CYC (n : Nat) : Nat := regKey (0x10 + n) 0x24
/-- ME_TRAV (R182), HI. -/
def R.ME_TRAV (n : Nat) : Nat := regKey (0x10 + n) 0x27
/-- ME_EVCNT (R182). -/
def R.ME_EVCNT (n : Nat) : Nat := regKey (0x10 + n) 0x2A
/-- ME_OBSTOT (R182). -/
def R.ME_OBSTOT (n : Nat) : Nat := regKey (0x10 + n) 0x2B
/-- ME_FORCE (R182). -/
def R.ME_FORCE (n : Nat) : Nat := regKey (0x10 + n) 0x2C
/-- ME_OBSPOS (R182), HI. -/
def R.ME_OBSPOS (n : Nat) : Nat := regKey (0x10 + n) 0x2D
/-- CTX_SEL (R182). -/
def R.CTX_SEL : Nat := regKey 0x18 0x00
/-- CTX_ALLOC (R182). -/
def R.CTX_ALLOC : Nat := regKey 0x18 0x01
/-- CTX_CMD (R182). -/
def R.CTX_CMD : Nat := regKey 0x18 0x02
/-- CTX_CMDSTAT (R182). -/
def R.CTX_CMDSTAT : Nat := regKey 0x18 0x03
/-- CTX_COUNT (R182). -/
def R.CTX_COUNT : Nat := regKey 0x18 0x04
/-- CTX_FREEMAP (R182). -/
def R.CTX_FREEMAP (i : Nat) : Nat := regKey 0x18 (0x08 + i)
/-- CTX_W (R182). -/
def R.CTX_W (i : Nat) : Nat := regKey 0x18 (0x10 + i)
/-- CR_CFG (R210). -/
def R.CR_CFG (n : Nat) : Nat := regKey (0x20 + n) 0x00
/-- CR_STAT (R210). -/
def R.CR_STAT (n : Nat) : Nat := regKey (0x20 + n) 0x01
/-- CR_SHUNT (R210). -/
def R.CR_SHUNT (n : Nat) : Nat := regKey (0x20 + n) 0x02
/-- CR_IRUN (R210). -/
def R.CR_IRUN (n : Nat) : Nat := regKey (0x20 + n) 0x03
/-- CR_IREST (R210). -/
def R.CR_IREST (n : Nat) : Nat := regKey (0x20 + n) 0x04
/-- CR_GAIN (R210). -/
def R.CR_GAIN (n : Nat) : Nat := regKey (0x20 + n) 0x05
/-- CR_PLOOP (R210). -/
def R.CR_PLOOP (n : Nat) : Nat := regKey (0x20 + n) 0x06
/-- CR_PINT (R210). -/
def R.CR_PINT (n : Nat) : Nat := regKey (0x20 + n) 0x07
/-- CR_MOTOR1 (R210). -/
def R.CR_MOTOR1 (n : Nat) : Nat := regKey (0x20 + n) 0x08
/-- CR_MOTOR2 (R210). -/
def R.CR_MOTOR2 (n : Nat) : Nat := regKey (0x20 + n) 0x09
/-- CR_XUP (R210). -/
def R.CR_XUP (n : Nat) : Nat := regKey (0x20 + n) 0x0A
/-- CR_XDN (R210). -/
def R.CR_XDN (n : Nat) : Nat := regKey (0x20 + n) 0x0B
/-- CR_HOV (R210). -/
def R.CR_HOV (n : Nat) : Nat := regKey (0x20 + n) 0x0C
/-- CR_OLA (R210). -/
def R.CR_OLA (n : Nat) : Nat := regKey (0x20 + n) 0x0D
/-- CR_UMAX (R210). -/
def R.CR_UMAX (n : Nat) : Nat := regKey (0x20 + n) 0x0E
/-- CR_VNOM (R210). -/
def R.CR_VNOM (n : Nat) : Nat := regKey (0x20 + n) 0x0F
/-- CR_ENC (R210). -/
def R.CR_ENC (n : Nat) : Nat := regKey (0x20 + n) 0x10
/-- CR_ENCOFS (R210). -/
def R.CR_ENCOFS (n : Nat) : Nat := regKey (0x20 + n) 0x11
/-- CR_ENCCNT (R210). -/
def R.CR_ENCCNT (n : Nat) : Nat := regKey (0x20 + n) 0x12
/-- CR_ENCZ (R210). -/
def R.CR_ENCZ (n : Nat) : Nat := regKey (0x20 + n) 0x13
/-- CR_DEMA (R210). -/
def R.CR_DEMA (n : Nat) : Nat := regKey (0x20 + n) 0x14
/-- CR_DEMB (R210). -/
def R.CR_DEMB (n : Nat) : Nat := regKey (0x20 + n) 0x15
/-- CR_IMA (R210). -/
def R.CR_IMA (n : Nat) : Nat := regKey (0x20 + n) 0x16
/-- CR_IMB (R210). -/
def R.CR_IMB (n : Nat) : Nat := regKey (0x20 + n) 0x17
/-- CR_ID (R210). -/
def R.CR_ID (n : Nat) : Nat := regKey (0x20 + n) 0x1A
/-- CR_IQ (R210). -/
def R.CR_IQ (n : Nat) : Nat := regKey (0x20 + n) 0x1B
/-- CR_IDDEM (R210). -/
def R.CR_IDDEM (n : Nat) : Nat := regKey (0x20 + n) 0x1C
/-- CR_IQDEM (R210). -/
def R.CR_IQDEM (n : Nat) : Nat := regKey (0x20 + n) 0x1D
/-- CR_UA (R210). -/
def R.CR_UA (n : Nat) : Nat := regKey (0x20 + n) 0x18
/-- CR_UB (R210). -/
def R.CR_UB (n : Nat) : Nat := regKey (0x20 + n) 0x19
/-- CR_ANGLE (R210). -/
def R.CR_ANGLE (n : Nat) : Nat := regKey (0x20 + n) 0x1E
/-- CR_WADDR (R210). -/
def R.CR_WADDR (n : Nat) : Nat := regKey (0x20 + n) 0x1F
/-- CR_WDATA (R210). -/
def R.CR_WDATA (n : Nat) : Nat := regKey (0x20 + n) 0x20
/-- CR_OVR (R210). -/
def R.CR_OVR (n : Nat) : Nat := regKey (0x20 + n) 0x21
/-- CR_OVRI (R210). -/
def R.CR_OVRI (n : Nat) : Nat := regKey (0x20 + n) 0x22
/-- CR_OVRU (R210). -/
def R.CR_OVRU (n : Nat) : Nat := regKey (0x20 + n) 0x23
/-- LO_CFG (R232). -/
def R.LO_CFG (n : Nat) : Nat := regKey (0x20 + n) 0x40
/-- LO_STAT (R232). -/
def R.LO_STAT (n : Nat) : Nat := regKey (0x20 + n) 0x41
/-- LO_VSRC (R232). -/
def R.LO_VSRC (n : Nat) : Nat := regKey (0x20 + n) 0x42
/-- LO_VMIN (R232). -/
def R.LO_VMIN (n : Nat) : Nat := regKey (0x20 + n) 0x43
/-- LO_PLL (R232). -/
def R.LO_PLL (n : Nat) : Nat := regKey (0x20 + n) 0x44
/-- LO_STALL (R232). -/
def R.LO_STALL (n : Nat) : Nat := regKey (0x20 + n) 0x45
/-- LO_COLL (R232). -/
def R.LO_COLL (n : Nat) : Nat := regKey (0x20 + n) 0x46
/-- LO_HOME (R232). -/
def R.LO_HOME (n : Nat) : Nat := regKey (0x20 + n) 0x47
/-- LO_MEFF (R232). -/
def R.LO_MEFF (n : Nat) : Nat := regKey (0x20 + n) 0x48
/-- LO_FRIC (R232). -/
def R.LO_FRIC (n : Nat) : Nat := regKey (0x20 + n) 0x49
/-- LO_PP (R232). -/
def R.LO_PP (n : Nat) : Nat := regKey (0x20 + n) 0x4A
/-- LO_PP2 (R232). -/
def R.LO_PP2 (n : Nat) : Nat := regKey (0x20 + n) 0x4B
/-- LO_KF (R232). -/
def R.LO_KF (n : Nat) : Nat := regKey (0x20 + n) 0x4C
/-- LO_THETA (R232). -/
def R.LO_THETA (n : Nat) : Nat := regKey (0x20 + n) 0x50
/-- LO_VEST (R232), HI. -/
def R.LO_VEST (n : Nat) : Nat := regKey (0x20 + n) 0x51
/-- LO_LA (R232). -/
def R.LO_LA (n : Nat) : Nat := regKey (0x20 + n) 0x54
/-- LO_PERR (R232). -/
def R.LO_PERR (n : Nat) : Nat := regKey (0x20 + n) 0x55
/-- LO_IQ (R232). -/
def R.LO_IQ (n : Nat) : Nat := regKey (0x20 + n) 0x56
/-- LO_TORQ (R232). -/
def R.LO_TORQ (n : Nat) : Nat := regKey (0x20 + n) 0x57
/-- LO_FORCE (R232). -/
def R.LO_FORCE (n : Nat) : Nat := regKey (0x20 + n) 0x58
/-- LO_EMF (R232). -/
def R.LO_EMF (n : Nat) : Nat := regKey (0x20 + n) 0x59
/-- LO_PPRES (R232). -/
def R.LO_PPRES (n : Nat) : Nat := regKey (0x20 + n) 0x5A
/-- LO_SLIP (R232). -/
def R.LO_SLIP (n : Nat) : Nat := regKey (0x20 + n) 0x5B
/-- LO_WIRE (R232). -/
def R.LO_WIRE (n : Nat) : Nat := regKey (0x20 + n) 0x5C
/-- PWM_CFG (R252). -/
def R.PWM_CFG (n : Nat) : Nat := regKey (0x28 + n) 0x00
/-- PWM_DT (R252). -/
def R.PWM_DT (n : Nat) : Nat := regKey (0x28 + n) 0x01
/-- PWM_TBLANK (R252). -/
def R.PWM_TBLANK (n : Nat) : Nat := regKey (0x28 + n) 0x02
/-- PWM_CHOP (R252). -/
def R.PWM_CHOP (n : Nat) : Nat := regKey (0x28 + n) 0x03
/-- PWM_ILIM (R252). -/
def R.PWM_ILIM (n : Nat) : Nat := regKey (0x28 + n) 0x04
/-- PWM_SPER (R252). -/
def R.PWM_SPER (n : Nat) : Nat := regKey (0x28 + n) 0x05
/-- PWM_PER (R252). -/
def R.PWM_PER (n : Nat) : Nat := regKey (0x28 + n) 0x06
/-- PWM_THR (R252). -/
def R.PWM_THR (n : Nat) : Nat := regKey (0x28 + n) 0x07
/-- PWM_DUTYA (R252). -/
def R.PWM_DUTYA (n : Nat) : Nat := regKey (0x28 + n) 0x08
/-- PWM_DUTYB (R252). -/
def R.PWM_DUTYB (n : Nat) : Nat := regKey (0x28 + n) 0x09
/-- PWM_CTL (R252). -/
def R.PWM_CTL (n : Nat) : Nat := regKey (0x28 + n) 0x0A
/-- PWM_STAT (R252). -/
def R.PWM_STAT (n : Nat) : Nat := regKey (0x28 + n) 0x0B
/-- PWM_TRIP (R252). -/
def R.PWM_TRIP (n : Nat) : Nat := regKey (0x28 + n) 0x0C
/-- PWM_TRIPTOT (R252). -/
def R.PWM_TRIPTOT (n : Nat) : Nat := regKey (0x28 + n) 0x0D
/-- PWM_TACKA (R252). -/
def R.PWM_TACKA (n : Nat) (i : Nat) : Nat := regKey (0x28 + n) (0x10 + i)
/-- PWM_TACKB (R252). -/
def R.PWM_TACKB (n : Nat) (i : Nat) : Nat := regKey (0x28 + n) (0x14 + i)
/-- GD_CFG (R272). -/
def R.GD_CFG (n : Nat) : Nat := regKey (0x30 + n) 0x00
/-- GD_DRV (R272). -/
def R.GD_DRV (n : Nat) : Nat := regKey (0x30 + n) 0x01
/-- GD_VDS (R272). -/
def R.GD_VDS (n : Nat) : Nat := regKey (0x30 + n) 0x02
/-- GD_STAT (R272). -/
def R.GD_STAT (n : Nat) : Nat := regKey (0x30 + n) 0x03
/-- GD_FLT (R272). -/
def R.GD_FLT (n : Nat) : Nat := regKey (0x30 + n) 0x04
/-- GD_CTL (R272). -/
def R.GD_CTL (n : Nat) : Nat := regKey (0x30 + n) 0x05
/-- GD_DIAG (R272). -/
def R.GD_DIAG (n : Nat) : Nat := regKey (0x30 + n) 0x06
/-- GD_STRES (R272). -/
def R.GD_STRES (n : Nat) : Nat := regKey (0x30 + n) 0x07
/-- GD_WREP (R272). -/
def R.GD_WREP (n : Nat) : Nat := regKey (0x30 + n) 0x08
/-- GDG_CFG (R272). -/
def R.GDG_CFG : Nat := regKey 0x38 0x00
/-- GDG_STAT (R272). -/
def R.GDG_STAT : Nat := regKey 0x38 0x01
/-- GDG_IGATE (R272). -/
def R.GDG_IGATE : Nat := regKey 0x38 0x02
/-- GDG_TPSTAT (R272). -/
def R.GDG_TPSTAT : Nat := regKey 0x38 0x03
/-- CSM_CFG (R278). -/
def R.CSM_CFG : Nat := regKey 0x40 0x00
/-- CSM_STAT (R278). -/
def R.CSM_STAT : Nat := regKey 0x40 0x01
/-- CSM_CCFG (R278). -/
def R.CSM_CCFG (i : Nat) : Nat := regKey 0x40 (0x10 + i)
/-- CSM_OFS (R278). -/
def R.CSM_OFS (i : Nat) : Nat := regKey 0x40 (0x20 + i)
/-- CSM_FAST (R278). -/
def R.CSM_FAST (i : Nat) : Nat := regKey 0x40 (0x30 + i)
/-- CSM_ALGN (R278). -/
def R.CSM_ALGN (i : Nat) : Nat := regKey 0x40 (0x40 + i)
/-- CSM_FINE (R278). -/
def R.CSM_FINE (i : Nat) : Nat := regKey 0x40 (0x50 + i)
/-- PC_CFG (R293). -/
def R.PC_CFG (n : Nat) : Nat := regKey (0x41 + n) 0x00
/-- PC_CTL (R293). -/
def R.PC_CTL (n : Nat) : Nat := regKey (0x41 + n) 0x01
/-- PC_STAT (R293). -/
def R.PC_STAT (n : Nat) : Nat := regKey (0x41 + n) 0x02
/-- PC_CNT (R293). -/
def R.PC_CNT (n : Nat) : Nat := regKey (0x41 + n) 0x03
/-- PC_ENT (R293). -/
def R.PC_ENT (n : Nat) (i : Nat) : Nat := regKey (0x41 + n) (0x10 + i)
/-- PC_RES (R293). -/
def R.PC_RES (n : Nat) (i : Nat) : Nat := regKey (0x41 + n) (0x30 + i)
/-- PC_OFS (R293). -/
def R.PC_OFS (n : Nat) (i : Nat) : Nat := regKey (0x41 + n) (0x50 + i)
/-- PC_GAIN (R293). -/
def R.PC_GAIN (n : Nat) (i : Nat) : Nat := regKey (0x41 + n) (0x68 + i)
/-- REF_CFG (R293). -/
def R.REF_CFG : Nat := regKey 0x45 0x00
/-- REF_STAT (R293). -/
def R.REF_STAT : Nat := regKey 0x45 0x01
/-- REF_SYNC (R293). -/
def R.REF_SYNC : Nat := regKey 0x45 0x02
/-- REF_CALTGT (R293). -/
def R.REF_CALTGT : Nat := regKey 0x45 0x03
/-- CMP_CFG (R305). -/
def R.CMP_CFG : Nat := regKey 0x48 0x00
/-- CMP_OUT (R305). -/
def R.CMP_OUT : Nat := regKey 0x48 0x01
/-- CMP_ALM (R305). -/
def R.CMP_ALM : Nat := regKey 0x48 0x02
/-- CMP_SNAP (R305). -/
def R.CMP_SNAP : Nat := regKey 0x48 0x03
/-- CMP_CCFG (R305). -/
def R.CMP_CCFG (i : Nat) : Nat := regKey 0x48 (0x10 + i)
/-- CMP_CAP (R305). -/
def R.CMP_CAP (i : Nat) : Nat := regKey 0x48 (0x20 + i)
/-- CMP_CAPST (R305). -/
def R.CMP_CAPST (i : Nat) : Nat := regKey 0x48 (0x30 + i)
/-- SAF_STAT (R332). -/
def R.SAF_STAT : Nat := regKey 0x50 0x00
/-- SAF_SEAL (R332). -/
def R.SAF_SEAL : Nat := regKey 0x50 0x01
/-- SAF_STO (R332). -/
def R.SAF_STO : Nat := regKey 0x50 0x02
/-- SAF_GRANT (R332). -/
def R.SAF_GRANT : Nat := regKey 0x50 0x03
/-- SAF_TRIP (R332). -/
def R.SAF_TRIP : Nat := regKey 0x50 0x04
/-- SAF_SOUT (R332). -/
def R.SAF_SOUT : Nat := regKey 0x50 0x05
/-- SAF_CLOSE (R332). -/
def R.SAF_CLOSE : Nat := regKey 0x50 0x06
/-- SAF_VER (R332). -/
def R.SAF_VER : Nat := regKey 0x50 0x07
/-- SAF_CEIL (R332). -/
def R.SAF_CEIL (i : Nat) : Nat := regKey 0x50 (0x10 + i)
/-- FC_SRC (R344); source s is on page 0x08 + s div 64, index s mod 64. -/
def R.FC_SRC (i : Nat) : Nat := regKey (0x08 + i / 64) (i % 64)
/-- FC_CTL (R344). -/
def R.FC_CTL : Nat := regKey 0x0A 0x00
/-- FC_STAT (R344). -/
def R.FC_STAT : Nat := regKey 0x0A 0x01
/-- FC_RSEL (R344). -/
def R.FC_RSEL : Nat := regKey 0x0A 0x02
/-- FC_REC (R344). -/
def R.FC_REC : Nat := regKey 0x0A 0x03
/-- FC_RTIME (R344), HI. -/
def R.FC_RTIME : Nat := regKey 0x0A 0x04
/-- FC_RDET (R344). -/
def R.FC_RDET : Nat := regKey 0x0A 0x07
/-- FC_LATCH (R344). -/
def R.FC_LATCH (i : Nat) : Nat := regKey 0x0A (0x10 + i)
/-- FC_PEND (R344). -/
def R.FC_PEND (i : Nat) : Nat := regKey 0x0A (0x14 + i)
/-- FC_CAUSE (R344). -/
def R.FC_CAUSE (i : Nat) : Nat := regKey 0x0A (0x18 + i)
/-- FC_CLR (R344). -/
def R.FC_CLR (i : Nat) : Nat := regKey 0x0A (0x1C + i)
/-- FC_ACK (R344). -/
def R.FC_ACK (i : Nat) : Nat := regKey 0x0A (0x20 + i)
/-- FC_SWSET (R344). -/
def R.FC_SWSET : Nat := regKey 0x0A 0x24
/-- LNK_CFG (R371). -/
def R.LNK_CFG : Nat := regKey 0x58 0x00
/-- LNK_STAT (R371). -/
def R.LNK_STAT : Nat := regKey 0x58 0x01
/-- LNK_ADDR (R371). -/
def R.LNK_ADDR : Nat := regKey 0x58 0x02
/-- LNK_PORT (R371). -/
def R.LNK_PORT (i : Nat) : Nat := regKey 0x58 (0x04 + i)
/-- LNK_ERR (R371). -/
def R.LNK_ERR (i : Nat) : Nat := regKey 0x58 (0x08 + i)
/-- LNK_DLY (R371). -/
def R.LNK_DLY (i : Nat) : Nat := regKey 0x58 (0x0C + i)
/-- LNK_ORPH (R371). -/
def R.LNK_ORPH : Nat := regKey 0x58 0x10
/-- LNK_ERRLIM (R371). -/
def R.LNK_ERRLIM : Nat := regKey 0x58 0x11
/-- LNK_GRP0 (R371). -/
def R.LNK_GRP0 : Nat := regKey 0x58 0x14
/-- LNK_GRP1 (R371). -/
def R.LNK_GRP1 : Nat := regKey 0x58 0x15
/-- LNK_TSOFS (R371). -/
def R.LNK_TSOFS : Nat := regKey 0x58 0x18
/-- LNK_TSRATE (R371). -/
def R.LNK_TSRATE : Nat := regKey 0x58 0x19
/-- LNK_TSCNT (R371). -/
def R.LNK_TSCNT : Nat := regKey 0x58 0x1A
/-- LNK_WCNT (R371). -/
def R.LNK_WCNT : Nat := regKey 0x58 0x1C
/-- LNK_TXN (R371). -/
def R.LNK_TXN : Nat := regKey 0x58 0x1D
/-- SPL_CFG (R398). -/
def R.SPL_CFG : Nat := regKey 0x61 0x00
/-- SPL_BOOT (R398). -/
def R.SPL_BOOT : Nat := regKey 0x61 0x01
/-- SPL_ID (R398). -/
def R.SPL_ID : Nat := regKey 0x61 0x02
/-- SPL_CAP (R398). -/
def R.SPL_CAP : Nat := regKey 0x61 0x03
/-- SPL_CORE (R398). -/
def R.SPL_CORE : Nat := regKey 0x61 0x04
/-- SPL_PRES (R398). -/
def R.SPL_PRES : Nat := regKey 0x61 0x05
/-- SPL_LOGHEAD (R398), HI. -/
def R.SPL_LOGHEAD : Nat := regKey 0x61 0x08
/-- SPL_LOGTAIL (R398), HI. -/
def R.SPL_LOGTAIL : Nat := regKey 0x61 0x0B
/-- SPL_LOGPAGES (R398). -/
def R.SPL_LOGPAGES : Nat := regKey 0x61 0x0E
/-- WJ_CFG (R398). -/
def R.WJ_CFG : Nat := regKey 0x68 0x00
/-- WJ_STAT (R398). -/
def R.WJ_STAT : Nat := regKey 0x68 0x01
/-- WJ_ADDR (R398). -/
def R.WJ_ADDR : Nat := regKey 0x68 0x02
/-- WJ_CTL (R398). -/
def R.WJ_CTL : Nat := regKey 0x68 0x03
/-- WJ_D (R398). -/
def R.WJ_D (i : Nat) : Nat := regKey 0x68 (0x10 + i)
/-- WJ_WCNT (R398). -/
def R.WJ_WCNT : Nat := regKey 0x68 0x18
/-- MSP_CFG (R410). -/
def R.MSP_CFG : Nat := regKey 0x60 0x00
/-- MSP_TIM (R410). -/
def R.MSP_TIM : Nat := regKey 0x60 0x01
/-- MSP_STAT (R410). -/
def R.MSP_STAT : Nat := regKey 0x60 0x02
/-- MSP_TXD (R410). -/
def R.MSP_TXD : Nat := regKey 0x60 0x03
/-- MSP_TXC (R410). -/
def R.MSP_TXC : Nat := regKey 0x60 0x04
/-- MSP_RXD (R410). -/
def R.MSP_RXD : Nat := regKey 0x60 0x05
/-- MSP_CTL (R410). -/
def R.MSP_CTL : Nat := regKey 0x60 0x06

/-! The rows of each kind of page. -/

/-- Rows of page 0x00. -/
def regRows00 : List RegRow := [
  ⟨0x00, 1, 0x56424838#32, 0x00000000#32, 0x00000000#32, false, .ro, false⟩,
  ⟨0x01, 1, 0x00000100#32, 0x00000000#32, 0x00000000#32, false, .ro, false⟩,
  ⟨0x02, 1, 0x00000000#32, 0x00000077#32, 0x00000077#32, true, .rw, false⟩,
  ⟨0x03, 1, 0x00000000#32, 0x00000000#32, 0x00000000#32, false, .ro, false⟩,
  ⟨0x04, 1, 0x00000000#32, 0x00000001#32, 0x00000000#32, false, .rw1, false⟩,
  ⟨0x05, 1, 0x00000000#32, 0x00000001#32, 0x00000000#32, false, .rwp, false⟩,
  ⟨0x7F, 1, 0x00000000#32, 0x0000007F#32, 0x0000007F#32, false, .rw, false⟩]

/-- Rows of page 0x01. -/
def regRows01 : List RegRow := [
  ⟨0x00, 1, 0x00000000#32, 0x00000000#32, 0x00000000#32, false, .ro, false⟩,
  ⟨0x01, 1, 0x00000000#32, 0xFFFF0007#32, 0x00000000#32, false, .wo, false⟩,
  ⟨0x02, 1, 0x00000000#32, 0xFFFF007F#32, 0x00000000#32, false, .wo, false⟩,
  ⟨0x03, 1, 0x00000000#32, 0x00000000#32, 0x00000000#32, false, .ro, false⟩,
  ⟨0x04, 1, 0xC00A0004#32, 0xC0FF00FF#32, 0x40FF00FF#32, true, .rw, false⟩,
  ⟨0x05, 1, 0x00000000#32, 0xFFFF0003#32, 0x00000003#32, false, .rw, false⟩,
  ⟨0x06, 1, 0x00000000#32, 0x00000000#32, 0x00000000#32, false, .ro, false⟩,
  ⟨0x07, 1, 0x00010000#32, 0x003FFFFF#32, 0x003FFFFF#32, true, .rw, false⟩,
  ⟨0x08, 1, 0x00000000#32, 0xFFFFFFFF#32, 0xFFFFFFFF#32, true, .rw, false⟩,
  ⟨0x09, 1, 0x00000000#32, 0x00000000#32, 0x00000000#32, false, .ro, false⟩,
  ⟨0x0A, 1, 0x00000000#32, 0x800000FF#32, 0x000000FF#32, true, .rw, false⟩,
  ⟨0x0B, 1, 0x00000000#32, 0xFFFFFFFF#32, 0x00000000#32, false, .wo, false⟩,
  ⟨0x10, 1, 0x00000000#32, 0x00000000#32, 0x00000000#32, false, .ro, false⟩,
  ⟨0x50, 1, 0x000000FF#32, 0x000000FF#32, 0x000000FF#32, false, .rw, false⟩,
  ⟨0x60, 8, 0x00000000#32, 0x00000000#32, 0x00000000#32, false, .ro, false⟩,
  ⟨0x68, 1, 0x00000000#32, 0x000000FF#32, 0x00000000#32, false, .wo, false⟩]

/-- Rows of page 0x02. -/
def regRows02 : List RegRow := [
  ⟨0x00, 1, 0x00000000#32, 0x00000000#32, 0x00000000#32, false, .ro, false⟩,
  ⟨0x01, 6, 0x00000000#32, 0x00000000#32, 0x00000000#32, false, .ro, false⟩]

/-- Rows of page 0x03. -/
def regRows03 : List RegRow := [
  ⟨0x00, 16, 0x00000000#32, 0x00000177#32, 0x00000177#32, true, .rw, false⟩,
  ⟨0x10, 1, 0x00000000#32, 0x00000001#32, 0x00000000#32, false, .rw1, false⟩,
  ⟨0x11, 1, 0x0000001F#32, 0x0000001F#32, 0x0000001F#32, true, .rw, false⟩,
  ⟨0x20, 5, 0x00000000#32, 0x00000000#32, 0x00000000#32, false, .ro, false⟩,
  ⟨0x28, 5, 0x00000000#32, 0xFFFFFFFF#32, 0xFFFFFFFF#32, false, .rw, false⟩,
  ⟨0x30, 1, 0x00000000#32, 0x0000001F#32, 0x0000001F#32, false, .rw, false⟩,
  ⟨0x31, 1, 0x00000000#32, 0x01FFFFFF#32, 0x01FFFFFF#32, false, .rw, false⟩,
  ⟨0x40, 25, 0x00000000#32, 0x3FFF0000#32, 0x3FFF0000#32, false, .rw, false⟩,
  ⟨0x60, 8, 0x00000000#32, 0xFFFFFFFF#32, 0xFFFFFFFF#32, false, .rw, false⟩,
  ⟨0x68, 1, 0x00000000#32, 0x00000000#32, 0x00000000#32, false, .ro, false⟩]

/-- Rows of page 0x08. -/
def regRows08 : List RegRow := [
  ⟨0x00, 64, 0x00000000#32, 0x00000017#32, 0x00000017#32, true, .rw, false⟩]

/-- Rows of page 0x0A. -/
def regRows0A : List RegRow := [
  ⟨0x00, 1, 0x00000000#32, 0x80000002#32, 0x00000000#32, true, .rw, false⟩,
  ⟨0x01, 1, 0x00000000#32, 0x00000000#32, 0x00000000#32, false, .ro, false⟩,
  ⟨0x02, 1, 0x00000000#32, 0x0000007F#32, 0x00000000#32, false, .rw, false⟩,
  ⟨0x03, 1, 0x00000000#32, 0x00000000#32, 0x00000000#32, false, .ro, false⟩,
  ⟨0x04, 3, 0x00000000#32, 0x00000000#32, 0x00000000#32, false, .ro, true⟩,
  ⟨0x07, 1, 0x00000000#32, 0x00000000#32, 0x00000000#32, false, .ro, false⟩,
  ⟨0x10, 4, 0x00000000#32, 0x00000000#32, 0x00000000#32, false, .ro, false⟩,
  ⟨0x14, 4, 0x00000000#32, 0x00000000#32, 0x00000000#32, false, .ro, false⟩,
  ⟨0x18, 4, 0x00000000#32, 0x00000000#32, 0x00000000#32, false, .ro, false⟩,
  ⟨0x1C, 4, 0x00000000#32, 0xFFFFFFFF#32, 0x00000000#32, false, .wc, false⟩,
  ⟨0x20, 4, 0x00000000#32, 0xFFFFFFFF#32, 0x00000000#32, false, .wo, false⟩,
  ⟨0x24, 1, 0x00000000#32, 0x0000000F#32, 0x00000000#32, false, .rw, false⟩]

/-- Rows of page 0x10 and the further pages of its kind. -/
def regRows10 : List RegRow := [
  ⟨0x00, 1, 0x00000000#32, 0x83FFE000#32, 0x03FFE000#32, true, .rw, false⟩,
  ⟨0x01, 1, 0x00000000#32, 0x0000001D#32, 0x00000000#32, false, .rw, false⟩,
  ⟨0x02, 1, 0x00000000#32, 0x00000000#32, 0x00000000#32, false, .ro, false⟩,
  ⟨0x03, 1, 0x00000000#32, 0x00000000#32, 0x00000000#32, false, .ro, false⟩,
  ⟨0x04, 3, 0x00000000#32, 0xFFFFFFFF#32, 0x00000000#32, false, .rw, true⟩,
  ⟨0x07, 3, 0x00000000#32, 0x00000000#32, 0x00000000#32, false, .ro, true⟩,
  ⟨0x0A, 1, 0x00000000#32, 0x00000000#32, 0x00000000#32, false, .ro, false⟩,
  ⟨0x0B, 3, 0x00000000#32, 0x00000000#32, 0x00000000#32, false, .ro, true⟩,
  ⟨0x0E, 1, 0x009C4000#32, 0xFFFFFFFF#32, 0x00000000#32, true, .rw, false⟩,
  ⟨0x0F, 1, 0x003E8000#32, 0xFFFFFFFF#32, 0x00000000#32, true, .rw, false⟩,
  ⟨0x10, 1, 0x00000000#32, 0xFFFFFFFF#32, 0xFFFFFFFF#32, true, .rw, false⟩,
  ⟨0x11, 1, 0x00000000#32, 0xFFFFFFFF#32, 0xFFFFFFFF#32, true, .rw, false⟩,
  ⟨0x12, 1, 0x009C4000#32, 0x00000000#32, 0x00000000#32, false, .ro, false⟩,
  ⟨0x13, 1, 0x009C4000#32, 0x00000000#32, 0x00000000#32, false, .ro, false⟩,
  ⟨0x14, 3, 0x00000000#32, 0xFFFFFFFF#32, 0xFFFFFFFF#32, true, .rw, true⟩,
  ⟨0x17, 3, 0x00000000#32, 0xFFFFFFFF#32, 0xFFFFFFFF#32, true, .rw, true⟩,
  ⟨0x1A, 3, 0x00000000#32, 0xFFFFFFFF#32, 0xFFFFFFFF#32, true, .rw, true⟩,
  ⟨0x1D, 3, 0x00000000#32, 0xFFFFFFFF#32, 0xFFFFFFFF#32, true, .rw, true⟩,
  ⟨0x20, 1, 0x000001F4#32, 0x0000FFFF#32, 0x00000000#32, true, .rw, false⟩,
  ⟨0x21, 1, 0x00400001#32, 0xFFFFFFFF#32, 0xFFFFFFFF#32, true, .rw, false⟩,
  ⟨0x22, 1, 0x00001000#32, 0x07FFFFFF#32, 0x07FFFFFF#32, true, .rw, false⟩,
  ⟨0x23, 1, 0x00000000#32, 0x00000000#32, 0x00000000#32, false, .ro, false⟩,
  ⟨0x24, 3, 0x00000000#32, 0xFFFFFFFF#32, 0x00000000#32, false, .rw, true⟩,
  ⟨0x27, 3, 0x00000000#32, 0xFFFFFFFF#32, 0x00000000#32, false, .rw, true⟩,
  ⟨0x2A, 1, 0x00000000#32, 0x00000000#32, 0x00000000#32, false, .ro, false⟩,
  ⟨0x2B, 1, 0x00000000#32, 0xFFFFFFFF#32, 0x00000000#32, false, .rw, false⟩,
  ⟨0x2C, 1, 0x00000000#32, 0x00000000#32, 0x00000000#32, false, .ro, false⟩,
  ⟨0x2D, 3, 0x00000000#32, 0x00000000#32, 0x00000000#32, false, .ro, true⟩]

/-- Rows of page 0x18. -/
def regRows18 : List RegRow := [
  ⟨0x00, 1, 0x00000000#32, 0x000000FF#32, 0x000000FF#32, false, .rw, false⟩,
  ⟨0x01, 1, 0x00000100#32, 0x00000000#32, 0x00000000#32, false, .ro, false⟩,
  ⟨0x02, 1, 0x00000000#32, 0x000037FF#32, 0x00000000#32, false, .wo, false⟩,
  ⟨0x03, 1, 0x00000000#32, 0x00000000#32, 0x00000000#32, false, .ro, false⟩,
  ⟨0x04, 1, 0x01000000#32, 0x00000000#32, 0x00000000#32, false, .ro, false⟩,
  ⟨0x08, 8, 0xFFFFFFFF#32, 0x00000000#32, 0x00000000#32, false, .ro, false⟩,
  ⟨0x10, 64, 0x00000000#32, 0xFFFFFFFF#32, 0x00000000#32, false, .rw, false⟩]

/-- Rows of page 0x20 and the further pages of its kind. -/
def regRows20 : List RegRow := [
  ⟨0x00, 1, 0x00001C00#32, 0x873FFC03#32, 0x073FFC03#32, true, .rw, false⟩,
  ⟨0x01, 1, 0x00000000#32, 0x00000000#32, 0x00000000#32, false, .ro, false⟩,
  ⟨0x02, 1, 0x00002710#32, 0x00FFFFFF#32, 0x00FFFFFF#32, true, .rw, false⟩,
  ⟨0x03, 1, 0x00000000#32, 0x000FFFFF#32, 0x00000000#32, true, .rw, false⟩,
  ⟨0x04, 1, 0x00000000#32, 0x000FFFFF#32, 0x00000000#32, true, .rw, false⟩,
  ⟨0x05, 1, 0x00000000#32, 0xFFFFFFFF#32, 0x00000000#32, true, .rw, false⟩,
  ⟨0x06, 1, 0x00000000#32, 0xFFFFFFFF#32, 0x00000000#32, true, .rw, false⟩,
  ⟨0x07, 1, 0x00000000#32, 0x0000FFFF#32, 0x00000000#32, true, .rw, false⟩,
  ⟨0x08, 1, 0x00000000#32, 0xFFFFFFFF#32, 0xFFFFFFFF#32, true, .rw, false⟩,
  ⟨0x09, 1, 0x32000000#32, 0x7FFFFFFF#32, 0x7FFFFFFF#32, true, .rw, false⟩,
  ⟨0x0A, 1, 0x00000000#32, 0x00FFFFFF#32, 0x00FFFFFF#32, true, .rw, false⟩,
  ⟨0x0B, 1, 0x00000000#32, 0x00FFFFFF#32, 0x00FFFFFF#32, true, .rw, false⟩,
  ⟨0x0C, 1, 0x00000064#32, 0x0000FFFF#32, 0x0000FFFF#32, true, .rw, false⟩,
  ⟨0x0D, 1, 0x08400200#32, 0xFFFF03FF#32, 0x00000000#32, true, .rw, false⟩,
  ⟨0x0E, 1, 0x00007999#32, 0x0000FFFF#32, 0x0000FFFF#32, true, .rw, false⟩,
  ⟨0x0F, 1, 0x00002AF8#32, 0x0000FFFF#32, 0x0000FFFF#32, true, .rw, false⟩,
  ⟨0x10, 1, 0x00000000#32, 0x80FFFFFF#32, 0x00FFFFFF#32, true, .rw, false⟩,
  ⟨0x11, 1, 0x00000000#32, 0x00000FFF#32, 0x00000000#32, true, .rw, false⟩,
  ⟨0x12, 1, 0x00000000#32, 0x00000000#32, 0x00000000#32, false, .ro, false⟩,
  ⟨0x13, 1, 0x00000000#32, 0x00000000#32, 0x00000000#32, false, .ro, false⟩,
  ⟨0x14, 1, 0x00000000#32, 0x00000000#32, 0x00000000#32, false, .ro, false⟩,
  ⟨0x15, 1, 0x00000000#32, 0x00000000#32, 0x00000000#32, false, .ro, false⟩,
  ⟨0x16, 1, 0x00000000#32, 0x00000000#32, 0x00000000#32, false, .ro, false⟩,
  ⟨0x17, 1, 0x00000000#32, 0x00000000#32, 0x00000000#32, false, .ro, false⟩,
  ⟨0x18, 1, 0x00000000#32, 0x00000000#32, 0x00000000#32, false, .ro, false⟩,
  ⟨0x19, 1, 0x00000000#32, 0x00000000#32, 0x00000000#32, false, .ro, false⟩,
  ⟨0x1A, 1, 0x00000000#32, 0x00000000#32, 0x00000000#32, false, .ro, false⟩,
  ⟨0x1B, 1, 0x00000000#32, 0x00000000#32, 0x00000000#32, false, .ro, false⟩,
  ⟨0x1C, 1, 0x00000000#32, 0x00000000#32, 0x00000000#32, false, .ro, false⟩,
  ⟨0x1D, 1, 0x00000000#32, 0x00000000#32, 0x00000000#32, false, .ro, false⟩,
  ⟨0x1E, 1, 0x00000000#32, 0x00000000#32, 0x00000000#32, false, .ro, false⟩,
  ⟨0x1F, 1, 0x00000000#32, 0x000003FF#32, 0x00000000#32, false, .rw, false⟩,
  ⟨0x20, 1, 0x00000000#32, 0x0000FFFF#32, 0x0000FFFF#32, false, .rw, false⟩,
  ⟨0x21, 1, 0x00000000#32, 0xC0000FFF#32, 0x00000000#32, false, .rw, false⟩,
  ⟨0x22, 1, 0x00000000#32, 0x000FFFFF#32, 0x00000000#32, false, .rw, false⟩,
  ⟨0x23, 1, 0x00000000#32, 0xFFFFFFFF#32, 0x00000000#32, false, .rw, false⟩,
  ⟨0x40, 1, 0x00000A00#32, 0xC000FF00#32, 0x0000FF00#32, true, .rw, false⟩,
  ⟨0x41, 1, 0x00000000#32, 0x00000000#32, 0x00000000#32, false, .ro, false⟩,
  ⟨0x42, 1, 0x00000000#32, 0x0000030F#32, 0x0000030F#32, true, .rw, false⟩,
  ⟨0x43, 1, 0x0000A000#32, 0x00FFFFFF#32, 0x00FFFFFF#32, true, .rw, false⟩,
  ⟨0x44, 1, 0x004000C8#32, 0x00FFFFFF#32, 0x00FFFFFF#32, true, .rw, false⟩,
  ⟨0x45, 1, 0x08600400#32, 0xFFFFFFFF#32, 0x00000000#32, true, .rw, false⟩,
  ⟨0x46, 1, 0x00000014#32, 0x000000FF#32, 0x00000000#32, true, .rw, false⟩,
  ⟨0x47, 1, 0x08400000#32, 0xFFFFF000#32, 0x00000000#32, true, .rw, false⟩,
  ⟨0x48, 1, 0x00000000#32, 0xFFFFFFFF#32, 0x00000000#32, true, .rw, false⟩,
  ⟨0x49, 1, 0x00000000#32, 0xFFFFFFFF#32, 0x00000000#32, true, .rw, false⟩,
  ⟨0x4A, 1, 0x02000000#32, 0xFFFFFFFF#32, 0x00000000#32, true, .rw, false⟩,
  ⟨0x4B, 1, 0x0500051F#32, 0xFF00FFFF#32, 0x00000000#32, true, .rw, false⟩,
  ⟨0x4C, 1, 0x00000000#32, 0x00000000#32, 0x00000000#32, false, .ro, false⟩,
  ⟨0x50, 1, 0x00000000#32, 0x00000000#32, 0x00000000#32, false, .ro, false⟩,
  ⟨0x51, 3, 0x00000000#32, 0x00000000#32, 0x00000000#32, false, .ro, true⟩,
  ⟨0x54, 1, 0x00000000#32, 0x00000000#32, 0x00000000#32, false, .ro, false⟩,
  ⟨0x55, 1, 0x00000000#32, 0x00000000#32, 0x00000000#32, false, .ro, false⟩,
  ⟨0x56, 1, 0x00000000#32, 0x00000000#32, 0x00000000#32, false, .ro, false⟩,
  ⟨0x57, 1, 0x00000000#32, 0x00000000#32, 0x00000000#32, false, .ro, false⟩,
  ⟨0x58, 1, 0x00000000#32, 0x00000000#32, 0x00000000#32, false, .ro, false⟩,
  ⟨0x59, 1, 0x00000000#32, 0x00000000#32, 0x00000000#32, false, .ro, false⟩,
  ⟨0x5A, 1, 0x00000000#32, 0x00000000#32, 0x00000000#32, false, .ro, false⟩,
  ⟨0x5B, 1, 0x00000000#32, 0x00000000#32, 0x00000000#32, false, .ro, false⟩,
  ⟨0x5C, 1, 0x00000000#32, 0x00000000#32, 0x00000000#32, false, .ro, false⟩]

/-- Rows of page 0x28 and the further pages of its kind. -/
def regRows28 : List RegRow := [
  ⟨0x00, 1, 0x00041000#32, 0xC0FFFF00#32, 0x40FFFF00#32, true, .rw, false⟩,
  ⟨0x01, 1, 0x00280028#32, 0x01FF01FF#32, 0x01FF01FF#32, true, .rw, false⟩,
  ⟨0x02, 1, 0x00500050#32, 0x03FF03FF#32, 0x03FF03FF#32, true, .rw, false⟩,
  ⟨0x03, 1, 0x00001428#32, 0x0000FFFF#32, 0x0000FFFF#32, true, .rw, false⟩,
  ⟨0x04, 1, 0x03200320#32, 0x03FF03FF#32, 0x03FF03FF#32, true, .rw, false⟩,
  ⟨0x05, 1, 0x00001F40#32, 0x00003FFF#32, 0x00000000#32, true, .rw, false⟩,
  ⟨0x06, 1, 0x00001F40#32, 0x00000000#32, 0x00000000#32, false, .ro, false⟩,
  ⟨0x07, 1, 0x00000000#32, 0x00000000#32, 0x00000000#32, false, .ro, false⟩,
  ⟨0x08, 1, 0x00000000#32, 0x00000000#32, 0x00000000#32, false, .ro, false⟩,
  ⟨0x09, 1, 0x00000000#32, 0x00000000#32, 0x00000000#32, false, .ro, false⟩,
  ⟨0x0A, 1, 0x00000000#32, 0x00000031#32, 0x00000000#32, false, .wo, false⟩,
  ⟨0x0B, 1, 0x00000000#32, 0x00000000#32, 0x00000000#32, false, .ro, false⟩,
  ⟨0x0C, 1, 0x00000000#32, 0x00000000#32, 0x00000000#32, false, .ro, false⟩,
  ⟨0x0D, 1, 0x00000000#32, 0x00000000#32, 0x00000000#32, false, .ro, false⟩,
  ⟨0x10, 4, 0x00000000#32, 0xFE07FFFF#32, 0x00000000#32, true, .rw, false⟩,
  ⟨0x14, 4, 0x00000000#32, 0xFE07FFFF#32, 0x00000000#32, true, .rw, false⟩]

/-- Rows of page 0x30 and the further pages of its kind. -/
def regRows30 : List RegRow := [
  ⟨0x00, 1, 0x000A0300#32, 0x80FF0F00#32, 0x00FF0F00#32, true, .rw, false⟩,
  ⟨0x01, 1, 0x44444444#32, 0xFFFFFFFF#32, 0xFFFFFFFF#32, true, .rw, false⟩,
  ⟨0x02, 1, 0x0202030F#32, 0x031F1F1F#32, 0x031F1F1F#32, true, .rw, false⟩,
  ⟨0x03, 1, 0x00000000#32, 0x00000000#32, 0x00000000#32, false, .ro, false⟩,
  ⟨0x04, 1, 0x00000000#32, 0x00000000#32, 0x00000000#32, false, .ro, false⟩,
  ⟨0x05, 1, 0x00000000#32, 0x00000007#32, 0x00000000#32, false, .wo, false⟩,
  ⟨0x06, 1, 0x00000000#32, 0x00000000#32, 0x00000000#32, false, .ro, false⟩,
  ⟨0x07, 1, 0x00000000#32, 0x00000000#32, 0x00000000#32, false, .ro, false⟩,
  ⟨0x08, 1, 0x00000000#32, 0x0000001F#32, 0x00000000#32, false, .rw, false⟩]

/-- Rows of page 0x38. -/
def regRows38 : List RegRow := [
  ⟨0x00, 1, 0x00FF0101#32, 0x80FF030F#32, 0x00FF030F#32, true, .rw, false⟩,
  ⟨0x01, 1, 0x00000000#32, 0x00000000#32, 0x00000000#32, false, .ro, false⟩,
  ⟨0x02, 1, 0x00000000#32, 0x00000000#32, 0x00000000#32, false, .ro, false⟩,
  ⟨0x03, 1, 0x00000000#32, 0x00000000#32, 0x00000000#32, false, .ro, false⟩]

/-- Rows of page 0x40. -/
def regRows40 : List RegRow := [
  ⟨0x00, 1, 0x00000000#32, 0x80000000#32, 0x00000000#32, true, .rw, false⟩,
  ⟨0x01, 1, 0x00000000#32, 0x00000000#32, 0x00000000#32, false, .ro, false⟩,
  ⟨0x10, 16, 0x00000000#32, 0xC0000001#32, 0x00000001#32, true, .rw, false⟩,
  ⟨0x20, 16, 0x00000000#32, 0x0000FFFF#32, 0x00000000#32, true, .rw, false⟩,
  ⟨0x30, 16, 0x00000000#32, 0x00000000#32, 0x00000000#32, false, .ro, false⟩,
  ⟨0x40, 16, 0x00000000#32, 0x00000000#32, 0x00000000#32, false, .ro, false⟩,
  ⟨0x50, 16, 0x00000000#32, 0x00000000#32, 0x00000000#32, false, .ro, false⟩]

/-- Rows of page 0x41 and the further pages of its kind. -/
def regRows41 : List RegRow := [
  ⟨0x00, 1, 0x00010000#32, 0xC31F0001#32, 0x431F0001#32, true, .rw, false⟩,
  ⟨0x01, 1, 0x00000000#32, 0x00001F1F#32, 0x00000000#32, false, .wo, false⟩,
  ⟨0x02, 1, 0x00000000#32, 0x00000000#32, 0x00000000#32, false, .ro, false⟩,
  ⟨0x03, 1, 0x00000000#32, 0x00000000#32, 0x00000000#32, false, .ro, false⟩,
  ⟨0x10, 20, 0x00000000#32, 0x00FFF7FF#32, 0x00FFF7FF#32, true, .rw, false⟩,
  ⟨0x30, 20, 0x00000000#32, 0x00000000#32, 0x00000000#32, false, .ro, false⟩,
  ⟨0x50, 20, 0x00000000#32, 0x00FFFFFF#32, 0x00FFFFFF#32, true, .rw, false⟩,
  ⟨0x68, 20, 0x00400000#32, 0x00FFFFFF#32, 0x00FFFFFF#32, true, .rw, false⟩]

/-- Rows of page 0x45. -/
def regRows45 : List RegRow := [
  ⟨0x00, 1, 0x00000000#32, 0x80000000#32, 0x00000000#32, true, .rw, false⟩,
  ⟨0x01, 1, 0x00000000#32, 0x00000000#32, 0x00000000#32, false, .ro, false⟩,
  ⟨0x02, 1, 0x00000000#32, 0x00000003#32, 0x00000000#32, false, .wo, false⟩,
  ⟨0x03, 1, 0x00700000#32, 0x00FFFFFF#32, 0x00000000#32, true, .rw, false⟩]

/-- Rows of page 0x48. -/
def regRows48 : List RegRow := [
  ⟨0x00, 1, 0x00000000#32, 0x80000000#32, 0x00000000#32, true, .rw, false⟩,
  ⟨0x01, 1, 0xFFFF0000#32, 0x00000000#32, 0x00000000#32, false, .ro, false⟩,
  ⟨0x02, 1, 0x00000000#32, 0x00000000#32, 0x00000000#32, false, .ro, false⟩,
  ⟨0x03, 1, 0xFFFF0000#32, 0x00000000#32, 0x00000000#32, false, .ro, false⟩,
  ⟨0x10, 16, 0x00000000#32, 0xB37333FF#32, 0xB37333FF#32, true, .rw, false⟩,
  ⟨0x20, 16, 0x00000000#32, 0x00000000#32, 0x00000000#32, false, .ro, false⟩,
  ⟨0x30, 16, 0x00000000#32, 0x00000000#32, 0x00000000#32, false, .ro, false⟩]

/-- Rows of page 0x50. -/
def regRows50 : List RegRow := [
  ⟨0x00, 1, 0x00000000#32, 0x00000000#32, 0x00000000#32, false, .ro, false⟩,
  ⟨0x01, 1, 0x00000000#32, 0x00000000#32, 0x00000000#32, false, .ro, false⟩,
  ⟨0x02, 1, 0x00000000#32, 0x00000000#32, 0x00000000#32, false, .ro, false⟩,
  ⟨0x03, 1, 0x00000000#32, 0x00000000#32, 0x00000000#32, false, .ro, false⟩,
  ⟨0x04, 1, 0x00000000#32, 0x00000000#32, 0x00000000#32, false, .ro, false⟩,
  ⟨0x05, 1, 0x00000000#32, 0x00000000#32, 0x00000000#32, false, .ro, false⟩,
  ⟨0x06, 1, 0x00000000#32, 0x00000000#32, 0x00000000#32, false, .ro, false⟩,
  ⟨0x07, 1, 0x00000000#32, 0x00000000#32, 0x00000000#32, false, .ro, false⟩,
  ⟨0x10, 8, 0x00000000#32, 0x00000000#32, 0x00000000#32, false, .ro, false⟩]

/-- Rows of page 0x58. -/
def regRows58 : List RegRow := [
  ⟨0x00, 1, 0x0000000F#32, 0x8000000F#32, 0x0000000F#32, true, .rw, false⟩,
  ⟨0x01, 1, 0x00000000#32, 0x00000000#32, 0x00000000#32, false, .ro, false⟩,
  ⟨0x02, 1, 0x000007FF#32, 0x00000000#32, 0x00000000#32, false, .ro, false⟩,
  ⟨0x04, 4, 0x00000000#32, 0x00000000#32, 0x00000000#32, false, .ro, false⟩,
  ⟨0x08, 4, 0x00000000#32, 0x00000000#32, 0x00000000#32, false, .ro, false⟩,
  ⟨0x0C, 4, 0x00000000#32, 0x00000000#32, 0x00000000#32, false, .ro, false⟩,
  ⟨0x10, 1, 0x00000064#32, 0x000103FF#32, 0x00000000#32, true, .rw, false⟩,
  ⟨0x11, 1, 0x00000010#32, 0x0000FFFF#32, 0x00000000#32, true, .rw, false⟩,
  ⟨0x14, 1, 0x00000000#32, 0x00000000#32, 0x00000000#32, false, .ro, false⟩,
  ⟨0x15, 1, 0x00000000#32, 0x00000000#32, 0x00000000#32, false, .ro, false⟩,
  ⟨0x18, 1, 0x00000000#32, 0x00000000#32, 0x00000000#32, false, .ro, false⟩,
  ⟨0x19, 1, 0x00000000#32, 0x00000000#32, 0x00000000#32, false, .ro, false⟩,
  ⟨0x1A, 1, 0x00000000#32, 0x00000000#32, 0x00000000#32, false, .ro, false⟩,
  ⟨0x1C, 1, 0x00000000#32, 0x00000000#32, 0x00000000#32, false, .ro, false⟩,
  ⟨0x1D, 1, 0x00000000#32, 0x00000000#32, 0x00000000#32, false, .ro, false⟩]

/-- Rows of page 0x60. -/
def regRows60 : List RegRow := [
  ⟨0x00, 1, 0x00000003#32, 0x800111FF#32, 0x000111FF#32, true, .rw, false⟩,
  ⟨0x01, 1, 0x00050202#32, 0x00FFFFFF#32, 0x00FFFFFF#32, true, .rw, false⟩,
  ⟨0x02, 1, 0x000000F0#32, 0x00000000#32, 0x00000000#32, false, .ro, false⟩,
  ⟨0x03, 1, 0x00000000#32, 0xFFFFFFFF#32, 0x00000000#32, false, .rw, false⟩,
  ⟨0x04, 1, 0x00000000#32, 0x000F0137#32, 0x00000000#32, false, .wo, false⟩,
  ⟨0x05, 1, 0x00000000#32, 0x00000000#32, 0x00000000#32, false, .ro, false⟩,
  ⟨0x06, 1, 0x00000000#32, 0x00000003#32, 0x00000000#32, false, .wo, false⟩]

/-- Rows of page 0x61. -/
def regRows61 : List RegRow := [
  ⟨0x00, 1, 0x00000000#32, 0x80010000#32, 0x00000000#32, true, .rw, false⟩,
  ⟨0x01, 1, 0x00000000#32, 0x7F00033D#32, 0x00000000#32, false, .rw, false⟩,
  ⟨0x02, 1, 0x00000000#32, 0x00FFFFFF#32, 0x00000000#32, false, .rw, false⟩,
  ⟨0x03, 1, 0x00000000#32, 0xC001FFFF#32, 0x00000000#32, false, .rw, false⟩,
  ⟨0x04, 1, 0x00000000#32, 0xFFFF0001#32, 0x00000000#32, false, .rw, false⟩,
  ⟨0x05, 1, 0x00000000#32, 0x00000000#32, 0x00000000#32, false, .ro, false⟩,
  ⟨0x08, 3, 0x00000000#32, 0xFFFFFFFF#32, 0x00000000#32, false, .rw, true⟩,
  ⟨0x0B, 3, 0x00000000#32, 0xFFFFFFFF#32, 0x00000000#32, false, .rw, true⟩,
  ⟨0x0E, 1, 0x00000000#32, 0xFFFFFFFF#32, 0x00000000#32, false, .rw, false⟩]

/-- Rows of page 0x68. -/
def regRows68 : List RegRow := [
  ⟨0x00, 1, 0x00000000#32, 0x80000000#32, 0x00000000#32, true, .rw, false⟩,
  ⟨0x01, 1, 0x00000000#32, 0x00000000#32, 0x00000000#32, false, .ro, false⟩,
  ⟨0x02, 1, 0x00000000#32, 0x00001FFF#32, 0x00000000#32, false, .rw, false⟩,
  ⟨0x03, 1, 0x00000000#32, 0x00000001#32, 0x00000000#32, false, .wo, false⟩,
  ⟨0x10, 8, 0x00000000#32, 0xFFFFFFFF#32, 0x00000000#32, false, .rw, false⟩,
  ⟨0x18, 1, 0x00000000#32, 0x00000000#32, 0x00000000#32, false, .ro, false⟩]

/-- Rows of page 0x70. -/
def regRows70 : List RegRow := [
  ⟨0x00, 1, 0x00000000#32, 0x80000003#32, 0x00000000#32, true, .rw, false⟩,
  ⟨0x01, 1, 0x00000000#32, 0x00000000#32, 0x00000000#32, false, .ro, false⟩,
  ⟨0x04, 3, 0x00000000#32, 0xFFFFFFFF#32, 0x00000000#32, false, .rw, true⟩,
  ⟨0x07, 1, 0x00000000#32, 0xFFFFFFFF#32, 0x00000000#32, false, .rw, false⟩,
  ⟨0x08, 3, 0x00000000#32, 0xFFFFFFFF#32, 0x00000000#32, false, .rw, true⟩,
  ⟨0x0B, 3, 0x00000000#32, 0xFFFFFFFF#32, 0x00000000#32, false, .rw, true⟩,
  ⟨0x0E, 1, 0x00000000#32, 0x00000000#32, 0x00000000#32, false, .ro, false⟩]

/-- The rows of a register page (R5, R7). Pages 0x04 and 0x05 hold the block channels, which R130 lays out. -/
def regRows (p : Nat) : List RegRow :=
  if p = 0x00 then regRows00
  else if p = 0x01 then regRows01
  else if p = 0x02 then regRows02
  else if p = 0x03 then regRows03
  else if 0x08 ≤ p ∧ p < 0x0A then regRows08
  else if p = 0x0A then regRows0A
  else if 0x10 ≤ p ∧ p < 0x18 then regRows10
  else if p = 0x18 then regRows18
  else if 0x20 ≤ p ∧ p < 0x28 then regRows20
  else if 0x28 ≤ p ∧ p < 0x30 then regRows28
  else if 0x30 ≤ p ∧ p < 0x38 then regRows30
  else if p = 0x38 then regRows38
  else if p = 0x40 then regRows40
  else if 0x41 ≤ p ∧ p < 0x45 then regRows41
  else if p = 0x45 then regRows45
  else if p = 0x48 then regRows48
  else if p = 0x50 then regRows50
  else if p = 0x58 then regRows58
  else if p = 0x60 then regRows60
  else if p = 0x61 then regRows61
  else if p = 0x68 then regRows68
  else if p = 0x70 then regRows70
  else []

/-- The row that covers a register address, if the address is implemented. -/
def regRow (k : Nat) : Option RegRow :=
  (regRows (k / 128)).find? fun r => r.index ≤ k % 128 && k % 128 < r.index + r.count

/-- The default reaction and FPIN of a source as FC_SRC holds them (R333): REACT in [2:0], FPIN in bit 4. -/
def fcSrcReset (s : Nat) : Word :=
  let react := if s = 11 ∨ s = 15 ∨ (64 ≤ s ∧ s < 80) then 3
    else if s = 14 ∨ s = 16 ∨ s = 21 then 2
    else if 126 ≤ s then 0 else 1
  let fpin := s = 7 ∨ (11 ≤ s ∧ s ≤ 19) ∨ (21 ≤ s ∧ s ≤ 26) ∨ (29 ≤ s ∧ s < 40) ∨ (72 ≤ s ∧ s < 80) ∨ (88 ≤ s ∧ s < 96)
  wordOfNat (react + if fpin then 16 else 0)

/-- The bindings after chip reset (R112): entries of BCH0 to BCH7, then WCH0 to WCH7. -/
def bindReset (i : Nat) : Word :=
  match i with
  | 0 => 0x10#32 | 1 => 0x01#32 | 2 => 0x12#32 | 3 => 0x21#32 | 4 => 0x14#32 | 5 => 0x41#32
  | 8 => 0x13#32 | 9 => 0x31#32 | 10 => 0x32#32 | 11 => 0x23#32
  | _ => 0x77#32

/-- The reset value of the register at an address (R7); an unimplemented address reads 0 (R86). -/
def regReset (k : Nat) : Word :=
  let p := k / 128
  let i := k % 128
  if p = 0x08 ∨ p = 0x09 then (if i < 64 then fcSrcReset ((p - 8) * 64 + i) else 0#32)
  else if p = 0x03 ∧ i < 16 then bindReset i
  else if 0x10 ≤ p ∧ p < 0x18 ∧ i = 0x14 then 0xFFFF8000#32
  else if 0x10 ≤ p ∧ p < 0x18 ∧ i = 0x17 then 0x00007FFF#32
  else if 0x10 ≤ p ∧ p < 0x18 ∧ i = 0x18 then 0xFFFFFFFF#32
  else match regRow k with
    | some r => r.reset
    | none => 0#32

/-- The address of the EN bit's register of the block that holds an address, if the block has one (R103): bit 31 of that
register. The mailbox block (R111), the host port (R108), the system page and the context window have none; SYS_SUPCFG
holds its own. -/
def enReg (k : Nat) : Option Nat :=
  let p := k / 128
  let i := k % 128
  if p = 0x01 then (if i = 0x04 then some (regKey 0x01 0x04) else none)
  else if p = 0x08 ∨ p = 0x09 ∨ p = 0x0A then some (regKey 0x0A 0)
  else if 0x20 ≤ p ∧ p < 0x28 then some (regKey p (if i < 0x40 then 0 else 0x40))
  else if p = 0x38 ∨ (0x10 ≤ p ∧ p < 0x18) ∨ (0x28 ≤ p ∧ p < 0x38) ∨ (0x40 ≤ p ∧ p ≤ 0x45) ∨ p = 0x48 ∨ p = 0x58
      ∨ p = 0x60 ∨ p = 0x61 ∨ p = 0x68 ∨ p = 0x70 then some (regKey p 0)
  else none

end Sys2Proof.Machine
end

