-- ==== Sys2Proof/Machine/State.lean ====
section
/-! DEFINITION. The state of the VBH8A as plain data, its faults and refusals, and the state after reset.

A register that software or hardware holds as a word lives in `regs`, keyed by page * 128 + index; an unlisted register reads its
reset value. What the spec gives the machine beside its registers stands in one structure per block. -/

namespace Sys2Proof.Machine

/-! ### What the commanding master sees -/

/-- A regular frame as it leaves a port (R350): the fields of W0 and W1 and the payload; `bad`: ended with the complement of its
CRC (R351). -/
structure TxFrame where
  cls     : Nat
  kind    : Nat
  dest    : LinkAddr
  src     : LinkAddr
  pres    : Bool := false
  txn     : Nat := 0
  kdata   : Nat := 0
  payload : List Word := []
  bad     : Bool := false
  deriving DecidableEq, Repr

/-- What a Bobbin port sent: a regular frame, or the two copies of a stitch frame with whether each passes R351 (R352, R354). -/
inductive Sent where
  | regular (port : Nat) (f : TxFrame)
  | stitch (port : Nat) (dest : LinkAddr) (act txn sseq arg : Nat) (first second : Bool)
  deriving DecidableEq, Repr

/-- What the last command answered its master: words read, a bus error, the status byte of a read frame, and the Bobbin frames that
left the device. The model's own. -/
structure Out where
  words  : List Word := []
  busErr : Bool := false
  status : Option Byte := none
  sent   : List Sent := []
  deriving DecidableEq, Repr

/-! ### Chapters 01 to 03: time, clocks, supply, resets, power -/

/-- Where the EXEC core stands: in its boot ROM after a chip reset, in the baseline or slot firmware, or in reset within a
handover (R32, R377, R381). -/
inductive ExecPhase where
  | bootRom | firmware | handover
  deriving DecidableEq, Repr

/-- System state beside the registers of pages 0x00 to 0x02 and 0x70. -/
structure Sys where
  /-- SYS_TIME in ns (R21). -/
  time : Nat := 0
  /-- The signed remainder of R21, in 10^-9 of 5 ns. -/
  rem : Int := 0
  /-- SYS_TIME at which the next motion tick falls due (R9). -/
  tickDue : Nat := 25000
  /-- SYS cycles since the last motion tick, or since the end of the chip reset. -/
  sinceTick : Nat := 0
  /-- A tack's common injected trigger has been sent and has not arrived (R246). -/
  comTrig : Bool := false
  /-- SYS_TIME at the last motion tick. -/
  lastTick : Nat := 0
  /-- A motion tick has occurred since the chip reset. -/
  ticked : Bool := false
  /-- SYS cycles since the chip reset. -/
  cyc : Nat := 0
  /-- Monitor n's last window lay out of range (R18). -/
  monOut : BitVec 6 := 0#6
  /-- Monitor n fails: two consecutive windows out of range (R18). -/
  monFail : BitVec 6 := 0#6
  /-- PLL-A, PLL-B have lost lock (R19, R20). -/
  pllLost : BitVec 2 := 0#2
  /-- The outputs of PLL-A, PLL-B have stopped (R93). -/
  pllStop : BitVec 2 := 0#2
  /-- The crystal, RC-S and RC-H have stopped (R17, R20). -/
  xtalStop : Bool := false
  rcsStop : Bool := false
  rchStop : Bool := false
  /-- A chip reset is in progress (R70, R435). -/
  chipReset : Bool := false
  /-- The chip reset in progress is a POR or a BOR: the device drives RESET_N low (R63, R64). -/
  cold : Bool := false
  /-- Causes gathered for SYS_RSTCAUSE while a chip reset is in progress (R71). -/
  rstPend : Word := 0#32
  /-- Block resets in progress: their pages (R70). -/
  blockRst : List Nat := []
  /-- R48: the device stays in its boot ROM. -/
  strapStuck : Bool := false
  /-- The straps have been latched since the chip reset (R47). -/
  strapped : Bool := false
  exec : ExecPhase := .bootRom
  /-- The LINK core runs (R377, R383). -/
  linkRun : Bool := false
  /-- The device is in SLEEP (R74). -/
  asleep : Bool := false
  /-- Wake sources held by the AON logic (R76), laid out as SYS_WAKESRC. -/
  wakeHeld : Word := 0#32
  /-- SYS_TIME at which the wake resumes (R77). -/
  wakeTime : Option Nat := none
  /-- SYS cycle of the last restart of the watchdog (R72). -/
  wdSince : Nat := 0
  /-- Firmware has enabled a bridge since the chip reset (R44). -/
  bridged : Bool := false
  /-- SYS cycle at which ride-through ends, once WARN has cleared (R68). -/
  rtEnd : Option Nat := none
  /-- A reverse connection is present (R58). -/
  reversed : Bool := false
  /-- Test mode is in force (R106). -/
  testMode : Bool := false
  /-- An NMI record became pending while the EXEC core was in reset (R338). -/
  nmiHeld : Bool := false
  /-- Levels of AXIO0 to AXIO31 as they reach the SYS domain (R45). -/
  axio : BitVec 32 := 0#32
  deriving DecidableEq, Repr

/-! ### Chapter 04: the serial ports -/

/-- A serial port: its HSP_PAGE and its record of the previous frame (R86, R94, R96). -/
structure Port where
  page : Nat := 0
  rej  : Bool := false
  nak  : Bool := false
  undr : Bool := false
  wrap : Bool := false
  deriving DecidableEq, Repr

/-! ### Chapter 15: the fault collector -/

/-- The record of one source (R339). -/
structure FcRec where
  latch  : Bool := false
  pend   : Bool := false
  cnt    : Nat := 0
  fpin   : Bool := false
  react  : Nat := 0
  time   : Nat := 0
  detail : Word := 0#32
  deriving DecidableEq, Repr

/-! ### Chapter 07: the motion engine -/

/-- The role of an axis's AXIO balls, which firmware sets (R45). -/
inductive AxRole where
  | stepDir | door | encoder
  deriving DecidableEq, Repr

/-- Obstacle phases of R177. -/
inductive ObsPhase where
  | none | decel | reverse | hold | rcwait
  deriving DecidableEq, Repr

/-- Current levels of R157. -/
inductive Level where
  | run | rest | off
  deriving DecidableEq, Repr

/-- The tick record of an axis (R157): electrical angle in 2^-16 microstep, velocity in 2^-16 microstep/s, acceleration in
microsteps/s², the current level, and the SYS_TIME of the tick. -/
structure TickRec where
  angle : Int := 0
  vel   : Int := 0
  acc   : Int := 0
  level : Level := .off
  /-- The commutation mode requested: CR_CFG.CMODE (R157). -/
  mode  : Nat := 0
  time  : Nat := 0
  deriving DecidableEq, Repr

/-- A piece of a profile: a duration, its acceleration at the start and its jerk, and the exact velocity at its end (R168). Durations
in 2^-16 SYS cycle; velocities in 2^-48 microstep/s, accelerations in 2^-32 microstep/s², jerks in 2^-32 microstep/s³. -/
structure Seg where
  dur : Nat
  acc : Int
  jerk : Int
  vEnd : Int
  deriving DecidableEq, Repr

/-- A planned profile: its pieces in order, how many of the last make the final deceleration, and the position and velocity at its
end. No pieces: the axis holds its velocity. -/
structure Profile where
  segs  : List Seg := []
  brake : Nat := 0
  tgt   : Option Int := none
  vEnd  : Int := 0
  deriving DecidableEq, Repr

/-- What a context says of its move (words 0 to 18 of R159), as the engine reads it at activation. -/
structure MoveParams where
  mode     : Nat := 0
  jerkLim  : Bool := false
  cycle    : Bool := false
  stallact : Nat := 0
  obsact   : Nat := 0
  retries  : Nat := 0
  homemeth : Nat := 0
  /-- TARGET, microsteps; VMAX and ENDVEL in 2^-16 microstep/s, VMAX signed. -/
  target   : Int := 0
  vmax     : Int := 0
  amax     : Nat := 0
  dmax     : Nat := 0
  jerk     : Nat := 0
  ecapO    : Nat := 0
  ecapC    : Nat := 0
  flim     : Nat := 0
  obsn     : Nat := 1
  fblank   : Nat := 0
  revdist  : Nat := 0
  rcdelay  : Nat := 0
  endvel   : Int := 0
  homedist : Nat := 0
  deriving DecidableEq, Repr

/-- Why the input context may not engage yet (R180). -/
inductive InputGate where
  | free       -- at any goal that differs
  | relevel    -- toward the goal then presented, as soon as the interruption ends
  | newGoal    -- only at a new goal or a new rising edge of CLOSE
  | newGoalEn  -- only at a new goal, once EN is set again
  deriving DecidableEq, Repr

/-- The motion engine's state of one axis, beside page 0x10 + n. -/
structure MotAx where
  /-- Position, 2^-32 microstep; velocity, 2^-48 microstep/s; acceleration, 2^-32 microstep/s² (R156). -/
  pos : Int := 0
  vel : Int := 0
  acc : Int := 0
  /-- Position and velocity as reported at the last tick: microsteps, 2^-16 microstep/s. -/
  rpos : Int := 0
  rvel : Int := 0
  prof : Profile := {}
  /-- Target of the motion in progress (ME_TGT). -/
  tgt : Int := 0
  active : Option Ctx := none
  /-- SYS_TIME at which the ACTIVE context became so. -/
  actAt  : Nat := 0
  queue  : List Ctx := []
  prm : MoveParams := {}
  /-- Position at activation, for HOMEDIST and for the closing direction of a DONE end. -/
  startPos : Int := 0
  /-- The profile of the motion starts at the next tick (R164). -/
  starting : Bool := false
  /-- ME_VLIM as read at the activation. -/
  vlim : Nat := 10240000
  /-- Decelerating at ME_HDEC without a context, after an abort or a halt (R164, R171). -/
  aborting : Bool := false
  /-- Decelerating within the context: home found (R170), or a soft limit met (R172). -/
  homeHit : Bool := false
  limHit  : Bool := false
  level : Level := .off
  /-- SYS cycles since MOVING became 0 (R173). -/
  restCyc : Nat := 0
  /-- The deceleration of R33: rest current as soon as the axis is at rest. -/
  restNow : Bool := false
  /-- HALT or HALT-ALL as last sampled (R124, R171). -/
  wasHalt : Bool := false
  obs : ObsPhase := .none
  /-- SYS cycles of the re-close delay that remain. -/
  rcLeft : Nat := 0
  /-- Consecutive valid estimates above FLIM (R176). -/
  obsN : Nat := 0
  /-- Ticks since closing motion began. -/
  blankN : Nat := 0
  closing : Bool := false
  /-- Retries used by the present context (word 32 [27:24]). -/
  retried : Nat := 0
  /-- The obstacle under way is the last that may re-close (R177). -/
  noRetry : Bool := false
  eclamp : Bool := false
  homed  : Bool := false
  posunk : Bool := false
  ferr   : Bool := false
  stallPrev : Bool := false
  contReq  : Bool := false
  abortReq : Bool := false
  /-- Events of R171 that act at the next tick: rows 1, 2, 3, 5, 6. -/
  evEn    : Bool := false
  /-- The contexts that were QUEUED or ACTIVE when row 1's event occurred. -/
  evEnQ   : List Ctx := []
  evGate  : Bool := false
  evUe    : Bool := false
  evWin   : Bool := false
  evAbort : Bool := false
  /-- The start event of the queue head has been seen (R165). -/
  startEv : Bool := false
  /-- The first tick at or after TSTART of each queued timed context whose time has come, as a multiple of 25,000 ns (R165). -/
  firstDue : List (Ctx × Nat) := []
  /-- A context has become ACTIVE since the last tick of the observer (R223). -/
  wentActive : Bool := false
  /-- The queue has been examined for the present approach to a target (R166). -/
  passSet : Bool := false
  /-- An encoder Z edge has arrived since the last tick. -/
  zEdge : Bool := false
  /-- The input context: engaged, its goal, its gate, CLOSE as last sampled. -/
  engaged : Bool := false
  goal : Option Int := none
  gate : InputGate := .free
  closePrev : Bool := false
  /-- Both OPEN and CLOSE read 1 at the last tick (R46). -/
  bothIn : Bool := false
  /-- An automatic home is running (R180). -/
  autoHome : Bool := false
  /-- STEP edges counted since the reference, the reference position, and the targets of the last ticks, latest first (R181). -/
  stepCnt  : Int := 0
  stepBase : Int := 0
  stepHist : List Int := []
  /-- Commanded travel of the last tick, 2^-32 microstep (R198). -/
  travel : Int := 0
  /-- The latest tick record (R157). -/
  record : TickRec := {}
  /-- Sources to raise at the end of this axis's update. -/
  due : List (Nat × Word) := []
  /-- The velocity magnitude held in ride-through (R68), 2^-48 microstep/s. -/
  rtHeld : Option Nat := none
  deriving DecidableEq, Repr

/-! ### Chapters 10 and 11: bridges and gates -/

/-- Where a bridge's period stands in COFF and CON (R237, R238). -/
inductive ChopPhase where
  | idle | on | off
  deriving DecidableEq, Repr

/-- An on-time and the period for which it was computed (R243). -/
structure OnTime where
  on  : Nat := 0
  tag : Nat := 8000
  deriving DecidableEq, Repr

/-- One bridge of an axis, beside PWM_STAT and PWM_TRIP. -/
structure Bridges where
  /-- On-time shadow written since the last transfer. -/
  shadow : Option OnTime := none
  /-- The on-time of the last transfer, before R244's scaling. -/
  act : OnTime := {}
  phase : ChopPhase := .idle
  /-- The diagonal of the present on-phase: true for A (R206, R239). -/
  diagA : Bool := true
  /-- CON: REG has found the current at or below the valley; the minimum period has passed (R238). -/
  valley : Bool := false
  minPer : Bool := false
  /-- The record of R249: periods that held a counted trip, latest first; the present period is `tripNow`. -/
  trips : List Bool := []
  tripNow : Bool := false
  /-- The first period after PWM_CFG.EN was set has not begun: its boundary turns no gate on (R252). -/
  fresh : Bool := false
  /-- The latch has been cleared, and the bridge waits for its next boundary (R250). -/
  held : Bool := false
  /-- The present continuous active interval of ILIM has been counted (R242). -/
  counted : Bool := false
  /-- The commands u applied in the latest CENTRE periods, latest first: SYS cycle of the period's start and u in 2^-30 (R211). -/
  hist : List (Nat × Int) := []
  /-- The tick record that the bridge has adopted (R10, R11). -/
  adopted : TickRec := {}
  /-- ON, POS and targets of the four tacks as they stand in the present period (R246). -/
  tacks : Vector Word 4 := Vector.replicate 4 0#32
  deriving DecidableEq, Repr

/-- One leg: what each gate is commanded to, which gate waits for its turn-on, and what is on. -/
structure LegSt where
  hiCmd : Bool := false
  loCmd : Bool := false
  hiOn  : Bool := false
  loOn  : Bool := false
  /-- A turn-on waits for the interlock and the dead time: true for the high side. -/
  wait : Option Bool := none
  /-- The high side is commanded on and held off by its bootstrap: it turns on at the next edge or boundary after release (R263). -/
  bstHeld : Bool := false
  /-- The VDS monitor of the gate that is on is armed. -/
  armed : Bool := false
  deriving DecidableEq, Repr

/-- Bridges and gates of one axis, beside pages 0x28 + n and 0x30 + n. -/
structure PwmAx where
  a : Bridges := {}
  b : Bridges := {}
  legs : Vector LegSt 4 := Vector.replicate 4 {}
  /-- PWM_SPER written since the last transfer. -/
  sperNew : Bool := false
  deriving DecidableEq, Repr

/-! ### Chapter 12: converters -/

/-- One modulator's remaining regular samples that carry OVL after ON was set (R277) or an overload ended, and its live overload (R276). -/
structure CsmCoil where
  fastWarm : Nat := 0
  fineWarm : Nat := 0
  ovl : Bool := false
  /-- The front end's last input, which it holds during a dead time (R200). -/
  last : Int := 0
  deriving DecidableEq, Repr

/-- A calibration (R291): the entry and its type (true: full scale). -/
structure CalRun where
  entry : Nat
  full  : Bool
  deriving DecidableEq, Repr

/-- One precision converter, beside page 0x41 + n. -/
structure PcConv where
  /-- The regular sequence runs, including while interrupted; its entry. -/
  rrun : Bool := false
  rIdx : Nat := 0
  /-- The injected entry in progress. -/
  iIdx : Option Nat := none
  calPend : Option CalRun := none
  calRun  : Option CalRun := none
  /-- The entry in progress is in its settling delay (R280). -/
  settle : Bool := false
  /-- The conversion in progress started with the reference unsettled (R289). -/
  rns : Bool := false
  /-- The regular sequence ran when PLL-B stopped (R286). -/
  held : Bool := false
  calAb  : Bool := false
  calErr : Bool := false
  /-- A tack's trigger has been sent and has not arrived; triggers merge meanwhile (R14, R246). -/
  trig : Bool := false
  /-- SYS cycle at which each regular entry's result was last written; none when it never was. -/
  stamps : Vector (Option Nat) 16 := Vector.replicate 16 none
  deriving DecidableEq, Repr

/-! ### Chapter 13: comparators -/

/-- One comparator beside CMP_OUT: whether it has been evaluated since ON, and what its routes see while TIE is not 0
(R301). -/
structure CmpSt where
  evaluated : Bool := false
  held : Bool := false
  heldOut : Bool := false
  heldUnres : Bool := true
  deriving DecidableEq, Repr

/-! ### Chapter 14: safety channels -/

/-- What one channel holds for one axis: counters of consecutive violations and its SF3 reference (R318 to R323). -/
structure SafAx where
  sf2A : Nat := 0
  sf2B : Nat := 0
  sf3  : Nat := 0
  ovlA : Nat := 0
  ovlB : Nat := 0
  /-- The latest result was above the ceiling, carried OVL, or violated SF3: the cause of a trip is present. -/
  causeNow : Bool := false
  clean : Bool := true
  ref : Option (Int × Int) := none
  /-- SAFE core: fast samples of the block of eight so far, as sums. -/
  sumA : Int := 0
  sumB : Int := 0
  deriving DecidableEq, Repr

/-- One safety channel. -/
structure Chan where
  /-- Filtered levels of STOA0, STOB0, STOA1, STOB1 (R314). -/
  balls : BitVec 4 := 0#4
  /-- Group g has qualified: both balls read 1 for 10 ms (R316). -/
  qual : BitVec 2 := 0#2
  disc : BitVec 2 := 0#2
  /-- Group g does not permit torque by a demand at its balls, until it qualifies again (R314, R316). -/
  dem : BitVec 2 := 0#2
  /-- SF3 declared per axis (R322). -/
  still : BitVec 8 := 0#8
  /-- Own enable per axis (R310). -/
  en : BitVec 8 := 0#8
  trip2 : BitVec 8 := 0#8
  trip3 : BitVec 8 := 0#8
  /-- The code latched since POR or BOR (AON), the last sample, and whether it differed from the latch (R312). -/
  latched : Option Byte := none
  live : Byte := 0#8
  sampled : Bool := false
  differs : Bool := false
  ready : Bool := false
  axes : Vector SafAx 8 := Vector.replicate 8 {}
  /-- Consecutive comparisons that differed, and those for which the other channel's word did not come (R325). -/
  cmpBad : Nat := 0
  silent : Nat := 0
  deriving DecidableEq, Repr

/-- The safety channels together. -/
structure Safety where
  s : Chan := {}
  h : Chan := {}
  /-- The safe-state latch of the channels and its first cause, in AON (R326, R327). -/
  safe : Bool := false
  cause : Nat := 0
  chs : Bool := false
  chh : Bool := false
  /-- SAFE_STOP applied per group (R317). -/
  stop : BitVec 2 := 0#2
  /-- Configured ceilings in units of 0.25 mV; none until the first CEIL (R331). -/
  ceil : Vector (Option Nat) 8 := Vector.replicate 8 none
  /-- Closing sense per axis; none until the first SENSE (R319). -/
  sense : Vector (Option Bool) 8 := Vector.replicate 8 none
  /-- The raw vector angles of the last 10 ms per axis, latest first (R319). -/
  angles : Vector (List Int) 8 := Vector.replicate 8 []
  closing : BitVec 8 := 0#8
  /-- A dark pulse runs on SOUTg, and a demand to go low has met it (R329, R330). -/
  dark : BitVec 2 := 0#2
  darkHit : BitVec 2 := 0#2
  /-- SOUTg read back high at its ball against a low drive (R52). -/
  soutBall : BitVec 2 := 0#2
  pass : Nat := 0
  discarded : Nat := 0
  romVer : BitVec 16 := 0#16
  deriving DecidableEq, Repr

/-! ### Chapters 17 and 18: spool, wear journal, presence, master port -/

/-- An access of the wear journal in progress (R395): a read or a write of a word. -/
inductive WjOp where
  | idle
  | read (word : Nat)
  | write (word : Nat) (data : DarnWord)
  deriving DecidableEq, Repr

/-- The spool, the wear journal and presence. -/
structure Spool where
  /-- Contents of the external flash, by byte address; an unlisted byte reads 0xFF. -/
  flash : List (Nat × Byte) := []
  /-- The device on select 0 as the last boot found it. -/
  probe : Option SpoolProbe := none
  /-- Wear-journal words; an unlisted word reads 0. -/
  wj : List (Nat × DarnWord) := []
  wjOp : WjOp := .idle
  /-- WJ_STAT.VFAIL. -/
  vfail : Bool := false
  /-- Log records gathered in retained SRAM: body and type (R393). -/
  gathered : List (List Word × Nat) := []
  /-- PRES_N reads 0 (R53). -/
  presLow : Bool := false
  /-- A presence period runs; nanoseconds left of it (R389). -/
  presLeft : Nat := 0
  deriving DecidableEq, Repr

/-- An entry of the master port's transmit queue: its TXD and its TXC. -/
structure MspEntry where
  txd : Word
  txc : Word
  deriving DecidableEq, Repr

/-- The master port, beside page 0x60. -/
structure Msp where
  txq : List MspEntry := []
  rxq : List Word := []
  /-- The entry in progress. -/
  cur : Option MspEntry := none
  /-- The select asserted or code presented: 0xF none. -/
  sel : Nat := 15
  /-- A write of REL, or an EXEC core reset, releases the select after the entry in progress. -/
  relReq : Bool := false
  deriving DecidableEq, Repr


/-! ### Chapters 08 and 09: coil current and load observer -/

/-- A handover of R196 in progress. -/
inductive Handover where
  | none | up | down
  deriving DecidableEq, Repr

/-- Commutation and regulators of one axis, beside indices 0x00 to 0x3F of page 0x20 + n. Currents in nA, voltages in 2^-16 nV. -/
structure CoilAx where
  /-- The registers that are writable while enabled as they took effect with the latest tick record, by index. -/
  live : List (Nat × Word) := []
  /-- Integrators of coil A, coil B, d and q (R203). -/
  vintA : Int := 0
  vintB : Int := 0
  vintD : Int := 0
  vintQ : Int := 0
  /-- The last update regulated d and q. -/
  inDq : Bool := false
  /-- Coil currents sampled for the next d/q update, until both are there (R203). -/
  smpA : Option Int := Option.none
  smpB : Option Int := Option.none
  demA : Int := 0
  demB : Int := 0
  /-- Iint of R193, in 1/16 mA, and the Iq demand. -/
  iint : Int := 0
  iq   : Int := 0
  /-- AOLA of R192. -/
  aOla : Int := 0
  /-- The axis has completed an upward handover and is in CL. -/
  cl   : Bool := false
  hov  : Handover := .none
  /-- α runs back. -/
  back : Bool := false
  /-- α in 2^-31. -/
  alpha : Nat := 0
  /-- The encoder count at the last tick, and venc in 2^-16 microstep/s (R194). -/
  encPrev : Int := 0
  encVel  : Int := 0
  /-- The level of the last tick. -/
  level : Level := .off
  /-- Waveform entries that differ from the default, and entries whose parity mismatches (R184, R185). -/
  wave : List (Nat × Nat) := []
  waveBad : List Nat := []
  deriving DecidableEq, Repr

/-- The load observer of one axis, beside indices 0x40 to 0x7E of page 0x20 + n. Angle and speed in 2^-32 microstep and 2^-32
microstep/s, currents in nA, voltages in nV. -/
structure LoAx where
  theta : Int := 0
  vel   : Int := 0
  /-- The loop tracks: it has been preset and the conditions have held since (R213, R214). -/
  track : Bool := false
  /-- SYS_TIME of the instant behind the last estimate (R191, R211). -/
  te    : Int := 0
  eA    : Int := 0
  eB    : Int := 0
  iA    : Option Int := Option.none
  iB    : Option Int := Option.none
  /-- Updates for which an OVL sample still counts (R214). -/
  ovlLeft : Nat := 0
  /-- The filtered magnitude of the loop's error, 2^-16 microstep (R215). -/
  errF  : Int := 0
  /-- Consecutive updates of cause 1, and ticks of cause 5 (R225). -/
  stallN : Nat := 0
  petN   : Nat := 0
  /-- The load angle of the preceding update, where VALID was 1 in OL or OLA (R226). -/
  delta : Option Int := Option.none
  /-- Press probe: SYS cycle of its start, the cross response and amplitude of the preceding half-window, whether the present one lies
  along θms + 512, and whether it will be discarded (R222, R223). -/
  ppStart : Nat := 0
  ppHalf  : Option Int := Option.none
  ppOdd   : Bool := false
  ppSpoil : Bool := false
  /-- The half-window's samples taken, and the sums of the currents along γ and at right angles to it, in phase with the injection (R222). -/
  ppN : Nat := 0
  ppIp : Int := 0
  ppC  : Int := 0
  /-- A result waits for the force computed from it (R224). -/
  ppNew : Bool := false
  /-- Consecutive updates at which the conditions of VALID have held, and at which the filtered error has stayed within LKTH (R214, R215). -/
  okN : Nat := 0
  lockN : Nat := 0
  /-- SYS cycle since which the back-EMF has stayed below 0.4 of the expected value (R225, cause 3). -/
  colSince : Option Nat := Option.none
  /-- Consecutive probe results at or above FTH, and below 7/8 of it (R224). -/
  pressHi : Nat := 0
  pressLo : Nat := 0
  deriving DecidableEq, Repr

/-! ### Chapter 16: the Bobbin link -/

/-- Where a request that came over the link is answered: its origin, transaction, the class of its response and the presence its
frame carried (R136, R138, R146). -/
structure LinkReq where
  src  : LinkAddr
  txn  : Nat
  cls  : Nat
  pres : Bool
  deriving DecidableEq, Repr

/-- One Bobbin port beside LNK_PORTp, LNK_ERRp and LNK_DLYp. -/
structure LinkP where
  /-- Stored regular frames, oldest first; true: the device's own (R357). -/
  buf : List (Bool × TxFrame) := []
  /-- The link delay has been measured since the port came UP; exchanges made and their sum of round trip less residence (R361). -/
  measured : Bool := false
  exch : Nat := 0
  sum  : Int := 0
  /-- A measurement is under way. -/
  busy : Bool := false
  /-- The ENUMRSP that waits for the measurement: position and round (R359, step 4). -/
  answer : Option (Nat × Nat) := Option.none
  /-- Code and CRC errors of the last second: SYS cycle and count (LNK_ERRLIM). -/
  errs : List (Nat × Nat) := []
  deriving DecidableEq, Repr

/-- A worker in the manager's table (R359, R360). -/
structure WorkerRec where
  addr : LinkAddr
  /-- The port and the position at which it was enumerated, and the port of the path in use with the position there. -/
  entry : Nat
  k     : Nat
  port  : Nat
  pos   : Nat
  /-- Not met again by the enumeration in progress. -/
  stale : Bool := false
  /-- SYS cycle of its last ALIVE notice (R364). -/
  alive : Nat := 0
  deriving DecidableEq, Repr

/-- A link transaction of a relayed request (R144, R145). -/
structure Txn where
  num    : Nat
  /-- The request channel it came from: 0 BCH0, 1 BCH2, 2 BCH4, and its header. -/
  ch     : Nat
  hdr    : Word
  dest   : LinkAddr
  /-- The workers addressed by a group or broadcast request; none for a single device. -/
  group  : Option (List LinkAddr) := Option.none
  /-- Answers so far: worker and RESULT. -/
  got    : List (LinkAddr × Nat) := []
  /-- Workers that departed before they answered. -/
  left   : List LinkAddr := []
  /-- The LINK core that held the transaction has been reset: no response completes it (R383). -/
  dead   : Bool := false
  deriving DecidableEq, Repr

/-- A class-0 request that waits for the engine (R139, R354). -/
structure Stitch where
  dest : LinkAddr
  act  : Nat
  txn  : Nat
  arg  : Nat
  deriving DecidableEq, Repr

/-- The SYNC frame used in the present millisecond: its T, HOPS and port (R369). -/
structure SyncBest where
  time : Nat
  hops : Nat
  port : Nat
  deriving DecidableEq, Repr

/-- The link block beside page 0x58. -/
structure LinkSt where
  ports : Vector LinkP 4 := Vector.replicate 4 {}
  /-- Stitch frames accepted within the last 1 ms: SSEQ and SYS cycle (R354). -/
  accepted : List (Nat × Nat) := []
  /-- The upstream port assigned by enumeration (R362). -/
  up : Option Nat := Option.none
  /-- The round answered, and the position offered in it (R359). -/
  answered : Option Nat := Option.none
  offered  : Option Nat := Option.none
  best : Option SyncBest := Option.none
  /-- Missing SYNC intervals already counted since the last accepted SYNC (LNK_TSCNT.MISS). -/
  missed : Nat := 0
  /-- SYS cycle since which SYNC frames have been accepted; synchronised for 1 s (R369). -/
  since  : Option Nat := Option.none
  settled : Bool := false
  /-- Axes that an orphan's ACT 0 will still halt when their contexts end (R365). -/
  hold : BitVec 8 := 0#8
  /-- Requests from the link: the one in BCH2 when `posted`, then those that wait for it. -/
  inq : List (LinkReq × List Word) := []
  posted : Bool := false
  /-- Manager: the table, the reserved addresses, and memberships (R359, R360). -/
  table : List WorkerRec := []
  reserved : List LinkAddr := []
  groups : List (Nat × LinkAddr) := []
  /-- Manager: ports still to enumerate, the first being enumerated, and the position offered. -/
  todo : List Nat := []
  k : Nat := 1
  /-- Manager: addresses first met in this enumeration, and workers refused. -/
  fresh : List LinkAddr := []
  refused : Nat := 0
  /-- Manager: loops as two ports and their length, with the segments known to be broken (R359, R368). -/
  loops : List (Nat × Nat × Nat) := []
  breaks : List (Nat × Nat) := []
  /-- Manager: transactions, class-0 requests that wait, the next SSEQ and the SYS cycle of the last stitch frame. -/
  txns : List Txn := []
  cls0 : List Stitch := []
  sseq : Nat := 0
  lastStitch : Option Nat := Option.none
  deriving DecidableEq, Repr

/-! ### Chapters 06 and 17: what the firmware holds -/

/-- The axis limits of R437. -/
structure AxLimits where
  vlim    : Nat := 204800
  acc     : Nat := 1024000
  jerk    : Nat := 0
  ecapO   : Nat := 4294967295
  ecapC   : Nat := 4294967295
  flim    : Nat := 0
  obsact  : Nat := 1
  revdist : Nat := 102400
  rcdelay : Nat := 0
  retries : Nat := 0
  deriving DecidableEq, Repr

/-- What the firmware holds of one axis. -/
structure FwAx where
  lim : AxLimits := {}
  /-- Motor parameters are present (AXIS_EN); rated peak current of SET_MOTOR, mA. -/
  motor : Bool := false
  rated : Option Nat := Option.none
  /-- Completed steps and results of IDENTIFY, as GET_IDENT returns them. -/
  ident : List Word := []
  /-- The template context that firmware allocated for SET_ROLE door. -/
  tmpl : Option Ctx := Option.none
  /-- The measurement at the first enable without settings is done (R189). -/
  measured : Bool := false
  /-- The learning context of R182, while it runs. -/
  learn : Option Ctx := Option.none
  deriving DecidableEq, Repr

/-- A long operation (R149): its opcode and arguments. -/
structure LongOp where
  op   : Nat
  args : List Word
  deriving DecidableEq, Repr

/-- A step of what firmware drives during IDENTIFY, WIRING_CHECK and the alignment of an encoder (R194, R209, R229). -/
inductive DriveStep where
  /-- The off-state diagnostics (R229, step 1). -/
  | diag
  /-- A current vector is held at an angle, in quarters of the rated current (R209, steps 1 and 2). -/
  | hold (angle quarters : Nat)
  /-- The square wave on a coil (R209, steps 3 and 4); with `check`, what the other coils carry is found (R229, steps 2 and 3). -/
  | square (br : Bridge) (check : Bool)
  /-- Resistance and inductance, or the flux, are needed: whether this run measures them (R209). -/
  | needRL (r l : Bool)
  | needPsi (psi : Bool)
  /-- At rest, regulators off: the commutation mode, with CR_IRUN at the rated current, or with the table rewritten. -/
  | tune (cmode : Nat) (rated table : Bool)
  /-- A velocity context carries the axis to an offset from its starting position, microsteps. -/
  | pass (offset : Int)
  /-- Whether step 4 of R229 runs; what it found. -/
  | turn
  | verdict
  /-- The alignment of an encoder (R194). -/
  | align
  /-- What was changed for the drives is put back. -/
  | restore
  deriving DecidableEq, Repr

/-- What a plan changed, as it was: CR_CFG.CMODE, CR_IRUN, CR_MOTOR2.PSI and the waveform table. -/
structure DriveSaved where
  cmode : Nat
  irun  : Word
  psi   : Nat
  wave  : List (Nat × Nat)
  deriving DecidableEq, Repr

/-- The drives that firmware has before it on an axis: the steps that are left, the present one first. -/
structure DrivePlan where
  steps : List DriveStep := []
  /-- Motion ticks of the present step, from its start on; 0 while it waits for rest. -/
  ticks : Nat := 0
  /-- U of the square wave, as CR_OVRU has it; whether the run at the final U has begun; the extremes of the coil's current, mA. -/
  amp   : Nat := 655
  last  : Bool := false
  lo    : Int := 0
  hi    : Int := 0
  /-- The demodulation at 1 kHz of the sixteen fine paths: samples, and in-phase and quadrature sums. -/
  dn    : Nat := 0
  di    : List Int := []
  dq    : List Int := []
  /-- Starting position, 2^-32 microstep; the test speed, microsteps/s; the context under way; it has been told to stop. -/
  start : Int := 0
  speed : Nat := 0
  ctx   : Option Ctx := Option.none
  stop  : Bool := false
  /-- Over the constant-speed parts: vest in the direction of motion, the two coils' back-EMF, and the ticks for which VALID held. -/
  along : Int := 0
  sumA  : Int := 0
  sumB  : Int := 0
  okRun : Nat := 0
  okMax : Nat := 0
  /-- The bitmap of R230, and a RESULT other than OK with which the operation ends. -/
  found : Word := 0#32
  fails : Nat := 0
  saved : Option DriveSaved := Option.none
  deriving DecidableEq, Repr

/-- What follows a response to RESET or FW_SWITCH (R152). -/
inductive DeferKind where
  | crst | execCore | linkCore | switchExec (slot : Nat) | switchLink (slot : Nat)
  deriving DecidableEq, Repr

/-- A message that waits for its outbound channel; over the link, with its destination, class, transaction and KIND. -/
structure Reply where
  words : List Word
  dest  : LinkAddr := 0#11
  cls   : Nat := 1
  txn   : Nat := 0
  kind  : Nat := 1
  deriving DecidableEq, Repr

/-- A response that firmware owes on a channel, in the order the requests were taken (R147): that of a relayed request, or one that waits
behind it. -/
inductive Owed where
  | relayed (txn : Nat)
  | done (m : Reply)
  deriving DecidableEq, Repr

/-- What the firmware holds in EXEC SRAM (R79, R150, R382, R384, R437). Destinations are numbered 0 HOST, 1 the manager, 2 MAINT. -/
structure Fw where
  masks  : Vector Word 3 := Vector.replicate 3 0#32
  ax     : Vector FwAx 8 := Vector.replicate 8 {}
  /-- AUTOREL choices of CTX_ALLOC, by context. -/
  autorel : List (Nat × Bool) := []
  /-- Words of the staging image; an unlisted word reads 0 (R384). -/
  staging : List (Nat × Word) := []
  long    : Vector (Option LongOp) 8 := Vector.replicate 8 Option.none
  longDev : Option LongOp := Option.none
  /-- What firmware drives for an axis's long operation, or to align its encoder (R194, R209, R229). -/
  plan    : Vector (Option DrivePlan) 8 := Vector.replicate 8 Option.none
  /-- Replies that wait for BCH1, BCH3 and BCH5 (R129). -/
  outq    : Vector (List Reply) 3 := Vector.replicate 3 []
  /-- Responses owed per channel, oldest request first (R147). -/
  owed    : Vector (List Owed) 3 := Vector.replicate 3 []
  /-- Events that wait per destination, and events lost (R151). -/
  events  : Vector (List (List Word)) 3 := Vector.replicate 3 []
  lost    : Vector Nat 3 := Vector.replicate 3 0
  /-- Relay timeout, ms (R144). -/
  relay   : Nat := 50
  deferred : Option (DeferKind × Nat) := Option.none
  /-- The settings block in use: its words; none when no settings are present (R387). -/
  inUse   : List Word := []
  /-- SYS_TIME of the last axis record in the wear journal, per axis (R395). -/
  wjLast  : Vector (Option Nat) 8 := Vector.replicate 8 Option.none
  /-- Addresses of departed workers as events 6 and 7 told them (R383). -/
  departed : List LinkAddr := []
  deriving DecidableEq, Repr
/-! ### The state -/

/-- The state of the VBH8A. -/
structure State where
  /-- The commands that wait, first in, first out. -/
  pending : List Instr := []
  /-- What the last command answered its master. -/
  out : Out := {}
  /-- How many free values have been drawn (the model's own; no statement rests on it). -/
  free : Nat := 0
  /-- Registers that differ from their reset value, by address. -/
  regs : List (Nat × Word) := []
  /-- LO words staged for the next write of HI, by the address of HI (R101). -/
  staged : List (Nat × Word) := []
  /-- Addresses whose hidden parity bit does not match (R102). -/
  parityBad : List Nat := []
  sys : Sys := {}
  hostPort  : Port := {}
  maintPort : Port := {}
  /-- Latched records, by source (R339). -/
  fc : List (Nat × FcRec) := []
  /-- Level sources whose condition is present (R333). -/
  fcPresent : BitVec 128 := 0#128
  /-- The collector's safe state (R344). -/
  fcSafe : Bool := false
  /-- Source of the most recent raise (FC_STAT.LAST). -/
  fcLast : Nat := 0
  /-- Context RAM: key context * 64 + word (R159). -/
  ctxRam : List (Nat × Word) := []
  mot : Vector MotAx 8 := Vector.replicate 8 {}
  pwm : Vector PwmAx 8 := Vector.replicate 8 {}
  csm : Vector CsmCoil 16 := Vector.replicate 16 {}
  pc  : Vector PcConv 4 := Vector.replicate 4 {}
  /-- SYS cycle at which REF_CFG.EN was last set (R288). -/
  refSince : Nat := 0
  cmp : Vector CmpSt 16 := Vector.replicate 16 {}
  saf : Safety := {}
  spool : Spool := {}
  msp : Msp := {}
  /-- Darned words other than those of the context RAM and the wear journal, by memory * 65536 + word (R24). -/
  darn : List (Nat × DarnWord) := []
  /-- Words that hold a double-bit error, by memory * 65536 + word (R25). -/
  ue : List Nat := []
  /-- The word the scrubber last reported per memory (R28). -/
  scrubLast : Vector (Option Nat) 8 := Vector.replicate 8 none
  /-- Fine-path and fast-path samples that wait in their dual-clock queues for a stopped SYS or SAFE clock, oldest first (R15, R16). -/
  fineQ : List (List ModSample) := []
  safeQ : List (List ModSample) := []
  /-- Roles of the axes (R45): step/direction from reset, and so for an axis to which the settings give none (DESIGN CHOICE, log entry 107). -/
  roles : Vector AxRole 8 := Vector.replicate 8 .stepDir
  coil : Vector CoilAx 8 := Vector.replicate 8 {}
  lo   : Vector LoAx 8 := Vector.replicate 8 {}
  lnk  : LinkSt := {}
  fw   : Fw := {}
  /-- The request channel from which firmware took the last request, in EXEC SRAM (R147). -/
  turn : Nat := 2
  deriving DecidableEq, Repr

/-- Ways a command stops the model. -/
inductive Fault where
  /-- An access to page 0x7E in test mode: R106 opens the page and gives none of its contents ("Its use is outside the service
  of the device"). Raised by the register accesses of every master. Safe: the hardware goes on. -/
  | testPage
  deriving DecidableEq, Repr

/-- Commands without a meaning. -/
inductive Refusal where
  /-- The command is not modelled yet; raised by the dispatch alone. Safe: the hardware goes on. -/
  | notModelled (mnemonic : String)
  deriving DecidableEq, Repr

/-- The machine right after reset: every register at the reset value of its row, every block idle, no command waiting (log entry 3), the axes
in the step/direction role (log entry 107). The causes of a reset reach SYS_RSTCAUSE when CHIP_RESET_END ends it. -/
def State.reset : State := {}

end Sys2Proof.Machine
end

