-- ==== Sys2Proof/Machine/Ops.lean ====
section
/-! DEFINITION. Named operations over the state: registers and their fields (R7, R99, R101), sparse memories, per-axis state, free values,
and the masters' identities (R109). -/

namespace Sys2Proof.Machine

/-! ### Masters -/

end Sys2Proof.Machine

/-- The ID of a master (R109). -/
def Sys2Proof.Master.id : Sys2Proof.Master → Nat
  | .host => 0 | .exec => 1 | .link => 2 | .safe => 3 | .maint => 4

/-- HOST and MAINT reach the registers through serial ports; the others are internal masters (R109). -/
def Sys2Proof.Master.serial (m : Sys2Proof.Master) : Bool := m = .host || m = .maint

namespace Sys2Proof.Machine

/-- The master with an ID, if there is one (R109). -/
def masterOf : Nat → Option Master
  | 0 => some .host | 1 => some .exec | 2 => some .link | 3 => some .safe | 4 => some .maint
  | _ => none

/-! ### Registers -/

/-- The word a register holds. -/
def State.get (s : State) (k : Nat) : Word := (spFind s.regs k).getD (regReset k)

/-- The state with a register holding `v`. -/
def State.set (s : State) (k : Nat) (v : Word) : State := { s with regs := spSet (regReset k) s.regs k v }

/-- Bit `i` of a register. -/
def State.bit (s : State) (k i : Nat) : Bool := bitOf (s.get k) i

/-- Field [hi:lo] of a register. -/
def State.fld (s : State) (k hi lo : Nat) : Nat := fldOf (s.get k) hi lo

/-- Field [hi:lo] of a register, signed. -/
def State.sfld (s : State) (k hi lo : Nat) : Int := sfldOf (s.get k) hi lo

/-- The state with bit `i` of a register holding `b`. -/
def State.setBit (s : State) (k i : Nat) (b : Bool) : State := s.set k (putBit (s.get k) i b)

/-- The state with field [hi:lo] of a register holding `v`, modulo its width. -/
def State.setFld (s : State) (k hi lo v : Nat) : State := s.set k (putFld (s.get k) hi lo v)

/-- The register whose low field counts: field [hi:lo] incremented modulo its width. -/
def State.incFld (s : State) (k hi lo : Nat) : State := s.setFld k hi lo (s.fld k hi lo + 1)

/-- A counter of `hi + 1 - lo` bits incremented, saturating at all ones. -/
def State.incSat (s : State) (k hi lo : Nat) : State :=
  if s.fld k hi lo + 1 < 2 ^ (hi + 1 - lo) then s.incFld k hi lo else s

/-- The signed value in R99's layout at HI address `k`. -/
def State.wide (s : State) (k : Nat) : Int := ofHiLo (s.get k) (s.get (k + 1))

/-- The unsigned value in R99's layout at HI address `k`. -/
def State.wideU (s : State) (k : Nat) : Nat := ofHiLoU (s.get k) (s.get (k + 1))

/-- The state with a value in R99's layout at HI address `k`. -/
def State.setWide (s : State) (k : Nat) (x : Int) : State := (s.set k (hiWord x)).set (k + 1) (loWord x)

/-- All registers of a page at their reset values, but for those that `keep` names by index (R73). -/
def State.resetPage (s : State) (p : Nat) (keep : Nat → Bool) : State :=
  { s with regs := s.regs.filter fun e => e.1 / 128 ≠ p || keep (e.1 % 128)
           staged := s.staged.filter fun e => e.1 / 128 ≠ p
           parityBad := s.parityBad.filter fun k => k / 128 ≠ p || keep (k % 128) }

/-! ### Blocks of state by number -/

/-- The state with axis `ax` of the motion engine changed. -/
def State.onMot (s : State) (ax : Axis) (f : MotAx → MotAx) : State := { s with mot := vset s.mot ax (f (vget s.mot ax)) }

/-- The motion engine's state of an axis. -/
def State.me (s : State) (ax : Axis) : MotAx := vget s.mot ax

/-- The state with the bridges of an axis changed. -/
def State.onPwm (s : State) (ax : Axis) (f : PwmAx → PwmAx) : State := { s with pwm := vset s.pwm ax (f (vget s.pwm ax)) }

/-- The bridges of an axis. -/
def State.br (s : State) (ax : Axis) (br : Bridge) : Bridges :=
  match br with
  | .a => (vget s.pwm ax).a
  | .b => (vget s.pwm ax).b

/-- The state with one bridge of an axis changed. -/
def State.onBr (s : State) (ax : Axis) (br : Bridge) (f : Bridges → Bridges) : State :=
  s.onPwm ax fun p => match br with
    | .a => { p with a := f p.a }
    | .b => { p with b := f p.b }

/-- One leg of an axis. -/
def State.leg (s : State) (ax : Axis) (j : Leg) : LegSt := vget (vget s.pwm ax).legs j

/-- The state with one leg of an axis changed. -/
def State.onLeg (s : State) (ax : Axis) (j : Leg) (f : LegSt → LegSt) : State :=
  s.onPwm ax fun p => { p with legs := vset p.legs j (f (vget p.legs j)) }

/-- The state with the regulators of an axis changed. -/
def State.onCoil (s : State) (ax : Axis) (f : CoilAx → CoilAx) : State := { s with coil := vset s.coil ax (f (vget s.coil ax)) }

/-- The state with the observer of an axis changed. -/
def State.onLo (s : State) (ax : Axis) (f : LoAx → LoAx) : State := { s with lo := vset s.lo ax (f (vget s.lo ax)) }

/-- The state with one modulator changed. -/
def State.onCsm (s : State) (c : Coil) (f : CsmCoil → CsmCoil) : State := { s with csm := vset s.csm c (f (vget s.csm c)) }

/-- The state with one precision converter changed. -/
def State.onPc (s : State) (p : Conv) (f : PcConv → PcConv) : State := { s with pc := vset s.pc p (f (vget s.pc p)) }

/-- The state with one comparator changed. -/
def State.onCmp (s : State) (c : Cmp) (f : CmpSt → CmpSt) : State := { s with cmp := vset s.cmp c (f (vget s.cmp c)) }

/-- A fold over all `n` indices in ascending order. -/
def forAll {α : Type} (n : Nat) (s : α) (f : α → Fin n → α) : α := (List.finRange n).foldl f s

/-- The coil of a bridge (R6). -/
def coilOf (ax : Axis) (br : Bridge) : Coil :=
  ⟨2 * ax.val + (match br with | .a => 0 | .b => 1), by have := ax.isLt; cases br <;> simp <;> omega⟩

/-- The axis of a coil (R6). -/
def axisOf (c : Coil) : Axis := ⟨c.val / 2, by have := c.isLt; omega⟩

/-- The bridge of a coil (R6). -/
def bridgeOf (c : Coil) : Bridge := if c.val % 2 = 0 then .a else .b

/-- The left and right legs of a bridge within its axis (R6). -/
def legsOf : Bridge → Leg × Leg
  | .a => (0, 1)
  | .b => (2, 3)

/-- The bridge of a leg (R6). -/
def bridgeOfLeg (j : Leg) : Bridge := if j.val < 2 then .a else .b

/-! ### Free values -/

/-- A fresh choice the spec leaves open. -/
def State.drawBit (s : State) : Bool × State := (Config.freeBit s.free, { s with free := s.free + 1 })

/-- A fresh word the spec does not state. -/
def State.drawWord (s : State) : Word × State := (Config.freeWord s.free, { s with free := s.free + 1 })

/-- A fresh number between `lo` and `hi` that the spec bounds and does not fix. -/
def State.drawInt (s : State) (lo hi : Int) : Int × State :=
  (clampI lo hi (Config.freeInt s.free), { s with free := s.free + 1 })

/-! ### What the commanding master sees -/

/-- The state with nothing answered. -/
def State.quiet (s : State) : State := { s with out := {} }

/-- The state with words answered. -/
def State.answer (s : State) (ws : List Word) : State := { s with out := { words := ws } }

/-- The state with a bus error answered. -/
def State.busError (s : State) : State := { s with out := { busErr := true } }

/-! ### Common levels -/

/-- READY has been set (R106). -/
def State.ready (s : State) : Bool := s.bit R.HSP_READY 0

/-- VG lies above its undervoltage level (R64). -/
def State.vgOk (s : State) : Bool := s.bit R.SYS_SUPSTAT 3

/-- Ride-through is active (R68). -/
def State.rideThrough (s : State) : Bool := s.bit R.SYS_SUPSTAT 7

/-- The power state is STANDBY (R74). -/
def State.standby (s : State) : Bool := s.fld R.SYS_PWRSTAT 1 0 = 2

/-- Both channels grant the gate enable of an axis (R309). -/
def State.granted (s : State) (ax : Axis) : Bool := s.saf.s.en.getLsbD ax.val && s.saf.h.en.getLsbD ax.val

/-- Both channels declare safe standstill of an axis (R322). -/
def State.sstill (s : State) (ax : Axis) : Bool := s.saf.s.still.getLsbD ax.val && s.saf.h.still.getLsbD ax.val

/-- Presence holds (R389). -/
def State.presence (s : State) : Bool := s.spool.presLow || s.spool.presLeft ≠ 0

/-- Some master with halt rights holds HALT-ALL (R121, R124). -/
def State.haltAll (s : State) : Bool := s.get R.MBX_HALT &&& s.get R.MBX_HALTRT ≠ 0#32

/-- The role strapped at the last latch (R49): 0 worker, 1 manager, 2 standalone. -/
def State.role (s : State) : Nat := s.fld R.SYS_STRAP 1 0

/-- The output and the UNRES of a comparator as its consumers see them: as they stood at the TIE write until its release (R301). -/
def State.cmpSeen (s : State) (c : Cmp) : Bool × Bool :=
  let h := vget s.cmp c
  if h.held then (h.heldOut, h.heldUnres) else (s.bit R.CMP_OUT c, s.bit R.CMP_OUT (16 + c))

/-- An output is at the comparator's alarm level: 0 for even c, 1 for odd c, inverted while INV is 1 (R299). -/
def State.alarmLevel (s : State) (c : Cmp) : Bool := (c.val % 2 = 1) != s.bit (R.CMP_CCFG c) 13

/-- A comparator with a route is in alarm as that route sees it (R299, R301): route 0 capture, 1 fault collector, 2 EXEC interrupt. -/
def State.routeAlarm (s : State) (c : Cmp) (route : Nat) : Bool :=
  let (out, unres) := s.cmpSeen c
  s.bit (R.CMP_CCFG c) (20 + route) && !unres && out = s.alarmLevel c

/-- A conversion that starts now carries RNS: REF_CFG.EN is 0 or was set less than 5 ms ago (R289). -/
def State.refUnsettled (s : State) : Bool := !s.bit R.REF_CFG 31 || s.sys.cyc - s.refSince < 1000000

/-- An entry of a converter starts: its settling delay, or with none its conversion (R280, R289). -/
def State.convStart (s : State) (p : Conv) (e : Nat) : State :=
  let settle := s.fld (R.PC_ENT p e) 23 16 ≠ 0
  let rns := s.refUnsettled
  s.onPc p fun c => { c with settle, rns }

/-- A BitVec with bit `i` holding `b`. -/
def bvPut {w : Nat} (v : BitVec w) (i : Nat) (b : Bool) : BitVec w :=
  if b then v ||| BitVec.ofNat w (1 <<< i) else v &&& ~~~(BitVec.ofNat w (1 <<< i))

/-- All gates of an axis off, with no turn-on waiting: the removal that needs no clock (R16, R73). -/
def State.gatesOff (s : State) (ax : Axis) : State :=
  s.onPwm ax fun p => { p with legs := Vector.replicate 4 {} }

/-- All gates of one bridge off. -/
def State.bridgeOff (s : State) (ax : Axis) (br : Bridge) : State :=
  ((s.onLeg ax (legsOf br).1 fun _ => {}).onLeg ax (legsOf br).2 fun _ => {})

/-- Every gate of an axis off at its driver, while what is commanded stands: undervoltage lockout and the removal of an enable
(R66, R251). -/
def State.gatesHeld (s : State) (ax : Axis) : State :=
  s.onPwm ax fun p => { p with legs := p.legs.map fun l => { l with hiOn := false, loOn := false, wait := none, armed := false } }

end Sys2Proof.Machine
end

