-- ==== Sys2Proof/Machine/Reset.lean ====
section
/-! DEFINITION. What the resets of R70 do to the state: block resets (R73), the start of a chip reset and what each kind keeps (R79).
They raise no source. -/

namespace Sys2Proof.Machine

/-- SYS_BRST admits these pages (R78). -/
def brstAdmits (p : Nat) : Bool :=
  (0x10 ≤ p && p ≤ 0x17) || (0x20 ≤ p && p ≤ 0x37) || (0x40 ≤ p && p ≤ 0x44) || p = 0x48 || p = 0x58 || p = 0x60 || p = 0x61

/-- The CFG_PARITY source that covers a page (R102, R333). -/
def paritySource (p : Nat) : Nat :=
  if p ≤ 0x03 ∨ p = 0x70 then 24
  else if p = 0x38 ∨ (0x40 ≤ p ∧ p ≤ 0x45) ∨ p = 0x48 then 25
  else if p = 0x58 ∨ p = 0x60 ∨ p = 0x61 ∨ p = 0x68 then 26
  else 32 + p % 8

/-- Whether the condition of a level source is present (R333). -/
def State.present (s : State) (src : Nat) : Bool := s.fcPresent.getLsbD src

/-- The condition of a source ends: CAUSE reads 0 (R104). -/
def State.drop (s : State) (src : Nat) : State := { s with fcPresent := bvPut s.fcPresent src false }

/-- A parity source is present exactly while some register it covers mismatches (R102). -/
def State.settleParity (s : State) (p : Nat) : State :=
  if s.parityBad.any fun k => paritySource (k / 128) = paritySource p then s else s.drop (paritySource p)

/-- A register is written: its hidden parity bit matches again (R102). -/
def State.mend (s : State) (k : Nat) : State :=
  if s.parityBad.contains k then { s with parityBad := s.parityBad.filter (· ≠ k) }.settleParity (k / 128) else s

/-- A write of a register stores `v` with its parity (R102). -/
def State.store (s : State) (k : Nat) (v : Word) : State := (s.set k v).mend k

/-- The reported position of an axis changes other than by motion: ME_POS and ME_EOFS change together (R436). -/
def State.movePos (s : State) (ax : Axis) (new : Int) : State :=
  let old := (s.me ax).rpos
  let ofs := ((s.fld (R.ME_EOFS ax) 11 0 : Int) + old - new) % 4096
  (s.setFld (R.ME_EOFS ax) 11 0 ofs.toNat).onMot ax fun m =>
    { m with pos := m.pos + (new - old) * 4294967296, rpos := new }

/-- The axis whose page lies at offset `p` from a block's first page. -/
def axisAt (p : Nat) : Axis := ⟨p % 8, by omega⟩

/-- Sources whose conditions the blocks of an axis's GD page hold end with its block reset (R73, R267). -/
def State.dropGate (s : State) (ax : Axis) : State :=
  ((((s.drop (64 + ax)).drop (72 + ax)).drop (88 + ax)).drop (96 + ax))

/-- No gate of an axis is on: its VDS monitors find nothing, and their source ends (R265). -/
def State.dropVds (s : State) (ax : Axis) : State := (s.setFld (R.GD_FLT ax) 15 8 0).drop (64 + ax)

/-- The block reset of an ME page: position 0 at an unchanged electrical angle, which the fraction of a microstep and the latest tick
record keep, and LO_KF 0 with ME_KPM; the rest of the block's own state cleared; the contexts end ABORTED with reason 14 under R171,
row 1 (R73, R218, R436). -/
def State.resetMe (s : State) (ax : Axis) : State :=
  let s := s.movePos ax 0
  let eofs := s.get (R.ME_EOFS ax)
  let old := s.me ax
  (((s.resetPage (0x10 + ax) fun _ => false).set (R.ME_EOFS ax) eofs).set (R.LO_KF ax) 0#32).onMot ax fun _ =>
    { active := old.active, queue := old.queue, evEn := true, evEnQ := old.evEnQ ++ old.queue ++ old.active.toList, wasHalt := old.wasHalt, gate := .newGoalEn
      goal := old.goal, closePrev := old.closePrev
      pos := old.pos, record := { old.record with vel := 0, acc := 0 } }

/-- The block reset of a PWM page: the gates turn off first; latches, records, shadows and tacks return to reset (R73, R251). -/
def State.resetPwm (s : State) (ax : Axis) : State :=
  ((((s.gatesOff ax).resetPage (0x28 + ax) fun _ => false).onPwm ax fun _ => {}).drop (56 + ax)).dropVds ax

/-- The block reset of a GD page: the gates turn off first (R73, R267, R272). -/
def State.resetGd (s : State) (ax : Axis) : State :=
  ((s.gatesOff ax).resetPage (0x30 + ax) fun _ => false).dropGate ax

/-- The block reset of a CR/LO page: every register and all state of the axis's regulators and observer (R73). -/
def State.resetCoil (s : State) (ax : Axis) : State :=
  ((((s.resetPage (0x20 + ax) fun _ => false).set (R.PWM_THR ax) 0#32).onCoil ax fun c => { level := c.level }).onLo ax fun _ => {}).drop (48 + ax)

/-- The block reset of page 0x40: all modulators off (R278). -/
def State.resetCsm (s : State) : State :=
  { (s.resetPage 0x40 fun _ => false) with csm := Vector.replicate 16 {} }.drop 10

/-- The block reset of a converter's page: every sequence and calibration ends without results (R286). -/
def State.resetPc (s : State) (p : Conv) : State := (s.resetPage (0x41 + p) fun _ => false).onPc p fun _ => {}

/-- The block reset of page 0x48: every comparator off (R304). -/
def State.resetCmp (s : State) : State :=
  let s := { (s.resetPage 0x48 fun _ => false) with cmp := Vector.replicate 16 {} }
  forAll 8 s fun s w => s.drop (104 + w)

/-- The block reset of page 0x60: the entry ends at once, the select is released (R410). -/
def State.resetMsp (s : State) : State := { (s.resetPage 0x60 fun _ => false) with msp := {} }

/-- The block reset of page 0x61: SPL registers return to reset, except LHOLD (R398). -/
def State.resetSpl (s : State) : State := s.resetPage 0x61 fun i => i = 0x04

/-- The block reset of page 0x58: the ports are powered down and the engine's own state ends; the address is kept (R79), and the role in use
stands. What LINK SRAM holds stays. -/
def State.resetLink (s : State) : State :=
  let role := s.fld R.LNK_STAT 1 0
  let s := (s.resetPage 0x58 fun i => i = 0x02).setFld R.LNK_STAT 1 0 role
  let l := s.lnk
  let s := { s with lnk :=
    { inq := l.inq, posted := l.posted, table := l.table, reserved := l.reserved, groups := l.groups, loops := l.loops, breaks := l.breaks
      txns := l.txns } }
  (List.range 7).foldl (fun s i => s.drop (112 + i)) s

/-- The block reset of a page that SYS_BRST admits (R70, R73): in force for 1 µs; one already in force restarts its time (R338). -/
def State.blockReset (s : State) (p : Nat) : State :=
  if s.sys.chipReset ∨ !brstAdmits p then s else
  let s := { s with sys := { s.sys with blockRst := p :: s.sys.blockRst.filter (· ≠ p) } }
  let ax := axisAt p
  let s :=
    if p < 0x18 then s.resetMe ax
    else if p < 0x28 then s.resetCoil ax
    else if p < 0x30 then s.resetPwm ax
    else if p < 0x38 then s.resetGd ax
    else if p = 0x40 then s.resetCsm
    else if p < 0x45 then s.resetPc ⟨(p - 0x41) % 4, by omega⟩
    else if p = 0x48 then s.resetCmp
    else if p = 0x58 then s.resetLink
    else if p = 0x60 then s.resetMsp
    else s.resetSpl
  s.settleParity p

/-! ### Chip resets -/

/-- Bits of SYS_RSTCAUSE (R77). -/
inductive ResetCause where
  | por | bor | pin | crst (src : Nat) | swrst | wdt | wake
  deriving DecidableEq, Repr

/-- The bits a cause sets in SYS_RSTCAUSE. -/
def ResetCause.word : ResetCause → Word
  | .por => 0x2#32
  | .bor => 0x4#32
  | .pin => 0x8#32
  | .crst src => wordOfNat (0x10 + src * 65536)
  | .swrst => 0x90#32
  | .wdt => 0x20#32
  | .wake => 0x40#32

/-- POR and BOR reset everything, AON included (R70). -/
def ResetCause.cold : ResetCause → Bool
  | .por | .bor => true
  | _ => false

/-- Registers that a warm reset keeps: SYS_RSTCAUSE, SYS_WAKECFG and SYS_WAKETMR in AON, the darn counters, the assigned link address, SYS_SUPSTAT's level bits (R30, R79). -/
def keptWarm (k : Nat) : Bool :=
  k = R.SYS_RSTCAUSE || k = R.SYS_WAKECFG || k = R.SYS_WAKETMR || (regKey 0x01 0x60 ≤ k && k ≤ regKey 0x01 0x67) || k = R.LNK_ADDR
    || k = R.SYS_SUPSTAT

/-- Level sources whose conditions lie outside the blocks that a chip reset returns to defaults: the supervision of VG and VIO, and over a
warm reset the clock monitors. A POR starts the supplies afresh (R63). -/
def keptLevels : ResetCause → BitVec 128
  | .por => 0#128
  | .bor => 0x180#128
  | _ => 0xF980#128

/-- Coinciding causes gather; CRST_SRC reads 0 with SWRST (R71). -/
def ResetCause.gather (c : ResetCause) (pend : Word) : Word :=
  let w := pend ||| c.word
  if bitOf w 7 then w &&& 0xFF80FFFF#32 else w

/-- A chip reset begins (R70, R79): every gate is held off, every block and record returns to its reset value, and what the kind
keeps is kept. Coinciding causes gather for SYS_RSTCAUSE (R71); a POR takes the others with AON. A wake that a warm reset overtakes
keeps its sources and the time at which SYS_TIME resumes, which the spec does not settle (DESIGN CHOICE, log entry 90). -/
def State.chipReset (s : State) (c : ResetCause) : State :=
  let ovl := s.sys.chipReset
  let supstat := s.get R.SYS_SUPSTAT &&& 0x7B#32
  let base : State :=
    { pending := s.pending, out := s.out, free := s.free
      regs := if c.cold then [] else s.regs.filter fun e => keptWarm e.1
      fcPresent := s.fcPresent &&& keptLevels c
      sys :=
        { chipReset := true
          cold := c.cold || (ovl && s.sys.cold)
          rstPend := if ovl && c ≠ .por then c.gather s.sys.rstPend else c.word
          monOut := if c.cold then 0#6 else s.sys.monOut
          monFail := if c.cold then 0#6 else s.sys.monFail
          pllLost := if c.cold then 0#2 else s.sys.pllLost
          pllStop := if c.cold then 0#2 else s.sys.pllStop
          xtalStop := !c.cold && s.sys.xtalStop
          rcsStop := !c.cold && s.sys.rcsStop
          rchStop := !c.cold && s.sys.rchStop
          reversed := s.sys.reversed, axio := s.sys.axio
          wakeHeld := if c = .wake ∨ (ovl ∧ c.cold = false) then s.sys.wakeHeld else 0#32
          wakeTime := if c = .wake ∨ (ovl ∧ c.cold = false) then s.sys.wakeTime else none }
      saf :=
        if c.cold then {}
        else
          { s := { latched := s.saf.s.latched, balls := s.saf.s.balls }
            h := { latched := s.saf.h.latched, balls := s.saf.h.balls }
            safe := s.saf.safe, cause := s.saf.cause, chs := s.saf.chs, chh := s.saf.chh }
      spool :=
        { flash := s.spool.flash, wj := s.spool.wj, probe := s.spool.probe
          gathered := if c.cold then [] else s.spool.gathered
          presLow := s.spool.presLow
          presLeft := if c.cold then 0 else s.spool.presLeft }
      darn := s.darn.filter fun e => e.1 / 65536 ≥ 5 || (!c.cold && e.1 / 65536 = 4)
      ue := s.ue.filter fun k => k / 65536 ≥ 5 || (!c.cold && k / 65536 = 4) }
  base.set R.SYS_SUPSTAT supstat

end Sys2Proof.Machine
end

