-- ==== Sys2Proof/Machine/Collector.lean ====
section
/-! DEFINITION. The fault collector (spec/15): records, reactions and the levels it drives. -/

namespace Sys2Proof.Machine

/-- The reaction and FPIN in force for a source (R335); codes 5 to 7 act as 1 (FC_SRC.REACT). In the collector's safe state no
reaction is applied (R344). -/
def State.reaction (s : State) (src : Nat) : Nat × Bool :=
  if s.fcSafe then (0, false) else
  let w := if s.bit R.FC_CTL 31 then s.get (R.FC_SRC src) else fcSrcReset src
  let r := fldOf w 2 0
  (if r ≤ 4 then r else 1, bitOf w 4)

/-- The BRST targets of a source (R333); empty where the target is none or a page that SYS_BRST does not admit. -/
def brstTargets (src : Nat) (detail : Word) : List Nat :=
  let named := [fldOf detail 14 8].filter brstAdmits
  if src = 11 ∨ src = 15 then [0x30, 0x31, 0x32, 0x33, 0x34, 0x35, 0x36, 0x37]
  else if src = 10 then [0x40]
  else if src = 25 ∨ src = 26 ∨ (32 ≤ src ∧ src < 40) then named
  else if 40 ≤ src ∧ src < 48 then [0x10 + src % 8]
  else if 48 ≤ src ∧ src < 56 then [0x20 + src % 8]
  else if 56 ≤ src ∧ src < 96 then [0x30 + src % 8]
  else if 104 ≤ src ∧ src < 112 then [0x48]
  else if (112 ≤ src ∧ src ≤ 116) ∨ src = 119 then [0x58]
  else if src = 120 then [0x61]
  else []

/-- The reaction applied at a raise: a BRST without a target acts as INT for that raise (R333). -/
def State.applied (s : State) (src : Nat) (detail : Word) : Nat × Bool :=
  let (r, f) := s.reaction src
  (if r = 3 ∧ brstTargets src detail = [] then 1 else r, f)

/-- The record of a source (R339). -/
def State.fcRec (s : State) (src : Nat) : FcRec := (spFind s.fc src).getD {}

/-- The state with the record of a source replaced; a clear record is not listed. -/
def State.setFcRec (s : State) (src : Nat) (r : FcRec) : State := { s with fc := spSet {} s.fc src r }

/-- The record after a raise (R339): PEND is set again unless the reaction is NONE, and a PEND that stands is left. -/
def raisedRec (r : FcRec) (react : Nat) (fpin : Bool) (time : Nat) (detail : Word) : FcRec :=
  if r.latch then
    { r with cnt := if r.cnt < 255 then r.cnt + 1 else 255, react := react, fpin := fpin, pend := r.pend || react ≠ 0 }
  else { latch := true, pend := react ≠ 0, cnt := 1, fpin := fpin, react := react, time := time, detail := detail }

/-- A raise latches its record; sources 126 and 127 are never raised. An NMI raised while the EXEC core is in reset is held (R338). -/
def State.record (s : State) (src : Nat) (detail : Word) : State :=
  if 126 ≤ src then s else
  let (r, f) := s.applied src detail
  let s := s.setFcRec src (raisedRec (s.fcRec src) r f s.sys.time detail)
  { s with fcLast := src, sys := { s.sys with nmiHeld := s.sys.nmiHeld || (r = 2 && s.sys.exec = .handover) } }

/-- The sources raised in one collector cycle (R337): each latches its record; each BRST target is reset once; a CRST takes place
alone, with the lowest-numbered such source. While a chip reset is in progress nothing happens (R435). -/
def State.raises (s : State) (rs : List (Nat × Word)) : State :=
  if s.sys.chipReset then s else
  let acts := rs.filter fun e => e.1 < 126
  let crst := (acts.filter fun e => (s.applied e.1 e.2).1 = 4).map (·.1)
  let targets := ((acts.filter fun e => (s.applied e.1 e.2).1 = 3).flatMap fun e => brstTargets e.1 e.2).eraseDups
  let t := acts.foldl (fun s e => s.record e.1 e.2) s
  match crst with
  | [] => targets.foldl State.blockReset t
  | c :: cs => t.chipReset (.crst (cs.foldl min c))

/-- A raise of one event source. -/
def State.raise (s : State) (src : Nat) (detail : Word) : State := s.raises [(src, detail)]

/-- A level source's condition starts: it is raised (R333). A condition already present raises nothing. -/
def State.raiseLevel (s : State) (src : Nat) (detail : Word) : State :=
  if s.present src then s else
  let s := { s with fcPresent := bvPut s.fcPresent src true }
  s.raise src detail

/-- A level source follows its condition (R104, R333). -/
def State.level (s : State) (src : Nat) (b : Bool) (detail : Word) : State :=
  if b then s.raiseLevel src detail else s.drop src

/-- The detail of an access fault: master ID [31:29], internal address [15:0] (R333). -/
def accessDetail (m : Master) (k : Nat) : Word := wordOfNat (m.id * 536870912 + (k * 4) % 65536)

/-- A write is ignored and raises WRITE_IGNORED. -/
def State.writeIgnored (s : State) (m : Master) (k : Nat) : State := s.raise 2 (accessDetail m k)

/-- The detail of a register that mismatches its parity: page [14:8], index [6:0] (R333). -/
def parityDetail (k : Nat) : Word := wordOfNat ((k / 128) * 256 + k % 128)

/-! ### Records cleared and acknowledged (R340) -/

/-- A write of 1 to the bit of a source in FC_CLR. -/
def State.fcClear (s : State) (src : Nat) : State := if s.present src then s else { s with fc := spDel s.fc src }

/-- A write of 1 to the bit of a source in FC_ACK: PEND clears. -/
def State.fcAckOne (s : State) (src : Nat) : State :=
  if (s.fcRec src).latch then s.setFcRec src { s.fcRec src with pend := false } else s

/-- The sources of register j of a map whose bits a word sets, ascending. -/
def bitsSet (j : Nat) (w : Word) : List Nat := ((List.range 32).filter (bitOf w)).map (32 * j + ·)

/-- A write of FC_CLRj (R340): it acts whatever FC_CTL.EN holds. -/
def State.fcClr (s : State) (j : Nat) (w : Word) : State := (bitsSet j w).foldl State.fcClear s

/-- A write of FC_ACKj (R340). -/
def State.fcAck (s : State) (j : Nat) (w : Word) : State := (bitsSet j w).foldl State.fcAckOne s

/-! ### What the collector drives -/

/-- FC_LATCHj: bit b is LATCH of source 32j + b. -/
def State.fcLatchMap (s : State) (j : Nat) : Word := wordOfNat (packBits 32 fun i => (s.fcRec (32 * j + i)).latch)

/-- FC_PENDj. -/
def State.fcPendMap (s : State) (j : Nat) : Word := wordOfNat (packBits 32 fun i => (s.fcRec (32 * j + i)).pend)

/-- FC_CAUSEj. -/
def State.fcCauseMap (s : State) (j : Nat) : Word := wordOfNat (packBits 32 fun i => s.present (32 * j + i))

/-- Latched records. -/
def State.nlatch (s : State) : Nat := (s.fc.filter fun e => e.2.latch).length

/-- Some record is pending: the EXEC fault interrupt, and a cause of IRQ_N (R122, R334). -/
def State.faultInt (s : State) : Bool := s.fc.any fun e => e.2.pend

/-- NMI is asserted to the EXEC core: a record with NMI is pending, and the core is out of reset (R32, R334, R338). -/
def State.nmi (s : State) : Bool := s.sys.exec ≠ .handover && s.fc.any fun e => e.2.pend && e.2.react = 2

/-- FAULT_N is driven low (R341). -/
def State.faultLow (s : State) : Bool :=
  (s.fc.any fun e => e.2.latch && e.2.fpin) || !s.bit R.FC_CTL 1 || s.saf.safe || s.fcSafe || s.sys.strapStuck

/-- A latched record of a CFG_PARITY source or of an uncorrectable-memory source: status bit PAR (R94). -/
def State.parStatus (s : State) : Bool :=
  s.fc.any fun e => e.2.latch && ((16 ≤ e.1 && e.1 ≤ 26) || (32 ≤ e.1 && e.1 < 40))

/-- FC_REC of a source. -/
def State.fcRecWord (s : State) (src : Nat) : Word :=
  let r := s.fcRec src
  wordOfNat (b2n r.latch * 2 ^ 31 + b2n r.pend * 2 ^ 30 + b2n (s.present src) * 2 ^ 29 + r.cnt * 65536 + b2n r.fpin * 2048
    + r.react * 256 + src)

/-- FC_STAT. -/
def State.fcStatWord (s : State) : Word :=
  wordOfNat (b2n s.fcSafe * 2 ^ 31 + s.fcLast * 2 ^ 24 + s.nlatch)

/-- A latched fault on an axis: a latched record of one of its eight sources other than ME_EV (R180). -/
def State.axisFault (s : State) (ax : Axis) : Bool :=
  [32, 48, 56, 64, 72, 80, 88, 96].any fun b => (s.fcRec (b + ax)).latch

end Sys2Proof.Machine
end

