-- ==== Sys2Proof/Machine/Access.lean ====
section
/-! DEFINITION. How a master's register access reaches its page: the clocks behind the pages, pages that are not served, blocks held in
reset, and the record that a one-word frame leaves in its port (R17, R48, R70, R90, R93, R94, R96). -/

namespace Sys2Proof.Machine

/-- The device takes accesses: from the end of the chip reset, outside SLEEP (R74, R96). -/
def State.portOpen (s : State) : Bool := !s.sys.chipReset && !s.sys.asleep

/-- A page is served to the serial ports: under a strap fault pages 0x00 and 0x01 alone (R48, R96). -/
def State.pageServed (s : State) (page : Nat) : Bool := !s.sys.strapStuck || page ≤ 1

/-- The pages on PLL-B (R12). -/
def onPllB (p : Nat) : Bool := (0x20 ≤ p && p ≤ 0x38) || (0x40 ≤ p && p ≤ 0x45) || p = 0x48

/-- The clock behind a page is absent: PLL-A, on which the bus itself runs; PLL-B outside STANDBY; RC-S behind page 0x50; RC-H behind page
0x02 (R12, R17, R93). -/
def State.clockGone (s : State) (p : Nat) : Bool :=
  (p ≠ 0 && s.sys.pllStop.getLsbD 0) || (onPllB p && s.sys.pllStop.getLsbD 1 && !s.standby) || (p = 0x50 && s.sys.rcsStop)
    || (p = 0x02 && s.sys.rchStop)

/-- The clocks of the modulators and of the PWM domain stand still: PLL-B stopped (R74, R251, R278). -/
def State.modStopped (s : State) : Bool := s.standby || s.sys.pllStop.getLsbD 1

/-- A page's block is held in reset (R70): a write has no effect there (DEDUCED, log entry 91). -/
def State.held (s : State) (p : Nat) : Bool := s.sys.blockRst.contains p

/-- A one-word frame of a serial master begins a fresh record of its port (R94); another master's access leaves the ports alone. -/
def State.opened (s : State) (m : Master) : State :=
  match m with
  | .host => { s.quiet with hostPort := { page := s.hostPort.page } }
  | .maint => { s.quiet with maintPort := { page := s.maintPort.page } }
  | _ => s.quiet

/-- A read of a master reaches a register of page `p`. -/
def State.opensRead (s : State) (m : Master) (p : Nat) : Bool :=
  s.portOpen && (!m.serial || s.pageServed p) && !s.clockGone p

/-- A write of a master reaches a register of page `p`. -/
def State.opens (s : State) (m : Master) (p : Nat) : Bool := s.opensRead m p && !s.held p

/-- An access meets an absent clock: BUS_TIMEOUT, and a bus error for an internal master (R17, R90). -/
def State.timedOut (s : State) (m : Master) (k : Nat) : State :=
  let s := s.raise 1 (accessDetail m k)
  if m.serial then s else s.busError

/-- A write of the register at `k` by a master: `f` where it reaches the register; BUS_TIMEOUT where the clock is absent; nothing on a page
that is not served or held in reset, in a chip reset and in SLEEP. -/
def State.access (s : State) (m : Master) (k : Nat) (f : State → State) : State :=
  let p := k / 128
  if s.opens m p then f (s.opened m)
  else if !s.portOpen then s.quiet
  else if (!m.serial || s.pageServed p) && s.clockGone p then (s.opened m).timedOut m k
  else s.opened m

/-- A LO word staged for a multi-word value is dropped (R101). -/
def State.unstage (s : State) (k : Nat) : State := { s with staged := spDel s.staged k }

/-- A read frame of a serial port whose word was late: UNDR (R92, R94). -/
def State.underrun (s : State) (m : Master) : State :=
  match m with
  | .host => { s with hostPort := { s.hostPort with undr := true } }
  | .maint => { s with maintPort := { s.maintPort with undr := true } }
  | _ => s

/-- A read of the register at `k` by a master: `f` answers where it reaches the register; a serial port finds 0 on a page that is not served
(R48) and is late where the clock is absent (R93); an internal master meets BUS_TIMEOUT there. -/
def State.accessRead (s : State) (m : Master) (k : Nat) (f : State → State) : State :=
  let p := k / 128
  if s.opensRead m p then f (s.opened m)
  else if !s.portOpen then s.quiet
  else if !m.serial then (s.opened m).timedOut m k
  else if s.pageServed p then ((s.opened m).answer [0#32]).underrun m
  else (s.opened m).answer [0#32]

end Sys2Proof.Machine
end

