-- ==== Sys2Proof/Machine/Gate.lean ====
section
/-! DEFINITION. Gate drive (spec/11): the drivers of an axis's four legs, the interlock, bootstrap lockout, short monitors, off-state
diagnostics and self-test. -/

namespace Sys2Proof.Machine

/-! ### Status bits and the levels of the collector -/

/-- ME_STAT.MOVING: velocity or acceleration not 0. -/
def State.moving (s : State) (ax : Axis) : Bool := (s.me ax).vel ≠ 0 || (s.me ax).acc ≠ 0

/-- Drivers of the axis may turn gates on: GD_CFG.EN, VG above its undervoltage level, both channels grant the enable, neither a chip reset
nor a block reset of the axis's PWM or GD page is in force, and no diagnostic or self-test holds the gates off (R66, R73, R264, R268, R271,
R309). -/
def State.gateUp (s : State) (ax : Axis) : Bool :=
  s.bit (R.GD_CFG ax) 31 && s.vgOk && s.granted ax && !s.sys.chipReset
    && !(s.sys.blockRst.any fun p => p = 0x28 + ax.val || p = 0x30 + ax.val) && !s.bit (R.GD_STAT ax) 18 && !s.bit (R.GD_STAT ax) 19

/-- The detail of GD_WIREn (R333). -/
def State.wireDetail (s : State) (ax : Axis) : Word :=
  wordOfNat (s.fld (R.GD_DIAG ax) 17 0 + s.fld (R.GD_WREP ax) 4 0 * 16777216)

/-- The level sources of an axis's gate drive follow their conditions (R257, R264 to R270). -/
def State.settleGd (s : State) (ax : Axis) : State :=
  let flt := s.get (R.GD_FLT ax)
  let s := s.level (64 + ax) (fldOf flt 15 8 ≠ 0) flt
  let s := s.level (72 + ax) (fldOf flt 19 18 ≠ 0) flt
  let s := s.level (88 + ax) (fldOf flt 23 20 ≠ 0) flt
  s.level (96 + ax) (s.fld (R.GD_DIAG ax) 17 1 ≠ 0 || s.fld (R.GD_WREP ax) 4 0 ≠ 0) (s.wireDetail ax)

/-- The drivers of a leg may turn a gate on: those of the axis may, and its bridge is not latched off (R249). -/
def State.legUp (s : State) (ax : Axis) (j : Leg) : Bool :=
  s.gateUp ax && !s.bit (R.PWM_STAT ax) (match bridgeOfLeg j with | .a => 0 | .b => 1)

/-- The off comparators of an axis in GHOFF and GLOFF (R256). While a leg waits for its turn-on, a gate that was on is falling, and whether it
is below 2.0 V yet is open: those bits make the second word. -/
def State.offBits (s : State) (ax : Axis) : Nat × Nat :=
  let l (j : Nat) : LegSt := s.leg ax ⟨j % 4, by omega⟩
  let both (f g : LegSt → Bool) : Nat := packBits 4 (fun j => f (l j)) * 256 + packBits 4 (fun j => g (l j)) * 4096
  (both (fun l => !l.hiOn) (fun l => !l.loOn), both (fun l => l.hiOn && l.wait.isSome) (fun l => l.loOn && l.wait.isSome))

/-- GD_STAT: RDY, and the off comparators, which read 0 while the drivers are disabled. -/
def State.gdStat (s : State) (ax : Axis) : Word :=
  let en := s.bit (R.GD_CFG ax) 31
  let o := s.offBits ax
  (s.get (R.GD_STAT ax) &&& 0xE000F#32)
    ||| (if en then wordOfNat o.1 ||| (wordOfNat o.2 &&& Config.freeWord s.free) else 0#32)
    ||| wordOfNat (b2n (en && s.vgOk) * 65536)

/-- A look at GD_STAT uses up the free value of its open bits. -/
def State.lookGd (s : State) (ax : Axis) : State := if (s.offBits ax).2 = 0 then s else { s with free := s.free + 1 }

/-- GD_BSTn is raised with GD_STAT (R264). -/
def State.raiseBst (s : State) (ax : Axis) : State :=
  if s.vgOk then (s.raise (80 + ax) (s.gdStat ax)).lookGd ax else s

/-- The monitors of a leg's gates are disarmed: its VDS findings read 0 (R265). -/
def State.vdsClear (s : State) (ax : Axis) (j : Leg) : State :=
  (s.setBit (R.GD_FLT ax) (8 + j) false).setBit (R.GD_FLT ax) (12 + j) false

/-! ### Commands to a leg (R240, R256 to R258, R263) -/

/-- The monitors of a leg are disarmed, and the source of the axis follows what then stands. -/
def State.disarm (s : State) (ax : Axis) (j : Leg) : State :=
  let some_ := s.bit (R.GD_FLT ax) (8 + j) || s.bit (R.GD_FLT ax) (12 + j)
  let s := (s.vdsClear ax j).onLeg ax j fun l => { l with armed := false }
  if some_ then s.settleGd ax else s

/-- STUCK of a leg ends: its gate is no longer commanded off, or has been recorded off (R257). -/
def State.unstick (s : State) (ax : Axis) (j : Leg) : State :=
  if s.bit (R.GD_FLT ax) (20 + j) then (s.setBit (R.GD_FLT ax) (20 + j) false).settleGd ax else s

/-- A leg is commanded: its high side on (true), its low side on (false), or both off. A turn-on waits for the interlock and the dead time,
that of a gate that was just turning off too (R258); a gate that is stuck on stays so. A commanded turn-on of a high side in bootstrap
lockout raises GD_BSTn, and the low side turns off as commanded (R263). -/
def State.legCommand (s : State) (ax : Axis) (j : Leg) (cmd : Option Bool) : State :=
  match cmd with
  | none =>
    let stuck := s.bit (R.GD_FLT ax) (20 + j)
    (s.disarm ax j).onLeg ax j fun l => { l with
      hiCmd := false, loCmd := false, hiOn := l.hiOn && stuck, loOn := l.loOn && stuck, wait := none, bstHeld := false }
  | some hi =>
    let l := s.leg ax j
    let up := s.legUp ax j
    let already := l.wait.isNone && (if hi then l.hiOn && l.hiCmd && !l.loOn else l.loOn && l.loCmd && !l.hiOn)
    let s := if already then s else s.disarm ax j
    let s := if (if hi then l.hiOn else l.loOn) then s.unstick ax j else s
    let low := hi && s.bit (R.GD_STAT ax) j
    let s := s.onLeg ax j fun l => { l with hiCmd := hi, loCmd := !hi, wait := if already || !up then none else some hi, bstHeld := low }
    if low then s.raiseBst ax else s

/-- A turn-on starts: the interlock has recorded the opposite gate off (R240, step 5). A high side that its bootstrap has held off since its
command stays off (R263). -/
def State.turnOn (s : State) (ax : Axis) (j : Leg) : State :=
  match (s.leg ax j).wait with
  | none => s
  | some hi =>
    let ok := s.legUp ax j && !(hi && (s.bit (R.GD_STAT ax) j || (s.leg ax j).bstHeld))
    (s.unstick ax j).onLeg ax j fun l => { l with hiOn := hi && ok, loOn := !hi && ok, armed := ok, wait := none }

/-- The gates of an axis are held off at their drivers: waits end, monitors disarm, running diagnostics end (R205, R257, R265, R267,
R269, R271). -/
def State.endDiag (s : State) (ax : Axis) : State :=
  let s := if s.bit (R.GD_STAT ax) 18 then (s.setBit (R.GD_STAT ax) 18 false).set (R.GD_DIAG ax) 0#32 else s
  if s.bit (R.GD_STAT ax) 19 then (s.setBit (R.GD_STAT ax) 19 false).set (R.GD_STRES ax) 0#32 else s

/-- An enable goes, or VG's undervoltage lockout acts: the gates turn off while what is commanded stands. -/
def State.gateLost (s : State) (ax : Axis) : State :=
  let s := (s.gatesHeld ax).endDiag ax
  (s.setFld (R.GD_FLT ax) 15 8 0).settleGd ax

/-! ### Registers of page 0x30 + n -/

/-- The four low sides of the axis are commanded on or all gates off. -/
def State.allLegs (s : State) (ax : Axis) (cmd : Option Bool) : State := forAll 4 s fun s j => s.legCommand ax j cmd

/-- Precharge ends: PRERUN reads 0 and the low sides turn off (R262). -/
def State.prechargeEnd (s : State) (ax : Axis) : State :=
  if s.bit (R.GD_STAT ax) 17 then (s.setBit (R.GD_STAT ax) 17 false).allLegs ax none else s

/-- GD_CTL.PRECH (R262). -/
def State.precharge (s : State) (m : Master) (ax : Axis) : State :=
  if s.bit (R.GD_CFG ax) 31 ∧ !s.bit (R.PWM_CFG ax) 31 then (s.setBit (R.GD_STAT ax) 17 true).allLegs ax (some false)
  else s.writeIgnored m (R.GD_CTL ax)

/-- The conditions of R268 and R271. -/
def State.diagMay (s : State) (ax : Axis) : Bool := s.bit (R.GD_CFG ax) 31 && !s.bit (R.PWM_CFG ax) 31 && !s.moving ax

/-- GD_CTL.DIAG (R268): GD_DIAG keeps its result until this start. -/
def State.diagStart (s : State) (m : Master) (ax : Axis) : State :=
  if s.diagMay ax then
    (((s.allLegs ax none).setBit (R.GD_STAT ax) 18 true).set (R.GD_DIAG ax) 0#32).settleGd ax
  else s.writeIgnored m (R.GD_CTL ax)

/-- GD_CTL.STEST (R271). -/
def State.stestStart (s : State) (m : Master) (ax : Axis) : State :=
  if s.diagMay ax then ((s.allLegs ax none).setBit (R.GD_STAT ax) 19 true).set (R.GD_STRES ax) 0#32
  else s.writeIgnored m (R.GD_CTL ax)

/-- A write of GD_CTL. -/
def State.gdCtlWrite (s : State) (m : Master) (ax : Axis) (w : Word) : State :=
  let s := if bitOf w 0 then s.precharge m ax else s
  let s := if bitOf w 1 then s.diagStart m ax else s
  if bitOf w 2 then s.stestStart m ax else s

/-- The off-state diagnostic ends (R268, step 4): a coil with a short finding is not judged for an open. -/
def State.diagEnd (s : State) (ax : Axis) (shvs shgnd : BitVec 4) (openA openB : Bool) : State :=
  if !s.bit (R.GD_STAT ax) 18 then s else
  let short := shvs ||| shgnd
  let a := openA && !short.getLsbD 0 && !short.getLsbD 1
  let b := openB && !short.getLsbD 2 && !short.getLsbD 3
  let w := 1 + shvs.toNat * 16 + shgnd.toNat * 256 + b2n a * 65536 + b2n b * 131072
  ((s.setBit (R.GD_STAT ax) 18 false).set (R.GD_DIAG ax) (wordOfNat w)).settleGd ax

/-- A write of GD_WREP: EXEC only (R270, R272). -/
def State.wrepWrite (s : State) (m : Master) (ax : Axis) (w : Word) : State :=
  if m = .exec then (s.set (R.GD_WREP ax) (w &&& 0x1F#32)).settleGd ax else s.writeIgnored m (R.GD_WREP ax)

/-- GD_CFG.EN is cleared: all eight gates are held off passively and no monitor is armed (R254, R267, R272). -/
def State.gdDisable (s : State) (ax : Axis) : State :=
  if !s.bit (R.GD_CFG ax) 31 then s else
  let s := (((s.gatesHeld ax).setBit (R.GD_CFG ax) 31 false).endDiag ax).setBit (R.GD_STAT ax) 17 false
  (s.setFld (R.GD_FLT ax) 19 8 0).settleGd ax

/-! ### Detections -/

/-- A VDS monitor's finding (R265): it counts only while that gate is on and armed, and ends when VDS falls below VTH. -/
def State.vdsShort (s : State) (ax : Axis) (j : Leg) (high active : Bool) : State :=
  let l := s.leg ax j
  if l.armed && (if high then l.hiOn else l.loOn) then
    (s.setBit (R.GD_FLT ax) (if high then 8 + j else 12 + j) active).settleGd ax
  else s

/-- The hard-short comparator of a bridge (R266): armed whenever GD_CFG.EN is 1, but not in its own self-test step, which the running
self-test stands for (DEDUCED, log entry 106). -/
def State.hardShort (s : State) (ax : Axis) (br : Bridge) (active : Bool) : State :=
  let i := match br with | .a => 18 | .b => 19
  (s.setBit (R.GD_FLT ax) i (active && s.bit (R.GD_CFG ax) 31 && !s.bit (R.GD_STAT ax) 19)).settleGd ax

/-- A leg waits for a gate that is commanded off and not recorded off. -/
def LegSt.waits (l : LegSt) : Bool :=
  match l.wait with
  | some hi => if hi then l.loOn else l.hiOn
  | none => false

/-- The interlock times out (R240, R257): no turn-on takes place, the leg takes no part until its next command, and GATE_STUCKn is raised. -/
def State.stuck (s : State) (ax : Axis) (j : Leg) : State :=
  if !(s.leg ax j).waits then s else
  let s := s.onLeg ax j fun l => { l with wait := none, hiCmd := false, loCmd := false, armed := false }
  (s.setBit (R.GD_FLT ax) (20 + j) true).settleGd ax

/-- Bootstrap undervoltage asserts (R263): the high side turns off; a low side that is turning off goes on doing so. -/
def State.bstAssert (s : State) (ax : Axis) (j : Leg) : State :=
  if s.bit (R.GD_STAT ax) j then s else
  let on := (s.leg ax j).hiOn
  let s := s.setBit (R.GD_STAT ax) j true
  let s := if on then s.disarm ax j else s
  let s := s.onLeg ax j fun l => { l with hiOn := false, bstHeld := l.hiCmd }
  if on then s.raiseBst ax else s

/-- VG falls below its undervoltage level (R64, R66). -/
def State.vgAssert (s : State) : State :=
  let s := s.setBit R.SYS_SUPSTAT 3 false
  let s := forAll 8 s fun s ax => s.gateLost ax
  s.raiseLevel 7 (s.get R.SYS_SUPSTAT)

/-! ### The commands -/

/-- TURN_ON_START (R240). -/
def execTurnOnStart (ax : Axis) (leg : Leg) (s : State) : Host.Outcome State Fault Refusal := .next (s.quiet.turnOn ax leg)

/-- VDS_SHORT (R265). -/
def execVdsShort (ax : Axis) (leg : Leg) (high active : Bool) (s : State) : Host.Outcome State Fault Refusal :=
  .next (s.quiet.vdsShort ax leg high active)

/-- HARD_SHORT (R266). -/
def execHardShort (ax : Axis) (br : Bridge) (active : Bool) (s : State) : Host.Outcome State Fault Refusal :=
  .next (s.quiet.hardShort ax br active)

/-- BOOTSTRAP_UV_ASSERT (R263). -/
def execBootstrapUvAssert (ax : Axis) (leg : Leg) (s : State) : Host.Outcome State Fault Refusal := .next (s.quiet.bstAssert ax leg)

/-- BOOTSTRAP_UV_RELEASE (R263): the high side turns on at its next commanded edge or the next period boundary. -/
def execBootstrapUvRelease (ax : Axis) (leg : Leg) (s : State) : Host.Outcome State Fault Refusal :=
  .next (s.quiet.setBit (R.GD_STAT ax) leg false)

/-- GATE_BUDGET_WINDOW (R255). -/
def execGateBudgetWindow (mA : Nat) (s : State) : Host.Outcome State Fault Refusal :=
  let s := (s.quiet.set R.GDG_IGATE (wordOfNat (min mA 65535))).set R.GDG_STAT (wordOfNat (b2n (500 < mA)))
  .next (s.level 9 (500 < mA) (s.get R.GDG_IGATE))

/-- PRECH (R262). -/
def execPrech (m : Master) (ax : Axis) (s : State) : Host.Outcome State Fault Refusal :=
  .next (s.access m (R.GD_CTL ax) fun s => s.precharge m ax)

/-- PRECHARGE_END (R262). -/
def execPrechargeEnd (ax : Axis) (s : State) : Host.Outcome State Fault Refusal := .next (s.quiet.prechargeEnd ax)

/-- DIAG (R268). -/
def execDiag (m : Master) (ax : Axis) (s : State) : Host.Outcome State Fault Refusal :=
  .next (s.access m (R.GD_CTL ax) fun s => s.diagStart m ax)

/-- DIAG_COMPLETE (R268, R269). -/
def execDiagComplete (ax : Axis) (shvs shgnd : BitVec 4) (openA openB : Bool) (s : State) : Host.Outcome State Fault Refusal :=
  .next (s.quiet.diagEnd ax shvs shgnd openA openB)

/-- STEST (R271). -/
def execStest (m : Master) (ax : Axis) (s : State) : Host.Outcome State Fault Refusal :=
  .next (s.access m (R.GD_CTL ax) fun s => s.stestStart m ax)

/-- SELFTEST_COMPLETE (R271). -/
def execSelftestComplete (ax : Axis) (failed : BitVec 30) (s : State) : Host.Outcome State Fault Refusal :=
  .next (if s.bit (R.GD_STAT ax) 19 then
    (s.quiet.setBit (R.GD_STAT ax) 19 false).set (R.GD_STRES ax) (wordOfNat (failed.toNat + 2147483648)) else s.quiet)

/-- GD_WREP_WRITE (R270). -/
def execGdWrepWrite (m : Master) (ax : Axis) (w : Word) (s : State) : Host.Outcome State Fault Refusal :=
  .next (s.access m (R.GD_WREP ax) fun s => s.wrepWrite m ax w)

/-- VG_UV_ASSERT (R66). -/
def execVgUvAssert (s : State) : Host.Outcome State Fault Refusal := .next s.quiet.vgAssert

/-- VG_UV_RELEASE (R66). -/
def execVgUvRelease (s : State) : Host.Outcome State Fault Refusal := .next ((s.quiet.setBit R.SYS_SUPSTAT 3 true).drop 7)

end Sys2Proof.Machine
end

