-- ==== Sys2Proof/Machine/Mailbox.lean ====
section
/-! DEFINITION. Mailboxes, doorbells and the binding table (spec/05): channels, doorbell levels, HALT-ALL and orphaned messages. -/

namespace Sys2Proof.Machine

/-! ### Channels and bindings -/

/-- The address of offset `o` of block channel `n` (R130). -/
def bch (n o : Nat) : Nat := regKey (4 + n / 4) (0x20 * (n % 4) + o)

/-- Whether an address lies in a block channel's slot, and which channel and offset. -/
def bchOf (k : Nat) : Option (Fin 8 × Nat) :=
  let p := k / 128
  let i := k % 128
  if p = 4 ∨ p = 5 then
    if h : (p - 4) * 4 + i / 32 < 8 then (if i % 32 ≤ 0x12 then some (⟨(p - 4) * 4 + i / 32, h⟩, i % 32) else none) else none
  else none

/-- A binding entry, 0 to 7 block channels, 8 to 15 word channels, binds its channel: neither field is 7 (R114). -/
def State.isBound (s : State) (entry : Nat) : Bool := s.fld (R.MBX_BINDB entry) 2 0 ≠ 7 && s.fld (R.MBX_BINDB entry) 6 4 ≠ 7

/-- The sender bound to a binding entry (R112); 7 of an unbound channel. -/
def State.sndOf (s : State) (entry : Nat) : Nat := if s.isBound entry then s.fld (R.MBX_BINDB entry) 2 0 else 7

/-- The receiver bound to a binding entry; 7 of an unbound channel. -/
def State.rcvOf (s : State) (entry : Nat) : Nat := if s.isBound entry then s.fld (R.MBX_BINDB entry) 6 4 else 7

/-- FULL of a block channel. -/
def State.bFull (s : State) (n : Nat) : Bool := s.bit (bch n 0x11) 0

/-- FULL of a word channel. -/
def State.wFull (s : State) (n : Nat) : Bool := s.bit R.MBX_WSTAT n

/-- The message words of a block channel. -/
def State.msg (s : State) (n : Nat) : List Word := (List.range 16).map fun i => s.get (bch n i)

/-- A write by a channel's sender while FULL is refused (R118): a bus error for an internal master, NAK for a serial port. -/
def State.refuseFull (s : State) (m : Master) : State :=
  match m with
  | .host => { s with hostPort := { s.hostPort with nak := true } }
  | .maint => { s with maintPort := { s.maintPort with nak := true } }
  | _ => s.busError

/-- A write-once register is written again (R88, R107): LOCK_VIOLATION, and NAK for a serial port. -/
def State.onceAgain (s : State) (m : Master) (k : Nat) : State :=
  (if m.serial then s.refuseFull m else s).raise 3 (accessDetail m k)

/-- A write of MSGk of a block channel (R115, R118). -/
def State.msgWrite (s : State) (m : Master) (n k : Nat) (w : Word) : State :=
  if m.id ≠ s.sndOf n then s.writeIgnored m (bch n k)
  else if s.bFull n then s.refuseFull m
  else s.set (bch n k) w

/-- MSG15 is checked at GO when the entry has CRCEN (R119). -/
def State.crcBad (s : State) (n : Nat) : Bool :=
  s.bit (R.MBX_BINDB n) 8 && crc32Words ((s.msg n).take 15) ≠ s.get (bch n 15)

/-- A write of CTL of a block channel: GO sets FULL, counts SEQ and checks the CRC (R115, R119). -/
def State.goWrite (s : State) (m : Master) (n : Nat) (w : Word) : State :=
  if m.id ≠ s.sndOf n then s.writeIgnored m (bch n 0x10)
  else if s.bFull n then s.refuseFull m
  else if !bitOf w 0 then s
  else
    let st := s.incFld (bch n 0x11) 23 16
    ((st.setBit (bch n 0x11) 2 (s.crcBad n)).setBit (bch n 0x11) 1 false).setBit (bch n 0x11) 0 true

/-- CRCBAD of a block channel: 0 while its entry has CRCEN 0 (R119). -/
def State.bCrcBad (s : State) (n : Nat) : Bool := s.bit (bch n 0x11) 2 && s.bit (R.MBX_BINDB n) 8

/-- STAT of a block channel as it reads: RCV and SND from the binding entry (R130). -/
def State.bStat (s : State) (n : Nat) : Word :=
  putBit (putFld (putFld (s.get (bch n 0x11)) 10 8 (s.fld (R.MBX_BINDB n) 6 4)) 6 4 (s.fld (R.MBX_BINDB n) 2 0)) 2 (s.bCrcBad n)

/-- A write of STAT or TAKE, which take none: the sender's is refused while FULL, another master's is ignored (R118). -/
def State.slotWrite (s : State) (m : Master) (n k : Nat) : State :=
  if m.id ≠ s.sndOf n then s.writeIgnored m k else if s.bFull n then s.refuseFull m else s

/-- What a read of TAKE returns (R116). -/
def State.takeWord (s : State) (m : Master) (n : Nat) : Word :=
  if m.id = s.rcvOf n ∧ !s.bFull n then 0#32 else s.get (bch n 0)

/-- The side effect of a read of TAKE by the receiver while FULL is 1 (R116). -/
def State.takeEffect (s : State) (m : Master) (n : Nat) : State :=
  if m.id = s.rcvOf n ∧ s.bFull n then (s.setBit (bch n 0x11) 0 false).setBit (bch n 0x11) 1 false else s

/-- A write of MBX_WDATAn (R117, R118). -/
def State.wordWrite (s : State) (m : Master) (n : Nat) (w : Word) : State :=
  if m.id ≠ s.sndOf (8 + n) then s.writeIgnored m (R.MBX_WDATA n)
  else if s.wFull n then s.refuseFull m
  else ((s.set (R.MBX_WDATA n) w).setBit R.MBX_WSTAT n true).setBit R.MBX_WSTAT (8 + n) false

/-- The side effect of a read of MBX_WDATAn by the receiver while FULL is 1 (R117). -/
def State.wordEffect (s : State) (m : Master) (n : Nat) : State :=
  if m.id = s.rcvOf (8 + n) ∧ s.wFull n then (s.setBit R.MBX_WSTAT n false).setBit R.MBX_WSTAT (8 + n) false else s

/-! ### Doorbells (R121, R122) -/

/-- A channel of receiver `t` holds a message. -/
def State.waiting (s : State) (t entry : Nat) : Bool :=
  s.rcvOf entry = t && (if entry < 8 then s.bFull entry else s.wFull (entry - 8))

/-- A channel of receiver `t` holds a message marked ORPHAN. -/
def State.orphanFor (s : State) (t entry : Nat) : Bool :=
  s.waiting t entry && (if entry < 8 then s.bit (bch entry 0x11) 1 else s.bit R.MBX_WSTAT entry)

/-- FLAG bits of DB_t: the bits that any master holds in MBX_FLAG_s_t. -/
def State.flags (s : State) (t : Nat) : Word :=
  ((List.range 5).map fun r => s.get (R.MBX_FLAG (5 * r + t))).foldl (· ||| ·) 0#32

/-- DB_t (R121). -/
def State.doorbell (s : State) (t : Nat) : Word :=
  let lows := packBits 16 fun e => s.waiting t e
  let attn := (List.range 16).any (s.orphanFor t) || (List.range 5).any fun r => s.bit R.MBX_ATTN (5 * r + t)
  wordOfNat (lows + fldOf (s.flags t) 29 16 * 65536 + b2n attn * 2 ^ 30 + b2n s.haltAll * 2 ^ 31)

/-- The interrupt of a core is asserted (R122). -/
def State.dbInt (s : State) (t : Nat) : Bool := s.doorbell t &&& s.get (R.MBX_DBMASK t) ≠ 0#32

/-- IRQ_N is asserted (R122). -/
def State.irq (s : State) : Bool := s.dbInt 0 || s.faultInt

/-! ### Binding table and the registers of page 0x03 -/

/-- The bits of a binding entry that a write may store: CRCEN is reserved in word channels' entries (R129). -/
def bindMask (entry : Nat) : Word := if entry < 8 then 0x177#32 else 0x77#32

/-- A write of a binding entry (R113, R114). -/
def State.bindWrite (s : State) (m : Master) (entry : Nat) (w : Word) : State :=
  let k := R.MBX_BINDB entry
  let snd := fldOf w 2 0
  let rcv := fldOf w 6 4
  let full := if entry < 8 then s.bFull entry else s.wFull (entry - 8)
  if s.bit R.MBX_LOCK 0 then s.raise 3 (accessDetail m k)
  else if m ≠ .exec then s.writeIgnored m k
  else if full ∨ (snd = rcv ∧ snd < 5) ∨ snd = 5 ∨ snd = 6 ∨ rcv = 5 ∨ rcv = 6 then s.writeIgnored m k
  else if 8 ≤ entry ∧ entry < 12 then s
  else s.store k (w &&& bindMask entry)

/-- A write of MBX_LOCK (R107, R113): a write of 0 does not count as a first write. -/
def State.lockWrite (s : State) (m : Master) (w : Word) : State :=
  if s.bit R.MBX_LOCK 0 then s.onceAgain m R.MBX_LOCK
  else if m ≠ .exec then s.writeIgnored m R.MBX_LOCK
  else if bitOf w 0 then s.set R.MBX_LOCK 1#32 else s

/-- A write of MBX_HALTRT (R113). -/
def State.haltrtWrite (s : State) (m : Master) (w : Word) : State :=
  if s.bit R.MBX_LOCK 0 then s.raise 3 (accessDetail m R.MBX_HALTRT)
  else if m ≠ .exec then s.writeIgnored m R.MBX_HALTRT
  else s.store R.MBX_HALTRT (w &&& 0x1F#32)

/-- A write of MBX_HALT: each master writes its own bit; one without halt rights is ignored (R124). -/
def State.haltWrite (s : State) (m : Master) (w : Word) : State :=
  if s.bit R.MBX_HALTRT m.id then s.setBit R.MBX_HALT m.id (bitOf w m.id) else s.writeIgnored m R.MBX_HALT

/-- A write of MBX_ATTN: master r writes bits 5r to 5r + 4 (R129). -/
def State.attnWrite (s : State) (m : Master) (w : Word) : State :=
  s.setFld R.MBX_ATTN (5 * m.id + 4) (5 * m.id) (fldOf w (5 * m.id + 4) (5 * m.id))

/-- A write of MBX_FLAG_s_t: master s only (R123, R129). -/
def State.flagWrite (s : State) (m : Master) (sn t : Nat) (w : Word) : State :=
  if m.id = sn then s.set (R.MBX_FLAG (5 * sn + t)) (w &&& 0x3FFF0000#32) else s.writeIgnored m (R.MBX_FLAG (5 * sn + t))

/-- A write of MBX_DBMASKt: master t only (R129). -/
def State.dbmaskWrite (s : State) (m : Master) (t : Nat) (w : Word) : State :=
  if m.id = t then s.set (R.MBX_DBMASK t) w else s.writeIgnored m (R.MBX_DBMASK t)

/-- A write of HSP_READY (R106, R107, R113): EXEC only; READY also sets LOCK. -/
def State.readyWrite (s : State) (m : Master) (w : Word) : State :=
  if s.ready then s.onceAgain m R.HSP_READY
  else if m ≠ .exec then s.writeIgnored m R.HSP_READY
  else if bitOf w 0 then (s.set R.HSP_READY 1#32).set R.MBX_LOCK 1#32 else s

/-- A write of HSP_MODE (R106, R434): MAINT only, under presence. -/
def State.modeWrite (s : State) (m : Master) (w : Word) : State :=
  if !s.presence then (if m.serial then s.refuseFull m else s.writeIgnored m R.HSP_MODE)
  else if m ≠ .maint then s.writeIgnored m R.HSP_MODE
  else s.set R.HSP_MODE (w &&& 1#32)

/-! ### Resets of a core (R127, R128) -/

/-- The EXEC or LINK core enters reset: ORPHAN sets on every FULL channel whose sender it is. -/
def State.orphan (s : State) (m : Master) : State :=
  let s := (List.range 8).foldl (fun s n => if s.sndOf n = m.id ∧ s.bFull n then s.setBit (bch n 0x11) 1 true else s) s
  (List.range 8).foldl (fun s n => if s.sndOf (8 + n) = m.id ∧ s.wFull n then s.setBit R.MBX_WSTAT (8 + n) true else s) s

/-! ### The commands -/

/-- MAILBOX_MSG_WRITE (R115, R118). -/
def execMailboxMsgWrite (m : Master) (ch : Fin 8) (k : Fin 16) (w : Word) (s : State) : Host.Outcome State Fault Refusal :=
  .next (s.access m (bch ch k) fun s => s.msgWrite m ch k w)

/-- WORD_POST (R117). -/
def execWordPost (m : Master) (ch : Fin 8) (w : Word) (s : State) : Host.Outcome State Fault Refusal :=
  .next (s.access m (R.MBX_WDATA ch) fun s => s.wordWrite m ch w)

/-- WORD_TAKE (R117). -/
def execWordTake (m : Master) (ch : Fin 8) (s : State) : Host.Outcome State Fault Refusal :=
  .next (s.accessRead m (R.MBX_WDATA ch) fun s => (s.wordEffect m ch).answer [s.get (R.MBX_WDATA ch)])

/-- BINDING_WRITE (R113, R114). -/
def execBindingWrite (m : Master) (entry : Fin 16) (w : Word) (s : State) : Host.Outcome State Fault Refusal :=
  .next (s.access m (R.MBX_BINDB entry) fun s => s.bindWrite m entry w)

/-- BINDING_LOCK (R113). -/
def execBindingLock (m : Master) (w : Word) (s : State) : Host.Outcome State Fault Refusal :=
  .next (s.access m R.MBX_LOCK fun s => s.lockWrite m w)

/-- FLAG_WRITE (R123). -/
def execFlagWrite (m : Master) (sn t : Fin 5) (w : Word) (s : State) : Host.Outcome State Fault Refusal :=
  .next (s.access m (R.MBX_FLAG (5 * sn + t)) fun s => s.flagWrite m sn t w)

/-- ATTN_WRITE (R121). -/
def execAttnWrite (m : Master) (w : Word) (s : State) : Host.Outcome State Fault Refusal :=
  .next (s.access m R.MBX_ATTN fun s => s.attnWrite m w)

/-- DBMASK_WRITE (R122). -/
def execDbmaskWrite (m : Master) (t : Fin 5) (w : Word) (s : State) : Host.Outcome State Fault Refusal :=
  .next (s.access m (R.MBX_DBMASK t) fun s => s.dbmaskWrite m t w)

/-- MAINTENANCE_MODE_WRITE (R106, R434). -/
def execMaintenanceModeWrite (m : Master) (w : Word) (s : State) : Host.Outcome State Fault Refusal :=
  .next (s.access m R.HSP_MODE fun s => s.modeWrite m w)

/-- HALT_ALL_HOLD (R124). -/
def execHaltAllHold (m : Master) (s : State) : Host.Outcome State Fault Refusal :=
  .next (s.access m R.MBX_HALT fun s => s.haltWrite m 0x1F#32)

/-- HALT_ALL_RELEASE (R125). -/
def execHaltAllRelease (m : Master) (s : State) : Host.Outcome State Fault Refusal :=
  .next (s.access m R.MBX_HALT fun s => s.haltWrite m 0#32)

end Sys2Proof.Machine
end

