-- ==== Sys2Proof/Machine/SafetyChan.lean ====
section
/-! DEFINITION. The safety channels (spec/14): STO, sealed switches, current ceiling, standstill, requests, safe state and SOUT. -/

namespace Sys2Proof.Machine

/-- A channel of the safety state. -/
def Safety.chan (f : Safety) : Channel → Chan
  | .safeCore => f.s
  | .selvedge => f.h

/-- The safety state with one channel changed. -/
def Safety.onChan (f : Safety) (ch : Channel) (g : Chan → Chan) : Safety :=
  match ch with
  | .safeCore => { f with s := g f.s }
  | .selvedge => { f with h := g f.h }

/-- The state with one safety channel changed. -/
def State.onChan (s : State) (ch : Channel) (g : Chan → Chan) : State := { s with saf := s.saf.onChan ch g }

/-! ### The sealed configuration (R311) -/

/-- The code is valid when the number of its 1 bits is even. -/
def sealValid (c : Byte) : Bool := countBits 8 (fun i => c.getLsbD i) % 2 = 0

/-- The code a channel goes by: its latch; every switch open, the most restrictive configuration, before it has one. -/
def Chan.code (c : Chan) : Byte := c.latched.getD 0xFF#8

/-- The class ceiling in units of 0.25 mV. -/
def classCeil (code : Byte) : Nat :=
  match code.toNat % 4 with
  | 3 => 240
  | 2 => 360
  | 1 => 520
  | _ => 720

/-- SF2 and SF3 are enabled for the pair of an axis. -/
def pairOn (code : Byte) (ax : Axis) : Bool := code.getLsbD (3 + ax.val / 2)

/-- Whether group `g` includes an axis: under MAP = 1 both groups denote all eight axes. -/
def inGroup (code : Byte) (g : Group) (ax : Axis) : Bool := code.getLsbD 2 || ax.val / 4 = g.val

/-- The two balls of a group read `b` at a channel. -/
def Chan.ballsRead (c : Chan) (g : Group) (b : Bool) : Bool :=
  c.balls.getLsbD (2 * g.val) = b && c.balls.getLsbD (2 * g.val + 1) = b

/-! ### Enables (R310, R314, R316) -/

/-- Channel `ch` permits torque in group `g`: qualified, no discrepancy, no SAFE_STOP. Under MAP = 1 every axis needs both pairs. -/
def State.permits (s : State) (ch : Channel) (g : Group) : Bool :=
  let c := s.saf.chan ch
  let one (g : Nat) : Bool := c.qual.getLsbD g && !c.disc.getLsbD g && !s.saf.stop.getLsbD g
  if c.code.getLsbD 2 then one 0 && one 1 else one g.val

/-- The modulators of both coils of an axis are on and the block is enabled (R277). -/
def State.modsOn (s : State) (ax : Axis) : Bool :=
  s.bit R.CSM_CFG 31 && s.bit (R.CSM_CCFG (coilOf ax .a)) 31 && s.bit (R.CSM_CCFG (coilOf ax .b)) 31

/-- Whether a channel grants the enable of an axis (R310). The condition on modulators and OVL governs the grant; an axis already
granted loses its enable for OVL only as a violation (R321). -/
def State.grants (s : State) (ch : Channel) (ax : Axis) : Bool :=
  let c := s.saf.chan ch
  let g : Group := ⟨ax.val / 4, by have := ax.isLt; omega⟩
  c.ready && !s.saf.safe && !s.fcSafe && s.permits ch g && !c.trip2.getLsbD ax && !c.trip3.getLsbD ax
    && (c.en.getLsbD ax || !pairOn c.code ax || (s.modsOn ax && (vget c.axes ax).clean))

/-- SOUTg is commanded high by a channel (R328). -/
def State.soutCmd (s : State) (ch : Channel) (g : Group) : Bool :=
  (s.saf.chan ch).ready && s.permits ch g && !s.saf.safe && !s.fcSafe

/-- The ball SOUTg drives high: both channels command it, no dark pulse runs, and firmware has enabled a bridge since the chip reset (R44,
R328, R329). -/
def State.soutHigh (s : State) (g : Group) : Bool :=
  s.sys.bridged && s.soutCmd .safeCore g && s.soutCmd .selvedge g && !s.saf.dark.getLsbD g

/-- The combined enable of an axis has fallen: its gates turn off without any clock, and R171, row 2, acts at the next tick. -/
def State.enableLost (s : State) (ax : Axis) : State := (s.gateLost ax).onMot ax fun m => { m with evGate := true }

/-- Both channels' enables follow their conditions; dark pulses that meet a demand to go low are noted; the level sources of the
channels follow (R314, R315, R321, R326, R330). -/
def State.settleSafety (s : State) : State :=
  let was := s.saf.s.en &&& s.saf.h.en
  let enS := BitVec.ofNat 8 (packBits 8 fun n => if h : n < 8 then s.grants .safeCore ⟨n, h⟩ else false)
  let enH := BitVec.ofNat 8 (packBits 8 fun n => if h : n < 8 then s.grants .selvedge ⟨n, h⟩ else false)
  let hit := BitVec.ofNat 2 (packBits 2 fun g => if h : g < 2 then
    s.saf.darkHit.getLsbD g || (s.saf.dark.getLsbD g && !(s.soutCmd .safeCore ⟨g, h⟩ && s.soutCmd .selvedge ⟨g, h⟩)) else false)
  let s := (s.onChan .safeCore fun c => { c with en := enS }).onChan .selvedge fun c => { c with en := enH }
  let s := { s with saf := { s.saf with darkHit := hit } }
  let s := forAll 8 s fun s ax => if was.getLsbD ax && !(enS &&& enH).getLsbD ax then s.enableLost ax else s
  let sto (g : Nat) : Bool := s.saf.s.dem.getLsbD g || s.saf.h.dem.getLsbD g || s.saf.stop.getLsbD g
  let stoWord := wordOfNat (s.saf.s.balls.toNat + s.saf.h.balls.toNat * 65536
    + (packBits 2 fun g => if h : g < 2 then s.permits .safeCore ⟨g, h⟩ && s.permits .selvedge ⟨g, h⟩ else false) * 2 ^ 24
    + (s.saf.s.disc ||| s.saf.h.disc).toNat * 2 ^ 26 + s.saf.stop.toNat * 2 ^ 28)
  let trip := wordOfNat (s.saf.s.trip2.toNat + s.saf.h.trip2.toNat * 256 + s.saf.s.trip3.toNat * 65536
    + s.saf.h.trip3.toNat * 2 ^ 24)
  let s := (s.level 27 (sto 0) stoWord).level 28 (sto 1) stoWord
  let s := s.level 29 (s.saf.s.disc ||| s.saf.h.disc ≠ 0#2) stoWord
  s.level 30 (trip ≠ 0#32) trip

/-- SAF_STAT (R327, R332). -/
def State.safStat (s : State) : Word :=
  let f := s.saf
  let cause := if f.safe then f.cause else if s.fcSafe then 12 else 0
  wordOfNat (b2n (f.safe || s.fcSafe) * 2 ^ 31 + b2n f.s.ready * 2 ^ 30 + b2n f.h.ready * 2 ^ 29 + cause * 65536
    + b2n (f.chh || s.fcSafe) * 512 + b2n (f.chs || s.fcSafe) * 256 + b2n (f.s.differs || f.h.differs) * 2
    + b2n (f.s.cmpBad ≠ 0))

/-- Channels enter the safe state with a cause (R326, R327): the first cause stands, every channel that entered is recorded, SAF_SAFE is
raised, all enables fall, ACTIVE contexts end as R171, row 2, and SOUT's test pulses stop. -/
def State.enterSafe (s : State) (cause : Nat) (byS byH : Bool) : State :=
  let f := s.saf
  let s := { s with saf := { f with
    safe := true
    cause := if f.safe then f.cause else if s.fcSafe then 12 else cause
    chs := f.chs || byS, chh := f.chh || byH, dark := 0#2, darkHit := 0#2 } }
  let s := forAll 8 s fun s ax => s.enableLost ax
  (s.raiseLevel 31 s.safStat).settleSafety

/-- One channel enters the safe state. -/
def State.safeBy (s : State) (ch : Channel) (cause : Nat) : State :=
  s.enterSafe cause (ch = .safeCore) (ch = .selvedge)

/-! ### SF1 (R314 to R317) -/

/-- The number of a ball in SAF_STO.BALLS (R332). -/
def ballNum : StoBall → Nat
  | .stoa0 => 0 | .stob0 => 1 | .stoa1 => 2 | .stob1 => 3

/-- STO_CHANGE: a ball's filtered level changes at a channel (R314). -/
def State.stoChange (s : State) (ch : Channel) (ball : StoBall) (level : Bool) : State :=
  let g := (ballNum ball) / 2
  (s.onChan ch fun c =>
    { c with balls := bvPut c.balls (ballNum ball) level
             qual := if level then c.qual else bvPut c.qual g false
             dem := if level then c.dem else bvPut c.dem g true }).settleSafety

/-- STO_QUALIFIED: both balls have read 1 for 10 ms at a running channel (R316, R331). -/
def State.stoQualified (s : State) (ch : Channel) (g : Group) : State :=
  let c := s.saf.chan ch
  if c.ready && c.ballsRead g true then
    (s.onChan ch fun c => { c with qual := bvPut c.qual g true, dem := bvPut c.dem g false }).settleSafety
  else s

/-- STO_DISCREPANCY: the balls of a group have disagreed for more than 50 ms (R315). -/
def State.stoDiscrepancy (s : State) (ch : Channel) (g : Group) : State :=
  let c := s.saf.chan ch
  if c.ballsRead g true || c.ballsRead g false then s
  else (s.onChan ch fun c => { c with disc := bvPut c.disc g true }).settleSafety

/-- The trips of an axis clear in a channel once their cause has gone (R321). -/
def Chan.clearTrip (c : Chan) (ax : Axis) : Chan :=
  if (vget c.axes ax).causeNow then c else { c with trip2 := bvPut c.trip2 ax false, trip3 := bvPut c.trip3 ax false }

/-- The trips of a group's axes clear in both channels, each once its cause has gone. -/
def State.clearGroupTrips (s : State) (g : Group) : State :=
  forAll 8 s fun s ax =>
    if inGroup s.saf.s.code g ax then (s.onChan .safeCore (·.clearTrip ax)).onChan .selvedge (·.clearTrip ax) else s

/-- DISCREPANCY_CLEAR: both balls of a group have read 0 for 10 ms: the channel's latch clears, and so do the trips of the group's axes
(R315, R321). -/
def State.discrepancyClear (s : State) (ch : Channel) (g : Group) : State :=
  if (s.saf.chan ch).ballsRead g false then
    ((s.onChan ch fun c => { c with disc := bvPut c.disc g false }).clearGroupTrips g).settleSafety
  else s

/-! ### Sealed switches (R312) -/

/-- A channel latches its code: not valid gives cause 1; different from the other channel's gives cause 3. -/
def State.latchSeal (s : State) (ch : Channel) (code : Byte) : State :=
  let s := s.onChan ch fun c => { c with latched := some code }
  if !sealValid code then s.safeBy ch 1
  else match s.saf.s.latched, s.saf.h.latched with
    | some a, some b => if a = b then s else s.safeBy ch 3
    | _, _ => s

/-- SEAL_SAMPLE: a sample of the switches each 1 ms: before the latch, two that agree latch; after it, two that differ give
cause 2. -/
def State.sealSample (s : State) (ch : Channel) (code : Byte) : State :=
  let c := s.saf.chan ch
  let t := s.onChan ch fun c => { c with live := code, sampled := true }
  match c.latched with
  | none => if c.sampled && c.live = code then t.latchSeal ch code else t
  | some l =>
    let t := t.onChan ch fun c => { c with differs := code ≠ l }
    if code ≠ l && c.differs then t.safeBy ch 2 else t

/-! ### SF2 and SF3 (R318 to R323) -/

/-- A channel's trip of an axis latches and its enable falls (R321). -/
def State.trip (s : State) (ch : Channel) (ax : Axis) (sf3 : Bool) : State :=
  (s.onChan ch fun c =>
    if sf3 then { c with trip3 := bvPut c.trip3 ax true } else { c with trip2 := bvPut c.trip2 ax true }).settleSafety

/-- A code in 1/125 of a ceiling unit of 0.25 mV: 31.25 codes a unit at gain 1, 125 at gain 4 (R319). -/
def State.scaled (s : State) (c : Coil) (code : Int) : Int := if s.bit (R.CSM_CCFG c) 0 then code else code * 4

/-- Sample `i` of a list, or the sample of a modulator that is off: code 0 with OVL (R277). -/
def sampleAt (xs : List ModSample) (i : Nat) : ModSample := xs.getD i ⟨0, true⟩

/-- One axis's sinc2 results at the Selvedge logic (R318, R321, R323). -/
def State.sinc2Axis (s : State) (ax : Axis) (xs : List ModSample) : State :=
  let c := s.saf.h
  if !c.ready || !pairOn c.code ax then s else
  let xa := sampleAt xs (coilOf ax .a)
  let xb := sampleAt xs (coilOf ax .b)
  let a := s.scaled (coilOf ax .a) xa.code
  let b := s.scaled (coilOf ax .b) xb.code
  let lim := (classCeil c.code : Int) * 125
  let st := vget c.axes ax
  let nA := if lim < a.natAbs then st.sf2A + 1 else 0
  let nB := if lim < b.natAbs then st.sf2B + 1 else 0
  let oA := if xa.ovl then st.ovlA + 1 else 0
  let oB := if xb.ovl then st.ovlB + 1 else 0
  let strong := lim * lim ≤ 400 * (a * a + b * b)
  let still := c.still.getLsbD ax
  let ref := if still && st.ref.isNone && strong then some (a, b) else st.ref
  let opp := match st.ref with
    | some (ra, rb) => still && strong && (decide (a < 0) != decide (ra < 0)) && (decide (b < 0) != decide (rb < 0))
    | none => false
  let n3 := if opp then st.sf3 + 1 else 0
  let exceed := lim < a.natAbs || lim < b.natAbs
  let st' := { st with
    sf2A := nA, sf2B := nB, ovlA := oA, ovlB := oB, sf3 := n3, ref := ref
    causeNow := exceed || xa.ovl || xb.ovl || opp, clean := !xa.ovl && !xb.ovl }
  let granted := c.en.getLsbD ax
  let s := s.onChan .selvedge fun c => { c with axes := vset c.axes ax st' }
  let s := if 16 ≤ nA || 16 ≤ nB || (granted && (2 ≤ oA || 2 ≤ oB)) then s.trip .selvedge ax false else s
  if 16 ≤ n3 then s.trip .selvedge ax true else s

/-- One axis's fast-path samples at the SAFE core: sums of the block of eight, OVL in consecutive samples (R319, R321). -/
def State.safeFastAxis (s : State) (ax : Axis) (xa xb : ModSample) : State :=
  let c := s.saf.s
  if !c.ready || !pairOn c.code ax then s else
  let st := vget c.axes ax
  let oA := if xa.ovl then st.ovlA + 1 else 0
  let oB := if xb.ovl then st.ovlB + 1 else 0
  let st' := { st with
    sumA := st.sumA + s.scaled (coilOf ax .a) xa.code, sumB := st.sumB + s.scaled (coilOf ax .b) xb.code
    ovlA := oA, ovlB := oB, clean := !xa.ovl && !xb.ovl }
  let granted := c.en.getLsbD ax
  let s := s.onChan .safeCore fun c => { c with axes := vset c.axes ax st' }
  if granted && (2 ≤ oA || 2 ≤ oB) then s.trip .safeCore ax false else s

/-- A difference of angles in microsteps, taken to -2048 to 2047. -/
def wrapAngle (d : Int) : Int := (d + 2048) % 4096 - 2048

/-- One axis's evaluation at the SAFE core each 6.4 µs (R319, R320, R323). -/
def State.safeEvalAxis (s : State) (ax : Axis) : State :=
  let c := s.saf.s
  if !c.ready || !pairOn c.code ax then s else
  let st := vget c.axes ax
  let a := st.sumA
  let b := st.sumB
  let lim := (classCeil c.code : Int) * 1000
  let m2 := a * a + b * b
  let hist := vget s.saf.angles ax
  let ang := (Config.angleOf a b : Int) % 4096
  let unw := match hist with
    | [] => ang
    | p :: _ => p + wrapAngle (ang - p)
  let hist' := (unw :: hist).take 1563
  let adv := unw - hist'.getLast!
  let sense := vget s.saf.sense ax
  let closing := match sense with
    | some b => (if b then adv else -adv) > 64
    | none => false
  let cfg := (((vget s.saf.ceil ax).getD (classCeil c.code)) : Int) * 1000
  let inForce := if closing || sense.isNone then min lim cfg else lim
  let exceed := inForce * inForce < m2
  let n2 := if exceed then st.sf2A + 1 else 0
  let strong := lim * lim ≤ 400 * m2
  let still := c.still.getLsbD ax
  let ref := if still && st.ref.isNone && strong then some (a, b) else st.ref
  let turned := match st.ref with
    | some (ra, rb) => still && strong && decide (a * ra + b * rb < 0)
    | none => false
  let n3 := if turned then st.sf3 + 1 else 0
  let st' := { st with sf2A := n2, sf3 := n3, ref := ref, sumA := 0, sumB := 0, causeNow := exceed || turned || 0 < st.ovlA || 0 < st.ovlB }
  let s := s.onChan .safeCore fun c => { c with axes := vset c.axes ax st' }
  let s := { s with saf := { s.saf with angles := vset s.saf.angles ax hist', closing := bvPut s.saf.closing ax closing } }
  let s := if 4 ≤ n2 then s.trip .safeCore ax false else s
  if 4 ≤ n3 then s.trip .safeCore ax true else s

/-- A channel declares safe standstill of an axis of an enabled pair (R322, R323). -/
def State.stillDeclare (s : State) (ch : Channel) (ax : Axis) : State :=
  if !pairOn (s.saf.chan ch).code ax then s else
  s.onChan ch fun c =>
    { c with still := bvPut c.still ax true, axes := vset c.axes ax { vget c.axes ax with ref := none, sf3 := 0 } }

/-- A channel withdraws safe standstill: when it was declared by both, the input context waits for a new goal (R180). -/
def State.stillWithdraw (s : State) (ch : Channel) (ax : Axis) : State :=
  let was := s.sstill ax
  let s := s.onChan ch fun c =>
    { c with still := bvPut c.still ax false, axes := vset c.axes ax { vget c.axes ax with ref := none, sf3 := 0 } }
  if was then s.onMot ax fun m => { m with gate := .newGoal } else s

/-! ### Cross-comparison (R325) -/

/-- The compared items of the two channels' state words differ. -/
def Safety.wordsDiffer (f : Safety) : Bool :=
  f.s.balls ≠ f.h.balls || f.s.disc ≠ f.h.disc || f.s.latched ≠ f.h.latched || f.s.still ≠ f.h.still

/-- A running channel has had no new word at its comparison, because the other's clock has stopped: the third time it enters the safe state
with cause 4. -/
def State.wordMissed (s : State) (ch : Channel) : State :=
  let n := (s.saf.chan ch).silent + 1
  let s := s.onChan ch fun c => { c with silent := n }
  if 3 ≤ n then s.safeBy ch 4 else s

/-- CROSS_COMPARISON, each 1 ms: three consecutive comparisons that differ take both channels into the safe state with cause 4, and so do
3 ms without a new word the channel that waits. Before both have started there is nothing to compare (DEDUCED, log entry 20). -/
def State.crossCompare (s : State) : State :=
  if s.saf.s.ready && s.saf.h.ready then
    let n := if s.saf.wordsDiffer then s.saf.s.cmpBad + 1 else 0
    let f (c : Chan) : Chan := { c with cmpBad := n, silent := 0 }
    let s := (s.onChan .safeCore f).onChan .selvedge f
    if 3 ≤ n then s.enterSafe 4 true true else s
  else if s.saf.s.ready && s.sys.rchStop then s.wordMissed .safeCore
  else if s.saf.h.ready && s.sys.rcsStop then s.wordMissed .selvedge
  else s

/-! ### Requests on WCH1 (R324) -/

/-- The SAFE core answers a request: REQ and SEQ repeated, the result in [19:16], the request's data [15:0]. -/
def State.safeAnswer (s : State) (req : Word) (result : Nat) : State :=
  let w := putFld req 19 16 result &&& 0xFF0FFFFF#32
  let s := s.wordEffect .safe 1
  s.wordWrite .safe 0 w

/-- The SAFE core serves the word that waits on WCH1 when its REQ is `req` (a REQ outside 1 to 4 is malformed), once WCH0 has room. -/
def State.serveSafe (s : State) (req : Nat) (f : State → Word → State × Nat) : State :=
  let w := s.get (R.MBX_WDATA 1)
  let q := fldOf w 31 28
  if !s.saf.s.ready || !s.wFull 1 || s.wFull 0 then s
  else if q = 0 ∨ 4 < q then s.safeAnswer w 3
  else if q ≠ req then s
  else
    let (s, r) := f s w
    s.safeAnswer w r

/-- The groups that a bitmap names, both under MAP = 1 (R311). -/
def State.groupsOf (s : State) (bm : Nat) : BitVec 2 :=
  if bm % 4 ≠ 0 ∧ s.saf.s.code.getLsbD 2 then 3#2 else BitVec.ofNat 2 bm

/-- STOP: applies or withdraws SAFE_STOP (R317, R324). -/
def State.safeStop (s : State) (w : Word) : State × Nat :=
  let gs := s.groupsOf (fldOf w 21 20)
  let demand (ch : Channel) : Bool := (List.finRange 2).any fun g => gs.getLsbD g && !(s.saf.chan ch).ballsRead g true
  if bitOf w 0 then ({ s with saf := { s.saf with stop := s.saf.stop ||| gs } }.settleSafety, 0)
  else if demand .safeCore then (s, 1)
  else if demand .selvedge then (s, 2)
  else
    let s := { s with saf := { s.saf with stop := s.saf.stop &&& ~~~gs } }
    let s := forAll 2 s fun s g => if gs.getLsbD g then s.clearGroupTrips g else s
    (s.settleSafety, 0)

/-- CEIL: an axis's configured ceiling (R320, R324). -/
def State.safeCeil (s : State) (w : Word) : State × Nat :=
  let ax := axisAt (fldOf w 22 20)
  let v := fldOf w 11 0
  let old := vget s.saf.ceil ax
  if classCeil s.saf.s.code < v then (s, 1)
  else if old.isSome ∧ old ≠ some v ∧ !s.presence then (s, 1)
  else ({ s with saf := { s.saf with ceil := vset s.saf.ceil ax (some v) } }, 0)

/-- SENSE: an axis's closing sense (R320, R324). -/
def State.safeSense (s : State) (w : Word) : State × Nat :=
  let ax := axisAt (fldOf w 22 20)
  let v := bitOf w 0
  let old := vget s.saf.sense ax
  if old.isSome ∧ old ≠ some v ∧ !s.presence then (s, 1)
  else ({ s with saf := { s.saf with sense := vset s.saf.sense ax (some v) } }, 0)

/-- CLEAR: the trips of the axes of a bitmap, refused by the channel in which a cause is still present (R321, R324). -/
def State.safeClear (s : State) (w : Word) : State × Nat :=
  let held (ch : Channel) : Bool := (List.finRange 8).any fun ax =>
    let c := s.saf.chan ch
    bitOf w ax && (c.trip2.getLsbD ax || c.trip3.getLsbD ax) && (vget c.axes ax).causeNow
  if held .safeCore then (s, 1)
  else if held .selvedge then (s, 2)
  else
    let s := forAll 8 s fun s ax =>
      if bitOf w ax then (s.onChan .safeCore (·.clearTrip ax)).onChan .selvedge (·.clearTrip ax) else s
    (s.settleSafety, 0)

/-! ### Mirrors of page 0x50 (R332) -/

/-- SAF_CEILn: class ceiling (0 when the pair's functions are off) and configured ceiling. -/
def State.safCeilWord (s : State) (ax : Axis) : Word :=
  let code := s.saf.s.code
  let cls := if s.saf.s.latched.isSome && pairOn code ax then classCeil code else 0
  let cfg := match vget s.saf.ceil ax with
    | some v => v
    | none => if s.saf.s.latched.isSome then classCeil code else 0
  wordOfNat (cls * 65536 + cfg)

/-- SAF_CLOSE. -/
def State.safCloseWord (s : State) : Word :=
  let known := packBits 8 fun n => if h : n < 8 then (vget s.saf.sense ⟨n, h⟩).isSome else false
  let pos := packBits 8 fun n => if h : n < 8 then vget s.saf.sense ⟨n, h⟩ = some true else false
  wordOfNat (s.saf.closing.toNat * 2 ^ 24 + known * 256 + pos)

/-- Registers of page 0x50 by index; `none` for a reserved index. -/
def State.safReg (s : State) (i : Nat) : Option Word :=
  let f := s.saf
  let perm := packBits 2 fun g => if h : g < 2 then s.permits .safeCore ⟨g, h⟩ && s.permits .selvedge ⟨g, h⟩ else false
  let cmd := packBits 2 fun g => if h : g < 2 then s.soutCmd .safeCore ⟨g, h⟩ && s.soutCmd .selvedge ⟨g, h⟩ else false
  let rb := packBits 2 fun g => if h : g < 2 then s.soutHigh ⟨g, h⟩ || s.saf.soutBall.getLsbD g else false
  match i with
  | 0 => some s.safStat
  | 1 => some (wordOfNat ((f.s.latched.getD 0#8).toNat * 2 ^ 24 + (f.h.latched.getD 0#8).toNat * 65536 + f.s.live.toNat * 256
      + f.h.live.toNat))
  | 2 => some (wordOfNat (f.s.balls.toNat + f.h.balls.toNat * 65536 + perm * 2 ^ 24 + (f.s.disc ||| f.h.disc).toNat * 2 ^ 26
      + f.stop.toNat * 2 ^ 28))
  | 3 => some (wordOfNat ((f.s.still &&& f.h.still).toNat + f.s.en.toNat * 256 + f.h.en.toNat * 65536
      + (f.s.en &&& f.h.en).toNat * 2 ^ 24))
  | 4 => some (wordOfNat (f.s.trip2.toNat + f.h.trip2.toNat * 256 + f.s.trip3.toNat * 65536 + f.h.trip3.toNat * 2 ^ 24))
  | 5 => some (wordOfNat (cmd + rb * 4 + f.dark.toNat * 16 + f.pass % 256 * 65536 + f.discarded % 256 * 2 ^ 24))
  | 6 => some s.safCloseWord
  | 7 =>
    let ws := (List.finRange 8).map s.safCeilWord ++ [s.safCloseWord &&& 0xFFFF#32]
    let crc := if f.s.ready then (crc32Words ws).toNat % 65536 else 0
    some (wordOfNat (f.romVer.toNat * 65536 + crc))
  | _ => if h : 0x10 ≤ i ∧ i < 0x18 then some (s.safCeilWord ⟨i - 0x10, by omega⟩) else none

/-! ### The commands -/

/-- STO_CHANGE (R314). -/
def execStoChange (ch : Channel) (ball : StoBall) (level : Bool) (s : State) : Host.Outcome State Fault Refusal :=
  .next (s.quiet.stoChange ch ball level)

/-- STO_DISCREPANCY (R315). -/
def execStoDiscrepancy (ch : Channel) (g : Group) (s : State) : Host.Outcome State Fault Refusal :=
  .next (s.quiet.stoDiscrepancy ch g)

/-- DISCREPANCY_CLEAR (R315, R321). -/
def execDiscrepancyClear (ch : Channel) (g : Group) (s : State) : Host.Outcome State Fault Refusal :=
  .next (s.quiet.discrepancyClear ch g)

/-- STO_QUALIFIED (R316). -/
def execStoQualified (ch : Channel) (g : Group) (s : State) : Host.Outcome State Fault Refusal :=
  .next (s.quiet.stoQualified ch g)

/-- SEAL_SAMPLE (R312). -/
def execSealSample (ch : Channel) (code : Byte) (s : State) : Host.Outcome State Fault Refusal :=
  .next (s.quiet.sealSample ch code)

/-- SELVEDGE_SINC2_RESULT (R318, R323). -/
def execSelvedgeSinc2Result (xs : List ModSample) (s : State) : Host.Outcome State Fault Refusal :=
  .next ((forAll 8 s.quiet fun s ax => s.sinc2Axis ax xs).settleSafety)

/-- SAFE_CURRENT_EVAL (R319, R323). -/
def execSafeCurrentEval (s : State) : Host.Outcome State Fault Refusal :=
  .next ((forAll 8 s.quiet fun s ax => s.safeEvalAxis ax).settleSafety)

/-- STANDSTILL_DECLARE (R322, R323). -/
def execStandstillDeclare (ch : Channel) (ax : Axis) (s : State) : Host.Outcome State Fault Refusal :=
  .next (s.quiet.stillDeclare ch ax)

/-- STANDSTILL_WITHDRAW (R322). -/
def execStandstillWithdraw (ch : Channel) (ax : Axis) (s : State) : Host.Outcome State Fault Refusal :=
  .next (s.quiet.stillWithdraw ch ax)

/-- CROSS_COMPARISON (R325). -/
def execCrossComparison (s : State) : Host.Outcome State Fault Refusal := .next s.quiet.crossCompare

/-- ENABLE_READBACK_FAIL (R309): cause 7, while the channel's own enable is 0. -/
def execEnableReadbackFail (ch : Channel) (ax : Axis) (s : State) : Host.Outcome State Fault Refusal :=
  .next (if (s.saf.chan ch).en.getLsbD ax then s.quiet else s.quiet.safeBy ch 7)

/-- A channel's clock, RC-S or RC-H, has stopped (R308): it runs no service loop and its enables fall. -/
def State.enableDecay (s : State) (ch : Channel) : State :=
  let s := { s with sys := { s.sys with
    rcsStop := s.sys.rcsStop || decide (ch = Channel.safeCore), rchStop := s.sys.rchStop || decide (ch = Channel.selvedge) } }
  (s.onChan ch fun c => { c with ready := false }).settleSafety

/-- ENABLE_DECAY (R308). -/
def execEnableDecay (ch : Channel) (s : State) : Host.Outcome State Fault Refusal := .next (s.quiet.enableDecay ch)

/-- SOUTg has been read back at its ball, high or low, against a low drive (R52). -/
def State.readSout (s : State) (g : Group) (high : Bool) : State :=
  { s with saf := { s.saf with soutBall := bvPut s.saf.soutBall g high } }

/-- SOUT_READBACK_FAIL (R328): cause 5, while the channel's own command is low. -/
def execSoutReadbackFail (ch : Channel) (g : Group) (s : State) : Host.Outcome State Fault Refusal :=
  .next (if s.soutCmd ch g then s.quiet else (s.quiet.readSout g true).safeBy ch 5)

/-- DARK_PULSE_START (R329): only while SOUTg is high. -/
def execDarkPulseStart (g : Group) (s : State) : Host.Outcome State Fault Refusal :=
  .next (if s.soutHigh g then
    { s.quiet with saf := { s.saf with dark := bvPut s.saf.dark g true, darkHit := bvPut s.saf.darkHit g false } } else s.quiet)

/-- A dark pulse ends: discarded when a demand met it, passed when the readback was low throughout, and cause 6 otherwise (R329, R330). -/
def State.darkEnd (s : State) (g : Group) (readbackLow : Bool) : State :=
  if !s.saf.dark.getLsbD g then s else
  let hit := s.saf.darkHit.getLsbD g
  let f := { s.saf with dark := bvPut s.saf.dark g false, darkHit := bvPut s.saf.darkHit g false }
  if hit then { s with saf := { f with discarded := f.discarded + 1 } }
  else if readbackLow then { s with saf := { f with pass := f.pass + 1 } }.readSout g false
  else ({ s with saf := f }.readSout g true).enterSafe 6 true true

/-- DARK_PULSE_END (R329, R330). -/
def execDarkPulseEnd (g : Group) (readbackLow : Bool) (s : State) : Host.Outcome State Fault Refusal :=
  .next (s.quiet.darkEnd g readbackLow)

/-- STOP (R317, R324). -/
def execStop (s : State) : Host.Outcome State Fault Refusal := .next (s.quiet.serveSafe 1 State.safeStop)

/-- CEIL (R324). -/
def execCeil (s : State) : Host.Outcome State Fault Refusal := .next (s.quiet.serveSafe 2 State.safeCeil)

/-- SENSE (R324). -/
def execSense (s : State) : Host.Outcome State Fault Refusal := .next (s.quiet.serveSafe 3 State.safeSense)

/-- CLEAR (R324). -/
def execClear (s : State) : Host.Outcome State Fault Refusal := .next (s.quiet.serveSafe 4 State.safeClear)

/-- SAFE_CORE_READY: ROM CRC, SRAM test and seal check done: SRDY; a ROM failure gives cause 10 (R331). The STO qualification starts. -/
def State.safeCoreReady (s : State) (romOk : Bool) (ver : BitVec 16) : State :=
  if !romOk then s.safeBy .safeCore 10
  else
    let s := { s with saf := { s.saf with romVer := ver } }
    (s.onChan .safeCore fun c => { c with
      ready := c.latched.isSome, qual := 0#2
      dem := BitVec.ofNat 2 (packBits 2 fun g => !(c.balls.getLsbD (2 * g) && c.balls.getLsbD (2 * g + 1))) }).settleSafety

/-- SAFE_CORE_READY (R331). -/
def execSafeCoreReady (romOk : Bool) (ver : BitVec 16) (s : State) : Host.Outcome State Fault Refusal :=
  .next (s.quiet.safeCoreReady romOk ver)

/-- SELVEDGE_READY: two seal samples agree 1 ms after the reset; the code is latched unless AON holds one (R312), and HRDY sets
(R331). -/
def State.selvedgeReady (s : State) (first second : Byte) : State :=
  let s := (s.sealSample .selvedge first).sealSample .selvedge second
  if first ≠ second then s else
  (s.onChan .selvedge fun c => { c with
    ready := true, qual := 0#2
    dem := BitVec.ofNat 2 (packBits 2 fun g => !(c.balls.getLsbD (2 * g) && c.balls.getLsbD (2 * g + 1))) }).settleSafety

/-- SELVEDGE_READY (R331). -/
def execSelvedgeReady (first second : Byte) (s : State) : Host.Outcome State Fault Refusal :=
  .next (s.quiet.selvedgeReady first second)

/-- SAFE_ROM_CHECK (R332): a failure gives cause 10. -/
def execSafeRomCheck (ok : Bool) (s : State) : Host.Outcome State Fault Refusal :=
  .next (if ok then s.quiet else s.quiet.safeBy .safeCore 10)

/-- SAFE_WATCHDOG_EXPIRY (R36, R331): cause 8. -/
def execSafeWatchdogExpiry (s : State) : Host.Outcome State Fault Refusal := .next (s.quiet.safeBy .safeCore 8)

end Sys2Proof.Machine
end

