-- ==== Sys2Proof/Machine/Clock.lean ====
section
/-! DEFINITION. Clocks and their monitors, SYS_TIME and timers, and the memories held under the darning code (spec/01). -/

namespace Sys2Proof.Machine

/-! ### SYS_TIME (R9, R21, R22) -/

/-- The rate correction in force: TIM_RATE, beyond ±500,000 the nearer end. -/
def State.rate (s : State) : Int := clampMag 500000 (s.get R.TIM_RATE).toInt

/-- One SYS cycle of SYS_TIME (R21): 5 ns, or 10 ns or 0 ns when the remainder reaches a whole step; the remainder counts 10^-9 of
5 ns. -/
def timeStep (rate : Int) (t : Nat × Int) : Nat × Int :=
  let r := t.2 + rate
  if 1000000000 ≤ r then (t.1 + 10, r - 1000000000)
  else if r ≤ -1000000000 then (t.1, r + 1000000000)
  else (t.1 + 5, r)

/-- `n` SYS cycles of SYS_TIME at one rate, in closed form. -/
def timeAdvance (rate : Int) (n : Nat) (t : Nat × Int) : Nat × Int :=
  let r := t.2 + n * rate
  let k := r.tdiv 1000000000
  (((t.1 : Int) + 5 * n + 5 * k).toNat, r - k * 1000000000)

/-- `ns` nanoseconds of a presence period run down; PRESENCE_EXPIRY ends it (R389). -/
def State.presRuns (s : State) (ns : Nat) : State :=
  { s with spool := { s.spool with presLeft := if s.spool.presLeft = 0 then 0 else max 1 (s.spool.presLeft - ns) } }

/-- `n` SYS cycles pass. While a chip reset is in progress only the presence timer runs (R79); in SLEEP the AON logic alone counts.
SYS_TIME is 64 bits wide (R21). -/
def State.pass (s : State) (n : Nat) : State :=
  if s.sys.asleep then s
  else if s.sys.chipReset then s.presRuns (5 * n)
  else
    let (t, r) := timeAdvance s.rate n (s.sys.time, s.sys.rem)
    { s.presRuns (5 * n) with
      sys := { s.sys with
        time := t % 2 ^ 64, rem := r, sinceTick := s.sys.sinceTick + n, cyc := s.sys.cyc + n
        tickDue := if t < 2 ^ 64 then s.sys.tickDue else s.sys.tickDue - 2 ^ 64 } }

/-- The first multiple of 25,000 at or above a time (R9). -/
def nextTickAt (t : Nat) : Nat := (t + 24999) / 25000 * 25000

/-- A motion tick is due: SYS_TIME has reached the due multiple, and 20 µs have passed since the last tick (R9). -/
def State.tickIsDue (s : State) : Bool :=
  !s.sys.chipReset && !s.sys.asleep && s.sys.tickDue ≤ s.sys.time && (!s.sys.ticked || 4000 ≤ s.sys.sinceTick)

/-- SYS_TIME is written or stepped: rounded down to 5 ns, the remainder cleared, the next tick at the first multiple at or above it
(R9, R22). A tick that the 20 µs minimum holds back is dropped by a second step: R9 says that it is not skipped, and that the next one
falls due by the new value (DESIGN CHOICE, log entry 93). -/
def State.setTime (s : State) (t : Nat) : State :=
  let t := t % 2 ^ 64 / 5 * 5
  { s with sys := { s.sys with time := t, rem := 0, tickDue := nextTickAt t } }

/-- A write of TIM_TIME HI with the LO to apply: EXEC and LINK only (R22). -/
def State.timeWrite (s : State) (m : Master) (hi lo : Word) : State :=
  if m = .exec ∨ m = .link then (s.unstage R.TIM_TIME).setTime (ofHiLoU hi lo) else s.writeIgnored m R.TIM_TIME

/-- TIM_STAT.ALMa (R23). -/
def State.alarm (s : State) (a : Nat) : Bool :=
  s.bit R.TIM_CFG 31 && s.bit R.TIM_CFG a && s.wideU (if a = 0 then R.TIM_ALM0 else R.TIM_ALM1) ≤ s.sys.time

/-- An interrupt or doorbell ungates its core (R74): IDLE ends when no core stays gated. -/
def State.ungate (s : State) (core : GatedCore) : State :=
  let s := s.setBit R.SYS_PWRSTAT (match core with | .exec => 8 | .link => 9) false
  if s.fld R.SYS_PWRSTAT 1 0 = 1 ∧ !s.bit R.SYS_PWRSTAT 8 ∧ !s.bit R.SYS_PWRSTAT 9 then s.setFld R.SYS_PWRSTAT 1 0 0 else s

/-! ### Clock monitors (R18 to R20) -/

/-- The accepted counts of monitor n. -/
def monRange (n : Nat) : Nat × Nat :=
  match n with
  | 0 | 1 => (1472, 1728)
  | 2 => (2880, 3520)
  | 3 => (1990, 2010)
  | 4 => (1592, 1608)
  | _ => (1019, 1029)

/-- The clock sources raised by the failing monitors and lost locks (R19): CLK_XTAL, CLK_RCH, CLK_RCS, CLK_PLLA, CLK_PLLB. -/
def clockSources (fail : BitVec 6) (lost : BitVec 2) : List (Nat × Bool) :=
  let f (n : Nat) : Bool := fail.getLsbD n
  let only (a b c : Bool) : Bool := f 0 = a && f 1 = b && f 2 = c
  let all := only true true true
  let xtal := all || only true true false || only true false false || only false true false
  let rch := all || only true false true || only true false false || only false false true
  let rcs := all || only false true true || only false true false || only false false true
  [(11, xtal), (12, rch), (13, rcs), (14, f 3 || lost.getLsbD 0), (15, f 4 || f 5 || lost.getLsbD 1)]

/-- The clock sources follow the monitors and locks; those that start together are raised in one cycle. While CLK_XTAL is raised,
monitors 3 to 5 are suspended. CLK_RCH takes the SAFE core, and CLK_RCS the Selvedge logic, into the safe state with cause 11
(R20, R326). -/
def State.settleClocks (s : State) : State :=
  let xtal := (clockSources s.sys.monFail s.sys.pllLost).any fun e => e.1 = 11 && e.2
  let s := if xtal then
      { (s.setFld R.CLK_STAT 8 6 0) with sys := { s.sys with monFail := s.sys.monFail &&& 7#6, monOut := s.sys.monOut &&& 7#6 } }
    else s
  let lv := clockSources s.sys.monFail s.sys.pllLost
  let news := (lv.filter fun e => e.2 && !s.present e.1).map (·.1)
  let s := lv.foldl (fun s e => { s with fcPresent := bvPut s.fcPresent e.1 e.2 }) s
  let s := s.raises (news.map fun n => (n, s.get R.CLK_STAT))
  let rch := news.any (· = 12)
  let rcs := news.any (· = 13)
  if rch || rcs then s.enterSafe 11 rch rcs else s

/-- What a window says of the clocks (R18, R20): a count of zero shows its clock stopped, any other shows it running, and the reference that
timed the window runs. XTAL_RUN follows the crystal. -/
def State.clockSeen (s : State) (n : Fin 6) (stopped : Bool) : State :=
  let y := s.sys
  let y := match n.val with
    | 0 => { y with xtalStop := stopped, rchStop := false }
    | 1 => { y with xtalStop := stopped, rcsStop := false }
    | 2 => { y with rcsStop := stopped, rchStop := false }
    | 3 => { y with pllStop := bvPut y.pllStop 0 stopped }
    | _ => { y with pllStop := bvPut y.pllStop 1 stopped }
  let s := { s with sys := y }
  if n.val < 2 then s.setBit R.CLK_STAT 0 (!stopped) else s

/-- A monitor's window ends with a count (R18). A suspended monitor is not evaluated (R20). -/
def State.monWindow (s : State) (n : Fin 6) (count : Nat) : State :=
  if 3 ≤ n.val ∧ s.present 11 then s else
  let (lo, hi) := monRange n
  let s := (s.set (R.CLK_CNT n) (wordOfNat (count % 65536))).clockSeen n (count = 0)
  let inside := lo ≤ count ∧ count ≤ hi
  let again := s.sys.monOut.getLsbD n
  let s := { s with sys := { s.sys with
    monOut := bvPut s.sys.monOut n (!decide inside)
    monFail := if inside then bvPut s.sys.monFail n false else if again then bvPut s.sys.monFail n true else s.sys.monFail } }
  let s := if inside then s.setBit R.CLK_STAT (3 + n) true else if again then s.setBit R.CLK_STAT (3 + n) false else s
  s.settleClocks

/-! ### Darned memories (R24 to R30) -/

/-- The number of a darned memory in R24's order. -/
def darnNum : DarnMem → Nat
  | .exec => 0 | .link => 1 | .ctx => 2 | .safe => 3 | .ret => 4 | .erom => 5 | .srom => 6 | .wj => 7

/-- 256-bit words of a memory (R24). -/
def darnSize : DarnMem → Nat
  | .exec => 32768 | .link => 8192 | .srom => 4096 | .wj => 8192
  | _ => 2048

/-- The key of a word among all darned words. -/
def darnKey (mem : DarnMem) (word : Nat) : Nat := darnNum mem * 65536 + word

/-- Eight 32-bit words as one 256-bit word, the first in the low bits. -/
def joinWords (ws : List Word) : DarnWord := BitVec.ofNat 256 (ws.foldr (fun w acc => w.toNat + 4294967296 * acc) 0)

/-- Lane `i` of a 256-bit word. -/
def laneOf (d : DarnWord) (i : Nat) : Word := (d >>> (32 * i)).setWidth 32

/-- A 256-bit word of a darned memory: the context RAM and the wear journal stand in fields of their own. -/
def State.darnGet (s : State) (mem : DarnMem) (word : Nat) : DarnWord :=
  match mem with
  | .ctx => joinWords ((List.range 8).map fun i => (spFind s.ctxRam (8 * word + i)).getD 0#32)
  | .wj => (spFind s.spool.wj word).getD 0#256
  | _ => (spFind s.darn (darnKey mem word)).getD 0#256

/-- A master writes a word of a darned memory with fresh check bits: the scrubber may report the word again (R28). -/
def State.darnFresh (s : State) (mem : DarnMem) (word : Nat) : State :=
  { s with
    ue := s.ue.filter (· ≠ darnKey mem word)
    scrubLast := s.scrubLast.mapFinIdx fun i o _ => if i = darnNum mem ∧ o = some word then none else o }

/-- The state with a 256-bit word of a darned memory written with fresh check bits. -/
def State.darnPut (s : State) (mem : DarnMem) (word : Nat) (d : DarnWord) : State :=
  let s := s.darnFresh mem word
  match mem with
  | .ctx => { s with ctxRam := (List.range 8).foldl (fun l i => spSet 0#32 l (8 * word + i) (laneOf d i)) s.ctxRam }
  | .wj => { s with spool := { s.spool with wj := spSet 0#256 s.spool.wj word d } }
  | _ => { s with darn := spSet 0#256 s.darn (darnKey mem word) d }

/-- A word holds a double-bit error. -/
def State.isUe (s : State) (mem : DarnMem) (word : Nat) : Bool := s.ue.any (· = darnKey mem word)

/-- What a read finds marks the word: a double-bit error stays in it (R25). -/
def State.noteError (s : State) (mem : DarnMem) (word : Nat) (e : BitError) : State :=
  if e = .double ∧ !s.isUe mem word then { s with ue := darnKey mem word :: s.ue } else s

/-- A corrected single-bit error counts (R25, R29). -/
def State.darnCount (s : State) (mem : DarnMem) (word : Nat) : State :=
  (s.incSat (R.SYS_DARN (darnNum mem)) 31 16).setFld (R.SYS_DARN (darnNum mem)) 15 0 word

/-- The uncorrectable source of a memory, with the safe state for the SAFE core's memories, cause 9 (R27). -/
def State.darnUe (s : State) (mem : DarnMem) (word : Nat) : State :=
  let s := s.raise (16 + darnNum mem) (wordOfNat word)
  if mem = .safe ∨ mem = .srom then s.safeBy .safeCore 9 else s

/-- DARNED_MEMORY_READ (R25): corrected data and a count, or no data, a bus error to an internal master and the source raised; in a host
read 0 takes the word's place (R27). -/
def State.darnRead (s : State) (m : Master) (mem : DarnMem) (word : Nat) (e : BitError) : State :=
  if darnSize mem ≤ word then s.quiet else
  let s := s.noteError mem word e
  if s.isUe mem word then
    let s := s.darnUe mem word
    if m.serial then s.answer (List.replicate 8 0#32) else s.busError
  else
    let s := if e = .single then s.darnCount mem word else s
    s.answer ((List.range 8).map (laneOf (s.darnGet mem word)))

/-- A word with one 32-bit lane replaced. -/
def setLane (d : DarnWord) (i : Nat) (w : Word) : DarnWord :=
  joinWords ((List.range 8).map fun j => if j = i then w else laneOf d j)

/-- NARROW_MEMORY_WRITE (R26): read, correct, merge, write; not performed over a double-bit error. A ROM keeps its contents. -/
def State.darnNarrow (s : State) (m : Master) (mem : DarnMem) (word : Nat) (lane : Fin 8) (w : Word) (e : BitError) : State :=
  if darnSize mem ≤ word ∨ mem = .erom ∨ mem = .srom then s.quiet else
  let s := s.noteError mem word e
  if s.isUe mem word then
    let s := s.darnUe mem word
    if m.serial then s.quiet else s.busError
  else
    let s := if e = .single then s.darnCount mem word else s
    (s.darnPut mem word (setLane (s.darnGet mem word) lane w)).quiet

/-- One visit of the scrubber (R28, R29): a correction that a master's write overtook is discarded; a double-bit error is reported once
for the word last reported. The sources to raise in this cycle are gathered. -/
def scrubOne (acc : State × List (DarnMem × Nat)) (v : DarnMem × Nat × BitError × Bool) : State × List (DarnMem × Nat) :=
  let (s, rs) := acc
  let (mem, word, e, written) := v
  if darnSize mem ≤ word then acc else
  let s := s.noteError mem word e
  if s.isUe mem word then
    let i : Fin 8 := ⟨darnNum mem, by cases mem <;> simp [darnNum]⟩
    if vget s.scrubLast i = some word then (s, rs)
    else ({ s with scrubLast := vset s.scrubLast i (some word) }, rs ++ [(mem, word)])
  else if e = .single && !written then (s.darnCount mem word, rs)
  else (s, rs)

/-- SCRUB_VISIT (R28). -/
def State.scrub (s : State) (visits : List (DarnMem × Nat × BitError × Bool)) : State :=
  let (s, rs) := visits.foldl scrubOne (s, [])
  let s := s.raises (rs.map fun e => (16 + darnNum e.1, wordOfNat e.2))
  if rs.any fun e => e.1 = .safe || e.1 = .srom then s.safeBy .safeCore 9 else s

/-- The collector enters its safe state (R343, R344): gates off and held off, both stop lines driven, SOUT low. -/
def State.enterFcSafe (s : State) : State :=
  (forAll 8 { s with fcSafe := true } fun s ax => s.enableLost ax).settleSafety

/-- PARITY_SCRUB (R102): a parity-protected register mismatches; it keeps its value, and the block's CFG_PARITY source is raised. A mismatch
in FC_CTL or FC_SRC takes the collector into its safe state (R343). -/
def State.parityScrub (s : State) (p i : Nat) : State :=
  let k := regKey p i
  match regRow k with
  | some r =>
    if !r.parity then s
    else if p = 0x08 ∨ p = 0x09 ∨ p = 0x0A then s.enterFcSafe
    else ({ s with parityBad := k :: s.parityBad.filter (· ≠ k) }).raiseLevel (paritySource p) (parityDetail k)
  | none => s

/-! ### The commands -/

/-- CLOCK_MONITOR_WINDOW (R18). -/
def execClockMonitorWindow (mon : Fin 6) (count : BitVec 16) (s : State) : Host.Outcome State Fault Refusal :=
  .next (s.quiet.monWindow mon count.toNat)

/-- PLL_LOCK_LOSS (R19, R20): the lock bit falls and CLK_PLLA or CLK_PLLB is raised; a PLL whose clock stops is noted (R93). -/
def execPllLockLoss (pll : Pll) (stopped : Bool) (s : State) : Host.Outcome State Fault Refusal :=
  let i := match pll with | .pllA => 0 | .pllB => 1
  let s := s.quiet.setBit R.CLK_STAT (1 + i) false
  .next ({ s with sys := { s.sys with
    pllLost := bvPut s.sys.pllLost i true, pllStop := bvPut s.sys.pllStop i stopped } }.settleClocks)

/-- BUS_TIMEOUT (R17, R90): the access has no effect, ends in a bus error for an internal master, and the source is raised. -/
def execBusTimeout (m : Master) (page : Page) (index : Index) (s : State) : Host.Outcome State Fault Refusal :=
  let s := s.raise 1 (accessDetail m (regKey page index))
  .next (if m.serial then s.quiet else s.busError)

/-- TIM_TIME_WRITE (R22): LO staged, HI applies both; a LO staged before is replaced (R101). -/
def execTimTimeWrite (m : Master) (hi lo : Word) (s : State) : Host.Outcome State Fault Refusal :=
  .next (s.access m R.TIM_TIME fun s => s.timeWrite m hi lo)

/-- TIMER_ALARM (R23, R74): while TIM_STAT.ALMa reads 1 the timer interrupt of its core is asserted, and ungates it. -/
def execTimerAlarm (a : Fin 2) (s : State) : Host.Outcome State Fault Refusal :=
  .next (if s.alarm a then s.quiet.ungate (if a.val = 0 then .exec else .link) else s.quiet)

/-- DARNED_MEMORY_READ (R25, R27). -/
def execDarnedMemoryRead (m : Master) (mem : DarnMem) (word : Nat) (e : BitError) (s : State) : Host.Outcome State Fault Refusal :=
  .next (s.darnRead m mem word e)

/-- NARROW_MEMORY_WRITE (R26). -/
def execNarrowMemoryWrite (m : Master) (mem : DarnMem) (word : Nat) (lane : Fin 8) (w : Word) (e : BitError) (s : State) :
    Host.Outcome State Fault Refusal :=
  .next (s.darnNarrow m mem word lane w e)

/-- SCRUB_VISIT (R28, R29). -/
def execScrubVisit (visits : List (DarnMem × Nat × BitError × Bool)) (s : State) : Host.Outcome State Fault Refusal :=
  .next (s.quiet.scrub visits)

/-- PARITY_SCRUB (R102, R343). -/
def execParityScrub (page : Page) (index : Index) (s : State) : Host.Outcome State Fault Refusal :=
  .next (s.quiet.parityScrub page index)

/-- A write of SYS_DARNCLR clears the counters its bits name (R29). -/
def State.darnClr (s : State) (w : Word) : State :=
  (List.range 8).foldl (fun s n => if bitOf w n then s.set (R.SYS_DARN n) 0#32 else s) s

/-- SYS_DARNCLR (R29): corrections that fall into the cycle of the clear still count, so their counter reads 1. -/
def execSysDarnclr (m : Master) (w : Word) (same : List (DarnMem × Nat)) (s : State) : Host.Outcome State Fault Refusal :=
  .next (s.access m R.SYS_DARNCLR fun s => same.foldl (fun s e => s.darnCount e.1 e.2) (s.darnClr w))

/-- COLLECTOR_FAULT (R343, R344). -/
def execCollectorFault (_ : CollectorFault) (s : State) : Host.Outcome State Fault Refusal := .next s.quiet.enterFcSafe

/-- FAULT_RAISE (R333, R337): the sources whose raises reach the collector in one SYS cycle. A level source becomes present, and one already
present is not raised again. -/
def State.faultRaise (s : State) (rs : List (Source × Word)) : State :=
  let isLevel (n : Nat) : Bool := (5 ≤ n && n ≤ 15) || (24 ≤ n && n < 40) || (48 ≤ n && n < 80) || (88 ≤ n && n < 119)
    || (122 ≤ n && n ≤ 125)
  let news := rs.filter fun e => !(isLevel e.1 && s.present e.1)
  let s := news.foldl (fun s e => if isLevel e.1 then { s with fcPresent := bvPut s.fcPresent e.1 true } else s) s
  s.raises (news.map fun e => (e.1.val, e.2))

/-- FAULT_RAISE (R337). -/
def execFaultRaise (rs : List (Source × Word)) (s : State) : Host.Outcome State Fault Refusal := .next (s.quiet.faultRaise rs)

/-- FC_CLR (R340). -/
def execFcClr (m : Master) (j : Fin 4) (w : Word) (s : State) : Host.Outcome State Fault Refusal :=
  .next (s.access m (R.FC_CLR j) fun s => s.fcClr j w)

/-- FC_ACK (R340). -/
def execFcAck (m : Master) (j : Fin 4) (w : Word) (s : State) : Host.Outcome State Fault Refusal :=
  .next (s.access m (R.FC_ACK j) fun s => s.fcAck j w)

/-- A write of FC_SWSET: bits 0 to 3 are the conditions of SW0 to SW3; the detail is the writing master's ID (R333, R344). -/
def State.swset (s : State) (m : Master) (w : Word) : State :=
  let s := s.set R.FC_SWSET (w &&& 0xF#32)
  let news := (List.range 4).filter fun i => bitOf w i && !s.present (122 + i)
  let s := (List.range 4).foldl (fun s i => { s with fcPresent := bvPut s.fcPresent (122 + i) (bitOf w i) }) s
  s.raises (news.map fun i => (122 + i, wordOfNat m.id))

/-- FC_SWSET (R333, R344). -/
def execFcSwset (m : Master) (w : Word) (s : State) : Host.Outcome State Fault Refusal :=
  .next (s.access m R.FC_SWSET fun s => s.swset m w)

end Sys2Proof.Machine
end

