-- ==== Sys2Proof/Machine/Context.lean ====
section
/-! DEFINITION. Motion contexts (R159 to R163): context RAM, states, commands and the page 0x18. -/

namespace Sys2Proof.Machine

/-! ### Words of a context -/

/-- Word `w` of a context. -/
def State.ctxW (s : State) (c w : Nat) : Word := (spFind s.ctxRam (c * 64 + w)).getD 0#32

/-- The state with word `w` of a context holding `v`. -/
def State.setCtxW (s : State) (c w : Nat) (v : Word) : State := { s with ctxRam := spSet 0#32 s.ctxRam (c * 64 + w) v }

/-- A 48-bit or 64-bit value in words `w`, `w` + 1 of a context, the high word first (R155). -/
def State.ctxWide (s : State) (c w : Nat) : Int := ofHiLo (s.ctxW c w) (s.ctxW c (w + 1))

/-- The state with a value in words `w`, `w` + 1 of a context. -/
def State.setCtxWide (s : State) (c w : Nat) (x : Int) : State := (s.setCtxW c w (hiWord x)).setCtxW c (w + 1) (loWord x)

/-- State codes of STAT [2:0] (R159). -/
def ctxFree : Nat := 0
/-- LOADED. -/
def ctxLoaded : Nat := 1
/-- QUEUED. -/
def ctxQueued : Nat := 2
/-- ACTIVE. -/
def ctxActive : Nat := 3
/-- DONE. -/
def ctxDone : Nat := 4
/-- ABORTED. -/
def ctxAborted : Nat := 5

/-- The state of a context. -/
def State.ctxState (s : State) (c : Nat) : Nat := fldOf (s.ctxW c 32) 2 0

/-- A change of a context's state: STAT [2:0] and TCHANGE (R159). -/
def State.ctxGo (s : State) (c st : Nat) : State :=
  (s.setCtxW c 32 (putFld (s.ctxW c 32) 2 0 st)).setCtxWide c 34 s.sys.time

/-- A context ends DONE or ABORTED with a reason; with AUTOREL it is FREE at once, and STAT [6:4] keeps how it ended (R161). -/
def State.ctxFinish (s : State) (c st reason : Nat) : State :=
  let s := s.setCtxW c 32 (putFld (s.ctxW c 32) 23 16 reason)
  if bitOf (s.ctxW c 0) 8 then (s.setCtxW c 32 (putFld (s.ctxW c 32) 6 4 st)).ctxGo c ctxFree else s.ctxGo c st

/-- A template: some axis with INSRC door names the context in ICTX (R162). -/
def State.isTemplate (s : State) (c : Nat) : Bool :=
  (List.finRange 8).any fun ax => s.fld (R.ME_CFG ax) 25 24 = 2 && s.fld (R.ME_CFG ax) 23 16 = c

/-- Word 32 as read: STAT with TEMPLATE. -/
def State.ctxStat (s : State) (c : Nat) : Word := putBit (s.ctxW c 32) 28 (s.isTemplate c)

/-- The context that follows in its axis's queue (word 33). -/
def State.ctxLink (s : State) (c : Nat) : Word :=
  match (List.finRange 8).findSome? fun ax =>
      match ((s.me ax).queue.map (·.val)).dropWhile (· ≠ c) with
      | _ :: n :: _ => some n
      | _ => none with
  | some n => wordOfNat (256 + n)
  | none => 0#32

/-- A word of a context as a read finds it. -/
def State.ctxRead (s : State) (c w : Nat) : Word :=
  if w = 32 then s.ctxStat c else if w = 33 then s.ctxLink c else s.ctxW c w

/-- Contexts that are FREE. -/
def State.ctxFrees (s : State) : Nat := countBits 256 fun c => s.ctxState c = ctxFree

/-- CTX_COUNT. -/
def State.ctxCount (s : State) : Word := wordOfNat (s.ctxFrees * 65536 + (256 - s.ctxFrees))

/-- CTX_FREEMAPj. -/
def State.ctxFreemap (s : State) (j : Nat) : Word := wordOfNat (packBits 32 fun b => s.ctxState (32 * j + b) = ctxFree)

/-- Some word that the engine reads holds an uncorrectable error: the first such 256-bit word (R27). -/
def State.ctxUe (s : State) (c : Nat) : Option Nat := (List.range 4).findSome? fun i =>
  if s.isUe .ctx (8 * c + i) then some (8 * c + i) else none

/-- What words 0 to 18 of a context say of its move. -/
def State.ctxParams (s : State) (c : Nat) : MoveParams :=
  let w0 := s.ctxW c 0
  let w11 := s.ctxW c 11
  let n := fldOf w11 7 0
  { mode := fldOf w0 2 0, jerkLim := bitOf w0 3, cycle := bitOf w0 9, stallact := fldOf w0 11 10, obsact := fldOf w0 13 12
    retries := fldOf w0 17 14, homemeth := fldOf w0 19 18
    target := s.ctxWide c 1, vmax := s.ctxWide c 3
    amax := (s.ctxW c 5).toNat, dmax := (s.ctxW c 6).toNat, jerk := (s.ctxW c 7).toNat
    ecapO := (s.ctxW c 8).toNat, ecapC := (s.ctxW c 9).toNat, flim := (s.ctxW c 10).toNat
    obsn := if n = 0 then 1 else if 17 ≤ n then 16 else n
    fblank := fldOf w11 15 8, revdist := (s.ctxW c 12).toNat, rcdelay := fldOf (s.ctxW c 13) 15 0
    endvel := s.ctxWide c 16, homedist := (s.ctxW c 18).toNat }

/-! ### Allocation and commands (R161 to R163) -/

/-- The lowest-numbered FREE context. -/
def State.lowestFree (s : State) : Option Nat := (List.range 256).find? fun c => s.ctxState c = ctxFree

/-- What a read of CTX_ALLOC returns. -/
def State.allocWord (s : State) : Word :=
  match s.lowestFree with
  | some c => wordOfNat c
  | none => 0x100#32

/-- A FREE context becomes LOADED: words 0 to 63 read 0 but STAT and TCHANGE, written with fresh check bits (R24, R28, R161). -/
def State.ctxLoad (s : State) (c : Nat) : State :=
  let s := { s with
    ctxRam := s.ctxRam.filter fun e => e.1 / 64 ≠ c
    ue := s.ue.filter fun k => ¬ (k / 65536 = 2 ∧ k % 65536 / 8 = c)
    scrubLast := if (vget s.scrubLast 2).any (· / 8 = c) then vset s.scrubLast 2 none else s.scrubLast }
  s.ctxGo c ctxLoaded

/-- CTX_CMDSTAT after a command served (R163). -/
def State.cmdServed (s : State) (c result : Nat) : State :=
  s.set R.CTX_CMDSTAT (wordOfNat ((s.fld R.CTX_CMDSTAT 23 16 + 1) % 256 * 65536 + c * 256 + result))

/-- The commit of a serial port's read of CTX_ALLOC that returned a context: it is allocated when it is still FREE, and CTX_CMDSTAT reports
(R163). -/
def State.allocCommit (s : State) (fetched : Option Nat) : State :=
  match fetched with
  | none => s
  | some c => if s.ctxState c = ctxFree then (s.ctxLoad c).cmdServed c 0 else s.cmdServed c 1

/-- The side effect of a read of CTX_ALLOC (R163). -/
def State.allocEffect (s : State) (m : Master) : State :=
  if m.serial then s.allocCommit s.lowestFree else
  match s.lowestFree with
  | none => s
  | some c => s.ctxLoad c

/-- A FORMAT case of R159. -/
def State.badFormat (s : State) (c : Nat) : Bool :=
  let w0 := s.ctxW c 0
  3 ≤ fldOf w0 2 0 || fldOf w0 5 4 = 3 || (bitOf w0 3 && s.ctxW c 7 = 0#32) || s.ctxW c 8 = 0#32 || s.ctxW c 9 = 0#32
    || fldOf w0 11 10 = 3 || 22 ≤ fldOf w0 24 20

/-- A home method outside its role (R170): method 2 needs the door role, method 3 the encoder role. -/
def State.badHome (s : State) (c : Nat) (ax : Axis) : Bool :=
  let w0 := s.ctxW c 0
  fldOf w0 2 0 = 2 && ((fldOf w0 19 18 = 2 && vget s.roles ax ≠ .door) || (fldOf w0 19 18 = 3 && vget s.roles ax ≠ .encoder))

/-- The result of a START: the first cause of refusal in R162's order, 0 for none. -/
def State.startResult (s : State) (c : Nat) (ax : Axis) : Nat :=
  if s.isTemplate c then 3
  else if s.ctxState c ≠ ctxLoaded then 1
  else if !s.bit (R.ME_CFG ax) 31 then 2
  else if s.badFormat c then 4
  else if s.badHome c ax then 1
  else 0

/-- START (R161, R162): the context joins the tail of the axis's queue. One whose words hold an uncorrectable error becomes ABORTED with
reason 11 (R27). -/
def State.ctxStart (s : State) (c : Ctx) (ax : Axis) : State :=
  let r := s.startResult c ax
  if r ≠ 0 then s.cmdServed c r
  else match s.ctxUe c with
    | some w => ((s.ctxFinish c ctxAborted 11).cmdServed c 1).darnUe .ctx w
    | none =>
      let s := s.setCtxW c 32 (putFld (putFld (putBit (s.ctxW c 32) 3 false) 10 8 ax) 23 16 0)
      let head := (s.me ax).queue = []
      let s := (s.ctxGo c ctxQueued).onMot ax fun m =>
        { m with queue := m.queue ++ [c], startEv := if head then false else m.startEv }
      s.cmdServed c 0

/-- The end of a QUEUED context: it leaves its axis's queue; the next context becomes the head (R161, R165). -/
def State.dequeueAbort (s : State) (ax : Axis) (c : Ctx) (reason : Nat) : State :=
  let was := (s.me ax).queue.head? = some c
  let s := s.onMot ax fun m => { m with queue := m.queue.filter (· ≠ c), startEv := if was then false else m.startEv }
  (s.ctxFinish c ctxAborted reason).incFld (R.ME_EVCNT ax) 15 8

/-- ABORT (R161, R171): a QUEUED context at once, an ACTIVE one at the next tick. -/
def State.ctxAbort (s : State) (c : Ctx) : State :=
  let ax : Axis := ⟨fldOf (s.ctxW c 32) 10 8 % 8, by omega⟩
  if s.ctxState c = ctxQueued then (s.dequeueAbort ax c 1).cmdServed c 0
  else if s.ctxState c = ctxActive then (s.onMot ax fun m => { m with evAbort := true }).cmdServed c 0
  else s.cmdServed c 1

/-- RELEASE (R161, R162): after DONE or ABORTED words 32 to 63 keep their values, and STAT [6:4] keeps how the context ended; a LOADED
context becomes FREE with TCHANGE at this change (R159). -/
def State.ctxRelease (s : State) (c : Ctx) : State :=
  let st := s.ctxState c
  if s.isTemplate c then s.cmdServed c 3
  else if st = ctxLoaded then (s.ctxGo c ctxFree).cmdServed c 0
  else if st = ctxDone ∨ st = ctxAborted then
    (s.setCtxW c 32 (putFld (putFld (s.ctxW c 32) 6 4 st) 2 0 ctxFree)).cmdServed c 0
  else s.cmdServed c 1

/-- A write of CTX_CMD. -/
def State.ctxCmd (s : State) (w : Word) : State :=
  let c : Ctx := ⟨fldOf w 7 0 % 256, by omega⟩
  match fldOf w 13 12 with
  | 1 => s.ctxStart c ⟨fldOf w 10 8 % 8, by omega⟩
  | 2 => s.ctxAbort c
  | 3 => s.ctxRelease c
  | _ => s

/-- A write of CTX_W0 to CTX_W31 (R26, R162): a narrow write is not performed over an uncorrectable error. -/
def State.ctxWordWrite (s : State) (m : Master) (w : Nat) (v : Word) : State :=
  let c := s.fld R.CTX_SEL 7 0
  if 32 ≤ w then s
  else if s.ctxState c ≠ ctxLoaded then s.writeIgnored m (R.CTX_W w)
  else if s.isUe .ctx (8 * c + w / 8) then
    let s := s.darnUe .ctx (8 * c + w / 8)
    if m.serial then s else s.busError
  else (s.darnFresh .ctx (8 * c + w / 8)).setCtxW c w v

/-! ### The commands -/

/-- CTX_ALLOC_READ (R163). -/
def execCtxAllocRead (m : Master) (s : State) : Host.Outcome State Fault Refusal :=
  .next (s.accessRead m R.CTX_ALLOC fun s => (s.allocEffect m).answer [s.allocWord])

/-- CTX_WORD_WRITE (R162). -/
def execCtxWordWrite (m : Master) (k : Fin 64) (w : Word) (s : State) : Host.Outcome State Fault Refusal :=
  .next (s.access m (R.CTX_W k) fun s => s.ctxWordWrite m k w)

/-- CTX_CMD_START (R162). -/
def execCtxCmdStart (m : Master) (ctx : Ctx) (ax : Axis) (s : State) : Host.Outcome State Fault Refusal :=
  .next (s.access m R.CTX_CMD fun s => s.ctxStart ctx ax)

/-- CTX_CMD_ABORT (R161). -/
def execCtxCmdAbort (m : Master) (ctx : Ctx) (s : State) : Host.Outcome State Fault Refusal :=
  .next (s.access m R.CTX_CMD fun s => s.ctxAbort ctx)

/-- CTX_CMD_RELEASE (R161). -/
def execCtxCmdRelease (m : Master) (ctx : Ctx) (s : State) : Host.Outcome State Fault Refusal :=
  .next (s.access m R.CTX_CMD fun s => s.ctxRelease ctx)

end Sys2Proof.Machine
end

