-- ==== Sys2Proof/Machine/Profile.lean ====
section
/-! DEFINITION. Motion profiles (R156, R168, R169): planning in pieces of constant jerk and integration over elapsed time. Positions in
2^-32 microstep, velocities in 2^-48 microstep/s, accelerations in 2^-32 microstep/s², durations in 2^-16 SYS cycle. -/

namespace Sys2Proof.Machine

/-- Durations in a second: 2^16 times 200 MHz. -/
def tauSec : Int := 13107200000000

/-- The change of position, velocity and acceleration over `dt` from velocity `v` under acceleration `a` and jerk `j`. -/
def segDelta (v a j : Int) (dt : Int) : Int × Int × Int :=
  (v * dt / (65536 * tauSec) + a * dt * dt / (2 * tauSec * tauSec) + j * dt * dt * dt / (6 * tauSec * tauSec * tauSec),
    a * dt / 200000000 + j * dt * dt * 65536 / (2 * tauSec * tauSec),
    j * dt / tauSec)

/-- A point of a motion: position, velocity, acceleration. -/
structure Pva where
  pos : Int
  vel : Int
  acc : Int
  deriving DecidableEq, Repr

/-- Advance along a profile by `dt`: the point reached, the pieces left and the time left after the last piece. -/
def advance : List Seg → Int → Nat → Pva → Pva × List Seg × Nat
  | [], _, dt, p => ({ p with acc := 0 }, [], dt)
  | g :: t, a, dt, p =>
    if g.dur ≤ dt then
      let d := segDelta p.vel a g.jerk g.dur
      let p := { pos := p.pos + d.1, vel := g.vEnd, acc := 0 : Pva }
      advance t (match t with | [] => 0 | h :: _ => h.acc) (dt - g.dur) p
    else
      let d := segDelta p.vel a g.jerk dt
      ({ pos := p.pos + d.1, vel := p.vel + d.2.1, acc := a + d.2.2 }, { g with dur := g.dur - dt, acc := a + d.2.2 } :: t, 0)

/-- Advance from the first piece's own acceleration. -/
def advanceSegs (segs : List Seg) (dt : Nat) (p : Pva) : Pva × List Seg × Nat :=
  advance segs (match segs with | [] => 0 | g :: _ => g.acc) dt p

/-- The whole duration of a list of pieces. -/
def durOf (segs : List Seg) : Nat := (segs.map (·.dur)).sum

/-- The distance that a list of pieces covers from velocity `v`. -/
def distOf (segs : List Seg) (v : Int) : Int := (advanceSegs segs (durOf segs) ⟨0, v, 0⟩).1.pos

/-- The velocity at the end of a list of pieces that starts at `v`. -/
def vEndOf (segs : List Seg) (v : Int) : Int :=
  match segs.getLast? with
  | some g => g.vEnd
  | none => v

/-- The same motion in the opposite direction. -/
def mirrorSegs (segs : List Seg) : List Seg := segs.map fun g => { g with acc := -g.acc, jerk := -g.jerk, vEnd := -g.vEnd }

/-- A piece that holds velocity `v` for ever: a motion that its limits never let end. -/
def stuckSeg (v : Int) : Seg := { dur := 2 ^ 80, acc := 0, jerk := 0, vEnd := v }

/-- A change of velocity at constant acceleration of `rate` microsteps/s²; at rate 0 it never takes place. -/
def trapRamp (v w : Int) (rate : Nat) : List Seg :=
  if v = w then []
  else if rate = 0 then [stuckSeg v]
  else
    let dv := (w - v).natAbs
    [{ dur := (dv * 200000000 + rate * 4294967296 - 1) / (rate * 4294967296), acc := sgn (w - v) * (rate * 4294967296 : Nat), jerk := 0
       vEnd := w }]

/-- The time in which jerk `j` changes the acceleration by `da`. -/
def jerkTime (da j : Nat) : Nat := da * 200000000 / (65536 * j)

/-- A rise of velocity from `v` with acceleration `a` to `w` with acceleration 0, within acceleration `lim` and under jerk `j`; it is no
fall once the present acceleration has been removed. -/
def jerkRise (v a w : Int) (lim j : Nat) : List Seg :=
  let lim32 : Nat := lim * 4294967296
  let jj : Int := j * 4294967296
  let ap2 : Int := j * (w - v) * 65536 + a * a / 2
  let ap : Nat := isqrt ap2.toNat
  let vAt (x : Int) : Int := v + (x * x - a * a) / (131072 * (j : Int))
  if ap ≤ lim32 ∧ a ≤ ap then
    [{ dur := jerkTime ((ap : Int) - a).natAbs j, acc := a, jerk := jj, vEnd := vAt ap },
     { dur := jerkTime ap j, acc := ap, jerk := -jj, vEnd := w }]
  else if a ≤ lim32 then
    let v1 := vAt lim32
    let v2 := w - (lim32 : Int) * lim32 / (131072 * (j : Int))
    if lim = 0 then [stuckSeg v] else
    [{ dur := jerkTime ((lim32 : Int) - a).natAbs j, acc := a, jerk := jj, vEnd := v1 },
     { dur := (v2 - v1).natAbs * 200000000 / lim32, acc := lim32, jerk := 0, vEnd := v2 },
     { dur := jerkTime lim32 j, acc := lim32, jerk := -jj, vEnd := w }]
  else
    let v1 := v + (a * a - (lim32 : Int) * lim32) / (131072 * (j : Int))
    let v2 := w - (lim32 : Int) * lim32 / (131072 * (j : Int))
    if lim = 0 then [stuckSeg v] else
    [{ dur := jerkTime (a - lim32).natAbs j, acc := a, jerk := -jj, vEnd := v1 },
     { dur := (v2 - v1).natAbs * 200000000 / lim32, acc := lim32, jerk := 0, vEnd := v2 },
     { dur := jerkTime lim32 j, acc := lim32, jerk := -jj, vEnd := w }]

/-- A change of velocity within one direction: at constant acceleration, or with jerk `j` other than 0. -/
def ramp1 (v a w : Int) (lim j : Nat) : List Seg :=
  if j = 0 then trapRamp v w lim
  else if v = w ∧ a = 0 then []
  else
    let vStop := v + sgn a * (a * a / (131072 * (j : Int)))
    if vStop ≤ w then jerkRise v a w lim j else mirrorSegs (jerkRise (-v) (-a) (-w) lim j)

/-- A change of velocity (R169): `amax` while the magnitude rises and `dmax` while it falls, through 0 in two parts. -/
def ramp (v a w : Int) (amax dmax j : Nat) : List Seg :=
  if sgn v * sgn w < 0 then ramp1 v a 0 dmax j ++ ramp1 0 0 w amax j
  else ramp1 v a w (if v.natAbs ≤ w.natAbs then amax else dmax) j

/-- The limits of a move: acceleration, deceleration, jerk (0: trapezoidal) and the halt deceleration. -/
structure Lims where
  amax : Nat
  dmax : Nat
  jerk : Nat
  hdec : Nat
  deriving DecidableEq, Repr

/-- The largest value below `hi` at which a rising `f` does not exceed `d`, by `n` halvings from `lo`. -/
def bisect (f : Int → Int) (d : Int) : Nat → Int → Int → Int
  | 0, lo, _ => lo
  | n + 1, lo, hi =>
    let m := (lo + hi) / 2
    if f m ≤ d then bisect f d n m hi else bisect f d n lo m

/-- Rise to `vp`, a cruise over what is left of `d`, and the final deceleration to `ve`. The count is that of the final pieces. -/
def assemble (l : Lims) (d v a vp ve : Int) : List Seg × Nat :=
  let up := ramp v a vp l.amax l.dmax l.jerk
  let down := if ve < vp then ramp vp 0 ve l.amax l.dmax l.jerk else []
  let left := d - distOf up v - distOf down vp
  let cruise : List Seg :=
    if vp ≤ 0 then (if 65536 < left then [stuckSeg 0] else [])
    else if left ≤ 0 then []
    else [{ dur := (left * 65536 * tauSec / vp).toNat, acc := 0, jerk := 0, vEnd := vp }]
  (up ++ cruise ++ down, if vp ≤ 0 ∧ 65536 < left then 0 else down.length)

/-- The peak velocity of a trapezoidal move over `d` from `v` to `ve`. -/
def trapPeak (l : Lims) (d v ve : Int) : Int :=
  if l.amax + l.dmax = 0 then v
  else
    isqrt ((2 * (l.amax : Int) * l.dmax * d * 18446744073709551616 + l.dmax * (v * v) + l.amax * (ve * ve)) / (l.amax + l.dmax)).toNat

/-- A move forward over `d` from velocity `v` between 0 and the ceiling `vc`, to be passed at `ve`, when it can be: none when the axis
cannot slow down in time. -/
def forward (l : Lims) (vc d v a ve : Int) : Option (List Seg × Nat) :=
  let ve := min ve vc
  let vStop := clampI 0 vc (if l.jerk = 0 then v else v + sgn a * (a * a / (131072 * (l.jerk : Int))))
  let total (vp : Int) : Int :=
    let up := ramp v a vp l.amax l.dmax l.jerk
    distOf up v + (if ve < vp then distOf (ramp vp 0 ve l.amax l.dmax l.jerk) vp else 0)
  if d < total vStop ∧ ve < vStop then none
  else
    let vp := if l.jerk = 0 then min vc (max v (trapPeak l d v ve)) else if total vc ≤ d then vc else bisect total d 80 vStop vc
    some (assemble l d v a vp ve)

/-- Turn round: stop, then come back over the distance passed. The last argument is the ceiling of the way back. -/
def turnBack (l : Lims) (vc d v a : Int) : List Seg × Nat :=
  let stop := ramp v a 0 l.amax l.dmax l.jerk
  let back := (forward l vc (distOf stop v - d) 0 0 0).getD ([stuckSeg 0], 0)
  (stop ++ mirrorSegs back.1, back.2)

/-- A position move over `d` at least 0 (R168): a start above the ceiling decelerates to it at ME_HDEC (R167); a start away from the
target decelerates first, then turns back. `vc` and `vb` are the ceilings forward and back; with `hold`, no magnitude rises from rest
(R68). -/
def planForward (l : Lims) (vc vb : Int) (hold : Bool) (d v a ve : Int) : List Seg × Nat :=
  if v < 0 then
    let pre := (if vb < -v then trapRamp v (-vb) l.hdec else [])
    let v1 := vEndOf pre v
    let pre := pre ++ ramp v1 (if pre = [] then a else 0) 0 l.amax l.dmax l.jerk
    let rest := (forward l (if hold then 0 else vc) (d - distOf pre v) 0 0 ve).getD ([stuckSeg 0], 0)
    (pre ++ rest.1, rest.2)
  else
    let pre := if vc < v then trapRamp v vc l.hdec else []
    let v1 := vEndOf pre v
    let a1 := if pre = [] then a else 0
    let d1 := d - distOf pre v
    let rest := match (if d1 < 0 then none else forward l vc d1 v1 a1 ve) with
      | some r => r
      | none => turnBack l (if hold then 0 else vb) d1 v1 a1
    (pre ++ rest.1, rest.2)

/-- The plan of a position move to `tgt` (microsteps) from a point, under the ceilings for the positive and negative direction, to pass the
target at magnitude `ve`. -/
def planTo (l : Lims) (vPos vNeg : Int) (hold : Bool) (p : Pva) (tgt : Int) (ve : Int) : Profile :=
  let d := tgt * 4294967296 - p.pos
  if d = 0 ∧ p.vel = 0 ∧ p.acc = 0 then { tgt := some tgt }
  else if 0 < d ∨ (d = 0 ∧ 0 ≤ p.vel) then
    let r := planForward l vPos vNeg hold d p.vel p.acc ve
    { segs := r.1, brake := r.2, tgt := some tgt, vEnd := vEndOf r.1 p.vel }
  else
    let r := planForward l vNeg vPos hold (-d) (-p.vel) (-p.acc) ve
    { segs := mirrorSegs r.1, brake := r.2, tgt := some tgt, vEnd := vEndOf (mirrorSegs r.1) p.vel }

/-- The plan of a change to signed velocity `w`, limited by the ceilings (R169); from above a ceiling the axis first decelerates to it at
ME_HDEC. -/
def planVel (l : Lims) (vPos vNeg : Int) (hold : Bool) (p : Pva) (w : Int) : Profile :=
  let w := clampI (-vNeg) vPos w
  let pre := if vPos < p.vel then trapRamp p.vel vPos l.hdec else if p.vel < -vNeg then trapRamp p.vel (-vNeg) l.hdec else []
  let v1 := vEndOf pre p.vel
  let w := if hold ∧ (sgn v1 * sgn w < 0 ∨ v1 = 0) then 0 else w
  let segs := pre ++ ramp v1 (if pre = [] then p.acc else 0) w l.amax l.dmax l.jerk
  { segs := segs, vEnd := w }

/-- The plan of a deceleration to rest at `hdec`. -/
def planHalt (hdec : Nat) (p : Pva) : Profile := { segs := trapRamp p.vel 0 hdec }

/-- Time until the final deceleration begins. -/
def untilBrake (pr : Profile) : Nat := durOf (pr.segs.take (pr.segs.length - pr.brake))

/-- The distance in which velocity `v` comes to rest at `hdec`. -/
def stopDist (hdec : Nat) (v : Int) : Int := v * v / (2 * (hdec : Int) * 18446744073709551616)

/-- A point lies so that a stop at `hdec` in the direction of its motion passes the limits `lo`..`hi` (2^-32 microstep). -/
def passes (hdec : Nat) (lo hi : Int) (p : Pva) : Bool :=
  (0 < p.vel && hi < p.pos + stopDist hdec p.vel) || (p.vel < 0 && p.pos - stopDist hdec p.vel < lo)

/-- The latest time up to `dt` at which the motion can still stop at `hdec` within the limits, by `n` halvings. -/
def lastSafe (segs : List Seg) (p : Pva) (hdec : Nat) (lo hi : Int) : Nat → Nat → Nat → Nat
  | 0, a, _ => a
  | n + 1, a, b =>
    let m := (a + b) / 2
    if passes hdec lo hi (advanceSegs segs m p).1 then lastSafe segs p hdec lo hi n a m else lastSafe segs p hdec lo hi n m b

/-- The stop at a limit (R172): at ME_HDEC, to rest at the limit exactly where it can, else as soon as it can. -/
def planLimit (hdec : Nat) (lo hi : Int) (p : Pva) : Profile :=
  let lim := if 0 < p.vel then hi else lo
  let ahead := (lim - p.pos) * sgn p.vel
  { planHalt hdec p with tgt := if 0 ≤ ahead + 4294967296 ∧ 0 ≤ lim - lo ∧ stopDist hdec p.vel ≤ ahead + 4294967296 then some (lim / 4294967296) else none }

end Sys2Proof.Machine
end

