-- ==== Sys2Proof/Machine/Motion.lean ====
section
/-! DEFINITION. The motion engine (spec/07): the tick of each axis, its queue, precedence, obstacles, inputs and current level. -/

namespace Sys2Proof.Machine

/-! ### What the registers of page 0x10 + n say -/

/-- ME_CFG.EN. -/
def State.meEn (s : State) (ax : Axis) : Bool := s.bit (R.ME_CFG ax) 31

/-- ME_CFG.INSRC: 0 none, 1 step/direction, 2 door. -/
def State.insrc (s : State) (ax : Axis) : Nat := if s.fld (R.ME_CFG ax) 25 24 = 3 then 0 else s.fld (R.ME_CFG ax) 25 24

/-- The sign of the closing direction (R174). -/
def State.closeSign (s : State) (ax : Axis) : Int := if s.bit (R.ME_CFG ax) 13 then 1 else -1

/-- The halt deceleration: values below 1,024 act as 1,024. -/
def State.hdec (s : State) (ax : Axis) : Nat := max 1024 (s.get (R.ME_HDEC ax)).toNat

/-- ME_CTL.HALT or HALT-ALL (R173). -/
def State.axisHalted (s : State) (ax : Axis) : Bool := s.bit (R.ME_CTL ax) 0 || s.haltAll

/-- The axis counts as claimed (R33, R164). -/
def State.claimed (s : State) (ax : Axis) : Bool := !s.bit R.SYS_AXCLAIM (8 + ax)

/-- The soft limits while LIMEN is 1, microsteps (R172). -/
def State.limits (s : State) (ax : Axis) : Option (Int × Int) :=
  if s.bit (R.ME_CFG ax) 14 then some (s.wide (R.ME_PMIN ax), s.wide (R.ME_PMAX ax)) else none

/-- A position lies outside the soft limits. -/
def State.outside (s : State) (ax : Axis) (p : Int) : Bool :=
  match s.limits ax with
  | some (lo, hi) => p < lo || hi < p
  | none => false

/-- Ball j of the axis reads 1: OPEN or STEP, CLOSE or DIR, END or ENA or Z, STAT or STALL (R45). -/
def State.ball (s : State) (ax : Axis) (j : Nat) : Bool := s.sys.axio.getLsbD (4 * ax + j)

/-! ### Ceilings (R158, R174) -/

/-- The energy ceiling of a cap, microsteps/s (R174). -/
def energyCeiling (ecap mass kpm : Nat) : Nat :=
  if mass = 0 ∨ kpm = 0 then 10240000
  else min 10240000 (isqrt (2 * ecap * 1000000000000000000000 / (mass * (kpm * kpm))))

/-- The energy ceilings of a move are computed and read in ME_VEO and ME_VEC (R174). -/
def State.setEnergy (s : State) (ax : Axis) (p : MoveParams) : State :=
  let mass := (s.get (R.ME_MASS ax)).toNat
  let kpm := (s.get (R.ME_KPM ax)).toNat
  (s.set (R.ME_VEO ax) (wordOfNat (energyCeiling p.ecapO mass kpm))).set (R.ME_VEC ax) (wordOfNat (energyCeiling p.ecapC mass kpm))

/-- The energy ceiling in force for a direction of motion. -/
def State.energyFor (s : State) (ax : Axis) (sign : Int) : Nat :=
  if sign = s.closeSign ax then (s.get (R.ME_VEC ax)).toNat else (s.get (R.ME_VEO ax)).toNat

/-- The ceiling of a direction apart from the energy cap, 2^-48 microstep/s (R158). -/
def State.plainCeiling (s : State) (ax : Axis) (vmax : Int) : Int :=
  let m := s.me ax
  let c := min ((min m.vlim 10240000 : Nat) * 281474976710656 : Int) ((vmax.natAbs : Int) * 4294967296)
  match m.rtHeld with
  | some h => min c h
  | none => c

/-- The ceiling for a direction of motion, 2^-48 microstep/s (R158). -/
def State.ceiling (s : State) (ax : Axis) (vmax : Int) (sign : Int) : Int :=
  min (s.plainCeiling ax vmax) ((s.energyFor ax sign : Int) * 281474976710656)

/-! ### Plans -/

/-- The limits of a move's profile. -/
def State.lims (s : State) (ax : Axis) (p : MoveParams) : Lims :=
  { amax := p.amax, dmax := p.dmax, jerk := if p.jerkLim then p.jerk else 0, hdec := s.hdec ax }

/-- Where the axis is. -/
def MotAx.point (m : MotAx) : Pva := ⟨m.pos, m.vel, m.acc⟩

/-- The reverse move's target: REVDIST from the obstacle in the opening direction (R177). -/
def State.revTarget (s : State) (ax : Axis) (p : MoveParams) : Int := s.wide (R.ME_OBSPOS ax) - s.closeSign ax * p.revdist

/-- The sign of a home's direction (R170). -/
def homeSign (meth : Nat) : Int := if meth = 0 ∨ meth = 2 then -1 else 1

/-- The plan of the present motion of the axis's move from a point, to pass a position target at magnitude `ve`. -/
def State.planMove (s : State) (ax : Axis) (pt : Pva) (ve : Int) : Profile :=
  let m := s.me ax
  let p := m.prm
  let l := s.lims ax p
  let cp := s.ceiling ax p.vmax 1
  let cn := s.ceiling ax p.vmax (-1)
  let hold := m.rtHeld.isSome
  if m.obs = .reverse then planTo l cp cn hold pt (s.revTarget ax p) 0
  else if m.homeHit then planHalt (s.hdec ax) pt
  else if p.mode = 0 then planTo l cp cn hold pt p.target ve
  else if p.mode = 1 then planVel l cp cn hold pt (p.vmax * 4294967296)
  else planVel l cp cn hold pt (homeSign p.homemeth * p.vmax.natAbs * 4294967296)

/-- The target that ME_TGT shows for the present motion; motions without one leave it. -/
def State.showTarget (s : State) (ax : Axis) : State :=
  s.onMot ax fun m =>
    if m.obs = .reverse then { m with tgt := s.revTarget ax m.prm } else if m.prm.mode = 0 then { m with tgt := m.prm.target } else m

/-- The motion begins or changes: it is planned from where the axis is. -/
def State.replan (s : State) (ax : Axis) : State :=
  (s.onMot ax fun m => { m with prof := s.planMove ax m.point 0 }).showTarget ax

/-- The axis decelerates at ME_HDEC from where it is (R161, R171); without a context it counts as decelerating after an abort. -/
def State.brake (s : State) (ax : Axis) : State :=
  s.onMot ax fun m => { m with prof := planHalt (s.hdec ax) m.point, acc := if m.vel = 0 then 0 else m.acc, starting := false }

/-- A motion of the axis starts from rest at rest current: RUN level at this tick and the profile at the next (R164, R173). -/
def State.toRun (s : State) (ax : Axis) (delay : Bool) : State :=
  s.onMot ax fun m => { m with
    starting := delay && m.level = .rest && m.vel = 0 && m.acc = 0
    level := if m.level = .off then m.level else .run }

/-! ### Reports at a tick (R156, R157) -/

/-- The integer part reported of a value in units of `u`: exact where it is whole, otherwise either neighbour. -/
def State.report (s : State) (x : Int) (u : Int) : Int × State :=
  if x % u = 0 then (x / u, s) else
  let (b, s) := s.drawBit
  (if b then x / u + 1 else x / u, s)

/-- Position, velocity and acceleration as reported at a tick: within 1 microstep and 1 microstep/s of the profile, never above its
velocity; an axis that has not moved reports the same position. -/
def State.reportAxis (s : State) (ax : Axis) (old : Int) : State :=
  let m := s.me ax
  let (rp, s) := if m.pos = old ∧ m.vel = 0 then (m.rpos, s) else s.report m.pos 4294967296
  let mag : Int := m.vel.natAbs / 4294967296
  let (rv, s) := if mag = 0 then ((0 : Int), s) else s.drawInt (max 1 (mag - 65535)) mag
  let trav := s.wideU (R.ME_TRAV ax) + (rp - m.rpos).natAbs
  let s := if rp = m.rpos then s else s.setWide (R.ME_TRAV ax) trav
  s.onMot ax fun m => { m with rpos := rp, rvel := sgn m.vel * (if mag = 0 ∧ m.vel ≠ 0 then 1 else rv) }

/-! ### Integration -/

/-- What an interval brought: the point at which the plan ended within it, and the time left after it. -/
structure Ended where
  at_ : Pva
  left : Nat
  deriving DecidableEq, Repr

/-- Constant velocity for `dt`. -/
def coast (p : Pva) (dt : Nat) : Pva := { p with pos := p.pos + p.vel * dt / (65536 * tauSec) }

/-- The acceleration at the end of a plan: a jerk-limited plan ends without one. -/
def endAcc (segs : List Seg) : Int :=
  match segs.getLast? with
  | some g => if g.jerk = 0 then g.acc else 0
  | none => 0

/-- The point a plan ends at: exactly its target where it has one (R156), with the acceleration it arrives with (R166). -/
def snap (pr : Profile) (p : Pva) : Pva :=
  match pr.tgt with
  | some g => { pos := g * 4294967296, vel := p.vel, acc := endAcc pr.segs }
  | none => { p with acc := endAcc pr.segs }

/-- Along a plan for `dt`: the point, what is left of the plan, and where it ended. -/
def along (pr : Profile) (dt : Nat) (p : Pva) : Pva × Profile × Option Ended :=
  match pr.segs with
  | [] => (coast { p with acc := 0 } dt, pr, none)
  | _ =>
    let (q, segs, left) := advanceSegs pr.segs dt p
    if segs = [] then
      let e := snap pr q
      (coast { e with acc := 0 } left, { pr with segs := [], brake := 0 }, some ⟨e, left⟩)
    else (q, { pr with segs := segs }, none)

/-- A plan leaves the limits `lo`..`hi` (2^-32 microstep) on its way: its position turns at ends of pieces only. -/
def leaves (lo hi : Int) : List Seg → Pva → Bool
  | [], p => p.pos < lo || hi < p.pos
  | g :: t, p =>
    let q := (advance [g] p.acc g.dur p).1
    q.pos < lo || hi < q.pos || leaves lo hi t { q with acc := match t with | [] => 0 | h :: _ => h.acc }

/-- A soft limit governs the present motion (R172): a velocity or home motion, and a position or reverse move whose plan leaves the
limits, as a carried motion can. A motion that already brakes at ME_HDEC, for an obstacle, a home found or the limit itself, goes on so. -/
def State.limited (s : State) (ax : Axis) (lo hi : Int) : Bool :=
  let m := s.me ax
  (m.active.isSome || m.engaged && s.insrc ax ≠ 1) && !m.homeHit && !m.limHit
    && (m.obs = .none && m.prm.mode ≠ 0
      || (m.obs = .none || m.obs = .reverse)
        && leaves (min lo m.pos) (max hi m.pos) m.prof.segs { m.point with acc := match m.prof.segs with | [] => 0 | g :: _ => g.acc })

/-- The motion of one axis over the elapsed interval (R9, R156, R172). -/
def State.integrate (s : State) (ax : Axis) (dt : Nat) : State × Option Ended :=
  let m := s.me ax
  if m.starting then (s.onMot ax fun m => { m with starting := false }, none) else
  let go (pr : Profile) (dt : Nat) (p : Pva) (hit : Bool) : State × Option Ended :=
    let (q, pr, e) := along pr dt p
    (s.onMot ax fun m => { m with pos := q.pos, vel := q.vel, acc := q.acc, prof := pr, limHit := m.limHit || hit }, e)
  match s.limits ax with
  | none => go m.prof dt m.point false
  | some (lo, hi) =>
    let lo := lo * 4294967296
    let hi := hi * 4294967296
    if !s.limited ax lo hi || !passes (s.hdec ax) lo hi (along m.prof dt m.point).1 then go m.prof dt m.point false
    else
      let t := lastSafe m.prof.segs m.point (s.hdec ax) lo hi 48 0 dt
      let (q, _, _) := along m.prof t m.point
      go (planLimit (s.hdec ax) lo hi q) (dt - t) q true

/-! ### Ends (R161, R171, R179) -/

/-- A source of the axis is due at the end of its update. -/
def State.dueEv (s : State) (ax : Axis) : State :=
  s.onMot ax fun m => { m with due := m.due ++ [(40 + ax.val, 0#32)] }

/-- The state of a motion cleared: no obstacle phase, no search found, no limit. -/
def MotAx.noMove (m : MotAx) : MotAx :=
  { m with obs := .none, homeHit := false, limHit := false, obsN := 0, contReq := false, abortReq := false, starting := false, autoHome := false }

/-- The door cycle of an end in the closing direction. -/
def State.doorCycle (s : State) (ax : Axis) : State := s.setWide (R.ME_CYC ax) (s.wideU (R.ME_CYC ax) + 1 : Nat)

/-- The ACTIVE context ends DONE or ABORTED with a reason (R159, R161, R179). Its direction, for CYCLE, is that from where it became ACTIVE
to where it ends (DESIGN CHOICE, log entry 97). -/
def State.endActive (s : State) (ax : Axis) (done : Bool) (reason : Nat) : State :=
  match (s.me ax).active with
  | none => s
  | some c =>
    let m := s.me ax
    let s := (s.setCtxWide c 38 m.rpos).ctxFinish c (if done then ctxDone else ctxAborted) reason
    let s := if done then s.incFld (R.ME_EVCNT ax) 7 0 else s.incFld (R.ME_EVCNT ax) 15 8
    let s := if done && m.prm.cycle && sgn (m.rpos - m.startPos) = s.closeSign ax then s.doorCycle ax else s
    (s.onMot ax fun m => { m.noMove with active := none }).dueEv ax

/-- The input context disengages; `gate` says how it may engage again (R180). -/
def State.disengage (s : State) (ax : Axis) (gate : InputGate) : State :=
  if (s.me ax).engaged then s.onMot ax fun m => { m.noMove with engaged := false, gate := gate } else s

/-- Whatever moves the axis ends: the ACTIVE context ABORTED with a reason, or the input context. -/
def State.cutMotion (s : State) (ax : Axis) (reason : Nat) (gate : InputGate) : State :=
  (s.endActive ax false reason).disengage ax gate

/-- A context that is QUEUED ends with a reason (rows 1 and 6, and R165's late start). -/
def State.endQueued (s : State) (ax : Axis) (cs : List Ctx) (reason : Nat) : State :=
  (cs.filter fun c => (s.me ax).queue.contains c).foldl (fun s c => s.dequeueAbort ax c reason) s

/-- Row 1 of R171: the contexts of that time end with reason 14, none is commanded and the level is OFF. -/
def State.rowDisable (s : State) (ax : Axis) : State :=
  let m := s.me ax
  let cs := if m.evEn then m.evEnQ else m.queue
  let s := (s.endActive ax false 14).disengage ax .newGoalEn
  let s := s.endQueued ax cs 14
  s.onMot ax fun m => { m.noMove with
    vel := 0, acc := 0, rvel := 0, prof := {}, aborting := false, level := .off, evEn := false, evEnQ := [], evGate := false
    evUe := false, evWin := false, evAbort := false, gate := if m.gate = .newGoal then .newGoal else .newGoalEn, restNow := false, zEdge := false
    rtHeld := none }

/-! ### Obstacles, stalls and homes (R170, R176 to R179) -/

/-- An obstacle is confirmed (R177, steps 1 to 3). -/
def State.obstacle (s : State) (ax : Axis) : State :=
  let m := s.me ax
  let s := s.setWide (R.ME_OBSPOS ax) m.rpos
  let s := s.incSat (R.ME_OBSTOT ax) 31 0
  let s := s.incFld (R.ME_EVCNT ax) 23 16
  let s := match m.active with
    | some c => s.setCtxW c 41 (s.ctxW c 41 + 1#32)
    | none => s
  ((s.onMot ax fun m => { m with obs := .decel, obsN := 0, limHit := false, noRetry := m.prm.obsact = 2 && m.retried = m.prm.retries }).brake ax).dueEv ax

/-- OBSACT as it acts at the present obstacle (R177). -/
def MotAx.obsAction (m : MotAx) : Nat :=
  if m.prm.obsact = 3 then 0 else if m.prm.obsact = 2 ∧ m.noRetry then 1 else m.prm.obsact

/-- The context's motion resumes (R177, R178). -/
def State.resumeMotion (s : State) (ax : Axis) (retry : Bool) : State :=
  let s := s.onMot ax fun m => { m with obs := .none, obsN := 0, closing := false, contReq := false, passSet := false, retried := if retry then m.retried + 1 else m.retried }
  let m := s.me ax
  let s := match m.active with
    | some c => s.setCtxW c 32 (putFld (s.ctxW c 32) 27 24 (min 15 m.retried))
    | none => s
  ((s.setEnergy ax m.prm).toRun ax true).replan ax

/-- The axis has come to rest after an obstacle's deceleration or its reverse move (R177, step 4). -/
def State.afterRest (s : State) (ax : Axis) : State :=
  let m := s.me ax
  let act := m.obsAction
  if m.obs = .decel then
    if act = 0 then s.onMot ax fun m => { m with obs := .hold }
    else ((s.onMot ax fun m => { m with obs := .reverse }).setEnergy ax m.prm).replan ax
  else if act = 2 then s.onMot ax fun m => { m with obs := .rcwait, rcLeft := m.prm.rcdelay * 200000 }
  else s.onMot ax fun m => { m with obs := .hold }

/-- The home has been found (R170): the position is set, the electrical angle kept, the place where the context started is renumbered with
it, and the axis decelerates. -/
def State.homeFound (s : State) (ax : Axis) : State :=
  let m := s.me ax
  ((s.movePos ax m.prm.target).onMot ax fun m' =>
    { m' with homeHit := true, limHit := false, startPos := m.startPos + (m.prm.target - m.rpos) }).brake ax

/-- The detection that ends a home search is present: stall, END, or a Z edge since the last tick (R170). -/
def State.homeSeen (s : State) (ax : Axis) : Bool :=
  let m := s.me ax
  match m.prm.homemeth with
  | 2 => s.ball ax 2
  | 3 => m.zEdge
  | _ => s.bit (R.LO_STAT ax) 5

/-- The comparison of force with FLIM at a tick (R176), and FPEAK; the last part says that an obstacle is confirmed. -/
def State.forceCheck (s : State) (ax : Axis) : State × Bool :=
  let m := s.me ax
  if m.obs ≠ .none ∨ !m.closing ∨ m.prm.obsact = 3 ∨ m.prm.flim = 0 ∨ m.blankN ≤ m.prm.fblank
      ∨ !s.bit (R.LO_STAT ax) 2 then (s, false) else
  let f := (s.get (R.LO_FORCE ax)).toInt
  let s := match m.active with
    | some c => if (s.ctxW c 40).toInt < f then s.setCtxW c 40 (wordOfInt f) else s
    | none => s
  let n := if (m.prm.flim : Int) < f then m.obsN + 1 else 0
  (s.onMot ax fun m => { m with obsN := n }, m.prm.obsn ≤ n)

/-- Closing motion and its ticks (R176). -/
def State.trackClosing (s : State) (ax : Axis) : State :=
  let now := sgn (s.me ax).vel = s.closeSign ax
  s.onMot ax fun m => { m with
    closing := now, blankN := if !now then 0 else if m.closing then m.blankN + 1 else 0, obsN := if now ∧ !m.closing then 0 else m.obsN }

/-! ### Activation (R164 to R168, R172) -/

/-- The stall that the observer holds clears (R226). -/
def State.stallCleared (s : State) (ax : Axis) : State := (s.setBit (R.LO_STAT ax) 5 false).setFld (R.LO_STAT ax) 19 16 0

/-- A move of the axis begins with the parameters of a context (R164, R174). The stall held by the observer clears (R226). -/
def State.beginMove (s : State) (ax : Axis) (p : MoveParams) (delay : Bool) : State :=
  let s := (s.stallCleared ax).setEnergy ax p
  let vlim := (s.get (R.ME_VLIM ax)).toNat
  let s := s.onMot ax fun m => { m.noMove with
    prm := p, vlim := vlim, startPos := m.rpos, retried := 0, closing := false, blankN := 0, aborting := false, stallPrev := false, zEdge := false, restNow := false, passSet := false }
  (s.toRun ax delay).replan ax

/-- A context's position or home target lies outside the limits (R172). -/
def State.badTarget (s : State) (ax : Axis) (p : MoveParams) : Bool := p.mode ≠ 1 && s.outside ax p.target

/-- The multiple of 25,000 ns at which a timed start falls due. -/
def dueTick (t : Nat) : Nat := nextTickAt t

/-- The tick now in progress, as a multiple of 25,000 ns. -/
def State.tickNow (s : State) : Nat := s.sys.time / 25000 * 25000

/-- The start time of a context. -/
def State.tstart (s : State) (c : Ctx) : Nat := ofHiLoU (s.ctxW c 14) (s.ctxW c 15)

/-- The first tick at or after TSTART of a queued context: the one recorded, else the present tick when the one before it came before TSTART,
else the multiple of 25,000 ns that TSTART fell due at, before the context was queued (DEDUCED, log entry 35). -/
def State.firstTick (s : State) (ax : Axis) (c : Ctx) : Nat :=
  match (s.me ax).firstDue.find? (·.1 = c) with
  | some e => e.2
  | none => if s.sys.lastTick < s.tstart c then s.tickNow else dueTick (s.tstart c)

/-- The queued timed contexts whose time has come, each with its first tick (R165). -/
def State.noteDue (s : State) (ax : Axis) : State :=
  let due : List Ctx := (s.me ax).queue.filter fun (c : Ctx) => fldOf (s.ctxW c 0) 5 4 = 1 && s.tstart c ≤ s.sys.time
  s.onMot ax fun m => { m with firstDue := due.map fun (c : Ctx) => (c, s.firstTick ax c) }

/-- How the start condition of a head stands (R165). -/
inductive StartCond where
  | wait | met | late | tooLate
  deriving DecidableEq, Repr

/-- The start condition of the queue's head (R165). -/
def State.startCond (s : State) (ax : Axis) (c : Ctx) : StartCond :=
  match fldOf (s.ctxW c 0) 5 4 with
  | 1 =>
    if s.sys.time < s.tstart c then .wait
    else if s.tickNow ≤ s.firstTick ax c then .met
    else if s.tickNow - s.firstTick ax c ≤ fldOf (s.ctxW c 13) 31 16 * 1000000 then .late
    else .tooLate
  | 2 => if (s.me ax).startEv then .met else .wait
  | _ => .met

/-- The conditions of R164 that do not belong to the head's start condition. -/
def State.mayStart (s : State) (ax : Axis) (preempt : Bool) : Bool :=
  let m := s.me ax
  s.meEn ax && s.claimed ax && !s.axisHalted ax && s.granted ax && !s.sstill ax && !m.engaged && !m.bothIn
    && ((m.active.isNone && !m.aborting) || preempt)

/-- The head becomes ACTIVE: its place in the queue goes to the next context, and words 32 to 41 are set (R159);
CR_OVR.MODE returns to 0 (R208). -/
def State.headActive (s : State) (ax : Axis) (c : Ctx) (late : Bool) : State :=
  let now := s.sys.time
  let s := (s.onMot ax fun m => { m with active := some c, actAt := now, wentActive := true, queue := m.queue.filter (· ≠ c), startEv := false }).setFld (R.CR_OVR ax) 31 30 0
  let s := (s.setCtxW c 32 (putFld (putBit (s.ctxW c 32) 3 late) 27 24 0)).ctxGo c ctxActive
  (((s.setCtxWide c 36 (s.me ax).rpos).setCtxW c 40 0#32).setCtxW c 41 0#32)

/-- A context that just became ACTIVE takes over the motion; from a crossing within the interval it starts there (R166, R168, R172). -/
def State.takeOver (s : State) (ax : Axis) (p : MoveParams) (blend timed : Bool) (cross : Option Ended) : State :=
  if s.badTarget ax p then
    let s := s.stallCleared ax
    let s := s.onMot ax fun m => { m with startPos := m.rpos, prm := p, stallPrev := false }
    ((s.endActive ax false 8).brake ax).onMot ax fun m => { m with aborting := m.vel ≠ 0 }
  else
    let s := s.beginMove ax p (!blend && !timed)
    let s := match cross with
      | some e =>
        if blend then
          let old := (s.me ax).pos
          let pr := s.planMove ax e.at_ 0
          let (q, pr, _) := along pr e.left e.at_
          (s.onMot ax fun m => { m with pos := q.pos, vel := q.vel, acc := q.acc, prof := pr, starting := false }).reportAxis ax old
        else s
      | none => s
    let m := s.me ax
    if p.mode = 0 ∧ m.prof.segs = [] ∧ m.vel = 0 then s.endActive ax true 0 else s

/-- The head of the queue becomes ACTIVE when R164 allows it; one that ends at once makes way for the next. -/
def State.activate (s : State) (ax : Axis) (cross : Option Ended) : Nat → State
  | 0 => s
  | n + 1 =>
    match (s.me ax).queue with
    | [] => s
    | c :: _ =>
      let w0 := s.ctxW c 0
      if !s.mayStart ax (bitOf w0 7) then s else
      match s.startCond ax c with
      | .wait => s
      | .tooLate => (s.dequeueAbort ax c 9).activate ax cross n
      | cond =>
        match s.ctxUe c with
        | some w =>
          let s := s.dequeueAbort ax c 11
          ((s.onMot ax fun m => { m with due := m.due ++ [(18, wordOfNat w), (40 + ax.val, 0#32)] }).activate ax cross n)
        | none =>
          let s := s.endActive ax false 4
          let s := s.headActive ax c (cond = .late)
          let s := s.takeOver ax (s.ctxParams c) (bitOf w0 6) (fldOf w0 5 4 = 1) cross
          if (s.me ax).active.isSome then s else s.activate ax none n

/-- The blended, immediate successor that waits at the head, as its parameters (R166). -/
def State.successor (s : State) (ax : Axis) : Option MoveParams :=
  match (s.me ax).queue with
  | c :: _ => let w0 := s.ctxW c 0
    if bitOf w0 6 ∧ fldOf w0 5 4 = 0 then some (s.ctxParams c) else none
  | [] => none

/-- The velocity at which the target is passed into a successor (R166), 2^-48 microstep/s. -/
def State.passVel (s : State) (ax : Axis) (next : MoveParams) : Int :=
  let m := s.me ax
  let sign := sgn (m.prm.target * 4294967296 - m.pos)
  let cap := if sign = s.closeSign ax then next.ecapC else next.ecapO
  let vE := energyCeiling cap (s.get (R.ME_MASS ax)).toNat (s.get (R.ME_KPM ax)).toNat
  let vlim := min 10240000 (s.get (R.ME_VLIM ax)).toNat
  min (min ((m.prm.endvel.natAbs : Int) * 4294967296) ((next.vmax.natAbs : Int) * 4294967296))
    ((min vE vlim : Nat) * 281474976710656 : Int)

/-- At the tick at which the final deceleration of a position context must begin, the queue decides the velocity at the target (R166);
it is examined once. -/
def State.decidePass (s : State) (ax : Axis) : State :=
  let m := s.me ax
  if m.active.isSome ∧ m.obs = .none ∧ m.prm.mode = 0 ∧ !m.limHit ∧ !m.starting ∧ !m.passSet ∧ m.prof.brake ≠ 0 ∧ untilBrake m.prof < 327680000 then
    match s.successor ax with
    | some next => s.onMot ax fun m => { m with passSet := true, prof := s.planMove ax m.point (s.passVel ax next) }
    | none => s.onMot ax fun m => { m with passSet := true }
  else s

/-! ### The input contexts (R46, R180, R181) -/

/-- The goal that OPEN and CLOSE present, if one of them is 1. -/
def State.presented (s : State) (ax : Axis) : Option Int :=
  if s.ball ax 0 && !s.ball ax 1 then some (s.wide (R.ME_OPEN ax))
  else if s.ball ax 1 && !s.ball ax 0 then some (s.wide (R.ME_CLOSED ax)) else none

/-- The axis is at rest at a position. -/
def MotAx.restsAt (m : MotAx) (g : Int) : Bool := m.vel = 0 && m.acc = 0 && m.rpos = g && m.prof.segs = []

/-- The template's parameters for a goal, or for the automatic home that a first goal runs (R180). -/
def State.inputParams (s : State) (ax : Axis) (g : Int) : MoveParams :=
  let p := s.ctxParams (s.fld (R.ME_CFG ax) 23 16)
  if (s.me ax).homed then { p with mode := 0, target := g }
  else { p with mode := 2, homemeth := if s.closeSign ax = 1 then 1 else 0, target := s.wide (R.ME_CLOSED ax) }

/-- The input context engages for a goal (R180): it displaces an ACTIVE context with reason 5 and carries the motion. -/
def State.engage (s : State) (ax : Axis) (g : Int) : State :=
  match s.ctxUe (s.fld (R.ME_CFG ax) 23 16) with
  | some w =>
    let s := s.cutMotion ax 11 .free
    (s.brake ax).onMot ax fun m => { m with goal := some g, gate := .free, aborting := m.vel ≠ 0, due := m.due ++ [(18, wordOfNat w)] }
  | none =>
    let p := s.inputParams ax g
    let s := s.endActive ax false 5
    let s := s.onMot ax fun m => { m with goal := some g, gate := .free }
    if s.badTarget ax p then ((s.disengage ax .free).brake ax).onMot ax fun m => { m with aborting := m.vel ≠ 0 }
    else
      let s := s.onMot ax fun m => { m with engaged := true }
      (s.beginMove ax p true).onMot ax fun m => { m with autoHome := p.mode = 2 }

/-- The door inputs at a tick at which the axis may move (R46, R180). -/
def State.doorInput (s : State) (ax : Axis) : State :=
  let m := s.me ax
  let close := s.ball ax 1
  let rise := close && !m.closePrev
  let both := close && s.ball ax 0
  let s := s.onMot ax fun m => { m with closePrev := close, bothIn := both }
  if both then
    let moving := m.active.isSome || m.engaged
    let s := s.cutMotion ax 5 .relevel
    let s := s.onMot ax fun m => { m with gate := if m.gate = .free then .relevel else m.gate }
    if moving then (s.brake ax).onMot ax fun m => { m with aborting := m.vel ≠ 0 } else s
  else
    let want := (s.presented ax).orElse fun _ => m.goal
    match want with
    | none => s
    | some g =>
      if !m.homed && !s.bit (R.ME_CFG ax) 15 then s else
      let new := m.goal ≠ some g
      let again := m.gate = .relevel && !m.engaged && !m.restsAt g
      let edge := rise && (m.engaged && m.obs = .hold || !m.engaged && m.gate = .newGoal && !m.restsAt g)
      if new || again || edge then s.engage ax g
      else if m.gate = .relevel && !m.engaged && m.restsAt g then s.onMot ax fun m => { m with gate := .free }
      else s

/-- What is presented while torque is absent is no new goal when it returns (R180, R316). -/
def State.absorbInput (s : State) (ax : Axis) : State :=
  let g := s.presented ax
  s.onMot ax fun m => { m with
    closePrev := s.ball ax 1, bothIn := s.ball ax 0 && s.ball ax 1
    goal := if m.gate = .newGoal then g.orElse fun _ => m.goal else m.goal }

/-- The step input starts again from where the axis is. -/
def State.stepResync (s : State) (ax : Axis) : State :=
  s.onMot ax fun m => { m with stepCnt := 0, stepBase := m.rpos, stepHist := [] }

/-- The mean of the last 2^FILT targets, 2^-32 microstep; targets before the first are the reference. -/
def filtered (base : Int) (hist : List Int) (filt : Nat) : Int :=
  let n := 2 ^ filt
  (hist.take n).foldl (· + ·) ((n - (hist.take n).length : Nat) * base) * 4294967296 / (n : Nat)

/-- The largest velocity from which a stop at `hdec` stays within the distance `d`, 2^-32 microstep. -/
def stopVel (hdec : Nat) (d : Int) : Int := isqrt (2 * hdec * 18446744073709551616 * d.toNat)

/-- The step input at a tick (R172, R181). While a regular context, a halt, an unclaimed axis, a removed grant or a following error keeps the
axis from following, the step count is dropped and starts again from the position (DESIGN CHOICE, log entry 33); after a following error
the input context stays engaged while the axis moves. Towards a soft limit the velocity is held to one from which ME_HDEC stops the axis
at the limit. -/
def State.follow (s : State) (ax : Axis) : State :=
  let m := s.me ax
  if m.active.isSome ∨ m.aborting ∨ m.ferr ∨ !s.meEn ax ∨ !s.claimed ax ∨ s.axisHalted ax ∨ !s.granted ax ∨ s.sstill ax then
    ((s.stepResync ax).onMot ax fun m => { m with engaged := m.engaged && m.ferr && m.active.isNone && m.vel ≠ 0 })
  else
    let num : Int := s.fld (R.ME_GEAR ax) 31 16
    let den : Int := max 1 (s.fld (R.ME_GEAR ax) 15 0)
    let filt := s.fld (R.ME_FOLLOW ax) 26 24
    let t := m.stepBase + m.stepCnt * num / den
    let hist := (t :: m.stepHist).take 128
    let cmd := filtered m.stepBase hist filt
    let cmd := match s.limits ax with
      | some (lo, hi) => clampI (lo * 4294967296) (hi * 4294967296) cmd
      | none => cmd
    let err := cmd - m.pos
    let s := s.onMot ax fun m => { m with vlim := (s.get (R.ME_VLIM ax)).toNat, stepHist := hist, prm := {} }
    let cap := s.ceiling ax 2199023255552 (sgn err)
    let cap := match s.limits ax with
      | some (lo, hi) => min cap (stopVel (s.hdec ax) (if 0 < err then hi * 4294967296 - m.pos else m.pos - lo * 4294967296))
      | none => cap
    let v := clampMag cap (err * 2621440000)
    let short := err - v / 2621440000
    let lim := s.fld (R.ME_FOLLOW ax) 23 0
    if lim ≠ 0 ∧ lim * 4294967296 < short.natAbs then
      ((s.onMot ax fun m => { m with ferr := true, engaged := m.vel ≠ 0 }).brake ax).onMot ax fun m => { m with aborting := m.vel ≠ 0 }
    else if err = 0 then
      s.onMot ax fun m => { m with vel := 0, acc := 0, rvel := 0, prof := {}, tgt := t, engaged := decide (t ≠ m.rpos) }
    else if m.level = .rest then s.onMot ax fun m => { m with level := .run, starting := true, engaged := true, vel := 0, acc := 0, rvel := 0, prof := {}, tgt := t }
    else
      s.onMot ax fun m => { m with
        vel := v, acc := 0, rvel := v / 4294967296, engaged := true, tgt := t
        prof := { segs := [{ dur := 327680000, acc := 0, jerk := 0, vEnd := 0 }] } }

/-! ### The update of one axis (R10, R171) -/

/-- A natural end at this tick, before the rows of R171 are judged. -/
inductive NatEnd where
  | none | done | limit | homeDist
  deriving DecidableEq, Repr

/-- What the end of the plan means for the motion under way. The context's home distance is judged here too (R170). -/
def State.naturalEnd (s : State) (ax : Axis) : NatEnd :=
  let m := s.me ax
  if !(m.active.isSome || m.engaged) || s.insrc ax = 1 && m.active.isNone then .none
  else if m.starting then .none
  else if m.prof.segs ≠ [] then
    (if m.prm.mode = 2 && m.obs = .none && !m.homeHit && !m.limHit && m.prm.homedist ≠ 0 && m.prm.homedist ≤ (m.rpos - m.startPos).natAbs then .homeDist
     else .none)
  else if m.limHit then .limit
  else if m.obs ≠ .none then .none
  else if m.homeHit then .done
  else match m.prm.mode with
    | 0 => .done
    | 1 => if m.prm.vmax = 0 ∨ ((s.successor ax).isSome ∧ m.active.isSome) then .done else .none
    | _ => if m.prm.homedist ≠ 0 && m.prm.homedist ≤ (m.rpos - m.startPos).natAbs then .homeDist else .none

/-- The context or the input context ends DONE (R161, R170, R180). -/
def State.finish (s : State) (ax : Axis) : State :=
  let m := s.me ax
  let s := if m.homeHit then s.onMot ax fun m => { m with homed := true, posunk := false } else s
  if m.active.isSome then s.endActive ax true 0
  else if m.autoHome then
    let s := (s.incFld (R.ME_EVCNT ax) 7 0).dueEv ax
    s.disengage ax .relevel
  else
    let s := if m.goal = some (s.wide (R.ME_CLOSED ax)) && sgn (m.rpos - m.startPos) = s.closeSign ax then s.doorCycle ax else s
    s.disengage ax .free

/-- The axis decelerates at ME_HDEC with no context (R164, R171). -/
def State.brakeOff (s : State) (ax : Axis) : State := (s.brake ax).onMot ax fun m => { m with aborting := m.vel ≠ 0 }

/-- Rows 6 to 8 of R171, and what the obstacle phases and home searches do at a tick. `rise`: a stall has been detected. The flag says that
one of the rows acted. -/
def State.lowRows (s : State) (ax : Axis) (rise : Bool) (nat : NatEnd) : State × Bool :=
  let m := s.me ax
  let inHold := m.obs = .hold || m.obs = .rcwait
  if m.evAbort && m.active.isSome then ((s.endActive ax false 1).brakeOff ax, true)
  else if inHold && m.abortReq then ((s.cutMotion ax 6 .newGoal).brakeOff ax, false)
  else if inHold && m.contReq then (s.resumeMotion ax false, false)
  else if !(m.active.isSome || m.engaged) then (s, false)
  else if m.prm.mode = 2 ∧ m.obs = .none ∧ !m.homeHit ∧ s.homeSeen ax then (s.homeFound ax, false)
  else
    let stall := rise && m.prm.mode ≠ 2
    let stallStops := stall && (m.prm.stallact = 0 || m.prm.stallact = 3 || (m.prm.stallact = 1 && !m.closing))
    let stallObst := stall && m.prm.stallact = 1 && m.closing && m.obs = .none
    if stallStops then ((s.cutMotion ax 7 .free).brakeOff ax, true)
    else if stallObst then (s.obstacle ax, true)
    else
      let (s, hit) := s.forceCheck ax
      if hit then (s.obstacle ax, true)
      else if nat = .homeDist then ((s.cutMotion ax 15 .free).brakeOff ax, false)
      else if nat = .limit then (s.cutMotion ax 8 .free, true)
      else if (m.obs = .decel || m.obs = .reverse) && m.prof.segs = [] then (s.afterRest ax, false)
      else if m.obs = .rcwait && m.rcLeft = 0 then (s.resumeMotion ax true, false)
      else (s, false)

/-- Rows 2 to 8 of R171 in their order; rows 1 to 5 override an end at this tick, and an end overrides the rows below. The flag says that a
row acted, and row 9 then waits. HALT, like HALT-ALL (R124), is sampled at the tick (DESIGN CHOICE, log entry 98). -/
def State.rowsActed (s : State) (ax : Axis) (rise : Bool) (nat : NatEnd) : State × Bool :=
  let m := s.me ax
  let halted := s.axisHalted ax
  let ue := match m.active with
    | some c => s.ctxUe c
    | none => none
  let s := s.onMot ax fun m => { m with wasHalt := halted }
  let (t, acted) :=
    if m.evGate then
      ((s.cutMotion ax 12 .newGoal).onMot ax fun m => { m with
        vel := 0, acc := 0, rvel := 0, prof := {}, aborting := false, starting := false, posunk := true, gate := .newGoal }, true)
    else if m.evUe || ue.isSome then
      let s := match ue with
        | some w => s.onMot ax fun m => { m with due := m.due ++ [(18, wordOfNat w)] }
        | none => s
      ((s.cutMotion ax 11 .free).brakeOff ax, true)
    else if halted && !m.wasHalt then
      (((s.cutMotion ax (if s.haltAll then 3 else 2) .relevel).brakeOff ax).onMot ax fun m => { m with
        gate := if m.gate = .free then .relevel else m.gate }, true)
    else if m.evWin then (((s.cutMotion ax 13 .relevel).brakeOff ax).onMot ax fun m => { m with restNow := true }, true)
    else if nat = .done then (s.finish ax, false)
    else s.lowRows ax rise nat
  (t.onMot ax fun m => { m with
    evGate := false, evUe := false, evWin := false, evAbort := false, contReq := false, abortReq := false, zEdge := false }, acted)

/-- Rows 2 to 8 of R171: the state they leave. -/
def State.rows (s : State) (ax : Axis) (rise : Bool) (nat : NatEnd) : State := (s.rowsActed ax rise nat).1

/-- The current level at the end of the update (R173, R181). `cyc`: SYS cycles of the interval. -/
def State.settleLevel (s : State) (ax : Axis) (cyc : Nat) : State :=
  let m := s.me ax
  let moving := m.vel ≠ 0 || m.acc ≠ 0
  let restCyc := if moving || m.starting then 0 else m.restCyc + cyc
  let due := s.fld (R.ME_REST ax) 15 0 * 200000 ≤ restCyc
  let pre := match m.queue with
    | c :: _ => fldOf (s.ctxW c 0) 5 4 = 1 && dueTick (s.tstart c) ≤ s.sys.time + 50000 && s.mayStart ax (bitOf (s.ctxW c 0) 7)
    | [] => false
  let level : Level :=
    if !s.meEn ax || (s.insrc ax = 1 && !s.ball ax 2) then .off
    else if moving || m.starting || pre then .run
    else if due || m.restNow || m.obs = .hold || m.obs = .rcwait || m.level = .rest then .rest
    else .run
  s.onMot ax fun m => { m with restCyc := restCyc, level := level, restNow := m.restNow && moving }

/-- ECLAMP: the velocity is held at the energy ceiling, or is decelerating towards it (R175). -/
def State.settleClamp (s : State) (ax : Axis) : State :=
  let m := s.me ax
  let vE : Int := (s.energyFor ax (sgn m.vel) : Int) * 281474976710656
  let on := (m.active.isSome || m.engaged) && m.vel ≠ 0 && !m.homeHit && vE < s.plainCeiling ax (if m.engaged && m.active.isNone && s.insrc ax = 1 then 2199023255552 else m.prm.vmax)
    && vE ≤ m.vel.natAbs
  s.onMot ax fun m => { m with eclamp := on }

/-- The leading pieces of a profile in which the magnitude falls, from velocity `v`. -/
def falling : Int → List Seg → List Seg
  | _, [] => []
  | v, g :: t => if g.vEnd.natAbs < v.natAbs ∧ 0 ≤ sgn v * sgn g.vEnd then g :: falling g.vEnd t else []

/-- The magnitude rises in some piece of a profile, from velocity `v`. -/
def rises : Int → List Seg → Bool
  | _, [] => false
  | v, g :: t => v.natAbs < g.vEnd.natAbs || sgn v * sgn g.vEnd < 0 || rises g.vEnd t

/-- The motion under way is planned again from where its present deceleration ends, which proceeds unchanged (R68). -/
def State.replanTail (s : State) (ax : Axis) : State :=
  let m := s.me ax
  let head := falling m.vel m.prof.segs
  let pt : Pva := if head = [] then { m.point with acc := 0 } else (advanceSegs head (durOf head) m.point).1
  let s' := s.onMot ax fun m => { m with rtHeld := m.rtHeld.map fun h => min h pt.vel.natAbs }
  let pr := s'.planMove ax { pt with acc := 0 } (if m.passSet then m.prof.vEnd.natAbs else 0)
  s.onMot ax fun m => { m with acc := if head = [] then 0 else m.acc, prof := { pr with segs := head ++ pr.segs } }

/-- Ride-through begins or ends for the axis's profile (R68). When it begins, a profile in which the magnitude still rises is planned again
under the held velocity; when it ends, every profile but a deceleration in progress is planned again without it. -/
def State.settleRide (s : State) (ax : Axis) : State :=
  let m := s.me ax
  let again (s : State) (all : Bool) : State :=
    let m := s.me ax
    if (m.active.isSome || m.engaged && s.insrc ax = 2) && !m.homeHit && !m.limHit && (m.obs = .none || m.obs = .reverse)
        && (if all then (m.obs = .none && m.prm.mode ≠ 0) || falling m.vel m.prof.segs ≠ m.prof.segs else rises m.vel m.prof.segs) then
      s.replanTail ax
    else s
  if s.rideThrough && m.rtHeld.isNone then again (s.onMot ax fun m => { m with rtHeld := some m.vel.natAbs }) false
  else if !s.rideThrough && m.rtHeld.isSome then again (s.onMot ax fun m => { m with rtHeld := none }) true
  else if s.rideThrough then s.onMot ax fun m => { m with rtHeld := some (min (m.rtHeld.getD 0) m.vel.natAbs) } else s

/-- The sources due are raised together; the detail of ME_EVn is ME_EVCNT (R333). -/
def State.flushDue (s : State) (ax : Axis) : State :=
  let due := (s.me ax).due.map fun e => if e.1 = 40 + ax.val then (e.1, s.get (R.ME_EVCNT ax)) else e
  (s.onMot ax fun m => { m with due := [] }).raises due

/-- The tick record of the axis (R157, R436). -/
def State.writeRecord (s : State) (ax : Axis) : State :=
  let eofs : Int := s.fld (R.ME_EOFS ax) 11 0
  let now := s.sys.time
  s.onMot ax fun m => { m with record :=
    { angle := (m.pos / 65536 + eofs * 65536) % 268435456, vel := m.vel / 4294967296, acc := m.acc / 4294967296, level := m.level
      mode := s.fld (R.CR_CFG ax) 26 24, time := now } }

/-- The update of one axis at a tick (R10, step 2), over an interval of `cyc` SYS cycles. An input goal is served before the queue's head, so
a PREEMPT head at the same tick waits (DESIGN CHOICE, log entry 99); both wait when a higher row of R171 acted (log entry 100). -/
def State.tickAxis (s : State) (ax : Axis) (cyc : Nat) : State :=
  if s.sys.chipReset then s else
  let stall := s.bit (R.LO_STAT ax) 5
  let s := (s.set (R.ME_FORCE ax) (s.get (R.LO_FORCE ax))).noteDue ax
  if !s.meEn ax ∨ (s.me ax).evEn then
    let s := s.rowDisable ax
    let s := s.onMot ax fun m => { m with wasHalt := s.axisHalted ax, stallPrev := stall, travel := 0, goal := if s.meEn ax ∧ s.insrc ax ≠ 2 then none else m.goal }
    (((s.stepResync ax).settleLevel ax cyc).writeRecord ax).flushDue ax
  else
    let old := (s.me ax).pos
    let rise := stall && !(s.me ax).stallPrev
    let s := s.settleRide ax
    let (s, ended) := s.integrate ax (cyc * 65536)
    let s := s.onMot ax fun m => { m with travel := m.pos - old }
    let s := s.reportAxis ax old
    let s := s.onMot ax fun m => { m with aborting := m.aborting && m.vel ≠ 0, rcLeft := m.rcLeft - cyc, stallPrev := stall }
    let s := s.trackClosing ax
    let s := if rise then (s.incFld (R.ME_EVCNT ax) 31 24).dueEv ax else s
    let nat := s.naturalEnd ax
    let (s, acted) := s.rowsActed ax rise nat
    let s := if s.lnk.hold.getLsbD ax && (s.me ax).active.isNone && !(s.me ax).engaged then
        { s.setBit (R.ME_CTL ax) 0 true with lnk := { s.lnk with hold := bvPut s.lnk.hold ax false } }
      else s
    let cross := match ended with
      | some e => if nat = .done ∧ e.at_.vel ≠ 0 then some e else none
      | none => none
    let s :=
      if s.insrc ax ≠ 2 then s.onMot ax fun m => { m with goal := none, bothIn := false, closePrev := s.ball ax 1 }
      else if !acted && s.claimed ax && !s.axisHalted ax && s.granted ax && !s.sstill ax then s.doorInput ax
      else s.absorbInput ax
    let s := if acted then s else s.activate ax cross ((s.me ax).queue.length + 1)
    let s := if s.insrc ax = 1 then s.follow ax else s.stepResync ax
    let m := s.me ax
    let s := if m.active.isNone && !m.engaged && !m.aborting && m.vel ≠ 0 then s.brakeOff ax else s
    ((((s.decidePass ax).settleLevel ax cyc).settleClamp ax).writeRecord ax).flushDue ax

/-- A motion tick (R9, R10): TIM_TICK counts, the next multiple falls due, and AX0 to AX7 are updated in order. -/
def State.engineTick (s : State) : State :=
  let cyc := s.sys.sinceTick
  let s := s.set R.TIM_TICK (s.get R.TIM_TICK + 1#32)
  let s := { s with sys := { s.sys with ticked := true, sinceTick := 0, tickDue := (s.sys.time / 25000 + 1) * 25000 } }
  let s := forAll 8 s fun s ax => s.tickAxis ax cyc
  { s with sys := { s.sys with lastTick := s.sys.time } }

/-! ### Registers of page 0x10 + n -/

/-- ME_STAT. -/
def State.meStat (s : State) (ax : Axis) : Word :=
  let m := s.me ax
  let at_ := match s.limits ax with
    | some (lo, hi) => m.rpos = lo || m.rpos = hi
    | none => false
  let bits (i : Nat) : Bool := match i with
    | 0 => m.vel ≠ 0 || m.acc ≠ 0
    | 1 => m.active.isSome
    | 2 => s.axisHalted ax
    | 3 => s.haltAll
    | 4 => m.obs = .hold
    | 5 => m.obs = .rcwait
    | 6 => m.stallPrev
    | 7 => s.rideThrough
    | 8 => m.homed
    | 9 => m.posunk
    | 10 => at_
    | 11 => m.engaged
    | 12 => m.ferr
    | 13 => s.get (R.ME_MASS ax) = 0#32 || s.get (R.ME_KPM ax) = 0#32
    | 14 => m.eclamp
    | 15 => m.level = .rest
    | 16 => m.level = .off
    | 17 => s.sstill ax
    | 18 => !s.granted ax
    | _ => false
  wordOfNat (packBits 19 bits + (match m.active with | some c => c.val * 16777216 | none => 0))

/-- ME_Q. -/
def State.meQ (s : State) (ax : Axis) : Word :=
  let q := (s.me ax).queue
  match q.head?, q.getLast? with
  | some h, some t => wordOfNat (t.val * 16777216 + h.val * 65536 + q.length)
  | _, _ => 0#32

/-- Word i (0 HI, 1 LO, 2 HI2) of a 48-bit value in R99's layout. -/
def wideWord (x : Int) (i : Nat) : Word := if i = 1 then loWord x else hiWord x

/-- A write of ME_CTL (R173, R178, R181). -/
def State.meCtlWrite (s : State) (ax : Axis) (w : Word) : State :=
  let s := s.set (R.ME_CTL ax) (w &&& 1#32)
  s.onMot ax fun m => { m with
    contReq := m.contReq || bitOf w 2, abortReq := m.abortReq || bitOf w 3, ferr := m.ferr && !bitOf w 4 }

/-- A write of ME_POS takes effect only at rest with no context ACTIVE (R436). -/
def State.mePosWrite (s : State) (m : Master) (ax : Axis) (hi lo : Word) : State :=
  let a := s.me ax
  if a.vel ≠ 0 ∨ a.acc ≠ 0 ∨ a.active.isSome then s.writeIgnored m (R.ME_POS ax)
  else
    let x := sextN 48 (lowBits 48 (ofHiLo hi lo))
    ((s.movePos ax x).onMot ax fun a => { a with homed := false, posunk := false }).stepResync ax

/-- ME_CFG.EN is cleared (R103, R171, row 1): it acts at the next tick on the contexts of this moment. -/
def State.meDisable (s : State) (ax : Axis) : State :=
  if !s.meEn ax then s else
  (s.setBit (R.ME_CFG ax) 31 false).onMot ax fun m => { m with evEn := true, evEnQ := m.evEnQ ++ m.queue ++ m.active.toList }

/-! ### Balls and events (R45, R165, R181, R194) -/

/-- The head of the axis's queue awaits an event with this EVSRC and polarity: it is latched (R165). -/
def State.latchEvent (s : State) (ax : Axis) (src : Nat) (level : Bool) : State :=
  match (s.me ax).queue with
  | c :: _ =>
    let w0 := s.ctxW c 0
    if fldOf w0 5 4 = 2 ∧ fldOf w0 24 20 = src ∧ (20 ≤ src ∨ level ≠ bitOf w0 25) then s.onMot ax fun m => { m with startEv := true } else s
  | [] => s

/-- ENA falls (R181): the level goes OFF and FERR clears. -/
def State.enaFall (s : State) (ax : Axis) : State :=
  let s := { s with sys := { s.sys with axio := bvPut s.sys.axio (4 * ax + 2) false } }
  if s.insrc ax = 1 then s.onMot ax fun m => { m with level := .off, ferr := false } else s

/-- An event reaches the motion engine: an AXIO ball changes level, a comparator has an edge event, or a tack arrives (R165). An
unresolved comparator has none. -/
def State.motionEvent (s : State) (e : MotionEvent) : State :=
  match e with
  | .axio ball level =>
    let ax : Axis := ⟨ball.val / 4, by have := ball.isLt; omega⟩
    let was := s.sys.axio.getLsbD ball.val
    if was = level then s else
    let s := { s with sys := { s.sys with axio := bvPut s.sys.axio ball.val level } }
    let s := if ball.val % 4 = 2 ∧ !level then s.enaFall ax else s
    s.latchEvent ax (16 + ball.val % 4) level
  | .comparator c level => if s.bit R.CMP_OUT (16 + c) then s else forAll 8 s fun s ax => s.latchEvent ax c level
  | .tack ax br => s.latchEvent ax (match br with | .a => 20 | .b => 21) true

/-- A rising STEP edge (R181): it counts while the axis is enabled, ENA is 1, and neither a following error nor a halt stops it. -/
def State.stepEdge (s : State) (ax : Axis) : State :=
  if s.insrc ax = 1 ∧ s.meEn ax ∧ s.ball ax 2 ∧ !(s.me ax).ferr ∧ !s.axisHalted ax then
    s.onMot ax fun m => { m with stepCnt := m.stepCnt + if s.ball ax 1 then 1 else -1 }
  else s

/-! ### The commands -/

/-- TIMED_START (R165): the head starts, starts LATE, or ends with reason 9. -/
def State.timedStart (s : State) (ax : Axis) : State :=
  match (s.me ax).queue with
  | c :: _ => if fldOf (s.ctxW c 0) 5 4 = 1 then (s.activate ax none 1).flushDue ax else s
  | [] => s

/-- TIMED_START (R165). -/
def execTimedStart (ax : Axis) (s : State) : Host.Outcome State Fault Refusal := .next (s.quiet.timedStart ax)

/-- REST_DELAY_EXPIRY (R173): the level becomes REST while MOVING is 0. -/
def execRestDelayExpiry (ax : Axis) (s : State) : Host.Outcome State Fault Refusal :=
  let m := s.me ax
  .next (if m.vel = 0 ∧ m.acc = 0 ∧ !m.starting ∧ m.level = .run then
      s.quiet.onMot ax fun m => { m with level := .rest, restCyc := max m.restCyc (s.fld (R.ME_REST ax) 15 0 * 200000) }
    else s.quiet)

/-- RECLOSE_DELAY_EXPIRY (R177): one retry is used and the context's motion resumes. -/
def execRecloseDelayExpiry (ax : Axis) (s : State) : Host.Outcome State Fault Refusal :=
  .next (if (s.me ax).obs = .rcwait then (s.quiet.onMot ax fun m => { m with rcLeft := 0 }).resumeMotion ax true else s.quiet)

/-- MOTION_EVENT (R165). -/
def execMotionEvent (e : MotionEvent) (s : State) : Host.Outcome State Fault Refusal := .next (s.quiet.motionEvent e)

/-- STEP_EDGE (R181). -/
def execStepEdge (ax : Axis) (s : State) : Host.Outcome State Fault Refusal := .next (s.quiet.stepEdge ax)

/-- ENA_FALL (R181). -/
def execEnaFall (ax : Axis) (s : State) : Host.Outcome State Fault Refusal := .next (s.quiet.enaFall ax)

/-- ME_CTL_HALT (R173): a write of ME_CTL with HALT. -/
def execMeCtlHalt (m : Master) (ax : Axis) (halt : Bool) (s : State) : Host.Outcome State Fault Refusal :=
  .next (s.access m (R.ME_CTL ax) fun s => s.meCtlWrite ax (putBit (s.get (R.ME_CTL ax)) 0 halt))

/-- OBSCONT (R178). -/
def execObscont (m : Master) (ax : Axis) (s : State) : Host.Outcome State Fault Refusal :=
  .next (s.access m (R.ME_CTL ax) fun s => s.meCtlWrite ax (putBit (s.get (R.ME_CTL ax)) 2 true))

/-- OBSABORT (R178). -/
def execObsabort (m : Master) (ax : Axis) (s : State) : Host.Outcome State Fault Refusal :=
  .next (s.access m (R.ME_CTL ax) fun s => s.meCtlWrite ax (putBit (s.get (R.ME_CTL ax)) 3 true))

/-- FERRCLR (R181). -/
def execFerrclr (m : Master) (ax : Axis) (s : State) : Host.Outcome State Fault Refusal :=
  .next (s.access m (R.ME_CTL ax) fun s => s.meCtlWrite ax (putBit (s.get (R.ME_CTL ax)) 4 true))

/-- ME_POS_WRITE (R101, R436): LO staged, HI applies both. -/
def execMePosWrite (m : Master) (ax : Axis) (hi lo : Word) (s : State) : Host.Outcome State Fault Refusal :=
  .next (s.access m (R.ME_POS ax) fun s => (s.unstage (R.ME_POS ax)).mePosWrite m ax hi lo)

/-- ME_DISABLE (R103, R171). -/
def execMeDisable (m : Master) (ax : Axis) (s : State) : Host.Outcome State Fault Refusal :=
  .next (s.access m (R.ME_CFG ax) fun s => (s.meDisable ax).mend (R.ME_CFG ax))

end Sys2Proof.Machine
end

