-- ==== Sys2Proof/Machine/Pwm.lean ====
section
/-! DEFINITION. Bridge PWM (spec/10): periods, commutations and their masks, trips, latch-off, shadows and tack compares. -/

namespace Sys2Proof.Machine

/-! ### Names for fields -/

/-- 0 for bridge A, 1 for bridge B. -/
def brIx : Bridge → Nat
  | .a => 0
  | .b => 1

/-- CR_CFG.BMODE: 0 CENTRE, 1 COFF, 2 CON; 3 acts as 0. -/
def State.bmode (s : State) (ax : Axis) : Nat := if s.fld (R.CR_CFG ax) 21 20 = 3 then 0 else s.fld (R.CR_CFG ax) 21 20

/-- PWM_CFG.EN. -/
def State.pwmEn (s : State) (ax : Axis) : Bool := s.bit (R.PWM_CFG ax) 31

/-- CR_CFG.EN. -/
def State.crEn (s : State) (ax : Axis) : Bool := s.bit (R.CR_CFG ax) 31

/-- PWM_STAT.LATA or LATB. -/
def State.latchedOff (s : State) (ax : Axis) (br : Bridge) : Bool := s.bit (R.PWM_STAT ax) (brIx br)

/-- The bridge's dead time, coarse units (R241). -/
def State.deadTime (s : State) (ax : Axis) (br : Bridge) : Nat :=
  max 4 (min 256 (match br with
    | .a => s.fld (R.PWM_DT ax) 24 16
    | .b => s.fld (R.PWM_DT ax) 8 0))

/-- PWM_SPER.PER as it acts (R243). -/
def State.sper (s : State) (ax : Axis) : Nat := max 1600 (min 16000 (s.fld (R.PWM_SPER ax) 13 0))

/-- PWM_PER.PER. -/
def State.per (s : State) (ax : Axis) : Nat := s.fld (R.PWM_PER ax) 13 0

/-- PWM_DUTYA or PWM_DUTYB. -/
def dutyReg (ax : Axis) : Bridge → Nat
  | .a => R.PWM_DUTYA ax
  | .b => R.PWM_DUTYB ax

/-- PWM_TACKA0 to PWM_TACKB3. -/
def tackReg (ax : Axis) (br : Bridge) (k : Nat) : Nat := R.PWM_TACKA ax (4 * brIx br + k)

/-- The coil's demand as the bridge sees it: CR_CFG.POLA and POLB invert the drive (R188, log entry 40). -/
def State.bridgeDemand (s : State) (ax : Axis) (br : Bridge) : Int :=
  let d := match br with
    | .a => (vget s.coil ax).demA
    | .b => (vget s.coil ax).demB
  if s.bit (R.CR_CFG ax) (brIx br) then -d else d

/-- The bridge takes commands: enabled and clocked, not latched off or waiting for its boundary, its adopted level not OFF (R188, R249,
R250, R251). -/
def State.bridgeRuns (s : State) (ax : Axis) (br : Bridge) : Bool :=
  s.pwmEn ax && !s.modStopped && !(s.br ax br).held && !s.latchedOff ax br && (s.br ax br).adopted.level ≠ .off

/-! ### Edges (R235, R236, R240) -/

/-- Trips of the coil are masked or the mask ends. -/
def State.setMask (s : State) (ax : Axis) (br : Bridge) (on : Bool) : State := s.setBit (R.PWM_STAT ax) (8 + brIx br) on

/-- A leg is commanded to its high or its low side; a change of the command is a commutation and masks the coil's trips (R240). -/
def State.edge (s : State) (ax : Axis) (br : Bridge) (j : Leg) (hi : Bool) : State :=
  if (if hi then (s.leg ax j).hiCmd else (s.leg ax j).loCmd) then s
  else (s.setMask ax br true).legCommand ax j (some hi)

/-- Both legs of a bridge are commanded. -/
def State.bridgeTo (s : State) (ax : Axis) (br : Bridge) (left right : Bool) : State :=
  (s.edge ax br (legsOf br).1 left).edge ax br (legsOf br).2 right

/-- A high side that its bootstrap held off and that is still commanded on turns on (R263). -/
def State.resumeHigh (s : State) (ax : Axis) (j : Leg) : State :=
  if (s.leg ax j).bstHeld && (s.leg ax j).hiCmd && !s.bit (R.GD_STAT ax) j then s.legCommand ax j (some true) else s

/-- PWM_CHOP's TOFF or TON in coarse units: codes 1 to 128 of 0.5 µs (R237, R238). -/
def chopTime (code : Nat) : Nat := 80 * max 1 (min 128 code)

/-- A pulse of this many coarse units is omitted (R236). -/
def State.omits (s : State) (ax : Axis) (br : Bridge) (n : Nat) : Bool := n ≤ s.deadTime ax br + 1

/-- In CENTRE the legs of the bridge commute: neither interval is one that R236 omits. -/
def State.commutes (s : State) (ax : Axis) (br : Bridge) : Bool :=
  let on := s.fld (dutyReg ax br) 17 0
  let least := (s.deadTime ax br + 1) * 16
  least < on && least < 16 * s.per ax - on

/-- The command of R235 at a CENTRE boundary: diagonal B, or diagonal A where R236 omits its pulses. -/
def State.centreStart (s : State) (ax : Axis) (br : Bridge) : State :=
  let high := !s.commutes ax br && 8 * s.per ax < s.fld (dutyReg ax br) 17 0
  s.bridgeTo ax br high (!high)

/-! ### Shadows (R243, R244) -/

/-- ON × PERnew / PERtag to the nearest fine unit; which way a tie goes is open. -/
def State.onScaled (s : State) (o : OnTime) (per : Nat) : Nat × State :=
  let n := o.on * per
  if 2 * (n % o.tag) = o.tag then
    let (up, s) := s.drawBit
    (n / o.tag + b2n up, s)
  else ((2 * n + o.tag) / (2 * o.tag), s)

/-- The active on-time of a bridge after R244. -/
def State.showDuty (s : State) (ax : Axis) (br : Bridge) : State :=
  let o := (s.br ax br).act
  let per := s.per ax
  let (on, s) :=
    if o.tag = per then (o.on, s)
    else if s.bit (R.PWM_CFG ax) 30 then s.onScaled o per
    else (min o.on (16 * per), s)
  s.set (dutyReg ax br) (wordOfNat on)

/-- While CR_CFG.EN is 0 the on-times are 0 (R252). -/
def State.zeroDuty (s : State) (ax : Axis) (br : Bridge) : State :=
  if s.crEn ax then s else (s.onBr ax br fun b => { b with act := { on := 0, tag := s.per ax } }).set (dutyReg ax br) 0#32

/-- In CENTRE, with its regulators enabled, the axis's TACK0 of each bridge is held (R247). -/
def State.tackHeld (s : State) (ax : Axis) : Bool := s.crEn ax && s.bmode ax = 0

/-- A held TACK0 reads EN, TGT 0 and 8 × PER + 3,072 (R202, R247). -/
def State.holdTacks (s : State) (ax : Axis) : State :=
  if s.tackHeld ax then
    let w := wordOfNat (2147483648 + 8 * s.per ax + 3072)
    (s.set (tackReg ax .a 0) w).set (tackReg ax .b 0) w
  else s

/-- The shadows written since the last transfer become active. -/
def State.transfer (s : State) (ax : Axis) : State :=
  let s := if (vget s.pwm ax).sperNew then s.set (R.PWM_PER ax) (wordOfNat (s.sper ax)) else s
  let take (b : Bridges) : Bridges := { b with act := b.shadow.getD b.act, shadow := none }
  let s := s.onPwm ax fun p => { p with a := take p.a, b := take p.b, sperNew := false }
  let s := (s.zeroDuty ax .a).zeroDuty ax .b
  let split := (s.br ax .a).act.tag ≠ s.per ax || (s.br ax .b).act.tag ≠ s.per ax
  let s := s.setBit (R.PWM_STAT ax) 12 split
  let s := if split then s.incFld (R.PWM_TRIP ax) 15 8 else s
  ((s.showDuty ax .a).showDuty ax .b).holdTacks ax

/-- A regulator writes an on-time for the shadow period (R243). -/
def State.writeOn (s : State) (ax : Axis) (br : Bridge) (on : Nat) : State :=
  let tag := s.sper ax
  (s.onBr ax br fun b => { b with shadow := some { on, tag } }).setBit (R.PWM_STAT ax) 13 true

/-! ### The record of R249 -/

/-- W: 0 acts as 1. -/
def State.ilimW (s : State) (ax : Axis) : Nat := max 1 (s.fld (R.PWM_CFG ax) 15 8)

/-- N: 0 acts as 1, above W acts as W. -/
def State.ilimN (s : State) (ax : Axis) : Nat := min (s.ilimW ax) (max 1 (s.fld (R.PWM_CFG ax) 23 16))

/-- Counted trips of the last W periods, the present one included. -/
def State.winCount (s : State) (ax : Axis) (br : Bridge) : Nat :=
  let b := s.br ax br
  ((b.tripNow :: b.trips).take (s.ilimW ax)).countP id

/-- PWM_TRIP.WINA or WINB follows the record. -/
def State.showTrips (s : State) (ax : Axis) (br : Bridge) : State :=
  match br with
  | .a => s.setFld (R.PWM_TRIP ax) 31 24 (s.winCount ax .a)
  | .b => s.setFld (R.PWM_TRIP ax) 23 16 (s.winCount ax .b)

/-- PWM_LATn follows PWM_STAT.LATA and LATB. -/
def State.settleLat (s : State) (ax : Axis) : State :=
  s.level (56 + ax) (s.fld (R.PWM_STAT ax) 1 0 ≠ 0) (s.get (R.PWM_STAT ax))

/-- The bridge latches off (R249). -/
def State.latchOff (s : State) (ax : Axis) (br : Bridge) : State :=
  let s := ((s.disarm ax (legsOf br).1).disarm ax (legsOf br).2).bridgeOff ax br
  let s := (s.onBr ax br fun b => { b with phase := .idle }).setBit (R.PWM_STAT ax) (brIx br) true
  s.settleLat ax

/-- The latch of a bridge clears: its record is emptied, and it resumes at its next boundary (R250). -/
def State.unlatch (s : State) (ax : Axis) (br : Bridge) : State :=
  let s := (s.setBit (R.PWM_STAT ax) (brIx br) false).setBit (R.PWM_STAT ax) (2 + brIx br) false
  ((s.onBr ax br fun b => { b with trips := [], tripNow := false, held := true }).showTrips ax br).settleLat ax

/-- PWM_CTL.LCLRA or LCLRB (R250). -/
def State.latchClear (s : State) (ax : Axis) (br : Bridge) : State :=
  if !s.latchedOff ax br then s
  else if s.bit (R.PWM_STAT ax) (4 + brIx br) then s.setBit (R.PWM_STAT ax) (2 + brIx br) true
  else s.unlatch ax br

/-! ### Periods -/

/-- What every period start does: the record moves on, the latest tick record is adopted, committed shadows transfer in CENTRE, tacks take
their registers (R10, R11, R243, R245, R246, R249). -/
def State.newPeriod (s : State) (ax : Axis) (br : Bridge) : State :=
  let s := s.onBr ax br fun b => { b with
    trips := (b.tripNow :: b.trips).take 254, tripNow := false, adopted := (s.me ax).record, valley := false, minPer := false, phase := .idle, held := false }
  let s := s.showTrips ax br
  let s := if s.bmode ax = 0 ∧ s.bit (R.PWM_STAT ax) 13 then (s.transfer ax).setBit (R.PWM_STAT ax) 13 false else s
  let s := (s.zeroDuty ax br).holdTacks ax
  let u := (2 * (s.fld (dutyReg ax br) 17 0 : Int) - 16 * s.per ax) * 1073741824 / (16 * s.per ax)
  let now := s.sys.cyc
  let s := s.onBr ax br fun b => { b with hist := (if s.bmode ax = 0 then ((now, u) :: b.hist).take 8 else []) }
  s.onBr ax br fun b => { b with tacks := Vector.ofFn fun k => s.get (tackReg ax br k) }

/-- The bridge's gates are all held off at level OFF (R188). -/
def State.levelGate (s : State) (ax : Axis) (br : Bridge) : State :=
  if (s.br ax br).adopted.level = .off ∧ ((s.leg ax (legsOf br).1) ≠ {} ∨ (s.leg ax (legsOf br).2) ≠ {}) then
    ((s.disarm ax (legsOf br).1).disarm ax (legsOf br).2).bridgeOff ax br
  else s

/-- A period of a chopping mode starts with an on-phase on the diagonal of the demand's sign, or in slow decay at demand 0 (R237, R238,
R239). In CON an on-phase too short is omitted (R236). -/
def State.chopStart (s : State) (ax : Axis) (br : Bridge) : State :=
  let d := if s.crEn ax then s.bridgeDemand ax br else 0
  if d = 0 then s.bridgeTo ax br false false
  else
    let s := s.onBr ax br fun b => { b with phase := .on, diagA := decide (0 < d) }
    if s.bmode ax = 2 && s.omits ax br (chopTime (s.fld (R.PWM_CHOP ax) 15 8)) then s else s.bridgeTo ax br (0 < d) (d < 0)

/-- A period of a bridge starts. -/
def State.startPeriod (s : State) (ax : Axis) (br : Bridge) : State :=
  let s := (s.newPeriod ax br).levelGate ax br
  if !s.bridgeRuns ax br then s.onBr ax br fun b => { b with fresh := false } else
  let s := (s.resumeHigh ax (legsOf br).1).resumeHigh ax (legsOf br).2
  let fresh := (s.br ax br).fresh
  let s := s.onBr ax br fun b => { b with fresh := false }
  if s.bmode ax ≠ 0 then s.chopStart ax br
  else if fresh then s else s.centreStart ax br

/-- PERIOD_BOUNDARY: in COFF and CON the period of a bridge that is driving or decaying ends by events of its own. -/
def State.boundary (s : State) (ax : Axis) (br : Bridge) : State :=
  if s.pwmEn ax ∧ !s.modStopped ∧ (s.bmode ax = 0 ∨ (s.br ax br).phase = .idle) then s.startPeriod ax br else s

/-- An on-phase ends: the off-phase begins with its decay (R206, R237, R238). The fast part of a mixed decay that is too short is omitted
(R236). -/
def State.endOn (s : State) (ax : Axis) (br : Bridge) : State :=
  let fast := chopTime (s.fld (R.PWM_CHOP ax) 7 0) * s.fld (R.CR_CFG ax) 17 14 / 16
  let slow := s.bmode ax = 1 && (s.fld (R.CR_CFG ax) 19 18 = 0 || (s.fld (R.CR_CFG ax) 19 18 = 1 && s.omits ax br fast))
  let a := (s.br ax br).diagA
  let s := s.onBr ax br fun b => { b with phase := .off }
  if slow then s.bridgeTo ax br false false else s.bridgeTo ax br (!a) a

/-- The on-phase of a chopping mode is in progress. -/
def State.inOn (s : State) (ax : Axis) (br : Bridge) : Bool :=
  s.bridgeRuns ax br && s.bmode ax ≠ 0 && (s.br ax br).phase = .on

/-- The off-phase of a chopping mode is in progress. -/
def State.inOff (s : State) (ax : Axis) (br : Bridge) (mode : Nat) : Bool :=
  s.bridgeRuns ax br && s.bmode ax = mode && (s.br ax br).phase = .off

/-- An on-phase ends by a trip: MAXON reads 0 again (R237). -/
def State.tripOn (s : State) (ax : Axis) (br : Bridge) : State := (s.setBit (R.PWM_STAT ax) (10 + brIx br) false).endOn ax br

/-! ### Trips (R242, R248, R249) -/

/-- An ILIM trip ends the present pulse (R248). -/
def State.ilimPulse (s : State) (ax : Axis) (br : Bridge) : State :=
  if s.bmode ax = 0 then (if s.bridgeRuns ax br then s.bridgeTo ax br false false else s)
  else if s.inOn ax br then s.tripOn ax br else s

/-- An unmasked ILIM trip ends the pulse and is counted, once in its active interval and once in a period; the N-th latches the bridge off
(R242, R248, R249). No trip is counted while VG's undervoltage lockout holds the gates off or the PWM unit is halted (R251). -/
def State.ilimAct (s : State) (ax : Axis) (br : Bridge) : State :=
  if !s.pwmEn ax ∨ s.latchedOff ax br ∨ !s.vgOk ∨ s.modStopped then s
  else if (s.br ax br).counted then s.ilimPulse ax br else
  let again := (s.br ax br).tripNow
  let s := s.onBr ax br fun b => { b with counted := true, tripNow := true }
  let s := if again then s else (match br with
    | .a => s.incSat (R.PWM_TRIPTOT ax) 31 16
    | .b => s.incSat (R.PWM_TRIPTOT ax) 15 0).showTrips ax br
  let s := s.ilimPulse ax br
  if s.ilimN ax ≤ s.winCount ax br then s.latchOff ax br else s

/-- A REG trip found active outside the mask ends a COFF on-phase, or lets a CON off-phase end (R237, R238). -/
def State.regAct (s : State) (ax : Axis) (br : Bridge) : State :=
  if s.inOn ax br && s.bmode ax = 1 then s.tripOn ax br
  else if s.inOff ax br 2 then
    if (s.br ax br).minPer then s.startPeriod ax br else s.onBr ax br fun b => { b with valley := true }
  else s

/-- The coil's trips are masked. -/
def State.masked (s : State) (ax : Axis) (br : Bridge) : Bool := s.bit (R.PWM_STAT ax) (8 + brIx br)

/-- ILIM of a coil becomes active, a new active interval, or inactive (R242). -/
def State.ilimTrip (s : State) (ax : Axis) (br : Bridge) (active : Bool) : State :=
  let s := (s.setBit (R.PWM_STAT ax) (4 + brIx br) active).onBr ax br fun b => { b with counted := false }
  if s.masked ax br || !active then s else s.ilimAct ax br

/-- REG of a coil becomes active or inactive. -/
def State.regTrip (s : State) (ax : Axis) (br : Bridge) (active : Bool) : State :=
  let s := s.setBit (R.PWM_STAT ax) (6 + brIx br) active
  if s.masked ax br || !active then s else s.regAct ax br

/-- The mask ends, and the trip inputs found active are acted on: ILIM governs (R240, R242, R251). -/
def State.maskEnd (s : State) (ax : Axis) (br : Bridge) (reg ilim : Bool) : State :=
  let s := ((s.setMask ax br false).setBit (R.PWM_STAT ax) (6 + brIx br) reg).setBit (R.PWM_STAT ax) (4 + brIx br) ilim
  if ilim then s.ilimAct ax br
  else
    let s := s.onBr ax br fun b => { b with counted := false }
    if reg then s.regAct ax br else s

/-- A commanded turn-off at a placed position: a CENTRE edge of R235, or in COFF the end of the fast part of a mixed decay (R206). -/
def State.commutation (s : State) (ax : Axis) (j : Leg) (high : Bool) : State :=
  let br := bridgeOfLeg j
  if s.bmode ax = 0 then
    if s.bridgeRuns ax br && !(s.br ax br).tripNow && s.commutes ax br then s.edge ax br j (!high) else s
  else if s.inOff ax br 1 && s.fld (R.CR_CFG ax) 19 18 = 1 && high then s.edge ax br j false
  else s

/-! ### Enable and disable (R251, R252) -/

/-- PWM_CFG.EN is set: the shadows move at once; a precharge and diagnostics end (R262, R269). -/
def State.pwmEnable (s : State) (ax : Axis) : State :=
  if s.pwmEn ax then s else
  let s := { s with sys := { s.sys with bridged := true } }
  let s := (((s.endDiag ax).prechargeEnd ax).setBit (R.PWM_CFG ax) 31 true).transfer ax
  let start (br : Bridge) (b : Bridges) : Bridges :=
    { b with fresh := true, phase := .idle, tacks := Vector.ofFn fun k => s.get (tackReg ax br k) }
  s.onPwm ax fun p => { p with a := start .a p.a, b := start .b p.b }

/-- PWM_CFG.EN is cleared: all gates of both bridges turn off, tacks stop, shadows, COMMIT and latches are kept. -/
def State.pwmDisable (s : State) (ax : Axis) : State :=
  if !s.pwmEn ax then s else
  let s := (s.allLegs ax none).setBit (R.PWM_CFG ax) 31 false
  let s := (s.setFld (R.PWM_STAT ax) 9 8 0).settleGd ax
  let stop (b : Bridges) : Bridges := { b with phase := .idle, tacks := Vector.replicate 4 0#32 }
  s.onPwm ax fun p => { p with a := stop p.a, b := stop p.b }

/-- A write of PWM_CTL. -/
def State.pwmCtlWrite (s : State) (ax : Axis) (w : Word) : State :=
  let s := if bitOf w 0 then s.setBit (R.PWM_STAT ax) 13 true else s
  let s := if bitOf w 4 then s.latchClear ax .a else s
  if bitOf w 5 then s.latchClear ax .b else s

/-- PWM_TACK.PC as it acts: 5 to 7 act as 0 (R246). -/
def tackPc (w : Word) : Nat := if 4 < fldOf w 27 25 then 0 else fldOf w 27 25

/-- A tack compare of the present period sends its trigger: enabled, its position before the period's end in CENTRE, and no lower tack of
the bridge aims the same position at the same target (R246, R247). -/
def State.tackSends (s : State) (ax : Axis) (br : Bridge) (k : Fin 4) : Bool :=
  let t := (s.br ax br).tacks
  let w := vget t k
  let same (v : Word) : Bool := bitOf v 31 && fldOf v 18 0 = fldOf w 18 0 && fldOf v 30 28 = fldOf w 30 28
    && (fldOf w 30 28 ≠ 1 || tackPc v = tackPc w)
  s.pwmEn ax && !s.modStopped && bitOf w 31 && (s.bmode ax ≠ 0 || fldOf w 18 0 < 16 * s.per ax)
    && !(List.finRange 4).any fun j => j < k && same (vget t j)

/-! ### The commands -/

/-- PERIOD_BOUNDARY (R235, R243). -/
def execPeriodBoundary (ax : Axis) (br : Bridge) (s : State) : Host.Outcome State Fault Refusal := .next (s.quiet.boundary ax br)

/-- COMMUTATION (R240). -/
def execCommutation (ax : Axis) (leg : Leg) (high : Bool) (s : State) : Host.Outcome State Fault Refusal :=
  .next (s.quiet.commutation ax leg high)

/-- The interlock of a leg times out: no turn-on, and the mask ends; a trip input still active is acted on (R240, R242). -/
def State.interlockTimeout (s : State) (ax : Axis) (j : Leg) : State :=
  let br := bridgeOfLeg j
  if (s.leg ax j).waits then
    (s.stuck ax j).maskEnd ax br (s.bit (R.PWM_STAT ax) (6 + brIx br)) (s.bit (R.PWM_STAT ax) (4 + brIx br))
  else s

/-- INTERLOCK_TIMEOUT (R240, R257). -/
def execInterlockTimeout (ax : Axis) (leg : Leg) (s : State) : Host.Outcome State Fault Refusal := .next (s.quiet.interlockTimeout ax leg)

/-- MASK_END (R240, R242). -/
def execMaskEnd (ax : Axis) (br : Bridge) (reg ilim : Bool) (s : State) : Host.Outcome State Fault Refusal :=
  .next (s.quiet.maskEnd ax br reg ilim)

/-- REG_TRIP (R237, R238). -/
def execRegTrip (ax : Axis) (br : Bridge) (active : Bool) (s : State) : Host.Outcome State Fault Refusal := .next (s.quiet.regTrip ax br active)

/-- ILIM_TRIP (R248). -/
def execIlimTrip (ax : Axis) (br : Bridge) (active : Bool) (s : State) : Host.Outcome State Fault Refusal := .next (s.quiet.ilimTrip ax br active)

/-- MAX_ON_TIME (R237). -/
def execMaxOnTime (ax : Axis) (br : Bridge) (s : State) : Host.Outcome State Fault Refusal :=
  .next (if s.inOn ax br && s.bmode ax = 1 then (s.quiet.endOn ax br).setBit (R.PWM_STAT ax) (10 + brIx br) true else s.quiet)

/-- OFF_TIME_END (R237). -/
def execOffTimeEnd (ax : Axis) (br : Bridge) (s : State) : Host.Outcome State Fault Refusal :=
  .next (if s.inOff ax br 1 then s.quiet.startPeriod ax br else s.quiet)

/-- ON_TIME_END (R238). -/
def execOnTimeEnd (ax : Axis) (br : Bridge) (s : State) : Host.Outcome State Fault Refusal :=
  .next (if s.inOn ax br && s.bmode ax = 2 then s.quiet.endOn ax br else s.quiet)

/-- PERIOD_MAX_END (R238). -/
def execPeriodMaxEnd (ax : Axis) (br : Bridge) (s : State) : Host.Outcome State Fault Refusal :=
  .next (if s.inOff ax br 2 then s.quiet.startPeriod ax br else s.quiet)

/-- CON_MIN_PERIOD_END (R238). -/
def execConMinPeriodEnd (ax : Axis) (br : Bridge) (s : State) : Host.Outcome State Fault Refusal :=
  .next (if s.inOff ax br 2 && (s.br ax br).valley then s.quiet.startPeriod ax br
    else s.quiet.onBr ax br fun b => { b with minPer := true })

/-- COMMIT (R243). -/
def execCommit (m : Master) (ax : Axis) (s : State) : Host.Outcome State Fault Refusal :=
  .next (s.access m (R.PWM_CTL ax) fun s => s.pwmCtlWrite ax 1#32)

/-- LATCH_CLEAR (R250). -/
def execLatchClear (m : Master) (ax : Axis) (br : Bridge) (s : State) : Host.Outcome State Fault Refusal :=
  .next (s.access m (R.PWM_CTL ax) fun s => s.latchClear ax br)

/-- PENDING_CLEAR_APPLY (R250): ILIM of the coil is inactive. -/
def execPendingClearApply (ax : Axis) (br : Bridge) (s : State) : Host.Outcome State Fault Refusal :=
  let s := (s.quiet.setBit (R.PWM_STAT ax) (4 + brIx br) false).onBr ax br fun b => { b with counted := false }
  .next (if s.bit (R.PWM_STAT ax) (2 + brIx br) then s.unlatch ax br else s)

/-- PWM_ENABLE (R252). -/
def execPwmEnable (m : Master) (ax : Axis) (s : State) : Host.Outcome State Fault Refusal :=
  .next (s.access m (R.PWM_CFG ax) fun s => (s.pwmEnable ax).mend (R.PWM_CFG ax))

/-- PWM_DISABLE (R251). -/
def execPwmDisable (m : Master) (ax : Axis) (s : State) : Host.Outcome State Fault Refusal :=
  .next (s.access m (R.PWM_CFG ax) fun s => (s.pwmDisable ax).mend (R.PWM_CFG ax))

end Sys2Proof.Machine
end

