-- ==== Sys2Proof/Machine/Comparator.lean ====
section
/-! DEFINITION. Window comparators (spec/13): thresholds, resolution, routes and checks; and the tack compares' triggers (R246). -/

namespace Sys2Proof.Machine

/-- The comparator is on: ON and CMP_CFG.EN. -/
def State.cmpOn (s : State) (c : Cmp) : Bool := s.bit (R.CMP_CCFG c) 31 && s.bit R.CMP_CFG 31

/-- Hysteresis, µV (R295). -/
def hystUv (code : Nat) : Int :=
  if code = 0 then 0 else if code = 1 then 5000 else if code = 2 then 20000 else 50000

/-- Where an input lies against the hysteresis band of a configuration (R294, R295): some true above, some false below, none inside. -/
def bandSide (cfg : Word) (uV : Int) : Option Bool :=
  let vth : Int := 5000000 * fldOf cfg 9 0
  let h := 1024 * hystUv (fldOf cfg 25 24)
  if vth + h < 2048 * uV then some true else if 2048 * uV < vth - h then some false else none

/-- The voltage at the comparator: the ball's, or the tie-off level (R301). -/
def tiedUv (cfg : Word) (uV : Int) : Int :=
  match fldOf cfg 17 16 with
  | 0 => uV
  | 1 => 0
  | 2 => 1250000
  | _ => 2500000

/-- CMP_ALM and the sources CMP_Ww follow the outputs (R299). -/
def State.settleCmp (s : State) : State :=
  let alm := packBits 16 fun c => !s.bit R.CMP_OUT (16 + c) && (s.bit R.CMP_OUT c = s.alarmLevel ⟨c % 16, by omega⟩)
  let s := s.set R.CMP_ALM (wordOfNat alm)
  forAll 8 s fun s w =>
    let c : Cmp := ⟨2 * w.val, by omega⟩
    let c' : Cmp := ⟨2 * w.val + 1, by omega⟩
    s.level (104 + w) (s.routeAlarm c 1 || s.routeAlarm c' 1) (s.get R.CMP_ALM)

/-- OUT and UNRES of a comparator. -/
def State.cmpPut (s : State) (c : Cmp) (out unres : Bool) : State :=
  (s.setBit R.CMP_OUT c out).setBit R.CMP_OUT (16 + c) unres

/-- An edge event of a comparator reaches its capture and the motion engine (R298, R299). -/
def State.cmpEvent (s : State) (c : Cmp) (level : Bool) : State :=
  let s :=
    if s.bit (R.CMP_CCFG c) 20 then
      ((s.set (R.CMP_CAP c) (wordOfNat s.sys.time)).incFld (R.CMP_CAPST c) 31 24).setBit (R.CMP_CAPST c) 0 level
    else s
  forAll 8 s fun s ax => s.latchEvent ax c level

/-- A change from what was seen to the present output is an edge event: a change of a resolved output, or a resolution to the level
opposite PUS (R298). -/
def isEdge (pus : Bool) (was : Bool × Bool) (out unres : Bool) : Bool :=
  !unres && (if was.2 then out != pus else out != was.1)

/-- The output of an evaluated comparator follows its input (R295, R297). -/
def State.cmpFollow (s : State) (c : Cmp) (uV : Int) : State :=
  let cfg := s.get (R.CMP_CCFG c)
  match bandSide cfg (tiedUv cfg uV) with
  | none => s
  | some out =>
    let was := s.cmpSeen c
    let s := s.cmpPut c out false
    let s := if !(vget s.cmp c).held && isEdge (bitOf cfg 12) was out false then s.cmpEvent c out else s
    s.settleCmp

/-- A comparator that is off, or not evaluated yet, reads OUT = PUS and UNRES = 1, with no edge event (R297, R304). -/
def State.cmpOff (s : State) (c : Cmp) : State :=
  let pus := s.bit (R.CMP_CCFG c) 12
  (s.cmpPut c pus true).onCmp c fun h => { h with evaluated := false, heldOut := pus, heldUnres := true }

/-- Comparators that are off read so (R297). -/
def State.cmpSettleAll (s : State) : State :=
  (forAll 16 s fun s c => if s.cmpOn c then s else s.cmpOff c).settleCmp

/-- A write of CMP_CFG.EN. -/
def State.cmpCfgWrite (s : State) (w : Word) : State := (s.store R.CMP_CFG (w &&& 0x80000000#32)).cmpSettleAll

/-- A write of CMP_CCFGc (R301, R305). -/
def State.cmpCcfgWrite (s : State) (m : Master) (c : Cmp) (w : Word) : State :=
  let old := s.get (R.CMP_CCFG c)
  let w := w &&& 0xB37333FF#32
  if s.bit R.CMP_CFG 31 ∧ bitOf old 31 ∧ (old ^^^ w) &&& 0x33003000#32 ≠ 0#32 then s.writeIgnored m (R.CMP_CCFG c) else
  let was := s.cmpSeen c
  let s := s.store (R.CMP_CCFG c) w
  let s := if fldOf w 17 16 ≠ 0 then s.onCmp c fun h => { h with held := true, heldOut := was.1, heldUnres := was.2 } else s
  let s := if s.cmpOn c && (vget s.cmp c).evaluated then s else s.cmpOff c
  if s.cmpOn c && (vget s.cmp c).evaluated && fldOf w 17 16 ≠ 0 then s.cmpFollow c 0 else s.settleCmp

/-- The first evaluation after the start time (R297): with no hysteresis it always resolves, to which level on the threshold itself is
open. -/
def State.cmpResolve (s : State) (c : Cmp) (uV : Int) : State :=
  if !s.cmpOn c ∨ (vget s.cmp c).evaluated then s else
  let cfg := s.get (R.CMP_CCFG c)
  let s := s.onCmp c fun h => { h with evaluated := true }
  if bandSide cfg (tiedUv cfg uV) = none ∧ fldOf cfg 25 24 = 0 then
    let (out, s) := s.drawBit
    let was := s.cmpSeen c
    let s := s.cmpPut c out false
    (if !(vget s.cmp c).held && isEdge (bitOf cfg 12) was out false then s.cmpEvent c out else s).settleCmp
  else s.cmpFollow c uV

/-- The consumers follow the output again (R301). -/
def State.tieRelease (s : State) (c : Cmp) : State :=
  let h := vget s.cmp c
  if !h.held ∨ s.fld (R.CMP_CCFG c) 17 16 ≠ 0 then s else
  let out := s.bit R.CMP_OUT c
  let edge := isEdge (s.bit (R.CMP_CCFG c) 12) (h.heldOut, h.heldUnres) out (s.bit R.CMP_OUT (16 + c))
  let s := s.onCmp c fun h => { h with held := false }
  (if edge then s.cmpEvent c out else s).settleCmp

/-- A tack's trigger of an injected sequence is on its way to the converter that PC names, or to all four as one common trigger; 5 to 7 act
as 0 (R246). -/
def State.sendTrigger (s : State) (pc : Nat) : State :=
  if pc = 4 then { s with sys := { s.sys with comTrig := true } } else s.onPc ⟨pc % 4, by omega⟩ fun c => { c with trig := true }

/-- A tack compare sends its trigger (R246): target 0 arrives in the MOD domain, where ALIGNED_SAMPLE is taken; target 1 goes to a converter,
where INJECTED_TRIGGER is its arrival; target 2 latches the outputs; target 3 is an event of the motion engine. -/
def State.tackFire (s : State) (ax : Axis) (br : Bridge) (k : Fin 4) : State :=
  if s.tackSends ax br k then
    match fldOf (vget (s.br ax br).tacks k) 30 28 with
    | 1 => s.sendTrigger (tackPc (vget (s.br ax br).tacks k))
    | 2 => s.set R.CMP_SNAP (s.get R.CMP_OUT)
    | 3 => s.latchEvent ax (20 + brIx br) true
    | _ => s
  else s

/-! ### The commands -/

/-- TACK_FIRE (R246). -/
def execTackFire (ax : Axis) (br : Bridge) (k : Fin 4) (s : State) : Host.Outcome State Fault Refusal := .next (s.quiet.tackFire ax br k)

/-- COMPARATOR_RESOLVE (R297). -/
def execComparatorResolve (c : Cmp) (uV : Int) (s : State) : Host.Outcome State Fault Refusal := .next (s.quiet.cmpResolve c uV)

/-- COMPARATOR_EDGE (R295, R298): the input of a comparator that is evaluating moves. -/
def execComparatorEdge (c : Cmp) (uV : Int) (s : State) : Host.Outcome State Fault Refusal :=
  .next (if s.cmpOn c && (vget s.cmp c).evaluated then s.quiet.cmpFollow c uV else s.quiet)

/-- CMP_CCFG_WRITE (R305). -/
def execCmpCcfgWrite (m : Master) (c : Cmp) (w : Word) (s : State) : Host.Outcome State Fault Refusal :=
  .next (s.access m (R.CMP_CCFG c) fun s => s.cmpCcfgWrite m c w)

/-- TIE_RELEASE (R301). -/
def execTieRelease (c : Cmp) (s : State) : Host.Outcome State Fault Refusal := .next (s.quiet.tieRelease c)

end Sys2Proof.Machine
end

