-- ==== Sys2Proof/Machine/Power.lean ====
section
/-! DEFINITION. Supply, straps, resets, handover window, power states and presence (spec/02, spec/03, R33, R389). -/

namespace Sys2Proof.Machine

/-! ### Chip resets -/

/-- SYS_SUPSTAT as a chip reset ends: the supplies stand above their levels, VG_OK and VIO_LIM follow their supervisors, and WARN and RT
stand as the warning during the reset left them (R63, R64, R67). -/
def State.supplies (s : State) : State :=
  s.set R.SYS_SUPSTAT ((s.get R.SYS_SUPSTAT &&& 0x84#32) ||| 0x33#32 ||| (if s.present 7 then 0#32 else 8#32)
    ||| (if s.present 8 then 0x40#32 else 0#32))

/-- The detail word of a level source that is present as a chip reset ends (R333). -/
def State.levelDetail (s : State) (src : Nat) : Word :=
  if src ≤ 8 then s.get R.SYS_SUPSTAT else if src = 31 then s.safStat else s.get R.CLK_STAT

/-- The chip reset ends (R63, R71, R77, R435): SYS_RSTCAUSE takes the causes, SYS_TIME starts at 0 or resumes after a wake, supplies and
clocks run, and the collector takes every level source present as a start of its condition. -/
def State.endChipReset (s : State) : State :=
  if !s.sys.chipReset || s.sys.reversed then s else
  let t := (s.sys.wakeTime.getD 0) / 5 * 5
  let lock := (if s.sys.pllLost.getLsbD 0 then 0 else 2) + (if s.sys.pllLost.getLsbD 1 then 0 else 4)
  let s := (s.set R.SYS_RSTCAUSE s.sys.rstPend).set R.SYS_WAKESRC (if bitOf s.sys.rstPend 6 then s.sys.wakeHeld else 0#32)
  let s := s.supplies.set R.CLK_STAT (wordOfNat (b2n (!s.sys.xtalStop) + lock))
  let s := { s with sys := { s.sys with
    chipReset := false, cold := false, rstPend := 0#32, wakeHeld := 0#32, wakeTime := none, time := t, rem := 0
    tickDue := (t / 25000 + 1) * 25000, sinceTick := 0, ticked := false, cyc := 0 } }
  let s := { s with fcPresent := bvPut s.fcPresent 31 s.saf.safe }
  let live := (List.range 128).filter s.present
  s.raises (live.map fun n => (n, s.levelDetail n))

/-- POWER_ON (R63, R70): step 1, with VSUP above its reset level and RPD driven high; the other levels follow by the end of the reset. -/
def execPowerOn (s : State) : Host.Outcome State Fault Refusal :=
  let s := (s.quiet.chipReset .por).set R.SYS_SUPSTAT 3#32
  .next { s with sys := { s.sys with reversed := false } }

/-- The SYS_SUPSTAT bits that a supply below its brown-out level leaves (R54, R64): without VSUP none; VDD11 and VIO lose their own. -/
def brownMask : Supply → Word
  | .vsup => 0#32
  | .vdd11 => 0x6B#32
  | .vio => 0x5B#32

/-- BROWN_OUT (R64, R70): a BOR, with everything lost. RPD follows VSUP alone (R54). -/
def execBrownOut (supply : Supply) (s : State) : Host.Outcome State Fault Refusal :=
  let t := s.quiet.chipReset .bor
  .next (t.set R.SYS_SUPSTAT (t.get R.SYS_SUPSTAT &&& brownMask supply))

/-- REVERSE_CONNECTION (R58): RPD low, no gate driven; the device is without supply until POWER_ON. -/
def execReverseConnection (s : State) : Host.Outcome State Fault Refusal :=
  let s := (s.quiet.chipReset .bor).set R.SYS_SUPSTAT 0#32
  .next { s with sys := { s.sys with reversed := true } }

/-- PIN_RESET (R70, R76): a warm reset, in SLEEP too. -/
def execPinReset (s : State) : Host.Outcome State Fault Refusal := .next (s.quiet.chipReset .pin)

/-- CHIP_RESET_END (R63, R435). -/
def execChipResetEnd (s : State) : Host.Outcome State Fault Refusal := .next s.quiet.endChipReset

/-! ### Straps (R47 to R49) -/

/-- All samples of a set agree. -/
def setAgrees (xs : List StrapSample) : Bool :=
  match xs with
  | [] => false
  | x :: t => t.all (· = x)

/-- The sample that the latch takes, and whether all sets disagreed: the first set that agrees, else the last sample of the last set. -/
def strapSample (sets : List (List StrapSample)) : StrapSample × Bool :=
  let sets := sets.take 4
  match sets.find? setAgrees with
  | some (x :: _) => (x, false)
  | _ => ((sets.getLast?.bind (·.getLast?)).getD ⟨0, false⟩, true)

/-- The ISET code of a measured voltage: 20 µA through 5 kΩ × (k + 1) ± 2 kΩ is 100 mV × (k + 1) ± 40 mV; none outside every band. -/
def isetCode (mv : Nat) : Option Nat :=
  (List.range 16).find? fun k => 100 * (k + 1) - 40 ≤ mv && mv ≤ 100 * (k + 1) + 40

/-- STRAP_LATCH (R47 to R49): in the boot ROM, once per chip reset. Sampling goes on until a set agrees or four sets have been taken. -/
def State.strapLatch (s : State) (sets : List (List StrapSample)) (mv : Nat) : State :=
  if s.sys.chipReset || s.sys.strapped || s.sys.exec ≠ .bootRom then s else
  if sets.length < 4 && !sets.any setAgrees then s else
  let (x, bad) := strapSample sets
  let code := isetCode mv
  let w := x.role.val + b2n x.defmode * 4 + b2n bad * 8 + code.getD 0 * 16 + b2n code.isNone * 256 + mv % 4096 * 4096
  let s := s.set R.SYS_STRAP (wordOfNat w)
  { s with sys := { s.sys with strapped := true, strapStuck := bad || x.role.val = 3 } }

/-- STRAP_LATCH (R47). -/
def execStrapLatch (sets : List (List StrapSample)) (isetMv : Nat) (s : State) : Host.Outcome State Fault Refusal :=
  .next (s.quiet.strapLatch sets isetMv)

/-! ### Supervision (R62 to R68) -/

/-- The warning level in mV (R65): 16.0 V + 0.5 V × code, codes from 229 as 228. -/
def State.warnLevel (s : State) : Nat := 16000 + 500 * min (s.fld R.SYS_SUPCFG 7 0) 228

/-- VSUP lies below the warning level, with EN set (R65). -/
def State.warns (s : State) (vsupMv : Nat) : Bool := s.bit R.SYS_SUPCFG 31 && decide (vsupMv < s.warnLevel)

/-- VSUP falls below the warning level: WARN sets, VSUP_WARN is raised, and with RTEN ride-through starts or goes on (R65, R67, R68). Where
RTEN has been cleared while ride-through is active, the spec does not say whether WARN prolongs it: it keeps the end that it has, or with
none stands until the next recovery (DESIGN CHOICE, log entry 94). -/
def State.vsupWarn (s : State) (vsupMv : Nat) : State :=
  if !s.warns vsupMv then s else
  let s := s.setBit R.SYS_SUPSTAT 2 true
  let s := if s.bit R.SYS_SUPCFG 30 then { s.setBit R.SYS_SUPSTAT 7 true with sys := { s.sys with rtEnd := none } } else s
  s.raiseLevel 6 (s.get R.SYS_SUPSTAT)

/-- WARN clears, by recovery or with EN (R65, R67): ride-through will end with the RTEXT in force now (R68). -/
def State.vsupWarnEnd (s : State) : State :=
  if !s.bit R.SYS_SUPSTAT 2 then s else
  let till := if s.rideThrough then s.sys.rtEnd.getD (s.sys.cyc + s.fld R.SYS_SUPCFG 23 16 * 200000) else 0
  let s := (s.setBit R.SYS_SUPSTAT 2 false).drop 6
  { s with sys := { s.sys with rtEnd := if s.rideThrough then some till else none } }

/-- VSUP_WARN_RELEASE (R64, R67): VSUP lies above the warning level + 0.5 V. -/
def execVsupWarnRelease (vsupMv : Nat) (s : State) : Host.Outcome State Fault Refusal :=
  .next (if s.warnLevel + 500 < vsupMv then s.quiet.vsupWarnEnd else s.quiet)

/-- Ride-through ends RTEXT ms after WARN clears; it goes on while WARN is 1 (R68). -/
def State.rtEnd (s : State) : State :=
  if s.bit R.SYS_SUPSTAT 2 || s.sys.rtEnd.any (s.sys.cyc < ·) then s
  else { s.setBit R.SYS_SUPSTAT 7 false with sys := { s.sys with rtEnd := none } }

/-- RIDE_THROUGH_END (R68). -/
def execRideThroughEnd (s : State) : Host.Outcome State Fault Refusal := .next s.quiet.rtEnd

/-- VIO_LIMIT (R62). -/
def execVioLimit (active : Bool) (s : State) : Host.Outcome State Fault Refusal :=
  let s := s.quiet.setBit R.SYS_SUPSTAT 6 active
  .next (s.level 8 active (s.get R.SYS_SUPSTAT))

/-! ### Core resets (R32, R33, R35, R128) -/

/-- The EXEC core enters reset: hardware state is kept, a fresh handover window opens, CLAIM clears, HOVER sets, its posted messages are
marked, and EXEC SRAM is not kept, with it the times of the axis records (R32, R33, R79, R128, R382). -/
def State.execReset (s : State) : State :=
  if s.sys.chipReset then s else
  let s := s.orphan .exec
  let s := (s.setFld R.SYS_AXCLAIM 7 0 0).setBit R.SYS_AXCLAIM 16 true
  let s := (s.setBit R.SPL_BOOT 31 true).setBit R.SYS_PWRSTAT 8 false
  { s with
    sys := { s.sys with exec := .handover }
    msp := if s.msp.cur.isNone && s.msp.txq = [] then { s.msp with sel := 15 } else s.msp
    fw := { inUse := s.fw.inUse }
    turn := 2
    darn := s.darn.filter fun e => e.1 / 65536 ≠ 0 }

/-- LINK SRAM is lost: the manager's table and its enumeration, the requests that wait, and the transactions, which no response completes any
more (R79, R367, R383). -/
def LinkSt.lostCore (l : LinkSt) : LinkSt :=
  { l with table := [], reserved := [], todo := [], fresh := [], loops := [], breaks := [], inq := l.inq.take (b2n l.posted)
           txns := l.txns.map (fun t => { t with dead := true }), since := none }

/-- The LINK core enters reset: its posted messages are marked, LINK SRAM is not kept, and a worker's time alignment holds no more until its
first exchange after the restart (R35, R79, R128). -/
def State.linkReset (s : State) : State :=
  if s.sys.chipReset then s else
  let s := ((s.orphan .link).setBit R.SYS_PWRSTAT 9 false).set R.LNK_TXN 0#32
  let s := if s.role = 1 then s else s.setBit R.LNK_STAT 9 false
  let s := { s with lnk := s.lnk.lostCore }
  { s with sys := { s.sys with linkRun := false }, darn := s.darn.filter fun e => e.1 / 65536 ≠ 1 }

/-- A write of SYS_RSTCTL (R71, R78). -/
def State.rstctl (s : State) (m : Master) (w : Word) : State :=
  let bits := fldOf w 2 0
  let admitted := match m with
    | .exec | .maint => 7
    | .link => 4
    | _ => 0
  if fldOf w 31 16 ≠ 0x9E37 ∨ admitted = 0 ∨ bits &&& admitted ≠ bits then s.writeIgnored m R.SYS_RSTCTL
  else if bitOf w 0 then s.chipReset .swrst
  else
    let s := if bitOf w 1 then s.execReset else s
    if bitOf w 2 then s.linkReset else s

/-- CRST (R78). -/
def execCrst (m : Master) (w : Word) (s : State) : Host.Outcome State Fault Refusal :=
  .next (s.access m R.SYS_RSTCTL fun s => s.rstctl m w)

/-- EXECRST (R32, R33): by a keyed write, or by firmware itself. -/
def execExecrst (by_ : CoreResetBy) (s : State) : Host.Outcome State Fault Refusal :=
  .next (match by_ with
    | .write m w => s.access m R.SYS_RSTCTL fun s => s.rstctl m w
    | .firmware => s.quiet.execReset)

/-- LINKRST (R35). -/
def execLinkrst (by_ : CoreResetBy) (s : State) : Host.Outcome State Fault Refusal :=
  .next (match by_ with
    | .write m w => s.access m R.SYS_RSTCTL fun s => s.rstctl m w
    | .firmware => s.quiet.linkReset)

/-- A write of SYS_BRST (R70, R78). -/
def State.brstWrite (s : State) (m : Master) (w : Word) : State :=
  if (m ≠ .exec ∧ m ≠ .maint) ∨ fldOf w 31 16 ≠ 0x9E37 ∨ !brstAdmits (fldOf w 6 0) then s.writeIgnored m R.SYS_BRST
  else s.blockReset (fldOf w 6 0)

/-- BLOCK_RESET (R73, R78). -/
def execBlockReset (m : Master) (w : Word) (s : State) : Host.Outcome State Fault Refusal :=
  .next (s.access m R.SYS_BRST fun s => s.brstWrite m w)

/-- BLOCK_RESET_END (R70). -/
def execBlockResetEnd (page : Page) (s : State) : Host.Outcome State Fault Refusal :=
  .next { s.quiet with sys := { s.sys with blockRst := s.sys.blockRst.filter (· ≠ page.val) } }

/-- A write of SYS_WDKICK (R72): other masters' writes have no effect. -/
def State.wdKick (s : State) (m : Master) (w : Word) : State :=
  if m ≠ .exec then s
  else if w = 0x6A3C#32 then { s with sys := { s.sys with wdSince := s.sys.cyc } }
  else s.chipReset .wdt

/-- WATCHDOG_KICK (R72). -/
def execWatchdogKick (m : Master) (w : Word) (s : State) : Host.Outcome State Fault Refusal :=
  .next (s.access m R.SYS_WDKICK fun s => s.wdKick m w)

/-- The watchdog has counted its full timeout of 10 ms steps since its last restart, with EN 1 and the EXEC core out of reset (R72); a
TIMEOUT of 0 acts as 1. -/
def State.wdExpired (s : State) : Bool :=
  s.bit R.SYS_WDT 31 && s.sys.exec ≠ .handover && s.portOpen
    && decide (s.sys.wdSince + max 1 (s.fld R.SYS_WDT 7 0) * 2000000 ≤ s.sys.cyc)

/-- WATCHDOG_EXPIRY (R72). -/
def execWatchdogExpiry (s : State) : Host.Outcome State Fault Refusal :=
  .next (if s.wdExpired then s.quiet.chipReset .wdt else s.quiet)

/-- CLAIM_TIMEOUT follows SYS_AXCLAIM.UNCL (R333). -/
def State.settleClaim (s : State) : State := s.level 5 (s.fld R.SYS_AXCLAIM 15 8 ≠ 0) (s.get R.SYS_AXCLAIM)

/-- The handover window closes (R33): every unclaimed axis gets its UNCL bit, R171's row 5 acts on it at the next tick, HOVER clears and
CLAIM_TIMEOUT is raised. -/
def State.windowClose (s : State) : State :=
  if !s.bit R.SYS_AXCLAIM 16 then s else
  let claim := s.fld R.SYS_AXCLAIM 7 0
  let s := (s.setBit R.SYS_AXCLAIM 16 false).setBit R.SPL_BOOT 31 false
  let s := forAll 8 s fun s ax =>
    if claim.testBit ax then s
    else (s.setBit R.SYS_AXCLAIM (8 + ax) true).onMot ax fun m =>
      { m with evWin := true, gate := if m.gate = .free then .relevel else m.gate }
  s.settleClaim

/-- HANDOVER_WINDOW_CLOSE (R33). -/
def execHandoverWindowClose (s : State) : Host.Outcome State Fault Refusal := .next s.quiet.windowClose

/-- A write of SYS_AXCLAIM (R33, R34, R382): writing 1 claims; other masters' writes have no effect. -/
def State.claimWrite (s : State) (m : Master) (w : Word) : State :=
  if m ≠ .exec then s else
  let bits := fldOf w 7 0
  let s := (s.setFld R.SYS_AXCLAIM 7 0 (s.fld R.SYS_AXCLAIM 7 0 ||| bits)).setFld R.SYS_AXCLAIM 15 8
    (s.fld R.SYS_AXCLAIM 15 8 &&& (255 - bits))
  let s := if s.fld R.SYS_AXCLAIM 7 0 = 255 then s.setBit R.SPL_BOOT 31 false else s
  s.settleClaim

/-- AXIS_CLAIM (R33, R34). -/
def execAxisClaim (m : Master) (w : Word) (s : State) : Host.Outcome State Fault Refusal :=
  .next (s.access m R.SYS_AXCLAIM fun s => s.claimWrite m w)

/-! ### Power states (R74 to R77) -/

/-- An axis has an ACTIVE or QUEUED context. -/
def State.axisBusy (s : State) (ax : Axis) : Bool := (s.me ax).active.isSome || (s.me ax).queue ≠ []

/-- Entering STANDBY (R74, R278, R286): bridges disabled and de-energised, which disarms their VDS monitors, PLL-B stopped, conversions end
without results. -/
def State.enterStandby (s : State) : State :=
  let s := (forAll 8 s fun s ax =>
    (((s.gatesOff ax).setBit (R.PWM_CFG ax) 31 false).mend (R.PWM_CFG ax)).dropVds ax).setBit R.CLK_STAT 2 false
  let s := forAll 4 s fun s p => s.onPc p fun c =>
    { c with held := c.rrun, rrun := false, iIdx := none, calPend := none, calRun := none, settle := false
             calAb := c.calAb || c.calRun.isSome || c.calPend.isSome }
  s.setFld R.SYS_PWRSTAT 1 0 2

/-- A request accepted: REQ reads it, REFUSE clears. -/
def State.pwrAccept (s : State) (req : Nat) : State := (s.set R.SYS_PWRCTL (wordOfNat req)).setFld R.SYS_PWRSTAT 18 16 0

/-- The comparators that can wake: on, and resolved to the level opposite PUS (R76, R303). -/
def State.cmpWakes (s : State) : Word :=
  wordOfNat (packBits 16 fun c =>
    let (out, unres) := s.cmpSeen ⟨c % 16, by omega⟩
    s.bit (R.CMP_CCFG c) 31 && s.bit R.CMP_CFG 31 && !unres && (out != s.bit (R.CMP_CCFG c) 12))

/-- The sources that can wake (R76): a comparator at its waking level, PRES_N, the timer, and an enabled Bobbin port. -/
def State.wakeable (s : State) : Word :=
  s.cmpWakes ||| 0x210000#32
    ||| wordOfNat (packBits 4 (fun p => s.bit R.LNK_CFG 31 && s.bit R.LNK_CFG p) * 131072)

/-- A wake event (R76, R77): the sources that were enabled and pending, and the sleep interval as AON counted it. -/
def State.wakeUp (s : State) (src : Word) (sleepNs : Nat) : State :=
  let hit := src &&& s.get R.SYS_WAKECFG &&& s.wakeable
  if !s.sys.asleep || hit = 0#32 then s else
  let t := s.sys.time + sleepNs
  let left := if s.spool.presLeft = 0 then 0 else max 1 (s.spool.presLeft - sleepNs)
  { s with sys := { s.sys with wakeHeld := hit, wakeTime := some t }, spool := { s.spool with presLeft := left } }.chipReset .wake

/-- Entering SLEEP (R74, R303): a comparator already at its waking level, or a wake timer of 0, wakes the device at once. -/
def State.enterSleep (s : State) : State :=
  let s := { s with sys := { s.sys with asleep := true } }
  s.wakeUp (s.cmpWakes ||| (if s.get R.SYS_WAKETMR = 0#32 then 0x200000#32 else 0#32)) 0

/-- A write of SYS_PWRCTL (R74, R75, R78). -/
def State.pwrctl (s : State) (m : Master) (w : Word) : State :=
  let refuse (n : Nat) : State := s.setFld R.SYS_PWRSTAT 18 16 n
  if m ≠ .exec ∨ fldOf w 31 16 ≠ 0x9E37 then s.writeIgnored m R.SYS_PWRCTL
  else match fldOf w 1 0 with
    | 0 => s.pwrAccept 0
    | 2 => if (List.finRange 8).any s.axisBusy then refuse 1 else if s.standby then s.pwrAccept 2 else (s.pwrAccept 2).enterStandby
    | 3 =>
      let writing := match s.spool.wjOp with
        | .write _ _ => true
        | _ => false
      if !s.standby then refuse 2
      else if writing then refuse 3
      else if s.get R.SYS_WAKECFG = 0#32 then refuse 4
      else (s.pwrAccept 3).enterSleep
    | _ => s

/-- RUN_REQUEST (R74). -/
def execRunRequest (m : Master) (w : Word) (s : State) : Host.Outcome State Fault Refusal :=
  .next (s.access m R.SYS_PWRCTL fun s => s.pwrctl m w)

/-- STANDBY_REQUEST (R74, R75). -/
def execStandbyRequest (m : Master) (w : Word) (s : State) : Host.Outcome State Fault Refusal :=
  .next (s.access m R.SYS_PWRCTL fun s => s.pwrctl m w)

/-- PLL-B relocks (R74, R278, R286): after a RUN request the device is in RUN, the modulators that are ON start afresh, and a regular sequence
that was running starts again at entry 0. -/
def State.pllbRelock (s : State) : State :=
  let s := { s.setBit R.CLK_STAT 2 true with sys := { s.sys with
    pllLost := bvPut s.sys.pllLost 1 false, pllStop := bvPut s.sys.pllStop 1 false } }
  let s := s.settleClocks
  if s.standby ∧ s.fld R.SYS_PWRCTL 1 0 = 0 then
    let s := s.setFld R.SYS_PWRSTAT 1 0 0
    let s := forAll 16 s fun s c => if s.bit (R.CSM_CCFG c) 31 then s.onCsm c fun x => { x with fastWarm := 3, fineWarm := 36 } else s
    forAll 4 s fun s p =>
      if (vget s.pc p).held || (vget s.pc p).rrun then (s.onPc p fun c => { c with rrun := true, rIdx := 0, held := false }).convStart p 0
      else s
  else s

/-- PLLB_RELOCK (R74). -/
def execPllbRelock (s : State) : Host.Outcome State Fault Refusal := .next s.quiet.pllbRelock

/-- The interrupts of the EXEC core (R23, R122, R299, R334). -/
def State.execInt (s : State) : Bool :=
  s.dbInt 1 || s.faultInt || s.alarm 0 || (List.finRange 16).any fun c => s.routeAlarm c 2

/-- The interrupts of the LINK core (R23, R122). -/
def State.linkInt (s : State) : Bool := s.dbInt 2 || s.alarm 1

/-- IDLE_ENTRY (R74): both cores execute their wait instruction with no interrupt asserted; a core that was ungated alone is gated again. -/
def execIdleEntry (s : State) : Host.Outcome State Fault Refusal :=
  .next (if s.sys.exec = .firmware ∧ s.sys.linkRun ∧ s.fld R.SYS_PWRSTAT 1 0 < 2 ∧ !s.execInt ∧ !s.linkInt then
    ((s.quiet.setBit R.SYS_PWRSTAT 8 true).setBit R.SYS_PWRSTAT 9 true).setFld R.SYS_PWRSTAT 1 0 1 else s.quiet)

/-- IDLE_EXIT (R74). -/
def execIdleExit (core : GatedCore) (s : State) : Host.Outcome State Fault Refusal := .next (s.quiet.ungate core)

/-- WAKE (R76, R77). -/
def execWake (src : Word) (sleepNs : Nat) (s : State) : Host.Outcome State Fault Refusal := .next (s.quiet.wakeUp src sleepNs)

/-- WAKE_TIMER_EXPIRY (R76, R77). -/
def execWakeTimerExpiry (sleepNs : Nat) (s : State) : Host.Outcome State Fault Refusal :=
  .next (s.quiet.wakeUp 0x200000#32 sleepNs)

/-! ### Presence (R53, R389) -/

/-- PRES_N_CHANGE (R53, R389): a low of at least 20 ms starts the 600 s period when it ends. -/
def execPresNChange (level : Bool) (lowMs : Nat) (s : State) : Host.Outcome State Fault Refusal :=
  .next { s.quiet with spool := { s.spool with
    presLow := !level
    presLeft := if level && s.spool.presLow && 20 ≤ lowMs then 600000000000 else s.spool.presLeft } }

/-- PRESENCE_EXPIRY (R389). -/
def execPresenceExpiry (s : State) : Host.Outcome State Fault Refusal :=
  .next { s.quiet with spool := { s.spool with presLeft := 0 } }

/-- SPL_PRES (R389, R398). -/
def State.splPres (s : State) : Word :=
  wordOfNat (b2n s.presence * 2 ^ 31 + b2n s.spool.presLow * 2 ^ 30
    + (if s.spool.presLow then 0 else (s.spool.presLeft + 999999999) / 1000000000))

end Sys2Proof.Machine
end

