-- ==== Sys2Proof/Machine/LinkCore.lean ====
section
/-! DEFINITION. Ports, transmitters and frame buffers of the Bobbin link (R345 to R358). -/

namespace Sys2Proof.Machine

/-- The state with one port of the link changed. -/
def State.onLp (s : State) (p : LinkPort) (f : LinkP → LinkP) : State :=
  { s with lnk := { s.lnk with ports := vset s.lnk.ports p (f (vget s.lnk.ports p)) } }

/-- One port of the link. -/
def State.lp (s : State) (p : LinkPort) : LinkP := vget s.lnk.ports p

/-- The role in use: 0 worker, 1 manager, 2 standalone (LNK_STAT). -/
def State.linkRole (s : State) : Nat := s.fld R.LNK_STAT 1 0

/-- The device acts as a manager. -/
def State.isManager (s : State) : Bool := s.linkRole = 1

/-- The device acts as a worker. -/
def State.isWorker (s : State) : Bool := s.linkRole = 0

/-- The device's link address; 0x7FF when none. -/
def State.linkAddr (s : State) : LinkAddr := BitVec.ofNat 11 (s.fld R.LNK_ADDR 10 0)

/-- A worker with an address (R360). -/
def State.addressed (s : State) : Bool := s.linkAddr ≠ 0x7FF#11

/-- A port may be used: EN, PEN and the role (R345). -/
def State.portPowered (s : State) (p : LinkPort) : Bool :=
  s.bit R.LNK_CFG 31 && s.bit R.LNK_CFG p && (s.linkRole = 1 || (s.linkRole = 0 && p.val < 2))

/-- STATE of a port: 0 powered down, 1 no sync, 2 sync, 3 UP. -/
def State.portState (s : State) (p : LinkPort) : Nat := s.fld (R.LNK_PORT p) 1 0

/-- A port is UP (R349). -/
def State.portUp (s : State) (p : LinkPort) : Bool := s.portState p = 3

/-- A port receives: it holds sync. -/
def State.hears (s : State) (p : LinkPort) : Bool := 2 ≤ s.portState p

/-- The other port of a worker. -/
def otherPort (p : LinkPort) : LinkPort := if p = 0 then 1 else 0

/-- The worker is placed in a loop (LNK_STAT.LOOP). -/
def State.inLoop (s : State) : Bool := s.bit R.LNK_STAT 5

/-- Every port follows LNK_CFG and the role (R345): one that is powered down loses its stored frames, and one that is powered starts without
sync. -/
def State.settlePorts (s : State) : State :=
  forAll 4 s fun s p =>
    if s.portPowered p then (if s.portState p = 0 then s.setFld (R.LNK_PORT p) 1 0 1 else s)
    else if s.portState p = 0 then s
    else ((s.set (R.LNK_PORT p) 0#32).onLp p fun _ => {}).drop (112 + p)

/-! ### Errors (R351, LNK_ERRLIM) -/

/-- Code or CRC errors on a port count towards LNK_CODE: more than LIM within 1 s raise it. -/
def State.linkErrors (s : State) (p : LinkPort) (n : Nat) : State :=
  let now := s.sys.cyc
  let errs := ((now, n) :: (s.lp p).errs).filter fun e => now < e.1 + 200000000
  let lim := s.fld R.LNK_ERRLIM 15 0
  let sum := (errs.map (·.2)).sum
  if lim ≠ 0 ∧ lim < sum then (s.onLp p fun l => { l with errs := [] }).raise 119 (wordOfNat p)
  else s.onLp p fun l => { l with errs := errs }

/-- A frame is discarded under R351. -/
def State.crcError (s : State) (p : LinkPort) : State := (s.incFld (R.LNK_ERR p) 23 16).linkErrors p 1

/-- A frame is discarded under R357 or R367. -/
def State.dropFrame (s : State) (p : LinkPort) : State := s.incFld (R.LNK_ERR p) 15 8

/-! ### Transmitters (R353, R357) -/

/-- Something leaves the device. -/
def State.sends (s : State) (x : Sent) : State := { s with out := { s.out with sent := s.out.sent ++ [x] } }

/-- Bytes that a frame takes in a frame buffer: W0, W1, the payload and the CRC. -/
def TxFrame.bytes (f : TxFrame) : Nat := 12 + 4 * f.payload.length

/-- Bytes stored in a port's frame buffer. -/
def LinkP.stored (l : LinkP) : Nat := (l.buf.map fun e => e.2.bytes).sum

/-- A regular frame reaches a port's transmitter: it leaves at once, or is stored while the transmitter is busy; one that does not fit is
discarded (R357). A frame with an error is not stored (R351). Nothing leaves a port that is not UP. -/
def State.transmit (s : State) (p : LinkPort) (own busy : Bool) (f : TxFrame) : State :=
  if !s.portUp p then s
  else if busy || (s.lp p).buf ≠ [] then
    if f.bad then s
    else if (s.lp p).stored + f.bytes ≤ 8192 then s.onLp p fun l => { l with buf := l.buf ++ [(own, f)] }
    else s.dropFrame p
  else s.sends (.regular p f)

/-- The stored frame that leaves next: class order, forwarded before own, oldest first (R357). -/
def nextStored (buf : List (Bool × TxFrame)) : Option (Bool × TxFrame) :=
  [(1, false), (1, true), (2, false), (2, true), (3, false), (3, true)].findSome? fun k =>
    buf.find? fun e => e.2.cls = k.1 && e.1 = k.2

/-- A stored frame leaves once its transmitter is free (R357). -/
def State.sendStored (s : State) (p : LinkPort) : State :=
  match nextStored (s.lp p).buf with
  | some e => if s.portUp p then (s.onLp p fun l => { l with buf := l.buf.erase e }).sends (.regular p e.2) else s
  | none => s

/-- The port by which something bound for port `p` of a worker leaves: the port itself while it is UP and not turning, or in a loop the
other one (R356, R368). -/
def State.outPort (s : State) (p : LinkPort) : Option LinkPort :=
  if s.portUp p && !s.bit (R.LNK_PORT p) 4 then some p
  else if (s.inLoop || s.bit (R.LNK_PORT p) 4) && s.portUp (otherPort p) then some (otherPort p)
  else none

/-- The upstream port of a worker: port 0 until one has been assigned (R362). -/
def State.upPort (s : State) : LinkPort := if s.lnk.up = some 1 then 1 else 0

/-- A frame of the worker's own for the manager leaves by the upstream port. -/
def State.sendUp (s : State) (f : TxFrame) : State :=
  match s.outPort s.upPort with
  | some p => s.transmit p true false f
  | none => s

/-- A frame passes a worker from port `p` (R356). -/
def State.passOn (s : State) (p : LinkPort) (busy : Bool) (f : TxFrame) : State :=
  match s.outPort (otherPort p) with
  | some q => s.transmit q false busy f
  | none => s

/-- Ports on which the manager sends a group or broadcast frame: every UP port but the far port of an intact loop (R358). -/
def State.spreadPorts (s : State) : List LinkPort :=
  (List.finRange 4).filter fun p => s.portUp p &&
    !(s.lnk.loops.any fun l => l.2.1 = p.val && !(s.lnk.breaks.any fun b => b.1 = l.1))

/-- A worker of the manager's table. -/
def State.worker (s : State) (a : LinkAddr) : Option WorkerRec := s.lnk.table.find? fun w => w.addr = a

/-- A group address (R131, R143). -/
def isGroupAddr (a : LinkAddr) : Bool := 0x600 ≤ a.toNat && a.toNat ≤ 0x63F

/-- An address of a worker. -/
def isWorkerAddr (a : LinkAddr) : Bool := 1 ≤ a.toNat && a.toNat ≤ 0x400

/-- The manager sends a frame of its own (R358). -/
def State.sendDown (s : State) (f : TxFrame) : State :=
  if isWorkerAddr f.dest then
    match s.worker f.dest with
    | some w => s.transmit ⟨w.port % 4, by omega⟩ true false f
    | none => s
  else s.spreadPorts.foldl (fun s p => s.transmit p true false f) s

/-- A frame of the device's own leaves towards its destination. -/
def State.sendFrame (s : State) (f : TxFrame) : State := if s.isManager then s.sendDown f else s.sendUp f

/-- The device is a member of a group (LNK_GRPj). -/
def State.inGroup (s : State) (a : LinkAddr) : Bool :=
  isGroupAddr a && s.bit (if a.toNat < 0x620 then R.LNK_GRP0 else R.LNK_GRP1) (a.toNat % 32)

/-- A frame is for this worker: its own address, a group of its own, or all; a refused worker takes none (R356, R363). -/
def State.forMe (s : State) (a : LinkAddr) : Bool :=
  !s.bit R.LNK_STAT 7 && ((a = s.linkAddr && s.addressed) || s.inGroup a || a = 0x7FF#11)

/-- A valid frame from the manager has arrived on a port: an orphan is one no longer (R365), and one that comes in by the port that is not
upstream shows an enumerated worker that it stands in a loop (log entry 70). -/
def State.heardManager (s : State) (p : LinkPort) : State :=
  let s := (s.setBit R.LNK_STAT 8 false).drop 116
  if s.isWorker ∧ s.bit R.LNK_STAT 6 ∧ p.val < 2 ∧ p ≠ s.upPort ∧ !s.inLoop then
    ((s.setBit R.LNK_STAT 5 true).setBit (R.LNK_PORT 0) 3 true).setBit (R.LNK_PORT 1) 3 true
  else s

end Sys2Proof.Machine
end

