-- ==== Sys2Proof/Machine/Operands.lean ====
section
/-! DEFINITION. The words of a request: its header (R131), the opcode table with what each opcode asks for (R142, R145, R146, R152, R153), and
the ranges of its arguments (R135, R152). -/

namespace Sys2Proof.Machine

/-! ### The header (R131) -/

/-- OPCODE of a header. -/
def hdrOp (h : Word) : Nat := fldOf h 31 24

/-- CLASS of a request. -/
def hdrClass (h : Word) : Nat := fldOf h 23 22

/-- DEST of a request. -/
def hdrDest (h : Word) : LinkAddr := BitVec.ofNat 11 (fldOf h 21 11)

/-- NARG of a header (R131, R132). -/
def hdrNarg (h : Word) : Nat := fldOf h 10 7

/-- TAG of a header. -/
def hdrTag (h : Word) : Nat := fldOf h 6 0

/-- Argument word i of a message, w1 to w14. -/
def arg (ws : List Word) (i : Nat) : Word := ws.getD i 0#32

/-- An argument as an unsigned number. -/
def argN (ws : List Word) (i : Nat) : Nat := (arg ws i).toNat

/-- A signed value of two words, the high word first (R135). -/
def argWide (ws : List Word) (i : Nat) : Int := ofHiLo (arg ws i) (arg ws (i + 1))

/-- An unsigned value of two words. -/
def argWideU (ws : List Word) (i : Nat) : Nat := ofHiLoU (arg ws i) (arg ws (i + 1))

/-! ### The opcode table -/

/-- Presence that an opcode needs (R146). -/
inductive Pres where
  | none | local_ | delegable
  deriving DecidableEq, Repr

/-- A row of the opcode tables: argument words it requires, whether class 0 and group use are permitted, presence, and whether the baseline
firmware offers it. -/
structure OpSpec where
  op    : Nat
  nargs : Nat
  cls0  : Bool
  group : Bool
  pres  : Pres
  base  : Bool
  deriving DecidableEq, Repr

/-- Identity, system, axis and motor. -/
def opTableA : List OpSpec := [
  ⟨0x00, 0, false, false, .none, true⟩, ⟨0x01, 0, false, false, .none, true⟩, ⟨0x02, 1, false, true, .none, true⟩,
  ⟨0x03, 2, false, false, .none, true⟩, ⟨0x04, 0, false, false, .none, true⟩, ⟨0x05, 2, false, false, .none, false⟩,
  ⟨0x06, 0, true, true, .none, true⟩, ⟨0x07, 3, false, false, .none, true⟩,
  ⟨0x10, 2, false, false, .none, false⟩, ⟨0x11, 2, false, false, .none, false⟩, ⟨0x12, 7, false, false, .none, false⟩,
  ⟨0x13, 4, false, false, .none, false⟩, ⟨0x14, 5, false, false, .none, false⟩, ⟨0x15, 7, false, false, .local_, false⟩,
  ⟨0x16, 1, false, false, .none, true⟩, ⟨0x18, 3, false, false, .none, false⟩, ⟨0x19, 1, false, false, .none, false⟩,
  ⟨0x1A, 2, false, false, .none, false⟩]

/-- Contexts, motion, limits and safety parameters. -/
def opTableB : List OpSpec := [
  ⟨0x20, 1, false, false, .none, false⟩, ⟨0x21, 2, false, false, .none, false⟩, ⟨0x22, 3, false, false, .none, false⟩,
  ⟨0x23, 1, false, false, .none, false⟩, ⟨0x24, 1, false, false, .none, false⟩, ⟨0x25, 1, false, false, .none, false⟩,
  ⟨0x26, 4, false, false, .none, false⟩, ⟨0x27, 3, false, false, .none, false⟩, ⟨0x28, 5, false, false, .none, false⟩,
  ⟨0x29, 1, true, true, .none, true⟩, ⟨0x2A, 3, false, false, .none, false⟩, ⟨0x2B, 1, false, true, .none, true⟩,
  ⟨0x2C, 2, true, true, .none, true⟩, ⟨0x2D, 3, false, true, .none, false⟩,
  ⟨0x30, 5, false, false, .none, false⟩, ⟨0x31, 3, false, false, .local_, false⟩, ⟨0x32, 6, false, false, .local_, false⟩,
  ⟨0x33, 2, false, false, .local_, false⟩, ⟨0x34, 0, false, false, .none, true⟩, ⟨0x36, 2, true, true, .none, false⟩,
  ⟨0x37, 3, false, false, .none, false⟩]

/-- Converters, comparators, faults and logbook. -/
def opTableC : List OpSpec := [
  ⟨0x40, 6, false, false, .none, false⟩, ⟨0x41, 2, false, false, .none, false⟩, ⟨0x42, 3, false, false, .none, false⟩,
  ⟨0x43, 3, false, false, .none, false⟩, ⟨0x44, 1, false, false, .none, false⟩, ⟨0x45, 6, false, false, .none, false⟩,
  ⟨0x46, 0, false, false, .none, false⟩, ⟨0x47, 1, false, false, .none, false⟩, ⟨0x48, 2, false, false, .none, false⟩,
  ⟨0x50, 0, false, false, .none, true⟩, ⟨0x51, 1, false, false, .none, true⟩, ⟨0x52, 1, false, false, .none, true⟩,
  ⟨0x53, 3, false, false, .local_, false⟩, ⟨0x54, 0, false, false, .none, true⟩, ⟨0x55, 2, false, false, .none, true⟩,
  ⟨0x56, 9, false, false, .none, false⟩, ⟨0x57, 1, false, false, .none, false⟩]

/-- Settings, firmware, hierarchy and diagnostics. -/
def opTableD : List OpSpec := [
  ⟨0x60, 2, false, false, .none, true⟩, ⟨0x61, 1, false, false, .delegable, true⟩, ⟨0x62, 0, false, false, .delegable, true⟩,
  ⟨0x63, 0, false, false, .delegable, true⟩, ⟨0x64, 2, false, false, .delegable, true⟩, ⟨0x65, 1, false, false, .none, true⟩,
  ⟨0x66, 2, false, false, .delegable, true⟩,
  ⟨0x70, 0, false, false, .none, true⟩, ⟨0x71, 0, false, false, .none, false⟩, ⟨0x72, 1, false, false, .none, false⟩,
  ⟨0x73, 3, false, false, .none, false⟩, ⟨0x74, 2, false, false, .local_, false⟩, ⟨0x75, 1, false, false, .none, false⟩,
  ⟨0x80, 1, false, false, .none, false⟩, ⟨0x81, 1, false, false, .none, false⟩, ⟨0x82, 2, false, false, .none, false⟩,
  ⟨0x83, 0, false, false, .none, true⟩, ⟨0x84, 2, false, false, .none, true⟩, ⟨0x85, 2, false, false, .local_, false⟩]

/-- The opcodes that Hyash defines (R152). EVENT, 0x0E, is none of them (R150). -/
def opTable : List OpSpec := opTableA ++ opTableB ++ opTableC ++ opTableD

/-- The row of an opcode. -/
def opSpec (op : Nat) : Option OpSpec := opTable.find? fun r => r.op = op

/-! ### Ranges of arguments (R135, R152) -/

/-- A value of two words that fits 48 bits (R135). -/
def fits48 (x : Int) : Bool := -140737488355328 ≤ x && x < 140737488355328

/-- Input codes of R281 that are not reserved. -/
def inputKnown (c : Nat) : Bool := c ≤ 0x17 || (0x20 ≤ c && c ≤ 0x2B) || (0x30 ≤ c && c ≤ 0x38) || c = 0x3F || (0x40 ≤ c && c ≤ 0x4F)

/-- Opcodes whose w1 is an axis. -/
def axisOps : List Nat := [0x10, 0x11, 0x12, 0x13, 0x14, 0x15, 0x16, 0x18, 0x19, 0x1A, 0x26, 0x27, 0x28, 0x2A, 0x30, 0x31, 0x32, 0x33, 0x57,
  0x80, 0x81, 0x82]

/-- An argument of an axis, motor or motion opcode lies outside its range. -/
def badMotion (op narg : Nat) (ws : List Word) : Bool :=
  let n := argN ws
  match op with
  | 0x10 => 1 < n 2
  | 0x11 => 2 < n 2
  | 0x12 => n 2 = 0 || 100 < n 2 || n 4 < 100 || 1000000 < n 4 || 65535 < n 5 || 65535 < n 6 || 16777215 < n 7
  | 0x13 => 1048575 < n 2 || 1048575 < n 3 || 65535 < n 4
  | 0x14 => 3 < n 2 || n 3 ≤ n 4 || 16777215 < n 3 || 16777215 < n 5
  | 0x15 => !fits48 (argWide ws 4) || !fits48 (argWide ws 6)
  | 0x18 => 15 < n 2 || n 3 < 102400 || 1024000 < n 3
  | 0x1A => 1023 < n 2 || 1024 < n 2 + 2 * (narg - 2)
  | 0x20 => 1 < n 1
  | 0x21 => 255 < n 1 || 31 < n 2 || 32 < n 2 + (narg - 2)
  | 0x22 => 255 < n 1 || 7 < n 2 || 1 < n 3 || (n 3 = 1 && narg < 5)
  | 0x23 | 0x24 | 0x25 => 255 < n 1
  | 0x26 => !fits48 (argWide ws 2) || 1 < n 4 || (n 4 = 1 && narg < 6)
  | 0x27 => !fits48 (argWide ws 2)
  | 0x28 => 3 < n 2 || !fits48 (argWide ws 4)
  | 0x29 | 0x2B => 255 < n 1
  | 0x2A => !fits48 (argWide ws 2)
  | 0x2C => 255 < n 1 || 1 < n 2
  | 0x2D => 255 < n 1 || 1 < n 2 || 1 < n 3 || (n 3 = 1 && narg < 5)
  | 0x30 => 10240000 < n 2 || n 4 = 0
  | 0x31 => n 2 = 0 || n 3 = 0
  | 0x32 => 2 < n 3 || 65535 < n 5 || 15 < n 6
  | _ => false

/-- An argument of a system, safety, converter or comparator opcode lies outside its range. -/
def badUnit (op cls : Nat) (ws : List Word) : Bool :=
  let n := argN ws
  match op with
  | 0x02 => n 1 ≠ 0 && n 1 ≠ 2 && n 1 ≠ 3
  | 0x03 => 2 < n 1 || n 2 ≠ 0x9E37
  | 0x36 => 3 < n 1 || 1 < n 2 || (cls = 0 && n 2 = 0)
  | 0x37 => 255 < n 1 || 1 < n 2 || 255 < n 3
  | 0x40 => 3 < n 1 || 19 < n 2 || !inputKnown (n 3) || 7 < n 4 || 15 < n 5 || 255 < n 6
  | 0x41 => 15 < n 1 || 1 < n 2
  | 0x42 => 3 < n 1 || 19 < n 2 || n 3 = 0 || 14 < n 3 || 20 < n 2 + n 3
  | 0x43 => 3 < n 1 || 19 < n 2 || 1 < n 3
  | 0x44 => 1 < n 1
  | 0x45 => 15 < n 1 || 1023 < n 2 || 3 < n 3 || 3 < n 4 || 15 < n 5 || 1 < n 6
  | 0x47 => 65535 < n 1
  | 0x48 => 15 < n 1 || n 2 = 0 || 14 < n 2 || 16 < n 1 + n 2
  | 0x51 => 127 < n 1
  | 0x52 => 127 < n 1 && n 1 ≠ 4294967295
  | 0x53 => 127 < n 1 || 4 < n 2 || 1 < n 3
  | 0x56 => n 1 < 0x30 || 0x3F < n 1
  | _ => false

/-- An address of R97's space, aligned. -/
def regAddr (a : Nat) : Bool := 0x40000000 ≤ a && a ≤ 0x4000FFFC && a % 4 = 0

/-- The register key of an internal address. -/
def keyOfAddr (a : Nat) : Nat := (a - 0x40000000) / 4

/-- An argument of a settings, firmware, link or diagnostic opcode lies outside its range. -/
def badStore (op narg : Nat) (ws : List Word) : Bool :=
  let n := argN ws
  match op with
  | 0x60 => 4095 < n 1 || n 2 = 0 || 13 < n 2 || 4096 < n 1 + n 2
  | 0x61 => 4095 < n 1 || 4096 < n 1 + (narg - 1)
  | 0x64 => 1 < n 1 || n 2 % 4 ≠ 0 || 2097152 < n 2 + 4 * (narg - 2)
  | 0x65 => 1 < n 1
  | 0x66 => 1 < n 1 || 1 < n 2
  | 0x72 => n 1 = 0 || 0x400 < n 1
  | 0x73 => 63 < n 1 || n 2 = 0 || 0x400 < n 2 || 1 < n 3
  | 0x74 => n 1 = 0 || 1000 < n 1 || 1 < n 2
  | 0x75 => n 1 = 0 || 1000 < n 1
  | 0x82 => 1 < n 2
  | 0x84 => !regAddr (n 1) || n 2 = 0 || 14 < n 2 || !regAddr (n 1 + 4 * (n 2 - 1))
      || (List.range (n 2 % 16)).any fun i => keyOfAddr (n 1 + 4 * i) / 128 = 0x7E
  | 0x85 => !regAddr (n 1)
  | _ => false

/-- Some argument lies outside its stated range, as far as the message alone shows it (R135, R152). -/
def badArgs (op cls narg : Nat) (ws : List Word) : Bool :=
  (axisOps.contains op && 7 < argN ws 1) || badMotion op narg ws || badUnit op cls ws || badStore op narg ws

/-- Result codes (R140). -/
inductive Res where
  | ok | badop | badarg | busy | noctx | nopres | unreach | safety | crc | state | timeout | denied | full
  deriving DecidableEq, Repr

/-- The code of a result. -/
def Res.code : Res → Nat
  | .ok => 0 | .badop => 1 | .badarg => 2 | .busy => 3 | .noctx => 4 | .nopres => 5 | .unreach => 6 | .safety => 7 | .crc => 8
  | .state => 9 | .timeout => 10 | .denied => 11 | .full => 12

end Sys2Proof.Machine
end

