-- ==== Sys2Proof/Machine/MasterPort.lean ====
section
/-! DEFINITION. The master serial port (spec/18) and the registers of the wear journal (spec/17). -/

namespace Sys2Proof.Machine

/-! ### The master serial port -/

/-- SEL of a TXC word. -/
def txcSel (w : Word) : Nat := fldOf w 19 16

/-- Bytes of an entry: 0 and 5 to 7 act as 4 (MSP_TXC.NB). -/
def txcBytes (w : Word) : Nat := if fldOf w 2 0 = 0 ∨ 4 < fldOf w 2 0 then 4 else fldOf w 2 0

/-- The bytes that an entry sends, in order (R400): the top bytes of its TXD, or 0xFF with TXEN 0. -/
def entryBytes (e : MspEntry) : List Byte :=
  if bitOf e.txc 4 then (bytesOfWord e.txd).take (txcBytes e.txc) else List.replicate (txcBytes e.txc) 0xFF#8

/-- A push (R400, R402, R403, R405). -/
def State.mspPush (s : State) (m : Master) (w : Word) : State :=
  let bad := if s.bit R.MSP_CFG 16 then txcSel w = 15 else 3 < txcSel w
  if m ≠ .exec ∨ 16 ≤ s.msp.txq.length ∨ bad then s.writeIgnored m R.MSP_TXC
  else { s with msp := { s.msp with txq := s.msp.txq ++ [{ txd := s.get R.MSP_TXD, txc := w }] } }

/-- The port waits for room in the receive queue (R401). -/
def State.rxWait (s : State) : Bool :=
  match s.msp.cur, s.msp.txq with
  | none, e :: _ => s.bit R.MSP_CFG 31 && bitOf e.txc 5 && 16 ≤ s.msp.rxq.length
  | _, _ => false

/-- An entry starts: another select held is released first (R401, R403, R404). -/
def State.mspStart (s : State) : State :=
  match s.msp.cur, s.msp.txq with
  | none, e :: rest =>
    if !s.bit R.MSP_CFG 31 ∨ s.rxWait then s
    else { s with msp := { s.msp with cur := some e, txq := rest, sel := txcSel e.txc } }
  | _, _ => s

/-- An entry finishes (R400, R404, R410): its received bytes are kept right-aligned, and the select is held or released. -/
def State.mspEnd (s : State) (rx : Word) : State :=
  match s.msp.cur with
  | none => s
  | some e =>
    let w := wordOfNat (rx.toNat % 256 ^ txcBytes e.txc)
    let hold := bitOf e.txc 8 && !s.msp.relReq && !(s.sys.exec = .handover && s.msp.txq = [])
    { s with msp := { s.msp with
        cur := none, relReq := false, rxq := if bitOf e.txc 5 then s.msp.rxq ++ [w] else s.msp.rxq
        sel := if hold then s.msp.sel else 15 } }

/-- A read of MSP_RXD: the word, and the state after it (R402). -/
def State.mspRead (s : State) (m : Master) : Word × State :=
  match s.msp.rxq with
  | [] => (0#32, s)
  | w :: rest => (w, if m = .exec then { s with msp := { s.msp with rxq := rest } } else s)

/-- A write of MSP_CTL (R402, R404, R410). -/
def State.mspCtlWrite (s : State) (m : Master) (w : Word) : State :=
  if m ≠ .exec then s.writeIgnored m R.MSP_CTL else
  let s := if bitOf w 1 then { s with msp := { s.msp with txq := [], rxq := [] } } else s
  if bitOf w 0 then
    { s with msp := if s.msp.cur.isSome then { s.msp with relReq := true } else { s.msp with sel := 15 } }
  else s

/-- MSP_CFG.EN is cleared (R410). -/
def State.mspDisable (s : State) : State := { s.setBit R.MSP_CFG 31 false with msp := {} }

/-- MSP_STAT. -/
def State.mspStat (s : State) : Word :=
  wordOfNat (s.msp.rxq.length * 65536 + s.msp.txq.length * 256 + s.msp.sel * 16 + b2n s.rxWait * 4
    + b2n (s.msp.sel ≠ 15 && s.msp.cur.isNone) * 2 + b2n s.msp.cur.isSome)

/-! ### The wear journal's registers (R395, R396) -/

/-- WJ_CFG.EN. -/
def State.wjEn (s : State) : Bool := s.bit R.WJ_CFG 31

/-- A write of WJ_ADDR: EXEC only; it starts a read of the word, but not under a write in progress. -/
def State.wjAddr (s : State) (m : Master) (w : Word) : State :=
  if m ≠ .exec then s.writeIgnored m R.WJ_ADDR else
  let s := s.set R.WJ_ADDR (w &&& 0x1FFF#32)
  match s.spool.wjOp with
  | .write _ _ => s
  | _ => if s.wjEn then { s with spool := { s.spool with wjOp := .read (fldOf w 12 0) } } else s

/-- A read completes into WJ_D0 to WJ_D7; a word that does not decode delivers no data (R25, R395). -/
def State.wjReadEnd (s : State) (e : BitError) : State :=
  match s.spool.wjOp with
  | .read word =>
    let s := { s with spool := { s.spool with wjOp := .idle } }
    let s := s.noteError .wj word e
    if s.isUe .wj word then s.darnUe .wj word
    else
      let s := if e = .single then s.darnCount .wj word else s
      let d := s.darnGet .wj word
      forAll 8 s fun s i => s.set (R.WJ_D i) (laneOf d i)
  | _ => s

/-- WJ_CTL.WRITE: ignored while BUSY (R396). -/
def State.wjCtl (s : State) (m : Master) (w : Word) : State :=
  if m ≠ .exec ∨ s.spool.wjOp ≠ .idle then s.writeIgnored m R.WJ_CTL
  else if bitOf w 0 && s.wjEn then
    let d := joinWords ((List.range 8).map fun i => s.get (R.WJ_D i))
    { s with spool := { s.spool with wjOp := .write (s.fld R.WJ_ADDR 12 0) d } }
  else s

/-- Eight fresh words as one. -/
def State.drawDarn (s : State) : DarnWord × State :=
  (joinWords ((List.range 8).map fun i => Config.freeWord (s.free + i)), { s with free := s.free + 8 })

/-- A write completes: a failed verify sets VFAIL and raises WJ_ERR, and what the word then holds the spec does not state (R396). -/
def State.wjWriteEnd (s : State) (ok : Bool) : State :=
  match s.spool.wjOp with
  | .write word d =>
    let s := (s.incSat R.WJ_WCNT 31 0)
    let (x, s) := if ok then (d, s) else s.drawDarn
    let s := s.darnPut .wj word x
    let s := { s with spool := { s.spool with wjOp := .idle, vfail := !ok } }
    if ok then s else s.raise 121 (wordOfNat word)
  | _ => s

/-- WJ_STAT. -/
def State.wjStat (s : State) : Word := wordOfNat (b2n s.spool.vfail * 4 + b2n (s.spool.wjOp ≠ .idle) * 2)

/-! ### The commands -/

/-- MSP_PUSH (R400). -/
def execMspPush (m : Master) (w : Word) (s : State) : Host.Outcome State Fault Refusal :=
  .next (s.access m R.MSP_TXC fun s => s.mspPush m w)

/-- MSP_ENTRY_START (R401). -/
def execMspEntryStart (s : State) : Host.Outcome State Fault Refusal := .next s.quiet.mspStart

/-- MSP_ENTRY_COMPLETE (R401). -/
def execMspEntryComplete (rx : Word) (s : State) : Host.Outcome State Fault Refusal := .next (s.quiet.mspEnd rx)

/-- MSP_RXD_READ (R402). -/
def execMspRxdRead (m : Master) (s : State) : Host.Outcome State Fault Refusal :=
  .next (s.accessRead m R.MSP_RXD fun s => (s.mspRead m).2.answer [(s.mspRead m).1])

/-- REL (R404). -/
def execRel (m : Master) (s : State) : Host.Outcome State Fault Refusal :=
  .next (s.access m R.MSP_CTL fun s => s.mspCtlWrite m 1#32)

/-- FLUSH (R410). -/
def execFlush (m : Master) (s : State) : Host.Outcome State Fault Refusal :=
  .next (s.access m R.MSP_CTL fun s => s.mspCtlWrite m 2#32)

/-- MSP_DISABLE (R410). -/
def execMspDisable (m : Master) (s : State) : Host.Outcome State Fault Refusal :=
  .next (s.access m R.MSP_CFG fun s => s.mspDisable.mend R.MSP_CFG)

/-- WJ_ADDR_WRITE (R395). -/
def execWjAddrWrite (m : Master) (w : Word) (s : State) : Host.Outcome State Fault Refusal :=
  .next (s.access m R.WJ_ADDR fun s => s.wjAddr m w)

/-- WJ_READ_COMPLETE (R395). -/
def execWjReadComplete (e : BitError) (s : State) : Host.Outcome State Fault Refusal := .next (s.quiet.wjReadEnd e)

/-- WJ_WRITE (R396). -/
def execWjWrite (m : Master) (w : Word) (s : State) : Host.Outcome State Fault Refusal :=
  .next (s.access m R.WJ_CTL fun s => s.wjCtl m w)

/-- WJ_WRITE_COMPLETE (R396). -/
def execWjWriteComplete (ok : Bool) (s : State) : Host.Outcome State Fault Refusal := .next (s.quiet.wjWriteEnd ok)

end Sys2Proof.Machine
end

