-- ==== Sys2Proof/Machine/Spool.lean ====
section
/-! DEFINITION. The spool as firmware and the boot ROM use it (spec/17): header, slots, settings block, logbook, and the records of the wear
journal. What the flash commands of spec/18 do to the spool's bytes is applied as a whole (log entry 61). -/

namespace Sys2Proof.Machine

/-! ### Bytes of the flash (R372) -/

/-- `n` bytes from an address of a sparse map, an unlisted byte reading 0xFF. -/
def readBytes : Nat → Nat → List (Nat × Byte) → List Byte
  | 0, _, _ => []
  | n + 1, a, l =>
    match l.dropWhile fun e => e.1 < a with
    | [] => 0xFF#8 :: readBytes n (a + 1) []
    | e :: t => if e.1 = a then e.2 :: readBytes n (a + 1) t else 0xFF#8 :: readBytes n (a + 1) (e :: t)

/-- Bytes as words, most significant byte first (R372). -/
def wordsOf : List Byte → List Word
  | a :: b :: c :: d :: t => wordOfBytes a b c d :: wordsOf t
  | _ => []

/-- `n` bytes of the spool from an address. -/
def State.flashBytes (s : State) (a n : Nat) : List Byte := readBytes n a s.spool.flash

/-- `n` words of the spool from an address. -/
def State.flashWords (s : State) (a n : Nat) : List Word := wordsOf (s.flashBytes a (4 * n))

/-- The state with bytes of the spool holding `bs` from an address on. -/
def State.flashPut (s : State) (a : Nat) (bs : List Byte) : State :=
  let es := (List.range bs.length).map fun i => (a + i, bs.getD i 0#8)
  let low := s.spool.flash.filter fun e => e.1 < a
  let high := s.spool.flash.filter fun e => a + bs.length ≤ e.1
  { s with spool := { s.spool with flash := low ++ es.filter (fun e => e.2 ≠ 0xFF#8) ++ high } }

/-- The state with an erased range of the spool. -/
def State.flashErase (s : State) (a n : Nat) : State :=
  { s with spool := { s.spool with flash := s.spool.flash.filter fun e => e.1 < a || a + n ≤ e.1 } }

/-- The state with words of the spool written from an address. -/
def State.flashPutWords (s : State) (a : Nat) (ws : List Word) : State := s.flashPut a (ws.flatMap bytesOfWord)

/-! ### The spool header (R374, R375) -/

/-- The words of header copy `c`. -/
def State.hdrWords (s : State) (c : Nat) : List Word := s.flashWords (4096 * c) 16

/-- A header copy is valid (R374). -/
def hdrValid (ws : List Word) : Bool :=
  ws.getD 0 0#32 = 0x53504C31#32 && fldOf (ws.getD 2 0#32) 31 24 = 1 && crc32Words (ws.take 15) = ws.getD 15 0#32
    && ws.getD 1 0#32 ≠ 0xFFFFFFFF#32

/-- The header copy that governs, and its words (R375). -/
def State.hdr (s : State) : Option (Nat × List Word) :=
  let h0 := s.hdrWords 0
  let h1 := s.hdrWords 1
  match hdrValid h0, hdrValid h1 with
  | true, true => if (h0.getD 1 0#32).toNat < (h1.getD 1 0#32).toNat then some (1, h1) else some (0, h0)
  | true, false => some (0, h0)
  | false, true => some (1, h1)
  | false, false => none

/-- A header write: into the copy that does not govern, with GEN one greater (R375). With no governing copy, copy 0 is written with
GEN 1 and the capacity in use. -/
def State.hdrWrite (s : State) (f : Word → Word) : State :=
  let (c, ws) := match s.hdr with
    | some (c, ws) => (1 - c, ws)
    | none => (0, [0x53504C31#32, 0#32, 0x01000000#32, s.get R.SPL_CAP &&& 0x1FFFF#32] ++ List.replicate 12 0#32)
  let body := [0x53504C31#32, ws.getD 1 0#32 + 1#32, f (ws.getD 2 0#32), ws.getD 3 0#32] ++ (ws.drop 4).take 11
  (s.flashErase (4096 * c) 4096).flashPutWords (4096 * c) (body ++ [crc32Words body])

/-! ### Firmware slots (R376) -/

/-- The base of slot A or B (R372). -/
def slotBase (slot : Nat) : Nat := if slot = 0 then 0x10000 else 0x210000

/-- The slot header. -/
def State.slotWords (s : State) (slot : Nat) : List Word := s.flashWords (slotBase slot) 16

/-- An image lies within its slot and its limits. -/
def imageFits (ofs len lim : Nat) : Bool := ofs % 256 = 0 && 256 ≤ ofs && 4 ≤ len && len ≤ lim && ofs + len ≤ 0x200000

/-- A slot is valid (R376). -/
def State.slotValid (s : State) (slot : Nat) : Bool :=
  let h := s.slotWords slot
  let w (i : Nat) : Nat := (h.getD i 0#32).toNat
  h.getD 0 0#32 = 0x48594653#32 && crc32Words (h.take 15) = h.getD 15 0#32
    && imageFits (w 2) (w 3) 524288 && w 3 % 4 = 0 && imageFits (w 5) (w 6) 131072
    && crc32 (s.flashBytes (slotBase slot + w 2) (w 3)) = h.getD 8 0#32
    && crc32 (s.flashBytes (slotBase slot + w 5) (w 6)) = h.getD 9 0#32

/-- FW_VERIFY's w1 (R376): 0 valid, 1 invalid, 2 blank. -/
def State.slotState (s : State) (slot : Nat) : Nat :=
  if (s.slotWords slot).getD 0 0#32 = 0xFFFFFFFF#32 then 2 else if s.slotValid slot then 0 else 1

/-- Bytes as 256-bit words of a memory, eight words each. -/
def darnChunks : Nat → List Word → List DarnWord
  | 0, _ => []
  | n + 1, ws => if ws = [] then [] else joinWords (ws.take 8) :: darnChunks n (ws.drop 8)

/-- An image of a slot is loaded to the start of EXEC SRAM or LINK SRAM (R376). -/
def State.loadImage (s : State) (slot : Nat) (link : Bool) : State :=
  let h := s.slotWords slot
  let w (i : Nat) : Nat := (h.getD i 0#32).toNat
  let (ofs, len, mem) := if link then (w 5, w 6, DarnMem.link) else (w 2, w 3, DarnMem.exec)
  let ds := darnChunks ((len + 31) / 32) (wordsOf (s.flashBytes (slotBase slot + ofs) ((len + 3) / 4 * 4)))
  (List.range ds.length).foldl (fun s i => s.darnPut mem i (ds.getD i 0#256)) s

/-! ### Settings blocks (R384 to R387) -/

/-- The base of the primary block and of the mirror. -/
def blockBase (mirror : Bool) : Nat := if mirror then 0x6000 else 0x2000

/-- A settings block: valid by MAGIC, FORMAT, LEN and CRC (R384, R387). -/
def State.block (s : State) (mirror : Bool) : Option (List Word) :=
  let h := s.flashWords (blockBase mirror) 4
  let len := fldOf (h.getD 2 0#32) 15 0
  if h.getD 0 0#32 = 0x53544731#32 ∧ fldOf (h.getD 2 0#32) 31 24 = 1 ∧ 8 ≤ len ∧ len ≤ 4096 then
    let ws := s.flashWords (blockBase mirror) len
    if crc32Words (ws.take (len - 1)) = ws.getD (len - 1) 0#32 then some ws else none
  else none

/-- GEN of a block, 0 when it is invalid. -/
def blockGen : Option (List Word) → Nat
  | some ws => (ws.getD 1 0#32).toNat
  | none => 0

/-- The block that applies at a chip-reset boot, and whether it is the mirror (R387). -/
def State.chosenBlock (s : State) : Option (Bool × List Word) :=
  match s.block false, s.block true with
  | some p, some q => if blockGen (some p) < blockGen (some q) then some (true, q) else some (false, p)
  | some p, none => some (false, p)
  | none, some q => some (true, q)
  | none, none => none

/-- An entry of a settings block (R385). -/
structure SetEntry where
  ofs   : Nat
  kind  : Nat
  page  : Nat
  index : Nat
  data  : List Word
  /-- Follows the table and ends before the CRC word. -/
  good  : Bool
  deriving DecidableEq, Repr

/-- A register of the safety targets (R386). -/
def safetyReg (p i : Nat) : Bool :=
  p = 0x08 || p = 0x09 || (0x10 ≤ p && p ≤ 0x17 && (i = 0 || i = 0x10 || i = 0x11)) || (0x20 ≤ p && p ≤ 0x27 && i = 0)
    || (p = 0x58 && i = 0x10)

/-- A register that an image may target (R385): its run of indices stays on the page that its entry names (DEDUCED, log entry 112). -/
def imageReg (p i : Nat) : Bool :=
  i < 0x7F && (p = 0x08 || p = 0x09 || (0x10 ≤ p && p ≤ 0x17) || (0x20 ≤ p && p ≤ 0x38) || (0x40 ≤ p && p ≤ 0x48) || p = 0x60
    || (p = 0x01 && (i = 0x04 || i = 0x07 || i = 0x08 || i = 0x0A)) || (p = 0x0A && i = 0)
    || (p = 0x58 && (i = 0 || i = 0x10 || i = 0x11)))

/-- Opcodes that kind 3 admits (R385). -/
def replayOps : List Nat := [0x07, 0x10, 0x11, 0x12, 0x13, 0x14, 0x1A, 0x30, 0x37, 0x40, 0x41, 0x45, 0x73, 0x75]

/-- Opcodes that kind 4 admits (R385, R386). -/
def safetyOps : List Nat := [0x15, 0x31, 0x32, 0x33, 0x53, 0x74]

/-- An entry follows the table of R385, and kinds 0 and 3 name no safety target (R386). -/
def entryForm (kind p i n : Nat) : Bool :=
  match kind with
  | 0 => 1 ≤ n && (List.range n).all fun j => !safetyReg p (i + j)
  | 1 => 1 ≤ n
  | 2 => n = 32
  | 3 => 1 ≤ n && n ≤ 14 && !(safetyOps.contains p)
  | 4 => 1 ≤ n && n ≤ 14
  | _ => false

/-- An entry is admitted: its registers or its opcode are among those that R385 lists for its kind. -/
def SetEntry.admitted (e : SetEntry) : Bool :=
  match e.kind with
  | 0 | 1 => (List.range e.data.length).all fun j => imageReg e.page (e.index + j)
  | 2 => true
  | 3 => replayOps.contains e.page
  | 4 => safetyOps.contains e.page
  | _ => false

/-- The entries of a block from word `ofs` on, up to its END entry; `lim` is the offset of the CRC word. A block that reaches it without
an END entry ends in a malformed one. -/
def entriesFrom (ws : List Word) (lim : Nat) : Nat → Nat → List SetEntry
  | 0, _ => []
  | n + 1, ofs =>
    let h := ws.getD ofs 0#32
    let kind := fldOf h 31 28
    let cnt := fldOf h 7 0
    if lim ≤ ofs then [{ ofs, kind := 15, page := 0, index := 0, data := [], good := false }]
    else if kind = 15 then (if cnt = 0 then [] else [{ ofs, kind, page := 0, index := 0, data := [], good := false }])
    else
      let fits := ofs + cnt < lim
      let e : SetEntry :=
        { ofs, kind, page := fldOf h 23 16, index := fldOf h 15 8, data := (ws.drop (ofs + 1)).take cnt
          good := fits && entryForm kind (fldOf h 23 16) (fldOf h 15 8) cnt }
      e :: (if fits then entriesFrom ws lim n (ofs + 1 + cnt) else [])

/-- The entries of a settings block of `len` words (R384, R385). -/
def entriesOf (ws : List Word) : List SetEntry :=
  let len := fldOf (ws.getD 2 0#32) 15 0
  entriesFrom ws (len - 1) 4096 4

/-- The safety entries of a block (R386). -/
def safetyEntries (ws : List Word) : List (Nat × Nat × Nat × List Word) :=
  ((entriesOf ws).filter fun e => e.kind = 1 || e.kind = 2 || e.kind = 4).map fun e => (e.kind, e.page, e.index, e.data)

/-! ### Which firmware runs -/

/-- The EXEC core runs firmware. -/
def State.fwRuns (s : State) : Bool := s.sys.exec = .firmware && !s.sys.chipReset && !s.sys.asleep

/-- It is the baseline firmware (R153). -/
def State.baseline (s : State) : Bool := s.bit R.SPL_BOOT 30

/-! ### The wear journal (R395) -/

/-- A word of the wear journal written by firmware or the boot ROM. -/
def State.wjPut (s : State) (word : Nat) (ws : List Word) : State := (s.darnPut .wj word (joinWords ws)).incSat R.WJ_WCNT 31 0

/-- SEQ of a word of a pair; none when it does not decode. -/
def State.wjSeq (s : State) (word : Nat) : Option Nat := if s.isUe .wj word then none else some (laneOf (s.darnGet .wj word) 7).toNat

/-- The word of the pair at `base` that a read takes: the higher SEQ among those that decode (R395). -/
def State.wjBest (s : State) (base : Nat) : Option Nat :=
  match s.wjSeq base, s.wjSeq (base + 1) with
  | some a, some b => some (if a < b then base + 1 else base)
  | some _, none => some base
  | none, some _ => some (base + 1)
  | none, none => none

/-- The lanes of the pair's governing word; zeros when neither decodes (R397). -/
def State.wjRead (s : State) (base : Nat) : List Word :=
  match s.wjBest base with
  | some w => (List.range 8).map (laneOf (s.darnGet .wj w))
  | none => List.replicate 8 0#32

/-- Both words of a pair are read: each that does not decode raises UE_WJ (R25, R397). -/
def State.wjCheck (s : State) (base : Nat) : State :=
  let s := if s.isUe .wj base then s.darnUe .wj base else s
  if s.isUe .wj (base + 1) then s.darnUe .wj (base + 1) else s

/-- A record of seven lanes written to the pair's word with the lower SEQ, which reads both (R25, R395). -/
def State.wjPair (s : State) (base : Nat) (ws : List Word) : State :=
  let s := s.wjCheck base
  if s.sys.chipReset then s else
  let seq := ((s.wjRead base).getD 7 0#32).toNat + 1
  let word := match s.wjBest base with
    | some w => if w = base then base + 1 else base
    | none => base
  s.wjPut word (ws.take 7 ++ [wordOfNat seq])

/-- The record of an axis (R395). -/
def State.wjAxis (s : State) (ax : Axis) (sleep : Bool) : State :=
  let p := lowBits 48 (s.me ax).rpos
  let s := s.wjPair (2 * ax)
    [wordOfNat (p / 65536), wordOfNat (p % 65536 * 65536 + b2n (s.me ax).homed * 256 + b2n sleep * 512),
     s.get (R.ME_CYC ax), s.get (R.ME_CYC ax + 1), s.get (R.ME_TRAV ax), s.get (R.ME_TRAV ax + 1), s.get (R.ME_OBSTOT ax)]
  { s with fw := { s.fw with wjLast := vset s.fw.wjLast ax (some s.sys.time) } }

/-- The records of all axes: at SLEEP entry, at VSUP_WARN and before FW_SWITCH (R380, R395). The baseline firmware saves none (R154). -/
def State.wjAxes (s : State) (sleep : Bool) : State :=
  if s.baseline then s else forAll 8 s fun s ax => s.wjAxis ax sleep

/-! ### The logbook (R391 to R394) -/

/-- Logbook pages in use. -/
def State.logPages (s : State) : Nat := (s.get R.SPL_LOGPAGES).toNat

/-- Index of the next record to be assigned, and the tail. -/
def State.logHead (s : State) : Nat := s.wideU R.SPL_LOGHEAD
/-- The oldest record index held. -/
def State.logTail (s : State) : Nat := s.wideU R.SPL_LOGTAIL

/-- Byte `i` of a natural number of `n` bytes, most significant first. -/
def bytesBE (n x : Nat) : List Byte := (List.range n).map fun i => BitVec.ofNat 8 (x / 256 ^ (n - 1 - i))

/-- A record of 34 bytes: body and trailer with its darning check bits (R391). -/
def recBytes (r : List Word × Nat) : List Byte :=
  let body := (r.1 ++ List.replicate 8 0#32).take 8
  body.flatMap bytesOfWord ++ bytesBE 2 ((Config.darnBits (joinWords body)).toNat * 64 + r.2)

/-- A page of 256 bytes (R391): `n` records other than fillers. -/
def pageBytes (seq n : Nat) (rs : List (List Word × Nat)) : List Byte :=
  let head := bytesBE 8 seq ++ bytesBE 1 n ++ [1#8] ++ List.replicate 4 0#8
  let recs := rs.flatMap recBytes
  head ++ bytesOfWord (crc32 (head ++ recs)) ++ recs

/-- The head and tail in the wear journal (R392, R395). -/
def State.wjLog (s : State) : State :=
  s.wjPair 16 [s.get R.SPL_LOGHEAD, s.get (R.SPL_LOGHEAD + 1), s.get R.SPL_LOGTAIL, s.get (R.SPL_LOGTAIL + 1), 0#32, 0#32, 0#32]

/-- Firmware programs the records it has gathered as one page, filled with filler records (R392, R393). -/
def State.logFlush (s : State) : State :=
  let g := s.spool.gathered
  let p := s.logPages
  if g = [] || s.baseline then s
  else if p = 0 then { s with spool := { s.spool with gathered := [] } }
  else
    let first := s.logHead - g.length
    let seq := first / 7
    let addr := 0x410000 + 256 * (seq % p)
    let erase := seq % p % 16 = 0
    let s := if erase then s.flashErase addr 4096 else s
    let s := if erase ∧ p ≤ seq + 16 then s.setWide R.SPL_LOGTAIL ((max s.logTail ((seq + 16 - p) * 7) : Nat) : Int) else s
    let s := s.flashPut addr (pageBytes seq g.length (g ++ List.replicate (7 - g.length) ([], 0)))
    let s := (s.setWide R.SPL_LOGHEAD ((seq + 1) * 7 : Nat))
    let s := { s with spool := { s.spool with gathered := [] } }
    if erase || g.length < 7 then s.wjLog else s

/-- A record joins those gathered in retained SRAM, and a page is programmed when seven are held (R393). Its index is the head. -/
def State.logAdd (s : State) (type : Nat) (body : List Word) : State :=
  if s.baseline then s else
  let s := { s with spool := { s.spool with gathered := s.spool.gathered ++ [((body ++ List.replicate 8 0#32).take 8, type)] } }
  let s := s.setWide R.SPL_LOGHEAD (s.logHead + 1 : Nat)
  if 7 ≤ s.spool.gathered.length then s.logFlush else s

/-- A record of the logbook with the SYS_TIME of its event before the words of R394. -/
def State.logEvent (s : State) (type : Nat) (t : Nat) (body : List Word) : State :=
  s.logAdd type ([hiWord t, loWord t] ++ body)

/-- A word whose stored check bits say it holds one wrong bit is corrected; none when two bits are wrong (R24, R391). -/
def darnFix (d : DarnWord) (chk : BitVec 10) : Option DarnWord :=
  let flip (i : Nat) : DarnWord := d ^^^ BitVec.ofNat 256 (1 <<< i)
  if Config.darnBits d = chk then some d
  else match (List.range 256).find? fun i => Config.darnBits (flip i) = chk with
    | some i => some (flip i)
    | none => if (List.range 10).any fun i => Config.darnBits d = chk ^^^ BitVec.ofNat 10 (1 <<< i) then some d else none

/-- A record of the logbook as LOG_READ returns it: type, uncorrectable, body (R391, R393). -/
def State.logRead (s : State) (idx : Nat) : Nat × Bool × List Word :=
  let start := s.logHead - s.spool.gathered.length
  if start ≤ idx then
    let r := s.spool.gathered.getD (idx - start) ([], 0)
    (r.2, false, (r.1 ++ List.replicate 8 0#32).take 8)
  else
    let page := s.flashBytes (0x410000 + 256 * (idx / 7 % max 1 s.logPages)) 256
    let rec_ := (page.drop (18 + 34 * (idx % 7))).take 34
    let body := wordsOf (rec_.take 32)
    let tr := (rec_.getD 32 0#8).toNat * 256 + (rec_.getD 33 0#8).toNat
    if crc32 (page.take 14 ++ page.drop 18) = (wordsOf ((page.drop 14).take 4)).getD 0 0#32 then (tr % 64, false, body)
    else match darnFix (joinWords body) (BitVec.ofNat 10 (tr / 64)) with
      | some d => (tr % 64, false, (List.range 8).map (laneOf d))
      | none => (tr % 64, true, body)

/-- LOG_FLUSH_TIMEOUT (R393): the oldest record has waited 60 s. -/
def execLogFlushTimeout (s : State) : Host.Outcome State Fault Refusal :=
  .next (if s.fwRuns then s.quiet.logFlush else s.quiet)

end Sys2Proof.Machine
end

