-- ==== Sys2Proof/Machine/FwEvents.lean ====
section
/-! DEFINITION. What firmware sends: responses and event messages on its outbound channels (R129, R132 to R136, R147, R150, R151), and what it
notices at a motion tick and among the fault records. -/

namespace Sys2Proof.Machine

/-- The outbound channel of a destination: 0 HOST, 1 the link, 2 MAINT (R136). -/
def outChan (d : Fin 3) : Nat := 2 * d.val + 1

/-- A message of fifteen words with its CRC-32 (R133, R134). -/
def fullMsg (ws : List Word) : List Word :=
  let m := (ws ++ List.replicate 15 0#32).take 15
  m ++ [crc32Words m]

/-- Firmware posts a message on a channel (R115, R134). -/
def State.post (s : State) (n : Nat) (ws : List Word) : State :=
  let m := fullMsg ws
  ((List.range 16).foldl (fun s k => s.msgWrite .exec n k (m.getD k 0#32)) s).goWrite .exec n 1#32

/-- The frame that carries a message over the link. -/
def State.replyFrame (s : State) (r : Reply) : TxFrame :=
  { cls := r.cls, kind := r.kind, dest := r.dest, src := s.linkAddr, pres := s.isManager && s.presence, txn := r.txn
    payload := r.words.take (hdrNarg (r.words.getD 0 0#32) + 1) }

/-- The LINK core takes what waits for it on BCH3, and its frames leave (R127, R136). -/
def State.linkTakes (s : State) : State :=
  if !s.sys.linkRun then s else
  let s := (vget s.fw.outq 1).foldl (fun s r =>
    let s := if s.bFull 3 then s else s.post 3 r.words
    (s.takeEffect .link 3).sendFrame (s.replyFrame r)) s
  { s with fw := { s.fw with outq := vset s.fw.outq 1 [] } }

/-- Replies that wait for a channel leave once it has room (R129); those of the link wait on BCH3 for the LINK core. -/
def State.drainOut (s : State) (d : Fin 3) : State :=
  if d = 1 then
    match vget s.fw.outq 1 with
    | [] => s
    | r :: _ => if s.sys.linkRun then s.linkTakes else if s.bFull 3 then s else s.post 3 r.words
  else
    match vget s.fw.outq d with
    | [] => s
    | r :: rest => if s.bFull (outChan d) then s else { s with fw := { s.fw with outq := vset s.fw.outq d rest } }.post (outChan d) r.words

/-- Firmware answers: the reply waits behind those before it, and leaves when its channel has room. -/
def State.reply (s : State) (d : Fin 3) (r : Reply) : State :=
  { s with fw := { s.fw with outq := vset s.fw.outq d (vget s.fw.outq d ++ [r]) } }.drainOut d

/-- The responses owed at the head of a list that are ready, and the rest. -/
def readyOwed : List Owed → List Reply × List Owed
  | .done m :: rest => let (ms, r) := readyOwed rest; (m :: ms, r)
  | l => ([], l)

/-- The responses that a channel owes leave in order, up to the first that is still relayed (R147). -/
def State.payOwed (s : State) (d : Fin 3) : State :=
  let (ms, rest) := readyOwed (vget s.fw.owed d)
  ms.foldl (fun s m => s.reply d m) { s with fw := { s.fw with owed := vset s.fw.owed d rest } }

/-- Firmware has the response to a request of channel `d` (R147): it waits behind the relayed requests taken before it; the response to a
class-0 request overtakes. -/
def State.owe (s : State) (d : Fin 3) (cls0 : Bool) (m : Reply) : State :=
  if cls0 || vget s.fw.owed d = [] then s.reply d m
  else { s with fw := { s.fw with owed := vset s.fw.owed d (vget s.fw.owed d ++ [.done m]) } }

/-- The response to the relayed request of transaction `n` has come. -/
def State.oweTxn (s : State) (d : Fin 3) (n : Nat) (cls0 : Bool) (m : Reply) : State :=
  let l := vget s.fw.owed d
  if cls0 || !l.contains (Owed.relayed n) then
    ({ s with fw := { s.fw with owed := vset s.fw.owed d (l.filter (· ≠ Owed.relayed n)) } }.reply d m).payOwed d
  else { s with fw := { s.fw with owed := vset s.fw.owed d (l.map fun o => if o = Owed.relayed n then .done m else o) } }.payOwed d

/-- Firmware posts what its channels have room for. -/
def State.fwSettle (s : State) : State := if s.fwRuns then forAll 3 s fun s d => s.drainOut d else s

/-! ### Events (R150, R151) -/

/-- Event codes (R150). -/
inductive EvCode where
  | longEnd | obstacle | stall | fault | doorEnd | joined | left | lost
  deriving DecidableEq, Repr

/-- The number of an event code. -/
def EvCode.num : EvCode → Nat
  | .longEnd => 1 | .obstacle => 2 | .stall => 3 | .fault => 4 | .doorEnd => 5 | .joined => 6 | .left => 7 | .lost => 8

/-- The words of an event message. -/
def State.evMsg (s : State) (code : EvCode) (result subj obj t : Nat) (data : List Word) : List Word :=
  [wordOfNat (0x0E * 2 ^ 24 + result * 65536 + (4 + data.length) * 128),
   wordOfNat (code.num + subj * 256 + s.linkAddr.toNat * 65536), wordOfNat obj, hiWord t, loWord t] ++ data

/-- An event for a destination is queued, or lost when 32 wait (R151). -/
def State.queueEv (s : State) (d : Fin 3) (m : List Word) : State :=
  if (vget s.fw.events d).length < 32 then { s with fw := { s.fw with events := vset s.fw.events d (vget s.fw.events d ++ [m]) } }
  else { s with fw := { s.fw with lost := vset s.fw.lost d (vget s.fw.lost d + 1) } }

/-- A destination wants an event code: its mask enables it, and the manager is a destination for an addressed worker only. -/
def State.wants (s : State) (d : Fin 3) (code : EvCode) : Bool :=
  bitOf (vget s.fw.masks d) code.num && (d ≠ 1 || (s.isWorker && s.addressed))

/-- An event arises at this device. -/
def State.event (s : State) (code : EvCode) (result subj obj t : Nat) (data : List Word) : State :=
  if !s.fwRuns then s else
  let m := s.evMsg code result subj obj t data
  forAll 3 s fun s d => if s.wants d code then s.queueEv d m else s

/-- The oldest event of a destination is posted once its channel has room; the count of lost events follows when there is room for it and the
mask enables code 8 (R150, R151). -/
def State.postEvent (s : State) (d : Fin 3) : State :=
  let s := s.drainOut d
  if s.bFull (outChan d) || vget s.fw.outq d ≠ [] then s else
  match vget s.fw.events d with
  | [] => s
  | m :: rest =>
    let s := { s with fw := { s.fw with events := vset s.fw.events d rest } }
    let n := vget s.fw.lost d
    let s := if n = 0 || !s.wants d .lost then s else
      { s with fw := { s.fw with lost := vset s.fw.lost d 0 } }.queueEv d (s.evMsg .lost 0 0 0 s.sys.time [wordOfNat n])
    s.reply d { words := m, kind := 2 }

/-- The operation of an axis's drives ends: what they changed is still to be put back. -/
def DrivePlan.ends (p : DrivePlan) : Option DrivePlan := if p.steps = [] then none else some { p with steps := [.restore], ticks := 0 }

/-- The drives of an axis have run to their end, or the axis has none. -/
def State.planDone (s : State) (ax : Axis) : Bool := ((vget s.fw.plan ax).map fun p => p.steps.isEmpty).getD true

/-- The long operation of an axis runs: its drives have not run to their end (R209, R229), its self-test runs (R271), or its home context has
not ended (R437). -/
def State.axisRuns (s : State) (ax : Axis) (o : LongOp) : Bool :=
  let c := (o.args.getD 0 0#32).toNat
  !s.planDone ax || (o.op = 0x81 && s.bit (R.GD_STAT ax) 19)
    || (o.op = 0x28 && ((s.me ax).active.any (fun d => d.val = c) || (s.me ax).queue.any fun d => d.val = c))

/-- The device-wide long operation runs: its calibration has not ended (R291), or the enumeration has not (R359). -/
def State.devRuns (s : State) (o : LongOp) : Bool :=
  let c := vget s.pc ⟨(o.args.getD 0 0#32).toNat % 4, by omega⟩
  (o.op = 0x43 && (c.calPend.isSome || c.calRun.isSome)) || (o.op = 0x71 && s.lnk.todo ≠ [])

/-- A long operation ends with its event (R149, R150), and its drives with it; a self-test of drivers that were not enabled disables them
again (R271). -/
def State.endLong (s : State) (slot : LongSlot) (result : Nat) (data : List Word) : State :=
  match slot with
  | .axis ax => match vget s.fw.long ax with
    | some o =>
      let s := if o.op = 0x81 ∧ o.args.getD 1 1#32 = 0#32 then (s.gdDisable ax).mend (R.GD_CFG ax) else s
      let plan := (vget s.fw.plan ax).bind DrivePlan.ends
      { s with fw := { s.fw with long := vset s.fw.long ax none, plan := vset s.fw.plan ax plan } }.event .longEnd result o.op ax s.sys.time data
    | none => s
  | .device => match s.fw.longDev with
    | some o => { s with fw := { s.fw with longDev := none } }.event .longEnd result o.op 0x7FF s.sys.time data
    | none => s

/-- A HALT or SAFE_STOP ends the long operations of the axes it meets with RESULT STATE (R149). -/
def State.haltLong (s : State) (axes : Nat) : State :=
  if s.fwRuns then forAll 8 s fun s ax => if axes.testBit ax then s.endLong (.axis ax) 9 [] else s else s

/-! ### What firmware notices -/

/-- SYS_TIME of a record (FC_RTIME). -/
def State.fcTime (s : State) (src : Nat) : Nat := (s.fcRec src).time

/-- Firmware takes every pending record into an event of code 4 and the logbook, and acknowledges it (R342, R394). -/
def State.fwFaults (s : State) : State :=
  if !s.fwRuns then s else
  (List.range 128).foldl (fun s src =>
    let r := s.fcRec src
    if r.pend then
      let s := s.event .fault 0 0 0 r.time [wordOfNat src]
      let s := s.logEvent 4 r.time [wordOfNat src, s.fcRecWord src, r.detail]
      let s := if src = 31 then s.logEvent 9 r.time [s.safStat] else s
      s.fcAckOne src
    else s) s

/-- What one axis did in a tick, against its state before the tick: obstacles and stalls by ME_EVCNT, a door cycle, and a door that came to
its commanded end (R150, R179, R394, R395). -/
def State.fwAxis (s old : State) (ax : Axis) : State :=
  let o := old.me ax
  let m := s.me ax
  let now := s.sys.time
  let rec_ : List Word := [wordOfNat ax, loWord m.rpos, s.get (R.ME_FORCE ax)]
  let hit (hi lo : Nat) : Bool := s.fld (R.ME_EVCNT ax) hi lo ≠ old.fld (R.ME_EVCNT ax) hi lo
  let s := if hit 23 16 then (s.event .obstacle 0 0 ax now []).logEvent 2 now rec_ else s
  let s := if hit 31 24 then (s.event .stall 0 0 ax now []).logEvent 3 now rec_ else s
  let ended := o.active.isSome && hit 7 0
  let s := match o.active with
    | some c =>
      if ended && o.prm.cycle then
        let s := s.logEvent 1 now
          [wordOfNat (s.linkAddr.toNat * 65536 + ax * 256), wordOfNat ((now - o.actAt) / 1000), s.ctxW c 40, s.ctxW c 41,
           wordOfNat (fldOf (s.ctxW c 32) 27 24)]
        let old := match vget s.fw.wjLast ax with
          | some t => now < t + 1000000000
          | none => false
        if old || s.baseline then s else s.wjAxis ax false
      else s
    | none => s
  let atEnd := m.rpos = s.wide (R.ME_OPEN ax) || m.rpos = s.wide (R.ME_CLOSED ax)
  let goalEnd := o.engaged && o.active.isNone && !m.engaged && o.goal = some m.rpos
  if vget s.roles ax = .door && m.vel = 0 && m.acc = 0 && atEnd && (ended || goalEnd) then s.event .doorEnd 0 0 ax now [] else s

/-- What firmware notices of a tick. -/
def State.fwTick (s old : State) : State := if s.fwRuns then forAll 8 s fun s ax => s.fwAxis old ax else s

end Sys2Proof.Machine
end

