-- ==== Sys2Proof/Machine/Link.lean ====
section
/-! DEFINITION. The link protocol engine and the LINK core (spec/16): enumeration, membership, transactions, hem-back and time
synchronisation. -/

namespace Sys2Proof.Machine

/-! ### Frames of KIND 4 to 6 (R350, R359) -/

/-- KDATA of an enumeration frame: subtype, position and round. -/
def enumData (sub k r : Nat) : Nat := sub * 1048576 + k % 1024 * 1024 + r % 256

/-- A frame of KIND 4 with a subtype. -/
def State.enumFrame (s : State) (dest : LinkAddr) (kdata : Nat) (payload : List Word) : TxFrame :=
  { cls := 1, kind := 4, dest, src := s.linkAddr, pres := s.isManager && s.presence, kdata, payload }

/-- A notice: 0 ALIVE, 1 BREAK, 2 REPAIR, with its port (R350). -/
def State.notice (s : State) (code port : Nat) : TxFrame :=
  { cls := 1, kind := 6, dest := 0#11, src := s.linkAddr, kdata := code + port * 16 }

/-- JOIN (R350). -/
def State.joinFrame (s : State) : TxFrame := { cls := 1, kind := 5, dest := 0#11, src := s.linkAddr }

/-- The round number r (LNK_STAT.ROUND). -/
def State.round (s : State) : Nat := s.fld R.LNK_STAT 23 16

/-! ### Link delay (R361) -/

/-- A delay request leaves a port. -/
def State.sendDreq (s : State) (p : LinkPort) : State := s.transmit p true false (s.enumFrame 0x7FF#11 (enumData 3 0 0) [])

/-- The measurement of a port starts, when it has not been made since the port came UP. -/
def State.measure (s : State) (p : LinkPort) : State :=
  if (s.lp p).measured || (s.lp p).busy then s
  else (s.onLp p fun l => { l with busy := true, exch := 0, sum := 0 }).sendDreq p

/-- ENUMRSP leaves the arrival port (R359, step 4). -/
def State.sendRsp (s : State) (p : LinkPort) (k r : Nat) : State :=
  let other := s.portUp (otherPort p)
  let w0 := wordOfNat (s.linkAddr.toNat + b2n other * 65536)
  s.transmit p true false (s.enumFrame 0#11 (enumData 1 k r) [w0, s.get (R.LNK_DLY p)])

/-- A quotient of a sum over the exchanges, rounded down or up: the spec does not say which. -/
def State.meanOf (s : State) (x : Int) (n : Nat) : Int × State :=
  if x % n = 0 then (x / n, s) else
  let (b, s) := s.drawBit
  (x / n + (if b then 1 else 0), s)

/-- A DRSP arrives: after 64 exchanges the link delay is the mean of (round trip − residence) / 2, and the ENUMRSP that waited leaves. -/
def State.drsp (s : State) (p : LinkPort) (trip res : Nat) : State :=
  if !(s.lp p).busy || !s.hears p then s else
  let s := s.onLp p fun l => { l with exch := l.exch + 1, sum := l.sum + ((trip : Int) - res) }
  if (s.lp p).exch < 64 then s.sendDreq p
  else
    let (d, s) := s.meanOf (s.lp p).sum 128
    let s := s.set (R.LNK_DLY p) (wordOfNat (lowBits 20 d))
    let a := (s.lp p).answer
    let s := s.onLp p fun l => { l with busy := false, measured := true, answer := none }
    match a with
    | some (k, r) => s.sendRsp p k r
    | none => s

/-- A delay request of the neighbour is answered with the residence (R359, R361); neither frame is forwarded. -/
def State.dreq (s : State) (p : LinkPort) (res : Nat) : State :=
  if !s.hears p then s else s.transmit p true false (s.enumFrame 0x7FF#11 (enumData 4 0 0) [wordOfNat res])

/-! ### Transactions (R144, R145) -/

/-- The transactions change; LNK_TXN counts those the LINK core of a manager holds. -/
def State.setTxns (s : State) (ts : List Txn) : State :=
  let s := { s with lnk := { s.lnk with txns := ts } }
  if s.isManager then s.set R.LNK_TXN (wordOfNat (ts.filter fun t => !t.dead).length) else s

/-- The header of a response to a request (R132). -/
def rspHdr (req : Word) (result narg : Nat) : Word :=
  wordOfNat (fldOf req 31 24 * 16777216 + result * 65536 + narg * 128 + fldOf req 6 0)

/-- A request channel by number: 0 HOST, 1 the link, 2 MAINT. -/
def reqIx (n : Nat) : Fin 3 := ⟨n % 3, by omega⟩

/-- A transaction ends: its requester receives the answer in its turn, when firmware runs to post it (R147). -/
def State.endTxn (s : State) (t : Txn) (result : Nat) (ws : List Word) : State :=
  let s := s.setTxns (s.lnk.txns.filter fun u => u.num ≠ t.num)
  if s.fwRuns then s.oweTxn (reqIx t.ch) t.num (hdrClass t.hdr = 0) { words := rspHdr t.hdr result ws.length :: ws } else s

/-- The answer to a group or broadcast request (R145). -/
def groupAnswer (t : Txn) (group : List LinkAddr) : Nat × List Word :=
  let ok := (t.got.filter fun e => e.2 = 0).length
  let bad := group.filter fun a => !(t.got.any fun e => e.1 = a && e.2 = 0)
  match bad with
  | [] => (0, [wordOfNat ok, 0#32, 0x7FF#32])
  | b :: bs =>
    let low := bs.foldl (fun m a => if a.toNat < m.toNat then a else m) b
    let result := match t.got.find? fun e => e.1 = low with
      | some e => e.2
      | none => if t.left.contains low then 6 else 10
    (result, [wordOfNat ok, wordOfNat bad.length, wordOfNat low.toNat])

/-- A group transaction whose workers have all answered or departed ends. -/
def State.tryGroup (s : State) (t : Txn) : State :=
  match t.group with
  | none => s
  | some g =>
    if g.all fun a => (t.got.any fun e => e.1 = a) || t.left.contains a then
      let (r, ws) := groupAnswer t g
      s.endTxn t r ws
    else s

/-- A transaction is replaced by a later view of itself. -/
def State.putTxn (s : State) (t : Txn) : State := s.setTxns (s.lnk.txns.map fun u => if u.num = t.num then t else u)

/-- RELAY_TIMEOUT (R144, R145). -/
def State.relayTimeout (s : State) (num : Nat) : State :=
  match s.lnk.txns.find? fun t => t.num = num with
  | none => s
  | some t => match t.group with
    | none => s.endTxn t 10 []
    | some g =>
      let (r, ws) := groupAnswer t g
      s.endTxn t r ws

/-- A response arrives at a manager (R144, R145): one for no open transaction is discarded. -/
def State.gotResponse (s : State) (src : LinkAddr) (num : Nat) (payload : List Word) : State :=
  match s.lnk.txns.find? fun t => t.num = num && !t.dead with
  | none => s
  | some t =>
    let result := fldOf (payload.getD 0 0#32) 23 16
    match t.group with
    | none => if t.dest = src then s.endTxn t result (payload.drop 1) else s
    | some g =>
      if g.contains src && !(t.got.any fun e => e.1 = src) then
        let t := { t with got := t.got ++ [(src, result)] }
        (s.putTxn t).tryGroup t
      else s

/-- A response arrives at a worker: it answers its oldest request with this OPCODE and TAG. -/
def State.gotAnswer (s : State) (payload : List Word) : State :=
  let h := payload.getD 0 0#32
  match s.lnk.txns.find? fun t => !t.dead && fldOf t.hdr 31 24 = fldOf h 31 24 && fldOf t.hdr 6 0 = fldOf h 6 0 with
  | some t => s.endTxn t (fldOf h 23 16) (payload.drop 1)
  | none => s

/-- A worker departs (R364, R366): event 7, its address reserved, its transactions ended or counted. -/
def State.depart (s : State) (a : LinkAddr) : State :=
  match s.worker a with
  | none => s
  | some _ =>
    let s := { s with lnk := { s.lnk with table := s.lnk.table.filter fun w => w.addr ≠ a, reserved := s.lnk.reserved ++ [a] } }
    let s := s.setFld R.LNK_WCNT 10 0 s.lnk.table.length
    let s := (s.event .left 0 0 a.toNat s.sys.time []).logEvent 0x10 s.sys.time [wordOfNat a.toNat, 7#32]
    let s := { s with fw := { s.fw with departed := if s.fwRuns then s.fw.departed ++ [a] else s.fw.departed } }
    s.lnk.txns.foldl (fun s t =>
      if t.dead then s else
      match t.group with
      | none => if t.dest = a then s.endTxn t 6 [] else s
      | some g =>
        if g.contains a && !(t.got.any fun e => e.1 = a) then
          let t := { t with left := t.left ++ [a] }
          (s.putTxn t).tryGroup t
        else s) s

/-! ### Enumeration at the manager (R359, R360, R363) -/

/-- The lowest address that is neither in use nor reserved (R360). -/
def State.freeAddr (s : State) : LinkAddr :=
  BitVec.ofNat 11 ((((List.range 1025).drop 1).find? fun n =>
    !(s.lnk.table.any fun w => w.addr.toNat = n) && !(s.lnk.reserved.any fun a => a.toNat = n)).getD 0x7FF)

/-- ENUM leaves the port being enumerated. -/
def State.sendEnum (s : State) (p : LinkPort) : State :=
  s.transmit p true false (s.enumFrame 0x7FF#11 (enumData 0 s.lnk.k s.round) [])

/-- ASSIGN for the worker at position k (R359, steps 5 and 7). -/
def State.sendAssign (s : State) (p : LinkPort) (w : WorkerRec) (up : Nat) : State :=
  s.transmit p true false
    (s.enumFrame 0x7FF#11 (enumData 2 w.k s.round + up * 256) [wordOfNat (w.addr.toNat + w.pos * 65536)])

/-- REFUSE for the worker at position k (R363). -/
def State.sendRefuse (s : State) (p : LinkPort) (k : Nat) : State :=
  let f := s.enumFrame 0x7FF#11 (enumData 1 k s.round) []
  { s with lnk := { s.lnk with refused := s.lnk.refused + 1 } }.transmit p true false { f with kind := 5 }

/-- A GROUP frame to a worker (R359, step 8). -/
def State.sendGroup (s : State) (g : Nat) (a : LinkAddr) (join : Bool) : State :=
  s.sendDown (s.enumFrame a (enumData 5 0 0) [wordOfNat (g + b2n join * 256)])

/-- All ports are done (R359, step 8). -/
def State.endEnum (s : State) : State :=
  let news := s.lnk.fresh
  let n := s.lnk.table.length
  let s := s.set R.LNK_WCNT (wordOfNat (s.lnk.refused * 65536 + n))
  let s := s.setBit R.LNK_STAT 5 (s.lnk.loops ≠ [])
  let s := { s with lnk := { s.lnk with todo := [], fresh := [], table := s.lnk.table.map fun (w : WorkerRec) => { w with stale := false } } }
  let s := s.lnk.groups.foldl (fun s e => s.sendGroup e.1 e.2 true) s
  let s := match s.fw.longDev with
    | some o => if o.op = 0x71 then s.endLong .device 0 [wordOfNat n] else s
    | none => s
  news.foldl (fun s a =>
    let s := (s.event .joined 0 0 a.toNat s.sys.time []).logEvent 0x10 s.sys.time [wordOfNat a.toNat, 6#32]
    { s with fw := { s.fw with departed := s.fw.departed.filter (· ≠ a) } }) s

/-- The next port in ascending order starts at k = 1; one that is not UP leads nothing. -/
def State.nextPort (s : State) : List Nat → State
  | [] => s.endEnum
  | n :: rest =>
    let p : LinkPort := ⟨n % 4, by omega⟩
    if s.portUp p then (({ s with lnk := { s.lnk with todo := n :: rest, k := 1 } }).measure p).sendEnum p
    else s.nextPort rest

/-- An enumeration of some ports starts (R359, step 1), or they join the one in progress. -/
def State.startEnum (s : State) (ports : List Nat) : State :=
  if !s.sys.linkRun || !s.isManager then s
  else if s.lnk.todo ≠ [] then { s with lnk := { s.lnk with todo := s.lnk.todo ++ ports.filter fun p => !s.lnk.todo.contains p } }
  else
    let s := s.setFld R.LNK_STAT 23 16 (s.round + 1)
    let s := ports.foldl (fun s p => s.setBit (R.LNK_PORT p) 3 false) s
    let inIt (p : Nat) : Bool := ports.contains p
    let s := { s with lnk := { s.lnk with
      refused := 0, fresh := []
      table := s.lnk.table.map fun (w : WorkerRec) => { w with stale := w.stale || inIt w.entry }
      loops := s.lnk.loops.filter fun l => !(inIt l.1 || inIt l.2.1)
      breaks := s.lnk.breaks.filter fun b => !(inIt b.1) } }
    s.nextPort ports

/-- The worker that answered at position k is recorded, its address set, and the next position offered (R359, step 5; R360; R363). -/
def State.enumrsp (s : State) (p : LinkPort) (k r : Nat) (addr : LinkAddr) : State :=
  if !s.sys.linkRun || !s.isManager || s.lnk.todo.head? ≠ some p.val || k ≠ s.lnk.k || r ≠ s.round then s else
  let held := s.lnk.table.find? fun w => w.addr = addr
  let mine := isWorkerAddr addr && (match held with | some w => w.stale | none => true)
  let known := held.isSome && mine
  let s :=
    if (!known && 1024 ≤ s.lnk.table.length) || 512 < k then s.sendRefuse p k
    else
      let a := if mine then addr else s.freeAddr
      let w : WorkerRec := { addr := a, entry := p, k, port := p, pos := k, alive := s.sys.cyc }
      let s := { s with lnk := { s.lnk with
        table := (s.lnk.table.filter fun (x : WorkerRec) => x.addr ≠ a) ++ [w]
        reserved := s.lnk.reserved.filter (· ≠ a)
        fresh := if known then s.lnk.fresh else s.lnk.fresh ++ [a] } }
      s.sendAssign p w 0
  ({ s with lnk := { s.lnk with k := k + 1 } }).sendEnum p

/-- No ENUMRSP within 1 ms (R359, step 6a): the port leads a chain; workers beyond position 256 are refused (R363). -/
def State.enumTimeout (s : State) : State :=
  match s.lnk.todo with
  | [] => s
  | n :: rest =>
    let p : LinkPort := ⟨n % 4, by omega⟩
    let far := s.lnk.table.filter fun w => w.entry = n && !w.stale && 256 < w.k
    let s := far.foldl (fun s w => s.sendRefuse p w.k) s
    let s := { s with lnk := { s.lnk with
      table := s.lnk.table.filter fun w => !(far.contains w), fresh := s.lnk.fresh.filter fun a => !(far.any fun w => w.addr = a) } }
    s.nextPort rest

/-- The path of a worker of a loop of N between two ports, given the broken segments: segment b lies between positions b and b + 1. None
when it is unreachable (R364, R368). -/
def loopPath (p q n : Nat) (broken : List Nat) (k : Nat) : Option (Nat × Nat) :=
  match broken with
  | [] => some (if n + 1 - k < k then (q, n + 1 - k) else (p, k))
  | b :: bs =>
    let lo := bs.foldl min b
    let hi := bs.foldl max b
    if k ≤ lo then some (p, k) else if hi < k then some (q, n + 1 - k) else none

/-- The manager's own ENUM arrives at another of its ports (R359, steps 6b and 7). -/
def State.enumReturn (s : State) (q : LinkPort) : State :=
  match s.lnk.todo with
  | [] => s
  | m :: rest =>
    if m = q.val || !s.isManager then s else
    let p : LinkPort := ⟨m % 4, by omega⟩
    let n := s.lnk.k - 1
    let move (w : WorkerRec) : WorkerRec :=
      if w.entry = m && !w.stale then
        match loopPath m q n [] w.k with
        | some (pt, pos) => { w with port := pt, pos }
        | none => w
      else w
    let s := { s with lnk := { s.lnk with table := s.lnk.table.map move, loops := s.lnk.loops ++ [(m, q.val, n)] } }
    let s := (s.setBit (R.LNK_PORT p) 3 true).setBit (R.LNK_PORT q) 3 true
    let s := (s.lnk.table.filter fun w => w.entry = m && !w.stale && n + 1 - w.k < w.k).foldl (fun s w => s.sendAssign p w 1) s
    s.nextPort (rest.filter (· ≠ q.val))

/-- A JOIN arrives at the manager: it enumerates that port, or both ports of a loop (R362). -/
def State.joined (s : State) (p : LinkPort) : State :=
  s.startEnum (match s.lnk.loops.find? fun l => l.1 = p.val || l.2.1 = p.val with
    | some l => if l.1 < l.2.1 then [l.1, l.2.1] else [l.2.1, l.1]
    | none => [p.val])

/-- The paths of a loop follow its broken segments (R368). -/
def State.reroute (s : State) (l : Nat × Nat × Nat) : State :=
  let (p, q, n) := l
  let broken := (s.lnk.breaks.filter fun b => b.1 = p).map (·.2)
  let gone := s.lnk.table.filter fun w => w.entry = p && (loopPath p q n broken w.k).isNone
  let s := { s with lnk := { s.lnk with table := s.lnk.table.map fun w =>
    if w.entry = p then (match loopPath p q n broken w.k with
      | some (pt, pos) => { w with port := pt, pos }
      | none => w) else w } }
  gone.foldl (fun s w => s.depart w.addr) s

/-- The segment that a worker's BREAK or REPAIR names: before it for port 0, after it for port 1. -/
def segOf (w : WorkerRec) (port : Nat) : Nat := if port = 0 then w.k - 1 else w.k

/-- The manager acts on a BREAK notice (R364, R368). -/
def State.broken (s : State) (src : LinkAddr) (port : Nat) : State :=
  match s.worker src with
  | none => s
  | some w => match s.lnk.loops.find? fun l => l.1 = w.entry with
    | some l =>
      let b := (l.1, segOf w port)
      let s := if s.lnk.breaks.contains b then s else { s with lnk := { s.lnk with breaks := s.lnk.breaks ++ [b] } }
      s.reroute l
    | none =>
      if port = 0 then s
      else (s.lnk.table.filter fun x => x.entry = w.entry && w.k < x.k).foldl (fun s x => s.depart x.addr) s

/-- The manager acts on a REPAIR notice (R368). -/
def State.repaired (s : State) (src : LinkAddr) (port : Nat) : State :=
  match s.worker src with
  | none => s
  | some w => match s.lnk.loops.find? fun l => l.1 = w.entry with
    | some l => { s with lnk := { s.lnk with breaks := s.lnk.breaks.filter (· ≠ (l.1, segOf w port)) } }.reroute l
    | none => s

/-! ### Enumeration at a worker (R359 to R363) -/

/-- ENUM arrives at a worker: one that has already answered the round sends it on, and measures the port it leaves by when needed (R361); one
that has not takes it, measures its arrival port when needed, and answers. -/
def State.enumArrives (s : State) (p : LinkPort) (k r : Nat) : State :=
  if !s.hears p || !s.isWorker then s else
  let s := s.heardManager p
  if s.lnk.answered = some r then
    let s := s.passOn p false { cls := 1, kind := 4, dest := 0x7FF#11, src := 0#11, kdata := enumData 0 k r }
    if s.portUp (otherPort p) then s.measure (otherPort p) else s
  else
    let s := (s.setFld R.LNK_STAT 23 16 r).setBit R.LNK_STAT 6 false
    let s := { s with lnk := { s.lnk with answered := some r, offered := some k } }
    if (s.lp p).measured then s.sendRsp p k r
    else (s.onLp p fun l => { l with answer := some (k, r) }).measure p

/-- An ASSIGN or REFUSE is for the worker that answered this position in this round. -/
def State.offeredTo (s : State) (k r : Nat) : Bool := s.isWorker && s.lnk.offered = some k && s.lnk.answered = some r

/-- ASSIGN (R359, R360): address, position and upstream port. -/
def State.assigned (s : State) (k r : Nat) (up : Bool) (addr : LinkAddr) (pos : Nat) : State :=
  if !s.offeredTo k r then s else
  let s := s.set R.LNK_ADDR (wordOfNat (pos % 1024 * 65536 + addr.toNat))
  let s := (s.setBit R.LNK_STAT 6 true).setBit R.LNK_STAT 7 false
  let s := (s.setBit (R.LNK_PORT 0) 2 (!up)).setBit (R.LNK_PORT 1) 2 up
  let s := ((s.setBit R.LNK_STAT 5 up).setBit (R.LNK_PORT 0) 3 up).setBit (R.LNK_PORT 1) 3 up
  { s.drop 117 with lnk := { s.lnk with up := some (b2n up) } }

/-- REFUSE (R363). -/
def State.refusedBy (s : State) (k r : Nat) : State :=
  if !s.offeredTo k r then s else
  ((s.set R.LNK_ADDR 0x7FF#32).setBit R.LNK_STAT 7 true).raiseLevel 117 0#32

/-- A GROUP frame at a worker (LNK_GRPj). -/
def State.groupSet (s : State) (dest : LinkAddr) (g : Fin 64) (join : Bool) : State :=
  if s.forMe dest then s.setBit (if g.val < 32 then R.LNK_GRP0 else R.LNK_GRP1) (g.val % 32) join else s

/-! ### Ports (R349, R362, R364, R368) -/

/-- A receiver gains sync. -/
def State.syncGain (s : State) (p : LinkPort) : State := if s.portState p = 1 then s.setFld (R.LNK_PORT p) 1 0 2 else s

/-- JOIN leaves by the upstream port (R362). -/
def State.sendJoin (s : State) : State := if s.isWorker then s.sendUp s.joinFrame else s

/-- A port becomes UP: its delay is to be measured again, and a worker sends JOIN when the port is upstream (R349, R361, R362). -/
def State.portRises (s : State) (p : LinkPort) : State :=
  if s.portState p ≠ 2 then s else
  let s := ((s.setFld (R.LNK_PORT p) 1 0 3).drop (112 + p)).onLp p fun l => { l with measured := false, busy := false, exch := 0, sum := 0, answer := none }
  if s.isWorker ∧ p = s.upPort then s.sendJoin else s

/-- A receiver loses sync (R349): the code errors count; a port that was UP ceases to be, LNK_DOWNp is raised, a worker sends BREAK by its
other port, and in a loop it turns the traffic of the port (R364, R368). In a chain the stored frames are lost. -/
def State.portFalls (s : State) (p : LinkPort) (errs : Nat) : State :=
  if !s.hears p then s else
  let up := s.portUp p
  let s := (s.setFld (R.LNK_ERR p) 31 24 (s.fld (R.LNK_ERR p) 31 24 + errs)).setFld (R.LNK_PORT p) 1 0 1
  let s := if errs = 0 then s else s.linkErrors p errs
  if !up then s else
  let buf := (s.lp p).buf
  let s := s.onLp p fun l => { l with buf := [], busy := false, answer := none }
  let s :=
    if s.isWorker ∧ p.val < 2 then
      let s := if s.inLoop then s.setBit (R.LNK_PORT p) 4 true else s
      let q := otherPort p
      let s := s.transmit q true false (s.notice 1 p)
      if s.inLoop then buf.foldl (fun s e => s.transmit q e.1 false e.2) s else s
    else s
  s.raiseLevel (112 + p) (s.get (R.LNK_PORT p))

/-- A failed port has been UP for 10 ms (R368). -/
def State.turnEnds (s : State) (p : LinkPort) : State :=
  if s.bit (R.LNK_PORT p) 4 && s.portUp p then (s.setBit (R.LNK_PORT p) 4 false).sendUp (s.notice 2 p) else s

/-! ### Time (R369) -/

/-- The manager's SYNC frame, on every port that is UP. The time to the departure of the K28.1 is the engine's own. -/
def State.syncSend (s : State) : State :=
  if !s.isManager then s else
  forAll 4 s fun s p =>
    if s.portUp p then
      let (c, s) := s.drawWord
      s.transmit p true false
        { cls := 1, kind := 3, dest := 0x7FF#11, src := 0#11, pres := s.presence, payload := [hiWord s.sys.time, loWord s.sys.time, c] }
    else s

/-- LNK_TSYNC and TSOK: alignment is held while SYNC frames come and the last offset lies within 1 µs, and the LINK core runs (R35, R369). -/
def State.settleSync (s : State) (lost : Bool) : State :=
  let ofs := (s.get R.LNK_TSOFS).toInt
  let bad := lost || 1000 < ofs.natAbs
  let on := s.addressed && s.lnk.settled && bad
  (s.setBit R.LNK_STAT 9 (s.lnk.settled && !bad && s.sys.linkRun)).level 118 on (s.get R.LNK_TSOFS)

/-- The LINK core corrects SYS_TIME from an offset: a step beyond 10 µs, otherwise a rate correction with a time constant of 16 ms. -/
def State.correct (s : State) (ofs : Int) : State :=
  if !s.sys.linkRun then s
  else if 10000 < ofs.natAbs then s.setTime ((s.sys.time : Int) - ofs).toNat
  else
    let (r, s) := s.meanOf (-(ofs * 125)) 2
    let r := clampMag 500000 r
    s.set R.TIM_RATE (wordOfInt r)

/-- A SYNC frame that a worker accepts (R369): the offset, the frame of the millisecond with the fewer HOPS or of port 0, and the counts of
LNK_TSCNT. -/
def State.syncAccept (s : State) (p : LinkPort) (f : SyncFrame) : State :=
  let better : Bool := match s.lnk.best with
    | some b => b.time ≠ f.time || f.hops < b.hops || (f.hops = b.hops && p.val < b.port)
    | none => true
  if !better then s else
  let again : Bool := match s.lnk.best with
    | some b => b.time = f.time
    | none => false
  let gap := match s.lnk.best with
    | some b => (f.time - b.time) / 1000000 - 1
    | none => 0
  let (d, s) := s.meanOf (f.corr + s.fld (R.LNK_DLY p) 19 0 : Nat) 16
  let ofs := (s.sys.time : Int) - (f.time + d)
  let s := s.set R.LNK_TSOFS (wordOfInt ofs)
  let s := if again then s else
    let miss := s.fld R.LNK_TSCNT 15 0 + (gap - s.lnk.missed)
    (s.setFld R.LNK_TSCNT 15 0 miss).incFld R.LNK_TSCNT 31 16
  let since := s.lnk.since.getD s.sys.cyc
  let run := s.sys.linkRun
  let s := { s with lnk := { s.lnk with
    best := some { time := f.time, hops := f.hops, port := p }, missed := 0, since := if run then some since else none
    settled := s.lnk.settled || (run && since + 200000000 ≤ s.sys.cyc) } }
  (s.settleSync false).correct ofs

/-- A SYNC frame arrives at a worker: it is forwarded with CORR and HOPS increased, and taken when intact (R351, R369). The residence is the
engine's own. -/
def State.syncArrives (s : State) (p : LinkPort) (f : SyncFrame) : State :=
  if !s.hears p || !s.isWorker then s else
  let s := if f.intact then s.heardManager p else s.crcError p
  let (res, s) := s.drawWord
  let corr := f.corr + s.fld (R.LNK_DLY p) 19 0 + res.toNat
  let s := s.passOn p false
    { cls := 1, kind := 3, dest := 0x7FF#11, src := 0#11, kdata := (f.hops + 1) % 1024
      payload := [hiWord f.time, loWord f.time, wordOfNat corr], bad := !f.intact }
  if f.intact ∧ !s.bit R.LNK_STAT 7 then s.syncAccept p f else s

/-- No SYNC has been accepted for 3 ms (R369). -/
def State.syncLoss (s : State) : State :=
  if !s.isWorker then s else
  let s := s.setFld R.LNK_TSCNT 15 0 (s.fld R.LNK_TSCNT 15 0 + (3 - s.lnk.missed))
  { s with lnk := { s.lnk with missed := max 3 s.lnk.missed, since := none } }.settleSync true

/-! ### Orphans (R365) -/

/-- The engine's HALT of the axes. -/
def State.haltAxes (s : State) (axes : Nat) : State :=
  forAll 8 s fun s ax => if axes.testBit ax then s.setBit (R.ME_CTL ax) 0 true else s

/-- No frame from the manager for TMO ms: the worker finishes and holds, or halts at once (R365). -/
def State.orphaned (s : State) : State :=
  if !s.isWorker || s.bit R.LNK_STAT 8 || !s.bit R.LNK_CFG 31 then s else
  let act := s.bit R.LNK_ORPH 16
  let busy (ax : Axis) : Bool := (s.me ax).active.isSome || (s.me ax).engaged
  let s :=
    if act then s.haltAxes 255
    else
      let wait := packBits 8 fun i => busy ⟨i % 8, by omega⟩
      { s.haltAxes (255 - wait) with lnk := { s.lnk with hold := BitVec.ofNat 8 wait } }
  (s.setBit R.LNK_STAT 8 true).raiseLevel 116 (wordOfNat (b2n act))

end Sys2Proof.Machine
end

