-- ==== Sys2Proof/Machine/Converter.lean ====
section
/-! DEFINITION. Coil-current modulators, precision converters and the reference (spec/12). -/

namespace Sys2Proof.Machine

/-! ### Modulators (R273 to R278) -/

/-- The modulator of a coil runs: ON and CSM_CFG.EN. -/
def State.csmOn (s : State) (c : Coil) : Bool := s.bit (R.CSM_CCFG c) 31 && s.bit R.CSM_CFG 31

/-- RUN and OVL of CSM_STAT, and CSM_OVL, follow the modulators (R276). -/
def State.settleCsm (s : State) : State :=
  let run := packBits 16 fun c => s.csmOn ⟨c % 16, by omega⟩
  let ovl := packBits 16 fun c => s.bit R.CSM_STAT c && s.csmOn ⟨c % 16, by omega⟩
  let s := s.set R.CSM_STAT (wordOfNat (run * 65536 + ovl))
  s.level 10 ((List.range 16).any fun c => s.bit R.CSM_STAT c && s.bit (R.CSM_CCFG c) 30) (s.get R.CSM_STAT)

/-- A modulator starts: its first samples carry OVL (R277). -/
def State.csmWarm (s : State) (c : Coil) : State := s.onCsm c fun x => { x with fastWarm := 3, fineWarm := 36 }

/-- CSM_CFG.EN is written: setting it starts the common decimation counter (R274, R277). -/
def State.csmCfgWrite (s : State) (w : Word) : State :=
  let rise := bitOf w 31 && !s.bit R.CSM_CFG 31
  let s := (s.setBit R.CSM_CFG 31 (bitOf w 31)).mend R.CSM_CFG
  let s := if rise then forAll 16 s fun s c => if s.csmOn c then s.csmWarm c else s else s
  s.settleCsm

/-- A write of CSM_CCFGc (R277). -/
def State.csmCcfgWrite (s : State) (m : Master) (c : Coil) (w : Word) : State :=
  let old := s.get (R.CSM_CCFG c)
  if s.bit R.CSM_CFG 31 ∧ bitOf old 31 ∧ bitOf old 0 ≠ bitOf w 0 then s.writeIgnored m (R.CSM_CCFG c) else
  let on := s.csmOn c
  let s := s.store (R.CSM_CCFG c) (w &&& 0xC0000001#32)
  let s := if !on && s.csmOn c then s.csmWarm c else if s.csmOn c then s else s.onCsm c fun _ => {}
  s.settleCsm

/-- What a modulator's front end gives of a shunt voltage (R200): its sign reversed while diagonal B conducts, the last input during a dead
time, 0 while both low sides are on; judged at the instant of the sample (DESIGN CHOICE, log entry 105). -/
def State.frontEnd (s : State) (c : Coil) (code : Int) : Int :=
  let l := s.leg (axisOf c) (legsOf (bridgeOf c)).1
  let r := s.leg (axisOf c) (legsOf (bridgeOf c)).2
  if l.wait.isSome || r.wait.isSome then (vget s.csm c).last
  else if r.hiOn && l.loOn then -code
  else if l.loOn && r.loOn then 0
  else code

/-- The front end keeps its input for a dead time. -/
def State.keepInput (s : State) (c : Coil) (code : Int) : State :=
  let i := s.frontEnd c code
  s.onCsm c fun x => { x with last := i }

/-- The sample a path delivers to its consumers (R200, R273, R276, R277): the offset subtracted, the code clamped, OVL marked. -/
def State.csmSample (s : State) (c : Coil) (x : ModSample) (warm : Bool) : ModSample :=
  if s.csmOn c then { code := clampMag 30000 (s.frontEnd c x.code - s.sfld (R.CSM_OFS c) 15 0), ovl := x.ovl || warm || (vget s.csm c).ovl }
  else { code := 0, ovl := true }

/-- The register that a path writes with a sample: CNT advances. -/
def State.csmRecord (s : State) (k : Nat) (x : ModSample) : State :=
  s.set k (wordOfNat (((s.fld k 31 24 + 1) % 256) * 16777216 + b2n x.ovl * 65536 + lowBits 16 x.code))

/-- Coils of a list of samples, in order. -/
def sampleOf (xs : List ModSample) (c : Coil) : ModSample := xs.getD c.val { code := 0, ovl := true }

/-- The fast-path samples as delivered: registers, OVL and the end of the first samples (R274, R276). -/
def State.csmFast (s : State) (xs : List ModSample) : State × Vector ModSample 16 :=
  let ys := Vector.ofFn fun c => s.csmSample c (sampleOf xs c) ((vget s.csm c).fastWarm ≠ 0)
  let s := forAll 16 s fun s c =>
    (((s.keepInput c (sampleOf xs c).code).csmRecord (R.CSM_FAST c) (vget ys c)).setBit R.CSM_STAT c (s.csmOn c && (vget ys c).ovl)).onCsm c fun x =>
      { x with fastWarm := x.fastWarm - 1 }
  (s.settleCsm, ys)

/-- The fine-path samples as delivered. -/
def State.csmFine (s : State) (xs : List ModSample) : State × Vector ModSample 16 :=
  let ys := Vector.ofFn fun c => s.csmSample c (sampleOf xs c) ((vget s.csm c).fineWarm ≠ 0)
  let s := forAll 16 s fun s c =>
    ((s.keepInput c (sampleOf xs c).code).csmRecord (R.CSM_FINE c) (vget ys c)).onCsm c fun x => { x with fineWarm := x.fineWarm - 1 }
  (s, ys)

/-- A modulator is overloaded, or its input has returned within range (R276): the windows that hold the overload still mark their samples. -/
def State.modOverload (s : State) (c : Coil) (active : Bool) : State :=
  let s := if !active && (vget s.csm c).ovl then s.csmWarm c else s
  s.onCsm c fun x => { x with ovl := active && s.csmOn c }

/-! ### Precision converters (R279 to R293) -/

/-- PC_CFG.EN. -/
def State.pcEn (s : State) (p : Conv) : Bool := s.bit (R.PC_CFG p) 31

/-- The length of the regular sequence: 0 acts as 1, above 16 as 16. -/
def State.rlen (s : State) (p : Conv) : Nat := max 1 (min 16 (s.fld (R.PC_CFG p) 20 16))

/-- Neither an injected sequence nor a calibration holds the converter. -/
def PcConv.free (c : PcConv) : Bool := c.iIdx.isNone && c.calRun.isNone

/-- The regular sequence resumes at its entry, from the beginning of the settling delay, when nothing else holds the converter. -/
def State.pcResume (s : State) (p : Conv) : State :=
  let c := vget s.pc p
  if c.free && c.rrun then s.convStart p c.rIdx else if c.free then s.onPc p fun c => { c with settle := false } else s

/-- RSTART: the regular sequence starts at entry 0 (R282). -/
def State.pcRstart (s : State) (p : Conv) : State :=
  if s.pcEn p then (s.onPc p fun c => { c with rrun := true, rIdx := 0 }).pcResume p else s

/-- RSTOP: the present entry is abandoned and the sequence stops (R282, R286). -/
def State.pcRstop (s : State) (p : Conv) : State := (s.onPc p fun c => { c with rrun := false }).pcResume p

/-- A calibration starts converting (R291). -/
def State.pcCalGo (s : State) (p : Conv) (r : CalRun) : State :=
  (s.onPc p fun c => { c with calPend := none, calRun := some r }).convStart p r.entry

/-- A trigger of the injected sequence (R283, R284, R292): it is missed while the sequence runs, and aborts a calibration. -/
def State.pcTrigger (s : State) (p : Conv) : State :=
  if !s.pcEn p then s else
  let c := vget s.pc p
  if c.iIdx.isSome then s.incFld (R.PC_CNT p) 31 24
  else (s.onPc p fun c => { c with iIdx := some 0, calRun := none, calAb := c.calAb || c.calRun.isSome }).convStart p 16

/-- A trigger from a tack or from the common source: accepted while ITEN is 1 (R283, R285). -/
def State.pcOuterTrigger (s : State) (p : Conv) : State := if s.bit (R.PC_CFG p) 0 then s.pcTrigger p else s

/-- A common trigger reaches all four converters (R285). -/
def State.pcCommon (s : State) : State := forAll 4 s fun s p => s.pcOuterTrigger p

/-- CAL: a calibration starts, or waits for the injected sequence (R291, R292). -/
def State.pcCal (s : State) (m : Master) (p : Conv) (r : CalRun) : State :=
  if !s.pcEn p then s else
  let c := vget s.pc p
  if c.calRun.isSome || c.calPend.isSome then s.writeIgnored m (R.PC_CTL p) else
  let s := s.onPc p fun c => { c with calAb := false, calErr := false }
  if c.iIdx.isSome then s.onPc p fun c => { c with calPend := some r } else s.pcCalGo p r

/-- A write of PC_CTL: an entry above 19 makes it ignored; the trigger acts first (R286). -/
def State.pcCtlWrite (s : State) (m : Master) (p : Conv) (w : Word) : State :=
  if 19 < fldOf w 12 8 then s else
  let s := if bitOf w 2 then s.pcTrigger p else s
  let s := if bitOf w 0 then s.pcRstart p else s
  let s := if bitOf w 1 then s.pcRstop p else s
  if bitOf w 3 then s.pcCal m p { entry := fldOf w 12 8, full := bitOf w 4 } else s

/-- PC_CFG.EN is cleared: every sequence and any calibration end at once without results (R286). -/
def State.pcDisable (s : State) (p : Conv) : State :=
  (s.setBit (R.PC_CFG p) 31 false).onPc p fun c =>
    { c with rrun := false, iIdx := none, settle := false, held := false, calPend := none, calRun := none
             calAb := c.calAb || c.calRun.isSome || c.calPend.isSome }

/-- A write of REF_SYNC (R282, R285): the common trigger first (R286). -/
def State.refSyncWrite (s : State) (w : Word) : State :=
  let s := if bitOf w 0 then s.pcCommon else s
  if bitOf w 1 then forAll 4 s fun s p => s.pcRstart p else s

/-- The quotient to the nearest integer; which way a tie goes is open. -/
def State.nearest (s : State) (num : Int) (den : Nat) : Int × State :=
  let q := num / den
  let r := 2 * (num % den)
  if r = den then
    let (up, s) := s.drawBit
    (q + b2n up, s)
  else (if (den : Int) < r then q + 1 else q, s)

/-- The uncalibrated code of a conversion, clamped on overrange (R279, R293). -/
def rawCode (code : Int) (ovr : Bool) : Int :=
  if ovr then (if code < 0 then -8388608 else 8388607) else clampI (-8388608) 8388607 code

/-- The result word of an entry (R287, R290, R293). -/
def State.pcWrite (s : State) (p : Conv) (e : Nat) (code : Int) (ovr : Bool) : State :=
  let (v, s) := s.nearest ((rawCode code ovr - s.sfld (R.PC_OFS p e) 23 0) * s.fld (R.PC_GAIN p e) 23 0) 4194304
  let y := clampI (-8388608) 8388607 v
  let k := R.PC_RES p e
  let w := ((s.fld k 31 28 + 1) % 16) * 268435456 + b2n (vget s.pc p).rns * 33554432 + b2n (ovr || y ≠ v) * 16777216 + lowBits 24 y
  let now := s.sys.cyc
  let s := s.set k (wordOfNat w)
  if h : e < 16 then s.onPc p fun c => { c with stamps := vset c.stamps ⟨e, h⟩ (some now) } else s

/-- The injected sequence moves on: the next entry, or its end, then a waiting calibration, then the regular sequence (R283, R291). -/
def State.pcInjNext (s : State) (p : Conv) (i : Nat) : State :=
  if i < s.fld (R.PC_CFG p) 25 24 then (s.onPc p fun c => { c with iIdx := some (i + 1) }).convStart p (17 + i) else
  let s := (s.incFld (R.PC_CNT p) 15 8).onPc p fun c => { c with iIdx := none }
  match (vget s.pc p).calPend with
  | some r => s.pcCalGo p r
  | none => s.pcResume p

/-- The regular sequence moves on; one entry in continuous mode converts on without a restart (R280, R282). -/
def State.pcRegNext (s : State) (p : Conv) : State :=
  let c := vget s.pc p
  if c.rIdx + 1 < s.rlen p then (s.onPc p fun c => { c with rIdx := c.rIdx + 1 }).pcResume p else
  let s := s.incFld (R.PC_CNT p) 23 16
  if !s.bit (R.PC_CFG p) 30 then (s.onPc p fun c => { c with rrun := false }).pcResume p
  else if s.rlen p = 1 then
    let rns := s.refUnsettled
    s.onPc p fun c => { c with rns }
  else (s.onPc p fun c => { c with rIdx := 0 }).pcResume p

/-- A conversion completes (R287). -/
def State.pcResult (s : State) (p : Conv) (code : Int) (ovr : Bool) : State :=
  let c := vget s.pc p
  if c.settle || c.calRun.isSome || s.modStopped then s else
  match c.iIdx with
  | some i => (s.pcWrite p (16 + i) code ovr).pcInjNext p i
  | none => if c.rrun then (s.pcWrite p c.rIdx code ovr).pcRegNext p else s

/-- A settling delay ends and the decimator restarts (R280, R289). -/
def State.pcSettleEnd (s : State) (p : Conv) : State :=
  if (vget s.pc p).settle then
    let rns := s.refUnsettled
    s.onPc p fun c => { c with settle := false, rns }
  else s

/-- The coefficient that four codes give, or none (R291, step 4 and the cases of CALERR). -/
def State.calCoeff (s : State) (p : Conv) (r : CalRun) (codes : List Int) (bad : Bool) : Option (Nat × Int) × State :=
  let sum := codes.foldl (· + ·) 0
  let ofs := s.sfld (R.PC_OFS p r.entry) 23 0
  if bad || (vget s.pc p).rns || sum = 4 * ofs then (none, s)
  else if !r.full then
    let (m, s) := s.nearest sum 4
    (some (R.PC_OFS p r.entry, m), s)
  else
    let d := sum - 4 * ofs
    let num := 16777216 * s.sfld R.REF_CALTGT 23 0 * sgn d
    let (g, s) := s.nearest num d.natAbs
    (if 0x200000 ≤ g ∧ g ≤ 0x7FFFFF then some (R.PC_GAIN p r.entry, g) else none, s)

/-- Four calibration results are in (R291): the coefficient is set or CALERR is; the regular sequence resumes. -/
def State.calEnd (s : State) (p : Conv) (codes : List Int) (bad : Bool) : State :=
  let c := vget s.pc p
  match c.calRun with
  | none => s
  | some r =>
    if c.settle || s.modStopped then s else
    let (k, s) := s.calCoeff p r codes bad
    let s := match k with
      | some (reg, v) => s.store reg (putFld (s.get reg) 23 0 (lowBits 24 v))
      | none => s
    (s.onPc p fun c => { c with calRun := none, calErr := k.isNone }).pcResume p

/-- PC_STAT. -/
def State.pcStat (s : State) (p : Conv) : Word :=
  let c := vget s.pc p
  let cur := match c.calRun, c.iIdx with
    | some r, _ => r.entry
    | none, some i => 16 + i
    | none, none => if c.rrun then c.rIdx else 0
  wordOfNat (cur * 65536 + b2n c.calErr * 64 + b2n c.calAb * 32 + b2n c.calPend.isSome * 16 + b2n c.calRun.isSome * 8
    + b2n c.settle * 4 + b2n c.iIdx.isSome * 2 + b2n c.rrun)

/-! ### The reference (R288) -/

/-- REF_CFG.EN is written. -/
def State.refCfgWrite (s : State) (w : Word) : State :=
  let rise := bitOf w 31 && !s.bit R.REF_CFG 31
  let s := (s.setBit R.REF_CFG 31 (bitOf w 31)).mend R.REF_CFG
  if rise then { s with refSince := s.sys.cyc } else s

/-- REF_STAT.AGE. -/
def State.refAge (s : State) : Nat := if s.bit R.REF_CFG 31 then min 65535 ((s.sys.cyc - s.refSince) / 200000) else 0

/-! ### The commands -/

/-- CSM_ENABLE (R274). -/
def execCsmEnable (m : Master) (s : State) : Host.Outcome State Fault Refusal :=
  .next (s.access m R.CSM_CFG fun s => s.csmCfgWrite 0x80000000#32)

/-- CSM_CCFG_WRITE (R277). -/
def execCsmCcfgWrite (m : Master) (c : Coil) (w : Word) (s : State) : Host.Outcome State Fault Refusal :=
  .next (s.access m (R.CSM_CCFG c) fun s => s.csmCcfgWrite m c w)

/-- MODULATOR_OVERLOAD (R276). -/
def execModulatorOverload (c : Coil) (active : Bool) (s : State) : Host.Outcome State Fault Refusal :=
  .next (s.quiet.modOverload c active)

/-- RSTART (R282). -/
def execRstart (m : Master) (p : Conv) (s : State) : Host.Outcome State Fault Refusal :=
  .next (s.access m (R.PC_CTL p) fun s => s.pcRstart p)

/-- RSTOP (R282). -/
def execRstop (m : Master) (p : Conv) (s : State) : Host.Outcome State Fault Refusal :=
  .next (s.access m (R.PC_CTL p) fun s => s.pcRstop p)

/-- ISTART (R283). -/
def execIstart (m : Master) (p : Conv) (s : State) : Host.Outcome State Fault Refusal :=
  .next (s.access m (R.PC_CTL p) fun s => s.pcTrigger p)

/-- INJECTED_TRIGGER (R246, R283, R285): a trigger that a tack has sent arrives. -/
def execInjectedTrigger (t : InjTrigger) (s : State) : Host.Outcome State Fault Refusal :=
  let s := s.quiet
  .next (match t with
    | .tack p => if (vget s.pc p).trig then (s.onPc p fun c => { c with trig := false }).pcOuterTrigger p else s
    | .common => if s.sys.comTrig then { s with sys := { s.sys with comTrig := false } }.pcCommon else s)

/-- RSYNC (R282). -/
def execRsync (m : Master) (s : State) : Host.Outcome State Fault Refusal :=
  .next (s.access m R.REF_SYNC fun s => s.refSyncWrite 2#32)

/-- ISYNC (R285). -/
def execIsync (m : Master) (s : State) : Host.Outcome State Fault Refusal :=
  .next (s.access m R.REF_SYNC fun s => s.refSyncWrite 1#32)

/-- PC_SETTLE_END (R280). -/
def execPcSettleEnd (p : Conv) (s : State) : Host.Outcome State Fault Refusal := .next (s.quiet.pcSettleEnd p)

/-- PC_ENTRY_RESULT (R287). -/
def execPcEntryResult (p : Conv) (code : Int) (ovr : Bool) (s : State) : Host.Outcome State Fault Refusal :=
  .next (s.quiet.pcResult p code ovr)

/-- CAL (R291). -/
def execCal (m : Master) (p : Conv) (w : Word) (s : State) : Host.Outcome State Fault Refusal :=
  .next (s.access m (R.PC_CTL p) fun s => s.pcCtlWrite m p w)

/-- CAL_COMPLETE (R291). -/
def execCalComplete (p : Conv) (codes : List Int) (bad : Bool) (s : State) : Host.Outcome State Fault Refusal :=
  .next (s.quiet.calEnd p codes bad)

end Sys2Proof.Machine
end

