-- ==== Sys2Proof/Machine/Trig.lean ====
section
/-! DEFINITION. Fixed-point sine and the default waveform table of R184. Angles in 2^-16 microstep, 4,096 microsteps to a period; sines in
2^-40 inside and 2^-30 outside (log entry 41). -/

namespace Sys2Proof.Machine

/-- x² / d in 2^-40, for the terms of the series. -/
def sqOver (x2 : Int) (d : Int) (acc : Int) : Int := 1099511627776 - x2 * acc / (d * 1099511627776)

/-- The sine of x radians, 0 to π/2, in 2^-40. -/
def sinSeries (x : Int) : Int :=
  let x2 := x * x / 1099511627776
  let t := sqOver x2 210 1099511627776
  let t := sqOver x2 156 t
  let t := sqOver x2 110 t
  let t := sqOver x2 72 t
  let t := sqOver x2 42 t
  let t := sqOver x2 20 t
  let t := sqOver x2 6 t
  x * t / 1099511627776

/-- The sine of a first-quadrant angle of 0 to 2^26, in 2^-40; π/2 is 1,727,108,826,179 × 2^-40. -/
def sinQuarter (a : Int) : Int := sinSeries (a * 1727108826179 / 67108864)

/-- The sine of an angle in 2^-16 microstep, in 2^-30. -/
def sinQ (ang : Int) : Int :=
  let a := ang % 268435456
  let r := a % 67108864
  let v := match (a / 67108864).toNat with
    | 0 => sinQuarter r
    | 1 => sinQuarter (67108864 - r)
    | 2 => -(sinQuarter r)
    | _ => -(sinQuarter (67108864 - r))
  (v + 512) / 1024

/-- The cosine of an angle in 2^-16 microstep, in 2^-30. -/
def cosQ (ang : Int) : Int := sinQ (ang + 67108864)

/-- T[i] = round(65,535 × sin((i + 0.5) × 90° / 1,024)) (R184). -/
def waveDefault (i : Nat) : Nat := ((65535 * sinQuarter (65536 * (i : Int) + 32768) + 549755813888) / 1099511627776).toNat

end Sys2Proof.Machine
end

