-- ==== Sys2Proof/Machine/Coil.lean ====
section
/-! DEFINITION. Coil current (spec/08): the waveform table, commutation modes and handovers, the regulators of CENTRE and the thresholds of
COFF and CON. Currents in nA, voltages in nV, angles in 2^-16 microstep, velocities in 2^-16 microstep/s, u in 2^-30 (log entry 41). -/

namespace Sys2Proof.Machine

/-! ### Settings -/

/-- The CR registers that are writable while enabled: their writes take effect at the next tick record. -/
def liveRegs : List Nat := [0x03, 0x04, 0x05, 0x06, 0x07, 0x0D, 0x10, 0x11, 0x21, 0x22, 0x23]

/-- A tick record carries the present values of those registers. -/
def State.latchLive (s : State) (ax : Axis) : State :=
  s.onCoil ax fun c => { c with live := liveRegs.map fun i => (i, s.get (regKey (0x20 + ax) i)) }

/-- The value in force of a register that is writable while enabled. -/
def State.live (s : State) (ax : Axis) (k : Nat) : Word := (spFind (vget s.coil ax).live (k % 128)).getD (regReset k)

/-- CR_SHUNT, µΩ: lower values act as 100. -/
def State.shunt (s : State) (ax : Axis) : Nat := max 100 (s.fld (R.CR_SHUNT ax) 23 0)

/-- The current of a code of a coil's modulator (R187, R273). -/
def State.codeAmps (s : State) (c : Coil) (code : Int) : Int :=
  code * (if s.bit (R.CSM_CCFG c) 0 then 2000000000 else 8000000000) / s.shunt (axisOf c)

/-- 0.9 × IFS (R187). -/
def State.demandLimit (s : State) (c : Coil) : Int :=
  (if s.bit (R.CSM_CCFG c) 0 then 45000000000000 else 180000000000000) / (s.shunt (axisOf c) : Int)

/-- CR_CFG.POLA, POLB: the sign between the coil as the regulator sees it and the bridge (R188, log entry 40). -/
def State.pol (s : State) (ax : Axis) (br : Bridge) : Int := if s.bit (R.CR_CFG ax) (brIx br) then -1 else 1

/-- CR_CFG.CMODE: 4 to 7 act as 0. -/
def State.cmode (s : State) (ax : Axis) : Nat := if 3 < s.fld (R.CR_CFG ax) 26 24 then 0 else s.fld (R.CR_CFG ax) 26 24

/-- CR_MOTOR2.PP: 0 and values above 100 act as 50. -/
def State.polePairs (s : State) (ax : Axis) : Nat :=
  let p := s.fld (R.CR_MOTOR2 ax) 30 24
  if p = 0 ∨ 100 < p then 50 else p

/-- CR_OVR.MODE in force: 3 acts as 0. -/
def State.ovrMode (s : State) (ax : Axis) : Nat :=
  let m := fldOf (s.live ax (R.CR_OVR ax)) 31 30
  if m = 3 then 0 else m

/-- The VSUP result of LO_VSRC when one younger than 10 ms exists (R204, R211). -/
def State.vsup (s : State) (ax : Axis) : Option Int :=
  let p : Conv := ⟨s.fld (R.LO_VSRC ax) 9 8 % 4, by omega⟩
  let e : Fin 16 := ⟨s.fld (R.LO_VSRC ax) 3 0 % 16, by omega⟩
  match vget (vget s.pc p).stamps e with
  | none => none
  | some t =>
    if s.sys.cyc - t < 2000000 then
      some (max 0 (s.sfld (R.PC_RES p e) 23 0 * 160000000000 / 2 ^ (23 + s.fld (R.PC_ENT p e) 10 8)))
    else none

/-- CR_VNOM. -/
def State.vnom (s : State) (ax : Axis) : Int := (s.fld (R.CR_VNOM ax) 15 0 : Int) * 10000000

/-- VS of R204. -/
def State.vs (s : State) (ax : Axis) : Int := if s.bit (R.CR_CFG ax) 11 then (s.vsup ax).getD (s.vnom ax) else s.vnom ax

/-! ### Modes, angles and speeds (R190, R191, R194) -/

/-- The encoder is aligned and has a count per revolution. -/
def State.encValid (s : State) (ax : Axis) : Bool :=
  bitOf (s.live ax (R.CR_ENC ax)) 31 && s.fld (R.CR_ENC ax) 23 0 ≠ 0

/-- CL can be in use: BMODE CENTRE, a flux, and XDN below XUP. -/
def State.clAble (s : State) (ax : Axis) : Bool :=
  s.cmode ax = 2 && s.bmode ax = 0 && s.fld (R.CR_MOTOR2 ax) 23 0 ≠ 0 && s.fld (R.CR_XDN ax) 23 0 < s.fld (R.CR_XUP ax) 23 0

/-- CR_STAT.MODE: 0 OL, 1 OLA, 2 CL, 3 ENC. -/
def State.mode (s : State) (ax : Axis) : Nat :=
  if !s.crEn ax then 0
  else match s.cmode ax with
    | 1 => if s.bmode ax = 0 then 1 else 0
    | 2 => if s.clAble ax && (vget s.coil ax).cl then 2 else 0
    | 3 => if s.encValid ax then 3 else 0
    | _ => 0

/-- θms of a tick record at a time (R183). -/
def thetaMs (r : TickRec) (t : Int) : Int := (r.angle + r.vel * (t - r.time) / 1000000000) % 268435456

/-- θenc (R194). -/
def State.thetaEnc (s : State) (ax : Axis) : Int :=
  let cpr : Int := s.fld (R.CR_ENC ax) 23 0
  ((fldOf (s.live ax (R.CR_ENCOFS ax)) 11 0 : Int) * 65536 + (s.get (R.CR_ENCCNT ax)).toInt * 268435456 * s.polePairs ax / cpr) % 268435456

/-- θest extrapolated to a time (R191). -/
def State.thetaEst (s : State) (ax : Axis) (t : Int) : Int :=
  let l := vget s.lo ax
  ((l.theta + l.vel * (t - l.te) / 1000000000) / 65536) % 268435456

/-- θr of R193: θenc in ENC, else θest. -/
def State.thetaR (s : State) (ax : Axis) (t : Int) : Int := if s.mode ax = 3 then s.thetaEnc ax else s.thetaEst ax t

/-- vr of R193. -/
def State.velR (s : State) (ax : Axis) : Int := if s.mode ax = 3 then (vget s.coil ax).encVel else (vget s.lo ax).vel / 65536

/-- A difference of angles in microsteps, from -2,048 to +2,047. -/
def wrapMs (d : Int) : Int := (d + 2048) % 4096 - 2048

/-! ### The waveform table (R184, R185) -/

/-- T[i] as a lookup reads it: the default entry in place of one whose parity mismatches. -/
def State.waveAt (s : State) (ax : Axis) (i : Nat) : Int :=
  let c := vget s.coil ax
  if c.waveBad.contains i then waveDefault i else ((spFind c.wave i).getD (waveDefault i) : Nat)

/-- The stored entry, as CR_WDATA reads it. -/
def State.waveStored (s : State) (ax : Axis) (i : Nat) : Nat := (spFind (vget s.coil ax).wave i).getD (waveDefault i)

/-- sA and sB, in 1/65,535, at an angle in 2^-16 microstep. -/
def State.units (s : State) (ax : Axis) (ang : Int) : Int × Int :=
  let th := (ang / 65536 % 4096).toNat
  let q := th % 1024
  let a := s.waveAt ax (1023 - q)
  let b := s.waveAt ax q
  match th / 1024 with
  | 0 => (a, b)
  | 1 => (-b, a)
  | 2 => (-a, -b)
  | _ => (b, -a)

/-- CFG_PARITY of the axis follows the entries that mismatch. -/
def State.settleWave (s : State) (ax : Axis) : State :=
  let k := R.CR_WDATA ax
  let rest := s.parityBad.filter (· ≠ k)
  if (vget s.coil ax).waveBad = [] then { s with parityBad := rest }.settleParity (0x20 + ax)
  else { s with parityBad := k :: rest }.raiseLevel (32 + ax) (parityDetail k)

/-- The background check of one entry in each table. -/
def State.waveCheck (s : State) (e : Nat) (bad : List Axis) : State :=
  forAll 8 s fun s ax =>
    let was := (vget s.coil ax).waveBad
    if bad.contains ax == was.contains e then s
    else (s.onCoil ax fun c => { c with waveBad := if bad.contains ax then e :: was else was.filter (· ≠ e) }).settleWave ax

/-- CR_WADDR advances after an access of CR_WDATA. -/
def State.waveNext (s : State) (ax : Axis) : State :=
  s.setFld (R.CR_WADDR ax) 9 0 ((s.fld (R.CR_WADDR ax) 9 0 + 1) % 1024)

/-- An entry is written. -/
def State.wavePut (s : State) (ax : Axis) (i v : Nat) : State :=
  (s.onCoil ax fun c => { c with wave := spSet (waveDefault i) c.wave i v, waveBad := c.waveBad.filter (· ≠ i) }).settleWave ax

/-- A write of CR_WDATA: a configuration write (R103). One ignored because EN is 1 leaves CR_WADDR where it is (DESIGN CHOICE, log entry 101). -/
def State.wdataWrite (s : State) (m : Master) (ax : Axis) (w : Word) : State :=
  let i := s.fld (R.CR_WADDR ax) 9 0
  let v := fldOf w 15 0
  if s.crEn ax && s.waveStored ax i ≠ v then s.writeIgnored m (R.CR_WDATA ax)
  else (s.wavePut ax i v).waveNext ax

/-- A write of CR_OVR (R208): a non-zero MODE is ignored while the axis moves or has an ACTIVE context. -/
def State.ovrWrite (s : State) (m : Master) (ax : Axis) (w : Word) : State :=
  if fldOf w 31 30 ≠ 0 ∧ (s.moving ax ∨ (s.me ax).active.isSome) then s.writeIgnored m (R.CR_OVR ax)
  else s.set (R.CR_OVR ax) (w &&& 0xC0000FFF#32)

/-! ### The vector (R187, R188, R193, R197) -/

/-- Ride-through caps a magnitude at CR_IREST. -/
def State.rideCap (s : State) (ax : Axis) (i : Int) : Int :=
  if s.rideThrough then min i ((fldOf (s.live ax (R.CR_IREST ax)) 19 0 : Int) * 1000000) else i

/-- A of R188 at a level. -/
def State.amp (s : State) (ax : Axis) (lv : Level) : Int :=
  s.rideCap ax (match lv with
    | .run => if s.mode ax = 1 then (vget s.coil ax).aOla else (fldOf (s.live ax (R.CR_IRUN ax)) 19 0 : Int) * 1000000
    | .rest => (fldOf (s.live ax (R.CR_IREST ax)) 19 0 : Int) * 1000000
    | .off => 0)

/-- Acap of R193 at a level. -/
def State.acap (s : State) (ax : Axis) (lv : Level) : Int :=
  s.rideCap ax (match lv with
    | .run => (fldOf (s.live ax (R.CR_IRUN ax)) 19 0 : Int) * 1000000
    | .rest => (fldOf (s.live ax (R.CR_IREST ax)) 19 0 : Int) * 1000000
    | .off => 0)

/-- A vector of a signed magnitude 90° ahead of an angle, split through the table: its coil demands. -/
def State.split (s : State) (ax : Axis) (mag ang : Int) : Int × Int :=
  let (a, b) := s.units ax ang
  (mag * a / 65535, mag * b / 65535)

/-- The vector of a q demand: at θr + 1,024, or at θr - 1,024 for a negative one. -/
def State.qVector (s : State) (ax : Axis) (iq th : Int) : (Int × Int) × Int :=
  let ang := (if iq < 0 then th - 67108864 else th + 67108864) % 268435456
  (s.split ax iq.natAbs ang, ang)

/-- The coil demands at an update and the angle of the vector. -/
def State.vector (s : State) (ax : Axis) (r : TickRec) (t : Int) : (Int × Int) × Int :=
  let c := vget s.coil ax
  let ms := thetaMs r t
  let cap := s.acap ax r.level
  if s.ovrMode ax = 1 then
    let ang := (fldOf (s.live ax (R.CR_OVR ax)) 11 0 : Int) * 65536
    (s.split ax (s.rideCap ax ((fldOf (s.live ax (R.CR_OVRI ax)) 19 0 : Int) * 1000000)) ang, ang)
  else if c.hov ≠ .none then
    let w : Int := if c.hov = .up then c.alpha else 2147483648 - c.alpha
    let ol := s.split ax (s.amp ax r.level) ms
    let cl := (s.qVector ax (clampMag cap c.iq) (s.thetaEst ax t)).1
    let mix (x y : Int) : Int := ((2147483648 - w) * x + w * y) / 2147483648
    let a := mix ol.1 cl.1
    let b := mix ol.2 cl.2
    ((a, b), (Config.angleOf a b : Int) * 65536)
  else if s.mode ax ≥ 2 then s.qVector ax (clampMag cap c.iq) (s.thetaR ax t)
  else (s.split ax (s.amp ax r.level) ms, ms)

/-- A signed quantity as a register in a coarser unit: rounding is open. -/
def State.putRounded (s : State) (k : Nat) (x : Int) (u : Int) : State :=
  let (v, s) := s.report x u
  s.set k (wordOfInt v)

/-- CR_ANGLE.MS: θms is recomputed at every regulator update (R183). -/
def State.putMs (s : State) (ax : Axis) (r : TickRec) (t : Int) : State :=
  s.setFld (R.CR_ANGLE ax) 27 16 (thetaMs r t / 65536 % 4096).toNat

/-- The demands of an update, limited to 0.9 × IFS, and CR_ANGLE. -/
def State.putDemand (s : State) (ax : Axis) (r : TickRec) (t : Int) : State :=
  let ((a, b), ang) := s.vector ax r t
  let a := clampMag (s.demandLimit (coilOf ax .a)) a
  let b := clampMag (s.demandLimit (coilOf ax .b)) b
  let s := (s.onCoil ax fun c => { c with demA := a, demB := b }).set (R.CR_ANGLE ax)
    (wordOfNat ((thetaMs r t / 65536).toNat * 65536 + (ang / 65536 % 4096).toNat))
  (s.putRounded (R.CR_DEMA ax) a 1000000).putRounded (R.CR_DEMB ax) b 1000000

/-! ### CENTRE regulation (R203, R204, R205) -/

/-- The regulator of a coil computes nothing (R205). -/
def State.coilHeld (s : State) (ax : Axis) (br : Bridge) : Bool :=
  !s.granted ax || !s.vgOk || s.latchedOff ax br || (s.br ax br).adopted.level = .off

/-- One channel: the voltage, its integrator, and whether it is clamped. While clamped the integrator moves no further into the clamp. -/
def channel (gain : Word) (per : Nat) (vint err ff lim : Int) : Int × Int × Bool :=
  let next := vint + (fldOf gain 31 16 : Int) * per * err * 65536 / 16000000
  let v := (fldOf gain 15 0 : Int) * err / 100 + next / 65536 + ff
  if lim < v then (lim, min vint next, true)
  else if v < -lim then (-lim, max vint next, true)
  else (v, next, false)

/-- V / VS in 2^-30; with a VS of 0 the command is open. -/
def State.duty (s : State) (v vs : Int) : Int × State :=
  if vs = 0 then s.drawInt (-1073741824) 1073741824 else (v * 1073741824 / vs, s)

/-- A coil's command: dead-time compensation, clamp, CR_UA or CR_UB, and the on-time shadow with COMMIT (R204, R235, R243). -/
def State.applyU (s : State) (ax : Axis) (br : Bridge) (u sign : Int) : State :=
  let comp : Int := if s.bit (R.CR_CFG ax) 12 then 2147483648 * s.deadTime ax br / s.per ax * sign else 0
  let u := clampMag 1073741824 (u + comp)
  let (w, s) := s.report (u * 32767) 1073741824
  let s := s.set (match br with | .a => R.CR_UA ax | .b => R.CR_UB ax) (wordOfNat (lowBits 16 w))
  let (on, s) := s.nearest ((1073741824 + s.pol ax br * u) * 8 * s.sper ax) 1073741824
  s.writeOn ax br on.toNat

/-- The integrators cleared. -/
def CoilAx.clear (c : CoilAx) : CoilAx := { c with vintA := 0, vintB := 0, vintD := 0, vintQ := 0, smpA := none, smpB := none }

/-- The demand and the integrators of one coil cleared; those of d and q are of both coils (R205). -/
def CoilAx.clearCoil (c : CoilAx) (br : Bridge) : CoilAx :=
  let c := { c with vintD := 0, vintQ := 0 }
  match br with
  | .a => { c with vintA := 0, smpA := none, demA := 0 }
  | .b => { c with vintB := 0, smpB := none, demB := 0 }

/-- CR_STAT.ULIMA or ULIMB. -/
def State.putLimit (s : State) (ax : Axis) (br : Bridge) (on : Bool) : State := s.setBit (R.CR_STAT ax) (6 + brIx br) on

/-- The regulators change between coils and d, q: what the integrators then hold the spec does not state. -/
def State.turnTo (s : State) (ax : Axis) (dq : Bool) : State :=
  if (vget s.coil ax).inDq = dq then s else
  let lim : Int := 8388608000000000
  let (x, s) := s.drawInt (-lim) lim
  let (y, s) := s.drawInt (-lim) lim
  s.onCoil ax fun c =>
    if dq then { c.clear with inDq := true, vintD := x, vintQ := y } else { c.clear with inDq := false, vintA := x, vintB := y }

/-- The error that a regulator works on: while the press probe runs it has passed the notch (R222). -/
def State.regErr (s : State) (ax : Axis) (e : Int) : Int × State :=
  if s.bit (R.LO_STAT ax) 10 then (Config.notched s.free e, { s with free := s.free + 1 }) else (e, s)

/-- The press probe's addition to a coil's voltage command (R222): 0.02 × VS at 2 kHz along θms, or along θms + 512. -/
def State.injection (s : State) (ax : Axis) (br : Bridge) (r : TickRec) (t : Int) : Int :=
  if !s.bit (R.LO_STAT ax) 10 then 0 else
  let l := vget s.lo ax
  let g := thetaMs r t + (if l.ppOdd then 33554432 else 0)
  let phase : Int := ((s.sys.cyc - l.ppStart : Nat) : Int) * 268435456 / 100000
  let amp := s.vs ax / 50 * sinQ phase / 1073741824
  amp * (match br with | .a => cosQ g | .b => sinQ g) / 1073741824

/-- The limit U (R204). -/
def State.uLimit (s : State) (ax : Axis) : Int := (min 32767 (s.fld (R.CR_UMAX ax) 15 0) : Nat) * s.vs ax / 32767

/-- CR_ID, CR_IQ, CR_IDDEM and CR_IQDEM read 0 where no d and q regulation runs (R190). -/
def State.zeroDq (s : State) (ax : Axis) : State :=
  [R.CR_ID ax, R.CR_IQ ax, R.CR_IDDEM ax, R.CR_IQDEM ax].foldl (fun s k => s.set k 0#32) s

/-- The update of one coil's own regulator (OL, OLA, a held vector). -/
def State.coilUpdate (s : State) (ax : Axis) (br : Bridge) (i : Int) : State :=
  let r := (s.br ax br).adopted
  let t : Int := s.sys.time
  let s := (s.turnTo ax false).putDemand ax r t
  let c := vget s.coil ax
  let (d, vint) := match br with
    | .a => (c.demA, c.vintA)
    | .b => (c.demB, c.vintB)
  let (e, s) := s.regErr ax (d - i)
  let (v, vint, lim) := channel (s.live ax (R.CR_GAIN ax)) (s.per ax) vint e 0 (s.uLimit ax)
  let s := (s.putLimit ax br lim).onCoil ax fun c => match br with
    | .a => { c with vintA := vint }
    | .b => { c with vintB := vint }
  let (u, s) := s.duty (v + s.injection ax br r t) (s.vs ax)
  (s.zeroDq ax).applyU ax br u (sgn d)

/-- The update of the d and q regulators (R203, R204). The q demand, like a coil's, stays within 0.9 × IFS, the smaller of the two coils'
(R187). -/
def State.dqUpdate (s : State) (ax : Axis) (iA iB : Int) : State :=
  let r := (s.br ax .a).adopted
  let t : Int := s.sys.time
  let s := (s.turnTo ax true).putDemand ax r t
  let c := vget s.coil ax
  let th := s.thetaR ax t
  let sn := sinQ th
  let cs := cosQ th
  let id := (iA * cs + iB * sn) / 1073741824
  let iq := (iB * cs - iA * sn) / 1073741824
  let q := clampMag (min (s.acap ax r.level) (min (s.demandLimit (coilOf ax .a)) (s.demandLimit (coilOf ax .b)))) c.iq
  let (dd, dq) := if c.hov = .none then (0, q)
    else ((c.demA * cs + c.demB * sn) / 1073741824, (c.demB * cs - c.demA * sn) / 1073741824)
  let om := s.velR ax * 6283185307 / 4096000000000
  let ff := s.bit (R.CR_CFG ax) 10
  let lInd : Int := s.fld (R.CR_MOTOR1 ax) 31 16
  let psi : Int := s.fld (R.CR_MOTOR2 ax) 23 0
  let ffd := if ff then -(om * lInd * iq / 65536000000) else 0
  let ffq := if ff then om * lInd * id / 65536000000 + om * psi * 1000 / 65536 else 0
  let u := s.uLimit ax
  let gain := s.live ax (R.CR_GAIN ax)
  let (ed, s) := s.regErr ax (dd - id)
  let (eq, s) := s.regErr ax (dq - iq)
  let (vd, id', limD) := channel gain (s.per ax) c.vintD ed ffd u
  let (vq, iq', limQ) := channel gain (s.per ax) c.vintQ eq ffq (isqrt (u * u - vd * vd).toNat)
  let s := ((s.putLimit ax .a limD).putLimit ax .b limQ).onCoil ax fun c => { c with vintD := id', vintQ := iq' }
  let s := (s.putRounded (R.CR_ID ax) id 1000000).putRounded (R.CR_IQ ax) iq 1000000
  let s := (s.putRounded (R.CR_IDDEM ax) dd 1000000).putRounded (R.CR_IQDEM ax) dq 1000000
  let th' := th + s.velR ax * 3 * s.per ax / 320000000
  let sn := sinQ th'
  let cs := cosQ th'
  let (uA, s) := s.duty ((vd * cs - vq * sn) / 1073741824 + s.injection ax .a r t) (s.vs ax)
  let (uB, s) := s.duty ((vd * sn + vq * cs) / 1073741824 + s.injection ax .b r t) (s.vs ax)
  (s.applyU ax .a uA (sgn c.demA)).applyU ax .b uB (sgn c.demB)

/-- The held coil voltages of CR_OVR mode 2 (R208). -/
def State.heldVolts (s : State) (ax : Axis) (br : Bridge) : State :=
  let w := s.live ax (R.CR_OVRU ax)
  let u := match br with
    | .a => sfldOf w 15 0
    | .b => sfldOf w 31 16
  (s.putLimit ax br false).applyU ax br (u * 1073741824 / 32767) (sgn u)

/-- CR_IMA and CR_IMB: the last regulator sample, mA (R201). -/
def State.putSample (s : State) (ax : Axis) (br : Bridge) (i : Int) : State :=
  s.putRounded (match br with | .a => R.CR_IMA ax | .b => R.CR_IMB ax) i 1000000

/-- The axis falls back to OL: no handover, Iint cleared (R195, R199, R205). -/
def CoilAx.toOl (c : CoilAx) : CoilAx := { c with cl := false, hov := .none, back := false, alpha := 0, iint := 0 }

/-- At an update, CL and a handover end in OL where the lock indication is withdrawn or a regulator is held (R195, R199, R205). -/
def State.dropCl (s : State) (ax : Axis) : State :=
  let c := vget s.coil ax
  if (c.cl || c.hov ≠ .none) && (!s.bit (R.LO_STAT ax) 1 || s.coilHeld ax .a || s.coilHeld ax .b) then s.onCoil ax CoilAx.toOl else s

/-- A coil's regulator computes nothing: its integrators are cleared (R205). -/
def State.holdCoil (s : State) (ax : Axis) (br : Bridge) : State :=
  ((s.turnTo ax false).putLimit ax br false).onCoil ax fun c => c.clearCoil br

/-- A sample reaches a coil's regulator in CENTRE (R183, R203, R205, R208). -/
def State.centreUpdate (s : State) (ax : Axis) (br : Bridge) (i : Int) : State :=
  let s := (((s.putSample ax br i).dropCl ax).putMs ax (s.br ax br).adopted s.sys.time)
  if s.coilHeld ax br then s.holdCoil ax br
  else if s.ovrMode ax = 2 then s.heldVolts ax br
  else if s.mode ax < 2 ∨ s.ovrMode ax = 1 then s.coilUpdate ax br i
  else
    let s := s.onCoil ax fun c => match br with
      | .a => { c with smpA := some i }
      | .b => { c with smpB := some i }
    match (vget s.coil ax).smpA, (vget s.coil ax).smpB with
    | some a, some b => (s.onCoil ax fun c => { c with smpA := none, smpB := none }).dqUpdate ax a b
    | _, _ => s

/-! ### Chopping (R200, R201, R206, R207) -/

/-- The threshold of a demand, nA. -/
def State.threshold (s : State) (ax : Axis) (d : Int) : Int :=
  let cfg := s.get (R.CR_CFG ax)
  let mag : Int := d.natAbs
  let lInd : Int := s.fld (R.CR_MOTOR1 ax) 31 16
  let res : Int := s.fld (R.CR_MOTOR1 ax) 15 0
  let off : Int := max 1 (min 128 (s.fld (R.PWM_CHOP ax) 7 0))
  let on : Int := max 1 (min 128 (s.fld (R.PWM_CHOP ax) 15 8))
  if d = 0 ∨ !bitOf cfg 13 ∨ lInd = 0 then mag
  else if s.bmode ax = 2 then max 0 (mag - (s.vs ax - res * mag / 1000) * on / (4 * lInd))
  else
    let v := match fldOf cfg 19 18 with
      | 0 => 0
      | 1 => s.vs ax * fldOf cfg 17 14 / 16
      | _ => s.vs ax
    mag + (v + res * mag / 1000) * off / (4 * lInd)

/-- PWM_THR of a bridge: the threshold as a shunt voltage in 0.25 mV, within the comparator's range; rounding is open. -/
def State.putThreshold (s : State) (ax : Axis) (br : Bridge) (thr : Int) : State :=
  let (code, s) := s.report (thr * s.shunt ax) 250000000000
  let code := (clampI 0 1023 code).toNat
  match br with
  | .a => s.setFld (R.PWM_THR ax) 25 16 code
  | .b => s.setFld (R.PWM_THR ax) 9 0 code

/-- A diagonal of the bridge conducts. -/
def State.conducts (s : State) (ax : Axis) (br : Bridge) : Bool :=
  let l := s.leg ax (legsOf br).1
  let r := s.leg ax (legsOf br).2
  (l.hiOn && r.loOn) || (r.hiOn && l.loOn)

/-- A fast-path sample reaches a coil's regulator in COFF or CON. -/
def State.chopUpdate (s : State) (ax : Axis) (br : Bridge) (i : Int) : State :=
  let s := if s.conducts ax br then s.putSample ax br i else s
  let s := ((s.putMs ax (s.br ax br).adopted s.sys.time).zeroDq ax).putLimit ax br false
  if s.coilHeld ax br then s.onCoil ax fun c => c.clearCoil br
  else
    let s := if s.ovrMode ax = 2 then s.onCoil ax fun c => { c with demA := 0, demB := 0 } else s.putDemand ax (s.br ax br).adopted s.sys.time
    let c := vget s.coil ax
    s.putThreshold ax br (s.threshold ax (match br with | .a => c.demA | .b => c.demB))

/-! ### Once per tick (R192 to R199) -/

/-- The load angle counts as valid for OLA: estimates while moving, the press probe at rest (R192, R217, R224). -/
def State.laValid (s : State) (ax : Axis) : Bool :=
  if s.moving ax ∨ (s.me ax).record.vel ≠ 0 then s.bit (R.LO_STAT ax) 0 else s.bit (R.LO_STAT ax) 9

/-- The OLA amplitude at a tick (R192). Where OLA comes into use with the level already at RUN the amplitude keeps its value, CR_IRUN only from
the next change to RUN on (DESIGN CHOICE, log entry 102). -/
def State.olaTick (s : State) (ax : Axis) (was : Level) : State :=
  let r := (s.me ax).record
  let irun : Int := (fldOf (s.live ax (R.CR_IRUN ax)) 19 0 : Int) * 1000000
  let ola := s.live ax (R.CR_OLA ax)
  if r.level ≠ .run ∨ s.mode ax ≠ 1 then s
  else if was ≠ .run then s.onCoil ax fun c => { c with aOla := irun }
  else
    let a := (vget s.coil ax).aOla
    let d := (s.sfld (R.LO_LA ax) 15 0).natAbs
    let lt := if fldOf ola 9 0 = 0 then 512 else fldOf ola 9 0
    let want := if s.laValid ax ∧ d < 1024 then a * sinQ ((d : Int) * 65536) / sinQ ((lt : Int) * 65536) else irun
    let want := clampI (fldOf ola 23 16 * irun / 256) irun want
    let step := (max 1 (fldOf ola 31 24) : Nat) * irun / 256
    s.onCoil ax fun c => { c with aOla := clampI (a - step) (a + step) want }

/-- The encoder's speed over the last tick (R194). -/
def State.encTick (s : State) (ax : Axis) : State :=
  let n := (s.get (R.CR_ENCCNT ax)).toInt
  let cpr : Int := s.fld (R.CR_ENC ax) 23 0
  let d := sextN 32 (lowBits 32 (n - (vget s.coil ax).encPrev))
  s.onCoil ax fun c => { c with encPrev := n, encVel := if cpr = 0 then 0 else d * 268435456 * s.polePairs ax * 40000 / cpr }

/-- The error of R193 at a tick, microsteps. -/
def State.posErr (s : State) (ax : Axis) : Int :=
  let r := (s.me ax).record
  wrapMs (thetaMs r r.time / 65536 - s.thetaR ax r.time / 65536)

/-- The position loop's terms other than Iint, nA (R193). -/
def State.loopTerms (s : State) (ax : Axis) (e : Int) : Int :=
  let k := s.live ax (R.CR_PLOOP ax)
  (fldOf k 15 0 : Int) * e * 62500 + (fldOf k 31 16 : Int) * ((s.me ax).record.vel - s.velR ax) * 1000000 / 268435456

/-- The position loop runs once (R193). -/
def State.loopTick (s : State) (ax : Axis) : State :=
  let cap := s.acap ax (s.me ax).record.level
  let e := s.posErr ax
  let iint := clampMag (cap * 16 / 1000000) ((vget s.coil ax).iint + (fldOf (s.live ax (R.CR_PINT ax)) 15 0 : Int) * e)
  let iq := clampMag cap (s.loopTerms ax e + iint * 62500)
  s.onCoil ax fun c => { c with iint, iq }

/-- An upward handover starts: Iint is preloaded with the component of the OL vector at right angles to θest (R197). -/
def State.hovUp (s : State) (ax : Axis) : State :=
  let r := (s.me ax).record
  let cap := s.acap ax r.level
  let x := s.amp ax r.level * sinQ (thetaMs r r.time - s.thetaEst ax r.time) / 1073741824
  let iint := clampMag (cap * 16 / 1000000) ((x - s.loopTerms ax (s.posErr ax)) * 16 / 1000000)
  s.onCoil ax fun c => { c with hov := .up, back := false, alpha := 0, iint, iq := clampMag cap x }

/-- The handovers of R196 to R199 at a tick. -/
def State.hovTick (s : State) (ax : Axis) : State :=
  let c := vget s.coil ax
  let v := (s.me ax).record.vel.natAbs
  let up := s.fld (R.CR_XUP ax) 23 0 * 65536 ≤ v
  let dn := v < s.fld (R.CR_XDN ax) 23 0 * 65536
  let lock := s.bit (R.LO_STAT ax) 1
  let adv := (s.me ax).travel.natAbs / 65536
  match c.hov with
  | .none =>
    if !c.cl then (if up ∧ lock then s.hovUp ax else s)
    else if !lock then s.onCoil ax CoilAx.toOl
    else if dn then s.onCoil ax fun c => { c with hov := .down, back := false, alpha := 0 } else s
  | .up =>
    if !lock then s.onCoil ax CoilAx.toOl else
    let back := if dn then true else if up then false else c.back
    if back then
      if c.alpha ≤ adv then s.onCoil ax CoilAx.toOl else s.onCoil ax fun c => { c with back, alpha := c.alpha - adv }
    else if 2147483648 ≤ c.alpha + adv then s.onCoil ax fun c => { c with cl := true, hov := .none, back := false, alpha := 0 }
    else s.onCoil ax fun c => { c with back, alpha := c.alpha + adv }
  | .down =>
    if !lock then s.onCoil ax CoilAx.toOl else
    let adv := max adv (53687091 / max 1 (s.fld (R.CR_HOV ax) 15 0))
    let back := if up then true else if dn then false else c.back
    if back then
      s.onCoil ax fun c => if c.alpha ≤ adv then { c with hov := .none, back := false, alpha := 0 } else { c with back, alpha := c.alpha - adv }
    else if 2147483648 ≤ c.alpha + adv then s.onCoil ax CoilAx.toOl
    else s.onCoil ax fun c => { c with back, alpha := c.alpha + adv }

/-- The commutation stage at a tick. -/
def State.coilTick (s : State) (ax : Axis) : State :=
  let was := (vget s.coil ax).level
  let lv := (s.me ax).record.level
  let s := ((s.latchLive ax).encTick ax).onCoil ax fun c => { c with level := lv }
  let s := s.olaTick ax was
  if !s.crEn ax then (s.onCoil ax CoilAx.toOl).set (R.LO_PERR ax) 0#32
  else if lv = .off ∨ !s.granted ax ∨ !s.vgOk ∨ s.latchedOff ax .a ∨ s.latchedOff ax .b then (s.onCoil ax CoilAx.toOl).set (R.LO_PERR ax) 0#32
  else
    let s := if s.clAble ax then s.hovTick ax else s
    let s := if s.mode ax ≥ 2 ∨ (vget s.coil ax).hov ≠ .none then (if (vget s.coil ax).hov = .up ∧ (vget s.coil ax).alpha = 0 then s else s.loopTick ax) else s
    s.set (R.LO_PERR ax) (if s.mode ax ≥ 2 then wordOfInt (s.posErr ax) else 0#32)

/-! ### Enable, status, samples -/

/-- CR_CFG.EN is set: TACK0 of both bridges is held in CENTRE (R247). -/
def State.crEnable (s : State) (ax : Axis) : State := s.holdTacks ax

/-- In COFF and CON a bridge goes to slow decay at once (R252). -/
def State.slowNow (s : State) (ax : Axis) (br : Bridge) : State :=
  if s.bmode ax ≠ 0 && s.bridgeRuns ax br then (s.onBr ax br fun b => { b with phase := .idle }).bridgeTo ax br false false else s

/-- CR_CFG.EN is cleared: on-times and thresholds are 0 and the regulators hold nothing (R252). -/
def State.crDisable (s : State) (ax : Axis) : State :=
  let s := if s.crEn ax then (s.slowNow ax .a).slowNow ax .b else s
  let s := (s.setBit (R.CR_CFG ax) 31 false).onCoil ax fun c => { c.clear.toOl with demA := 0, demB := 0, iq := 0, inDq := false }
  (((s.set (R.PWM_THR ax) 0#32).set (R.LO_PERR ax) 0#32).zeroDq ax).setFld (R.CR_STAT ax) 7 6 0

/-- CR_STAT. While CR_CFG.EN is 0 no regulator runs, and NOVS and HOLDF read 0 (DESIGN CHOICE, log entry 103). -/
def State.crStat (s : State) (ax : Axis) : Word :=
  let c := vget s.coil ax
  let en := s.crEn ax
  let hold := en && (s.coilHeld ax .a || s.coilHeld ax .b)
  let lim (br : Bridge) : Bool := en && s.ovrMode ax ≠ 2 && !s.coilHeld ax br && s.bit (R.CR_STAT ax) (6 + brIx br)
  wordOfNat (c.alpha / 65536 * 65536 + b2n (en && s.bit (R.CR_CFG ax) 11 && (s.vsup ax).isNone) * 256 + b2n (lim .b) * 128 + b2n (lim .a) * 64
    + b2n hold * 32 + b2n (c.hov = .down) * 16 + b2n (c.hov = .up) * 8 + s.mode ax)

/-- The aligned sample of a coil (R275): ignored while its modulator is off. -/
def State.aligned (s : State) (c : Coil) (x : ModSample) : State :=
  if !s.csmOn c ∨ s.modStopped then s else
  let y := s.csmSample c x ((vget s.csm c).fastWarm ≠ 0)
  let s := (s.keepInput c x.code).csmRecord (R.CSM_ALGN c) y
  let ax := axisOf c
  let br := bridgeOf c
  if s.crEn ax && s.bmode ax = 0 then s.centreUpdate ax br (s.pol ax br * s.codeAmps c y.code) else s

/-- The fast-path samples at the regulators of the chopping axes. -/
def State.chopSamples (s : State) (ys : Vector ModSample 16) : State :=
  forAll 16 s fun s c =>
    let ax := axisOf c
    let br := bridgeOf c
    if s.crEn ax && s.bmode ax ≠ 0 then s.chopUpdate ax br (s.pol ax br * s.codeAmps c (vget ys c).code) else s

/-! ### The commands -/

/-- ALIGNED_SAMPLE (R275). -/
def execAlignedSample (c : Coil) (x : ModSample) (s : State) : Host.Outcome State Fault Refusal := .next (s.quiet.aligned c x)

/-- ENCODER_EDGE (R194). -/
def execEncoderEdge (ax : Axis) (up : Bool) (s : State) : Host.Outcome State Fault Refusal :=
  .next (if vget s.roles ax = .encoder || s.cmode ax = 3 then
    s.quiet.set (R.CR_ENCCNT ax) (if up then s.get (R.CR_ENCCNT ax) + 1#32 else s.get (R.CR_ENCCNT ax) - 1#32) else s.quiet)

/-- ENCODER_Z_EDGE (R170, R194). -/
def execEncoderZEdge (ax : Axis) (s : State) : Host.Outcome State Fault Refusal :=
  .next (if vget s.roles ax = .encoder || s.cmode ax = 3 then
    (s.quiet.set (R.CR_ENCZ ax) (s.get (R.CR_ENCCNT ax))).onMot ax fun m => { m with zEdge := true } else s.quiet)

/-- WAVE_TABLE_CHECK (R185). -/
def execWaveTableCheck (e : Fin 1024) (bad : List Axis) (s : State) : Host.Outcome State Fault Refusal :=
  .next (s.quiet.waveCheck e bad)

/-- CR_WDATA_WRITE (R185). -/
def execCrWdataWrite (m : Master) (ax : Axis) (w : Word) (s : State) : Host.Outcome State Fault Refusal :=
  .next (s.access m (R.CR_WDATA ax) fun s => s.wdataWrite m ax w)

/-- CR_OVR_WRITE (R208). -/
def execCrOvrWrite (m : Master) (ax : Axis) (w : Word) (s : State) : Host.Outcome State Fault Refusal :=
  .next (s.access m (R.CR_OVR ax) fun s => s.ovrWrite m ax w)

end Sys2Proof.Machine
end

