-- ==== Sys2Proof/Machine/Observer.lean ====
section
/-! DEFINITION. The load observer (spec/09): angle estimate, load angle, force, stall, and the press probe. Units as in the coil-current file;
the estimate itself in 2^-32 microstep and 2^-32 microstep/s. -/

namespace Sys2Proof.Machine

/-! ### Conditions -/

/-- LO_CFG.EN. -/
def State.loEn (s : State) (ax : Axis) : Bool := s.bit (R.LO_CFG ax) 31

/-- The regulators of the axis hold: HOLDF of CR_STAT. -/
def State.holdf (s : State) (ax : Axis) : Bool := s.coilHeld ax .a || s.coilHeld ax .b

/-- At rest: the tick velocity is 0 and ME_STAT.MOVING is 0 (R217). -/
def State.atRest (s : State) (ax : Axis) : Bool := (s.me ax).record.vel = 0 && !s.moving ax

/-- The conditions of R214 but |ê| and settling. -/
def State.loAble (s : State) (ax : Axis) : Bool :=
  s.loEn ax && s.crEn ax && s.bmode ax = 0 && (s.me ax).record.level ≠ .off && !s.holdf ax
    && (vget s.lo ax).ovlLeft = 0 && s.fld (R.LO_VMIN ax) 23 0 * 65536 ≤ (s.me ax).record.vel.natAbs

/-- A handover counts as CL. -/
def State.inCl (s : State) (ax : Axis) : Bool := s.mode ax = 2 || (vget s.coil ax).hov ≠ .none

/-- OL or OLA, outside a handover. -/
def State.inOl (s : State) (ax : Axis) : Bool := s.mode ax < 2 && (vget s.coil ax).hov = .none

/-- Stall causes are evaluated (R216, R225) but for the bridge mode, in which ENC keeps cause 5 (R190). -/
def State.stallOn (s : State) (ax : Axis) : Bool :=
  s.loEn ax && s.crEn ax && !s.atRest ax && !s.holdf ax && (s.me ax).record.level ≠ .off && s.ovrMode ax = 0

/-- Stall causes of the estimates are evaluated: not in COFF or CON. -/
def State.stallWatch (s : State) (ax : Axis) : Bool := s.stallOn ax && s.bmode ax = 0

/-- VS of R211. -/
def State.loVs (s : State) (ax : Axis) : Int := (s.vsup ax).getD (s.vnom ax)

/-! ### Stall (R225, R226) -/

/-- A cause is met: STALL sets and STCAUSE gives it; a stall already held stands. -/
def State.stall (s : State) (ax : Axis) (cause : Nat) : State :=
  if s.bit (R.LO_STAT ax) 5 then s else (s.setBit (R.LO_STAT ax) 5 true).setFld (R.LO_STAT ax) 19 16 cause

/-- LATH and the count of cause 1: those of LO_HOME while a home of method 0 or 1 is ACTIVE (R227), the automatic home of the door inputs
included (R231). -/
def State.lath (s : State) (ax : Axis) : Nat × Nat :=
  let m := s.me ax
  let k := if (m.active.isSome || m.engaged && m.autoHome) && m.prm.mode = 2 && m.prm.homemeth ≤ 1 then R.LO_HOME ax else R.LO_STALL ax
  (min 2047 (s.fld k 23 12), max 1 (s.fld k 31 24))

/-! ### The estimate (R211 to R213) -/

/-- The mean of u over the 6.4 µs around the instant 28.8 µs ago, from the periods' commands; 0 before the first. `hi` is the end of what
is still to be weighed, in SYS cycles. -/
def meanU : List (Nat × Int) → (lo hi : Int) → Int
  | [], _, _ => 0
  | (t, u) :: rest, lo, hi =>
    let from_ : Int := max lo (t : Int)
    if hi ≤ lo then 0 else (if from_ < hi then u * (hi - from_) else 0) + meanU rest lo (min hi from_)

/-- The voltage applied to a coil, nV (R211). -/
def State.appliedVolts (s : State) (ax : Axis) (br : Bridge) (i : Int) : Int :=
  let now : Int := s.sys.cyc
  let u := s.pol ax br * (meanU (s.br ax br).hist (now - 6400) (now - 5120) / 1280)
  let vs := s.loVs ax
  let si := clampI (-1073741824) 1073741824 (i * 1073741824 / 50000000)
  (u - 2 * (s.deadTime ax br : Int) * si / s.per ax) * vs / 1073741824

/-- LO_PLL.BW: 10 to 1,000 Hz. -/
def State.loBw (s : State) (ax : Axis) : Nat := max 10 (min 1000 (s.fld (R.LO_PLL ax) 15 0))

/-- The back-EMF of a coil after its low-pass (R212). Before a second sample the derivative counts as 0. -/
def State.backEmf (s : State) (ax : Axis) (br : Bridge) (last i : Int) (prev : Option Int) : Int :=
  let lInd : Int := s.fld (R.CR_MOTOR1 ax) 31 16
  let res : Int := s.fld (R.CR_MOTOR1 ax) 15 0
  let raw := s.appliedVolts ax br i - res * i / 1000 - lInd * (i - prev.getD i) * 5 / 32
  Config.lowPass (4 * s.loBw ax) last raw

/-- One step of the phase-locked loop (R212). `mag` is |ê|; at 0 the error is open. -/
def State.pllStep (s : State) (ax : Axis) (mag : Int) : State :=
  let l := vget s.lo ax
  let th := l.theta / 65536
  let tv := (s.me ax).record.vel
  let sg := if l.vel ≠ 0 then sgn l.vel else sgn tv
  let x := (-(l.eA * cosQ th) - l.eB * sinQ th) / 1073741824 * sg
  let (eps, s) := if mag = 0 then s.drawInt (-268435456) 268435456 else (x * 4096 * 4294967296 * 500000000 / (mag * 3141592654), s)
  let wn : Int := 6283185307 * s.loBw ax / 1000
  let lag := s.fld (R.LO_PLL ax) 23 16
  let theta := l.theta + (l.vel + 2 * wn * eps / 1000000) * 64 / 10000000
  let vel := l.vel + wn * wn / 1000000 * eps / 1000000 * 64 / 10000000
  let errF := Config.lag 4096 l.errF ((eps.natAbs : Int) / 65536)
  let unlock := (2 * max 1 lag * 65536 : Nat) < errF
  let s := s.onLo ax fun l => { l with theta, vel, errF, lockN := if errF ≤ (max 1 lag * 65536 : Nat) then l.lockN + 1 else 0 }
  if unlock then s.setBit (R.LO_STAT ax) 1 false else s

/-- The loop is preset (R213). -/
def State.pllPreset (s : State) (ax : Axis) : State :=
  let tv := (s.me ax).record.vel
  s.onLo ax fun l => { l with
    track := true, vel := tv * 65536
    theta := (((Config.angleOf l.eA l.eB : Int) - 1024 * sgn tv) % 4096) * 4294967296 }

/-! ### Load angle and force (R217 to R219) -/

/-- LO_STAT.SRC: 0 none, 1 back-EMF, 2 encoder, 3 press probe. -/
def State.loSrc (s : State) (ax : Axis) : Nat :=
  if s.mode ax = 3 then 2
  else if s.atRest ax then (if s.inOl ax && s.bit (R.LO_STAT ax) 9 then 3 else 0)
  else if s.bit (R.LO_STAT ax) 0 then 1 else 0

/-- θr of R218 at an instant. -/
def State.loTheta (s : State) (ax : Axis) (te : Int) : Int :=
  match s.loSrc ax with
  | 2 => s.thetaEnc ax
  | 3 => (thetaMs (s.me ax).record te - s.sfld (R.LO_PPRES ax) 15 0 * 65536) % 268435456
  | _ => (vget s.lo ax).theta / 65536 % 268435456

/-- FVALID (R216, R219). -/
def State.forceValid (s : State) (ax : Axis) : Bool :=
  s.loEn ax && s.get (R.LO_KF ax) ≠ 0#32 && s.ovrMode ax = 0 && (s.me ax).record.level ≠ .off && !s.holdf ax &&
    (if s.mode ax = 3 then s.encValid ax && s.bmode ax = 0 && (vget s.lo ax).ovlLeft = 0
     else if s.atRest ax then s.inOl ax && s.bit (R.LO_STAT ax) 9
     else s.bit (R.LO_STAT ax) 0)

/-- F of R218, mN, before its filter. -/
def State.forceRaw (s : State) (ax : Axis) (iq : Int) : Int :=
  let c := s.closeSign ax
  let r := (s.me ax).record
  let fric := s.get (R.LO_FRIC ax)
  c * (s.get (R.LO_KF ax)).toNat * iq / 1000000000
    - ((s.get (R.LO_MEFF ax)).toNat : Int) * c * r.acc * (s.get (R.ME_KPM ax)).toNat / 1000000000000
    - 10 * (fldOf fric 31 16 : Int) * sgn (c * r.vel) - (fldOf fric 15 0 : Int) * c * r.vel / 4294967296

/-- LO_LA (R217). -/
def State.loadAngle (s : State) (ax : Axis) (te iq : Int) : Int :=
  if s.inOl ax then
    if s.atRest ax then (if s.bit (R.LO_STAT ax) 9 then s.sfld (R.LO_PPRES ax) 15 0 else 0)
    else if s.bit (R.LO_STAT ax) 0 then wrapMs ((thetaMs (s.me ax).record te - (vget s.lo ax).theta / 65536) / 65536) else 0
  else if s.bit (R.LO_STAT ax) 2 then
    let cap := s.acap ax (s.me ax).record.level
    let q := clampMag cap iq
    if cap = 0 then 0 else clampMag 1024 (wrapMs (Config.angleOf (isqrt (cap * cap - q * q).toNat) q))
  else 0

/-- Current, torque, force and load angle of an update. Where no angle is in use, their values are open. -/
def State.loLoad (s : State) (ax : Axis) (iA iB te : Int) : State :=
  let was := s.bit (R.LO_STAT ax) 2
  let src := s.loSrc ax
  let fv := s.forceValid ax
  let s := (s.setFld (R.LO_STAT ax) 13 12 src).setBit (R.LO_STAT ax) 2 fv
  if src = 0 then
    let (x, s) := s.drawWord
    let (y, s) := s.drawWord
    let (z, s) := s.drawWord
    (((s.set (R.LO_IQ ax) x).set (R.LO_TORQ ax) y).set (R.LO_FORCE ax) z).set (R.LO_LA ax) 0#32
  else
    let th := s.loTheta ax te
    let iq := (iB * cosQ th - iA * sinQ th) / 1073741824
    let s := s.putRounded (R.LO_IQ ax) iq 1000000
    let s := s.putRounded (R.LO_TORQ ax) (s.polePairs ax * (s.fld (R.CR_MOTOR2 ax) 23 0 : Int) * iq) 100000000000
    let f := s.forceRaw ax iq
    let tau := s.fld (R.LO_CFG ax) 15 8
    let f := if tau = 0 ∨ (fv ∧ !was) then f else Config.lag (1000 * tau) (s.get (R.LO_FORCE ax)).toInt f
    let s := s.set (R.LO_FORCE ax) (wordOfInt f)
    s.set (R.LO_LA ax) (wordOfInt (s.loadAngle ax te iq))

/-- LO_KF (R218): recomputed when CR_MOTOR2 or ME_KPM is written. -/
def State.forceConst (s : State) (ax : Axis) : State :=
  let psi := s.fld (R.CR_MOTOR2 ax) 23 0
  let k := (s.get (R.ME_KPM ax)).toNat
  if psi = 0 ∨ k = 0 then s.set (R.LO_KF ax) 0#32
  else
    let (v, s) := s.report (6283185307 * psi : Nat) (4096 * k : Nat)
    s.set (R.LO_KF ax) (wordOfInt v)

/-! ### One update (R214 to R216, R225, R226) -/

/-- VALID clears, LOCK with it, and a lock lost in CL or a handover is cause 4 (R214, R215, R225). -/
def State.loInvalid (s : State) (ax : Axis) : State :=
  (s.setFld (R.LO_STAT ax) 1 0 0).onLo ax fun l => { l with track := false, errF := 0, okN := 0, lockN := 0 }

/-- Causes 1 and 2 at an update, and the count of slips (R225, R226). -/
def State.loStall (s : State) (ax : Axis) : State :=
  let ok := s.inOl ax && s.bit (R.LO_STAT ax) 0 && !s.atRest ax
  if !ok then s.onLo ax fun l => { l with stallN := 0, delta := none } else
  let d := s.sfld (R.LO_LA ax) 15 0
  let (lath, n) := s.lath ax
  let l := vget s.lo ax
  let past := lath ≠ 0 && lath ≤ d.natAbs && s.stallWatch ax
  let cnt := if past then l.stallN + 1 else 0
  let slip : Int := match l.delta with
    | none => 0
    | some p => if d - p < -2048 then 1 else if 2048 < d - p then -1 else 0
  let s := s.onLo ax fun l => { l with stallN := cnt, delta := some d }
  let s := if past ∧ n ≤ cnt then s.stall ax 1 else s
  if slip = 0 then s else
  let s := (s.set (R.LO_SLIP ax) (wordOfInt ((s.get (R.LO_SLIP ax)).toInt + slip))).onMot ax fun m => { m with posunk := true }
  if s.stallWatch ax then s.stall ax 2 else s

/-- VALID and LOCK set once their conditions have held for 256 and 512 consecutive updates (R214, R215). -/
def State.loSettle (s : State) (ax : Axis) : State :=
  let l := vget s.lo ax
  let s := if 256 ≤ l.okN then s.setBit (R.LO_STAT ax) 0 true else s
  if s.bit (R.LO_STAT ax) 0 && 512 ≤ l.lockN then s.setBit (R.LO_STAT ax) 1 true else s

/-- The outputs of the estimate (R213). -/
def State.loOutputs (s : State) (ax : Axis) (te : Int) : State :=
  let ms := thetaMs (s.me ax).record te
  let valid := s.bit (R.LO_STAT ax) 0
  let th := if valid then (vget s.lo ax).theta / 65536 % 268435456
    else if s.bit (R.LO_STAT ax) 9 then (ms - s.sfld (R.LO_PPRES ax) 15 0 * 65536) % 268435456 else ms
  (s.set (R.LO_THETA ax) (wordOfInt th)).setWide (R.LO_VEST ax) (if valid then (vget s.lo ax).vel / 65536 else (s.me ax).record.vel)

/-- The conditions of cause 3 at a magnitude of the back-EMF, but for its time (R225). -/
def State.collapsing (s : State) (ax : Axis) (mag : Int) : Bool :=
  let psi := s.fld (R.CR_MOTOR2 ax) 23 0
  let v := (s.me ax).record.vel.natAbs
  let emf : Int := v * psi * 6283185307 / 268435456000000
  s.stallWatch ax && s.mode ax ≠ 3 && psi ≠ 0 && s.fld (R.LO_VMIN ax) 23 0 * 65536 ≤ v && s.loVs ax ≤ 50 * emf && 5 * mag < 2 * emf

/-- Cause 3 is met once its conditions have lasted COLT ms without interruption (R225). -/
def State.collapse (s : State) (ax : Axis) : State :=
  let colt := s.fld (R.LO_COLL ax) 7 0
  match (vget s.lo ax).colSince with
  | some t => if colt ≠ 0 ∧ t + colt * 200000 ≤ s.sys.cyc then s.stall ax 3 else s
  | none => s

/-- Cause 3 at an update: the time since which its conditions have held. -/
def State.collapseTick (s : State) (ax : Axis) (mag : Int) : State :=
  let now := s.sys.cyc
  let on := s.collapsing ax mag
  (s.onLo ax fun l => { l with colSince := if on then some (l.colSince.getD now) else none }).collapse ax

/-- The demodulation of a press probe's half-window (R222): the currents along γ and at right angles to it, in phase with the injection at
the samples' instant, over 1,250 samples (DEDUCED, log entry 104). -/
def State.probeSample (s : State) (ax : Axis) (iA iB te : Int) : State :=
  let l := vget s.lo ax
  if !s.bit (R.LO_STAT ax) 10 ∨ 1250 ≤ l.ppN then s else
  let g := thetaMs (s.me ax).record te + (if l.ppOdd then 33554432 else 0)
  let sn := sinQ (((s.sys.cyc : Int) - 5760 - l.ppStart) * 268435456 / 100000)
  let along := (iA * cosQ g + iB * sinQ g) / 1073741824
  let cross := (iB * cosQ g - iA * sinQ g) / 1073741824
  s.onLo ax fun l => { l with ppN := l.ppN + 1, ppIp := l.ppIp + along * sn / 536870912, ppC := l.ppC + cross * sn / 536870912 }

/-- LO_PRESSn follows PRESS. -/
def State.settlePress (s : State) (ax : Axis) : State := s.level (48 + ax) (s.bit (R.LO_STAT ax) 8) (s.get (R.LO_LA ax))

/-- PRESS follows the last results (R224). -/
def State.pressTick (s : State) (ax : Axis) : State :=
  let fth := s.fld (R.LO_PP ax) 23 0
  let pn := max 1 (s.fld (R.LO_PP ax) 31 24)
  if fth = 0 ∨ !s.bit (R.LO_STAT ax) 9 then
    ((s.setBit (R.LO_STAT ax) 8 false).onLo ax fun l => { l with pressHi := 0, pressLo := 0 }).settlePress ax
  else
    let f := (s.get (R.LO_FORCE ax)).toInt.natAbs
    let hi := if fth ≤ f then (vget s.lo ax).pressHi + 1 else 0
    let lo := if 8 * f < 7 * fth then (vget s.lo ax).pressLo + 1 else 0
    let s := s.onLo ax fun l => { l with pressHi := hi, pressLo := lo }
    let s := if pn ≤ hi then s.setBit (R.LO_STAT ax) 8 true else if pn ≤ lo then s.setBit (R.LO_STAT ax) 8 false else s
    s.settlePress ax

/-- A new result is judged by the force that the update computes from it (R224). -/
def State.pressNew (s : State) (ax : Axis) : State :=
  if (vget s.lo ax).ppNew then (s.onLo ax fun l => { l with ppNew := false }).pressTick ax else s

/-- One observer update of an axis from its fine-path samples (R211 to R219). While the observer is off its outputs follow the tick record
(R213). -/
def State.loUpdate (s : State) (ax : Axis) (xa xb : ModSample) : State :=
  let te : Int := (s.sys.time : Int) - 28800
  if !s.loEn ax then s.loOutputs ax te else
  let iA := s.pol ax .a * s.codeAmps (coilOf ax .a) xa.code
  let iB := s.pol ax .b * s.codeAmps (coilOf ax .b) xb.code
  let l := vget s.lo ax
  let left := if xa.ovl || xb.ovl then 64 else l.ovlLeft - 1
  let eA := s.backEmf ax .a l.eA iA l.iA
  let eB := s.backEmf ax .b l.eB iB l.iB
  let s := (s.setBit (R.LO_STAT ax) 6 (left ≠ 0)).onLo ax fun l => { l with ovlLeft := left, eA, eB, iA := some iA, iB := some iB, te }
  let mag : Int := isqrt (eA * eA + eB * eB).toNat
  let able := s.loAble ax && s.loVs ax ≤ 100 * mag
  let s := s.putRounded (R.LO_EMF ax) (min mag 655350000000) 10000000
  let lock := s.bit (R.LO_STAT ax) 1
  let s := if !able then s.loInvalid ax
    else ((if (vget s.lo ax).track then s.pllStep ax mag else s.pllPreset ax).onLo ax fun l => { l with okN := l.okN + 1 }).loSettle ax
  let s := s.collapseTick ax mag
  let lost := lock && !s.bit (R.LO_STAT ax) 1 && s.inCl ax
  let s := if lost && s.stallWatch ax then s.stall ax 4 else s
  let s := if lost then s.onCoil ax CoilAx.toOl else s
  let s := ((s.probeSample ax iA iB te).loLoad ax iA iB te).pressNew ax
  (s.loStall ax).loOutputs ax te

/-- Two lists of the sixteen coils added. -/
def addCoils (xs ys : List Int) : List Int := (List.range 16).map fun c => xs.getD c 0 + ys.getD c 0

/-- The demodulation at 1 kHz of the sixteen fine paths while a check of the wiring drives a coil at its final U (R229). -/
def State.wireSample (s : State) (ys : List ModSample) (ax : Axis) : State :=
  match vget s.fw.plan ax with
  | some p => match p.last, p.steps with
    | true, .square _ true :: _ =>
      let ph : Int := ((s.sys.cyc : Int) - 5760) * 268435456 / 200000
      let cur : List Int := (List.finRange 16).map fun c => s.codeAmps c (ys.getD c ⟨0, false⟩).code
      let mul (k : Int) : List Int := cur.map fun i => i * k / 1073741824
      let p := { p with dn := p.dn + 1, di := addCoils p.di (mul (sinQ ph)), dq := addCoils p.dq (mul (cosQ ph)) }
      { s with fw := { s.fw with plan := vset s.fw.plan ax (some p) } }
    | _, _ => s
  | none => s

/-- One entry of the fine path's queue is taken: every axis's observer updates. -/
def State.fineTake (s : State) (ys : List ModSample) : State :=
  forAll 8 (forAll 8 s fun s ax => s.loUpdate ax (ys.getD (2 * ax) ⟨0, false⟩) (ys.getD (2 * ax + 1) ⟨0, false⟩))
    fun s ax => s.wireSample ys ax

/-- The fine-path samples (R16, R274) cross to the SYS domain through their queue. While PLL-A stands the queue fills; a further entry is
discarded and raises CDC_OVF of domain 1 (R15). -/
def State.fine (s : State) (xs : List ModSample) : State :=
  if s.modStopped then s else
  let (s, ys) := s.csmFine xs
  if s.sys.pllStop.getLsbD 0 then
    (if s.fineQ.length < 4 then { s with fineQ := s.fineQ ++ [ys.toList] } else s.raise 4 1#32)
  else (s.fineQ ++ [ys.toList]).foldl State.fineTake { s with fineQ := [] }

/-- OBSERVER_VALID (R214): VALID sets once its conditions have held for 256 consecutive updates, and hold. -/
def State.loValid (s : State) (ax : Axis) : State :=
  if s.loAble ax && 256 ≤ (vget s.lo ax).okN then s.setBit (R.LO_STAT ax) 0 true else s

/-- OBSERVER_LOCK (R215): LOCK sets while VALID is 1 and the filtered error has stayed within LKTH for 512 consecutive updates. -/
def State.loLock (s : State) (ax : Axis) : State :=
  if s.bit (R.LO_STAT ax) 0 && 512 ≤ (vget s.lo ax).lockN then s.setBit (R.LO_STAT ax) 1 true else s

/-- BACK_EMF_COLLAPSE (R225): COLT ms have passed since the conditions of cause 3 came to hold, and they hold. -/
def State.collapseNow (s : State) (ax : Axis) : State :=
  let l := vget s.lo ax
  if s.collapsing ax (isqrt (l.eA * l.eA + l.eB * l.eB).toNat) then s.collapse ax else s

/-! ### The press probe (R221 to R224) -/

/-- The conditions of R221 but rest. -/
def State.probeAble (s : State) (ax : Axis) : Bool :=
  s.loEn ax && s.crEn ax && s.cmode ax ≠ 3 && s.bmode ax = 0 && s.per ax ≤ 10000 && (s.me ax).record.level ≠ .off && !s.holdf ax
    && s.ovrMode ax = 0

/-- The probe stops: PPRUN, PPVALID and PRESS read 0 (R223, R224). -/
def State.probeStop (s : State) (ax : Axis) : State :=
  if s.fld (R.LO_STAT ax) 10 8 = 0 then s else
  ((s.setFld (R.LO_STAT ax) 10 8 0).onLo ax fun l =>
    { l with ppHalf := none, ppOdd := false, ppSpoil := false, ppN := 0, ppIp := 0, ppC := 0, ppNew := false, pressHi := 0, pressLo := 0 }).settlePress ax

/-- PRESS_PROBE_START (R221). -/
def State.probeStart (s : State) (ax : Axis) : State :=
  if s.bit (R.LO_CFG ax) 30 && s.probeAble ax && s.atRest ax && (s.me ax).active.isNone && !s.bit (R.LO_STAT ax) 10 then
    let now := s.sys.cyc
    (s.setBit (R.LO_STAT ax) 10 true).onLo ax fun l => { l with
      ppStart := now, ppHalf := none, ppOdd := false, ppSpoil := false, ppN := 0, ppIp := 0, ppC := 0, ppNew := false, pressHi := 0, pressLo := 0 }
  else s

/-- PRESS_PROBE_HALF_WINDOW (R223): the half-window of 1,250 samples ends, with its amplitude along γ and its cross response. -/
def State.probeHalf (s : State) (ax : Axis) : State :=
  let l := vget s.lo ax
  if !s.bit (R.LO_STAT ax) 10 ∨ l.ppN < 1250 then s else
  let ip := l.ppIp / 1250
  let cross := l.ppC / 1250
  let s := s.onLo ax fun l => { l with
    ppOdd := !l.ppOdd, ppSpoil := false, ppN := 0, ppIp := 0, ppC := 0, ppHalf := if l.ppSpoil then none else some cross }
  if l.ppSpoil then s else
  match l.ppHalf with
  | none => s
  | some other =>
    let (c0, c45) := if l.ppOdd then (other, cross) else (cross, other)
    let d := wrapMs (Config.angleOf c45 c0) / 2
    let (sal, s) := if ip = 0 then s.drawInt 0 65535 else s.report (65536 * isqrt (c0 * c0 + c45 * c45).toNat) ip.natAbs
    let s := s.set (R.LO_PPRES ax) (wordOfNat ((clampI 0 65535 sal).toNat * 65536 + lowBits 16 d))
    let s := s.setBit (R.LO_STAT ax) 9 (s.fld (R.LO_PP2 ax) 15 0 ≤ sal)
    let s := (s.setFld (R.LO_STAT ax) 13 12 (s.loSrc ax))
    s.onLo ax fun l => { l with ppNew := true }

/-! ### Once per tick, enable, status -/

/-- The observer at a tick: cause 5, the end of a held stall, the end of the probe (R216, R223, R225, R226). `lv`: the level before. -/
def State.loTick (s : State) (ax : Axis) (lv : Level) : State :=
  let m := s.me ax
  let peth := min 2047 (s.fld (R.LO_STALL ax) 11 0)
  let far := s.stallOn ax && (s.bmode ax = 0 || s.mode ax = 3) && (s.mode ax = 3 || s.inCl ax) && peth ≠ 0 && peth ≤ (s.posErr ax).natAbs
  let n := if far then (vget s.lo ax).petN + 1 else 0
  let spoil := lv ≠ m.record.level || s.holdf ax
  let s := s.onLo ax fun l => { l with petN := n, ppSpoil := l.ppSpoil || spoil }
  let s := if 4 ≤ n then s.stall ax 5 else s
  let s := if m.record.vel = 0 || m.record.level = .off then s.stallCleared ax else s
  let s := if s.bit (R.LO_STAT ax) 10 && !(s.bit (R.LO_CFG ax) 30 && s.probeAble ax && s.atRest ax && m.active.isNone && !m.wentActive) then s.probeStop ax else s
  s.onMot ax fun m => { m with wentActive := false }

/-- LO_CFG.EN is cleared (R216): all that the observer holds clears, and its outputs follow the tick record (R213). -/
def State.loDisable (s : State) (ax : Axis) : State :=
  let s := (s.setBit (R.LO_CFG ax) 31 false).probeStop ax
  let gone := [R.LO_STAT ax, R.LO_SLIP ax, R.LO_LA ax, R.LO_IQ ax, R.LO_TORQ ax, R.LO_FORCE ax, R.LO_EMF ax, R.LO_PPRES ax]
  ((gone.foldl (fun s k => s.set k 0#32) s).onLo ax fun _ => {}).loOutputs ax s.sys.time

/-- LO_STAT. -/
def State.loStat (s : State) (ax : Axis) : Word :=
  let ppblk := s.bit (R.LO_CFG ax) 30 && !s.probeAble ax
  s.get (R.LO_STAT ax) ||| wordOfNat (b2n ppblk * 2048 + b2n (s.loEn ax && (s.vsup ax).isNone) * 128)

/-! ### The commands -/

/-- FINE_PATH_SAMPLE (R211 to R219, R274). -/
def execFinePathSample (xs : List ModSample) (s : State) : Host.Outcome State Fault Refusal := .next (s.quiet.fine xs)

/-- OBSERVER_VALID (R214). -/
def execObserverValid (ax : Axis) (s : State) : Host.Outcome State Fault Refusal := .next (s.quiet.loValid ax)

/-- OBSERVER_LOCK (R215). -/
def execObserverLock (ax : Axis) (s : State) : Host.Outcome State Fault Refusal := .next (s.quiet.loLock ax)

/-- BACK_EMF_COLLAPSE (R225). -/
def execBackEmfCollapse (ax : Axis) (s : State) : Host.Outcome State Fault Refusal := .next (s.quiet.collapseNow ax)

/-- PRESS_PROBE_START (R221). -/
def execPressProbeStart (ax : Axis) (s : State) : Host.Outcome State Fault Refusal := .next (s.quiet.probeStart ax)

/-- PRESS_PROBE_HALF_WINDOW (R223). -/
def execPressProbeHalfWindow (ax : Axis) (s : State) : Host.Outcome State Fault Refusal := .next (s.quiet.probeHalf ax)

end Sys2Proof.Machine
end

