-- ==== Sys2Proof/Machine/Bus.lean ====
section
/-! DEFINITION. The register accesses of every master: what a register reads, the side effects of a read, and a write under the rules of
enable, access and parity (R17, R86, R90, R93, R97 to R107). -/

namespace Sys2Proof.Machine

/-! ### Where a register lives -/

/-- The HI word's address of a multi-word value, and which of HI, LO and HI2 an address is (R99). -/
def multiOf (r : RegRow) (k : Nat) : Nat × Nat :=
  let j := (k % 128 - r.index) % 3
  (k - j, j)

/-! ### Reads -/

/-- HSP_STAT.MODE (R106). -/
def State.opMode (s : State) : Nat :=
  if s.sys.testMode then 3 else if s.bit R.HSP_MODE 0 then 2 else b2n s.ready

/-- The record of the previous frame and the present state, as the status byte of a read frame gives them (R94). -/
def State.statusByte (s : State) (p : Port) : Nat :=
  b2n s.irq * 64 + b2n p.rej * 32 + b2n p.nak * 16 + b2n p.undr * 8 + b2n p.wrap * 4 + b2n s.parStatus * 2 + b2n s.ready

/-- HSP_STAT. -/
def State.hspStat (s : State) : Word :=
  wordOfNat (s.statusByte s.hostPort * 65536 + b2n s.ready * 256 + s.opMode)

/-- Registers of a motion-engine page that the engine's state gives. -/
def State.viewMe (s : State) (ax : Axis) (k i : Nat) : Word :=
  let m := s.me ax
  if i = 0x02 then s.meStat ax
  else if i = 0x03 then s.meQ ax
  else if i = 0x04 then hiWord m.rpos
  else if i = 0x05 then loWord m.rpos
  else if i = 0x07 then hiWord m.rvel
  else if i = 0x08 then loWord m.rvel
  else if i = 0x0A then wordOfInt m.record.acc
  else if i = 0x0B then hiWord m.tgt
  else if i = 0x0C then loWord m.tgt
  else if (i = 0x12 ∨ i = 0x13) ∧ (s.get (R.ME_MASS ax) = 0#32 ∨ s.get (R.ME_KPM ax) = 0#32) then 10240000#32
  else s.get k

/-- Registers of the context page that the contexts give. -/
def State.viewCtx (s : State) (m : Master) (k i : Nat) : Word :=
  let c := s.fld R.CTX_SEL 7 0
  if i = 0x01 then s.allocWord
  else if i = 0x04 then s.ctxCount
  else if 0x08 ≤ i ∧ i < 0x10 then s.ctxFreemap (i - 0x08)
  else if 0x10 ≤ i ∧ i < 0x50 then (if s.isUe .ctx (8 * c + (i - 0x10) / 8) ∧ m.serial then 0#32 else s.ctxRead c (i - 0x10))
  else s.get k

/-- Registers of a coil page that the regulators and the observer give. -/
def State.viewCoil (s : State) (ax : Axis) (k i : Nat) : Word :=
  if i = 0x01 then s.crStat ax
  else if i = 0x20 then wordOfNat (s.waveStored ax (s.fld (R.CR_WADDR ax) 9 0))
  else if i = 0x41 then s.loStat ax
  else s.get k

/-- Registers of the collector's page that the records give. -/
def State.viewFc (s : State) (k i : Nat) : Word :=
  let src := s.fld R.FC_RSEL 6 0
  let r := s.fcRec src
  if i = 0x01 then s.fcStatWord
  else if i = 0x03 then s.fcRecWord src
  else if i = 0x04 then hiWord r.time
  else if i = 0x05 then loWord r.time
  else if i = 0x07 then r.detail
  else if 0x10 ≤ i ∧ i < 0x14 then s.fcLatchMap (i - 0x10)
  else if 0x14 ≤ i ∧ i < 0x18 then s.fcPendMap (i - 0x14)
  else if 0x18 ≤ i ∧ i < 0x1C then s.fcCauseMap (i - 0x18)
  else s.get k

/-- GDG_TPSTAT (R260): whether a pump delivers its full current is open; one that does not run delivers none. -/
def State.tpStat (s : State) : Word :=
  let runs (k : Nat) : Bool := s.bit R.GDG_CFG 31 && s.bit R.GDG_CFG (16 + k / 4)
  Config.freeWord s.free &&& wordOfNat (packBits 32 runs)

/-- A register as it reads, HI2 already turned into HI. -/
def State.view (s : State) (m : Master) (k : Nat) : Word :=
  let p := k / 128
  let i := k % 128
  let ax := axisAt p
  if k = R.HSP_STAT then s.hspStat
  else if p = 0x03 ∧ 0x20 ≤ i ∧ i < 0x25 then s.doorbell (i - 0x20)
  else if p = 0x0A then s.viewFc k i
  else if 0x10 ≤ p ∧ p < 0x18 then s.viewMe ax k i
  else if p = 0x18 then s.viewCtx m k i
  else if 0x20 ≤ p ∧ p < 0x28 then s.viewCoil ax k i
  else if 0x30 ≤ p ∧ p < 0x38 ∧ i = 0x03 then s.gdStat ax
  else if k = R.GDG_TPSTAT then s.tpStat
  else if 0x41 ≤ p ∧ p < 0x45 ∧ i = 0x02 then s.pcStat ⟨(p - 0x41) % 4, by omega⟩
  else if k = R.REF_STAT then wordOfNat s.refAge
  else if p = 0x50 then (s.safReg i).getD 0#32
  else if k = R.MSP_STAT then s.mspStat
  else if k = R.MSP_RXD then (s.mspRead m).1
  else if k = R.SPL_PRES then s.splPres
  else if k = R.WJ_STAT then s.wjStat
  else if k = R.LNK_TSRATE then wordOfInt s.rate
  else if k = R.TIM_STAT then wordOfNat (b2n (s.alarm 1) * 2 + b2n (s.alarm 0))
  else if k = R.TIM_TIME then hiWord s.sys.time
  else if k = R.TIM_TIME + 1 then loWord s.sys.time
  else s.get k

/-- What a master reads at an address: an unimplemented location reads 0 (R86). A write-only register whose locator says nothing of a read
(SYS_RSTCTL, SYS_BRST, SYS_WDKICK, CTX_CMD, WJ_CTL) reads 0 too: the spec states no value (DESIGN CHOICE, log entry 92). -/
def State.readWord (s : State) (m : Master) (k : Nat) : Word :=
  match bchOf k with
  | some (n, o) => if o = 0x12 then s.takeWord m n else if o = 0x11 then s.bStat n else s.get k
  | none =>
    match regRow k with
    | none => 0#32
    | some r =>
      match r.acc with
      | .wo => 0#32
      | .wc => 0#32
      | _ => s.view m (if r.multi ∧ (multiOf r k).2 = 2 then k - 2 else k)

/-- The side effects of a read (R25, R116, R117, R163, R184, R402). -/
def State.readEffect (s : State) (m : Master) (k : Nat) : State :=
  let p := k / 128
  let i := k % 128
  match bchOf k with
  | some (n, o) => if o = 0x12 then s.takeEffect m n else s
  | none =>
    if p = 0x03 ∧ 0x60 ≤ i ∧ i < 0x68 then s.wordEffect m (i - 0x60)
    else if k = R.CTX_ALLOC then s.allocEffect m
    else if p = 0x18 ∧ 0x10 ≤ i ∧ i < 0x50 then
      let w := 8 * s.fld R.CTX_SEL 7 0 + (i - 0x10) / 8
      if s.isUe .ctx w then (if m.serial then s.darnUe .ctx w else (s.darnUe .ctx w).busError) else s
    else if 0x20 ≤ p ∧ p < 0x28 ∧ i = 0x20 then s.waveNext (axisAt p)
    else if k = R.GDG_TPSTAT then { s with free := s.free + 1 }
    else if 0x30 ≤ p ∧ p < 0x38 ∧ i = 0x03 then s.lookGd (axisAt p)
    else if k = R.MSP_RXD then (s.mspRead m).2
    else s

/-! ### Writes under R103 -/

/-- EN of the block that holds a register. -/
def State.enOf (s : State) (k : Nat) : Bool :=
  match enReg k with
  | some e => s.bit e 31
  | none => false

/-- The register after a write: fields outside the row's writable bits keep their values. -/
def RegRow.merge (r : RegRow) (old w : Word) : Word := (w &&& r.mask) ||| (old &&& ~~~r.mask)

/-- A write of a register without effects of its own: ignored as a whole word when it would change a configuration field of an enabled
block (R103). -/
def State.plainWrite (s : State) (m : Master) (r : RegRow) (k : Nat) (w : Word) : State :=
  let old := s.get k
  let new := r.merge old w
  if s.enOf k && (new ^^^ old) &&& r.cfg ≠ 0#32 then s.writeIgnored m k else s.store k new

/-- EN of a block is cleared (R103): what the block does then. -/
def State.clearEn (s : State) (k : Nat) : State :=
  let p := k / 128
  let ax := axisAt p
  (if k = R.SYS_SUPCFG then
      let s := s.setBit k 31 false
      if s.bit R.SYS_SUPSTAT 2 then s.vsupWarnEnd else s
    else if 0x10 ≤ p ∧ p < 0x18 then s.meDisable ax
    else if 0x20 ≤ p ∧ p < 0x28 then (if k % 128 = 0 then s.crDisable ax else s.loDisable ax)
    else if 0x28 ≤ p ∧ p < 0x30 then s.pwmDisable ax
    else if 0x30 ≤ p ∧ p < 0x38 then s.gdDisable ax
    else if p = 0x40 then s.csmCfgWrite 0#32
    else if 0x41 ≤ p ∧ p < 0x45 then s.pcDisable ⟨(p - 0x41) % 4, by omega⟩
    else if p = 0x45 then s.refCfgWrite 0#32
    else if p = 0x48 then s.cmpCfgWrite 0#32
    else if p = 0x58 then (s.setBit k 31 false).settlePorts
    else if p = 0x60 then s.mspDisable
    else s.setBit k 31 false).mend k

/-- A register that holds a block's EN is written (R103): EN falls alone, and rises with the other fields. -/
def State.enWrite (s : State) (m : Master) (r : RegRow) (k : Nat) (w : Word) : State :=
  let p := k / 128
  let ax := axisAt p
  if s.bit k 31 && !bitOf w 31 then s.clearEn k
  else
    let rise := !s.bit k 31 && bitOf w 31
    if 0x28 ≤ p ∧ p < 0x30 ∧ rise then (s.plainWrite m r k (putBit w 31 false)).pwmEnable ax
    else if p = 0x40 then s.csmCfgWrite w
    else if p = 0x45 then s.refCfgWrite w
    else if p = 0x48 then s.cmpCfgWrite w
    else
      let s := s.plainWrite m r k w
      if 0x20 ≤ p ∧ p < 0x28 ∧ k % 128 = 0 ∧ rise then s.crEnable ax
      else if 0x20 ≤ p ∧ p < 0x28 ∧ k % 128 = 0x40 ∧ !bitOf w 30 then s.probeStop ax
      else if p = 0x58 then s.settlePorts
      else s

/-- A write of a multi-word value (R101): LO is staged, HI applies both, HI2 has no effect. -/
def State.multiWrite (s : State) (m : Master) (r : RegRow) (k : Nat) (w : Word) : State :=
  let (hi, j) := multiOf r k
  let p := k / 128
  if j = 1 then (if hi = R.TIM_TIME ∧ m ≠ .exec ∧ m ≠ .link then s.writeIgnored m hi else { s with staged := spPut s.staged hi w })
  else if j = 2 then s
  else
    let lo := (spFind s.staged hi).getD (s.view m (hi + 1))
    if hi = R.TIM_TIME then s.timeWrite m w lo else
    let s := s.unstage hi
    if 0x10 ≤ p ∧ p < 0x18 ∧ k % 128 = 0x04 then s.mePosWrite m (axisAt p) w lo
    else
      let narrow := 0x10 ≤ p ∧ p < 0x18 ∧ k % 128 < 0x20
      let x := if narrow then sextN 48 (lowBits 48 (ofHiLo w lo)) else ofHiLo w lo
      if s.enOf k && r.cfg ≠ 0#32 && x ≠ s.wide hi then s.writeIgnored m hi
      else (s.store hi (hiWord x)).store (hi + 1) (loWord x)

/-! ### Writes by page -/

/-- A write of SYS_WDT (R72): EN stays 1 once set and TIMEOUT is fixed from then on. -/
def State.wdtWrite (s : State) (m : Master) (w : Word) : State :=
  let k := R.SYS_WDT
  if s.bit k 31 then (if fldOf w 7 0 = s.fld k 7 0 then s.mend k else s.writeIgnored m k)
  else
    let s := s.store k (w &&& 0x800000FF#32)
    if bitOf w 31 then { s with sys := { s.sys with wdSince := s.sys.cyc } } else s

/-- The LINK core is held in reset, or starts at LENT (R35, R383); what firmware of a core that starts does, LINK_CORE_RESTART's row says as
well (R367). -/
def State.linkStart (s : State) : State :=
  if s.sys.linkRun || s.bit R.SPL_CORE 0 || s.sys.chipReset then s else
  let s := { s with sys := { s.sys with linkRun := true }, lnk := { s.lnk with reserved := s.fw.departed } }
  let s := if s.isManager then s.startEnum [0, 1, 2, 3] else s
  s.linkTakes

/-- A write of SPL_CORE (R383): EXEC with the key. -/
def State.splCoreWrite (s : State) (m : Master) (w : Word) : State :=
  if m ≠ .exec ∨ fldOf w 31 16 ≠ 0x9E37 then s.writeIgnored m R.SPL_CORE
  else if bitOf w 0 then (if s.sys.linkRun then s.linkReset else s).set R.SPL_CORE 1#32
  else if s.bit R.SPL_CORE 0 then (s.set R.SPL_CORE 0#32).linkStart
  else s

/-- Page 0x01. -/
def State.writeSys (s : State) (m : Master) (r : RegRow) (k : Nat) (w : Word) : State :=
  if k = R.SYS_RSTCTL then s.rstctl m w
  else if k = R.SYS_BRST then s.brstWrite m w
  else if k = R.SYS_SUPCFG then s.enWrite m r k w
  else if k = R.SYS_PWRCTL then s.pwrctl m w
  else if k = R.SYS_WDT then s.wdtWrite m w
  else if k = R.SYS_WDKICK then s.wdKick m w
  else if k = R.SYS_AXCLAIM then s.claimWrite m w
  else if k = R.SYS_DARNCLR then s.darnClr w
  else s.plainWrite m r k w

/-- Page 0x03. -/
def State.writeMbx (s : State) (m : Master) (i : Nat) (w : Word) : State :=
  if i < 16 then s.bindWrite m i w
  else if i = 0x10 then s.lockWrite m w
  else if i = 0x11 then s.haltrtWrite m w
  else if 0x28 ≤ i ∧ i < 0x2D then s.dbmaskWrite m (i - 0x28) w
  else if i = 0x30 then s.haltWrite m w
  else if i = 0x31 then s.attnWrite m w
  else if 0x40 ≤ i ∧ i < 0x59 then s.flagWrite m ((i - 0x40) / 5) ((i - 0x40) % 5) w
  else if 0x60 ≤ i ∧ i < 0x68 then s.wordWrite m (i - 0x60) w
  else s

/-- Page 0x0A. -/
def State.writeFc (s : State) (m : Master) (r : RegRow) (k i : Nat) (w : Word) : State :=
  if i = 0x00 then s.enWrite m r k (w ||| (s.get k &&& 2#32))
  else if 0x1C ≤ i ∧ i < 0x20 then s.fcClr (i - 0x1C) w
  else if 0x20 ≤ i ∧ i < 0x24 then s.fcAck (i - 0x20) w
  else if i = 0x24 then s.swset m w
  else s.plainWrite m r k w

/-- A motion-engine page. -/
def State.writeMe (s : State) (m : Master) (r : RegRow) (k i : Nat) (w : Word) : State :=
  let ax := axisAt (k / 128)
  if i = 0x00 then s.enWrite m r k w
  else if i = 0x01 then s.meCtlWrite ax w
  else if i = 0x11 then (s.plainWrite m r k w).forceConst ax
  else s.plainWrite m r k w

/-- The context page. -/
def State.writeCtx (s : State) (m : Master) (r : RegRow) (k i : Nat) (w : Word) : State :=
  if i = 0x02 then s.ctxCmd w
  else if 0x10 ≤ i then s.ctxWordWrite m (i - 0x10) w
  else s.plainWrite m r k w

/-- A coil page. -/
def State.writeCoil (s : State) (m : Master) (r : RegRow) (k i : Nat) (w : Word) : State :=
  let ax := axisAt (k / 128)
  if i = 0x00 ∨ i = 0x40 then s.enWrite m r k w
  else if i = 0x09 then (s.plainWrite m r k w).forceConst ax
  else if i = 0x20 then s.wdataWrite m ax w
  else if i = 0x21 then s.ovrWrite m ax w
  else s.plainWrite m r k w

/-- A PWM page: a held TACK0 admits no write (R247). -/
def State.writePwm (s : State) (m : Master) (r : RegRow) (k i : Nat) (w : Word) : State :=
  let ax := axisAt (k / 128)
  if i = 0x00 then s.enWrite m r k w
  else if i = 0x05 then (s.plainWrite m r k w).onPwm ax fun p => { p with sperNew := true }
  else if i = 0x0A then s.pwmCtlWrite ax w
  else if (i = 0x10 ∨ i = 0x14) ∧ s.tackHeld ax then s.writeIgnored m k
  else s.plainWrite m r k w

/-- A gate-drive page. -/
def State.writeGd (s : State) (m : Master) (r : RegRow) (k i : Nat) (w : Word) : State :=
  let ax := axisAt (k / 128)
  if i = 0x00 then s.enWrite m r k w
  else if i = 0x05 then s.gdCtlWrite m ax w
  else if i = 0x08 then s.wrepWrite m ax w
  else s.plainWrite m r k w

/-- The converters' pages. -/
def State.writeConv (s : State) (m : Master) (r : RegRow) (k i : Nat) (w : Word) : State :=
  let p := k / 128
  if i = 0x00 then s.enWrite m r k w
  else if p = 0x40 ∧ 0x10 ≤ i ∧ i < 0x20 then s.csmCcfgWrite m ⟨i % 16, by omega⟩ w
  else if 0x41 ≤ p ∧ p < 0x45 ∧ i = 0x01 then s.pcCtlWrite m ⟨(p - 0x41) % 4, by omega⟩ w
  else if p = 0x45 ∧ i = 0x02 then s.refSyncWrite w
  else if p = 0x48 ∧ 0x10 ≤ i ∧ i < 0x20 then s.cmpCcfgWrite m ⟨i % 16, by omega⟩ w
  else s.plainWrite m r k w

/-- The master port's page. -/
def State.writeMsp (s : State) (m : Master) (r : RegRow) (k i : Nat) (w : Word) : State :=
  if i = 0x00 then s.enWrite m r k w
  else if i = 0x03 ∧ m ≠ .exec then s.writeIgnored m k
  else if i = 0x04 then s.mspPush m w
  else if i = 0x06 then s.mspCtlWrite m w
  else s.plainWrite m r k w

/-- The spool's and the wear journal's pages admit EXEC only (R398). -/
def State.writeSpl (s : State) (m : Master) (r : RegRow) (k i : Nat) (w : Word) : State :=
  if m ≠ .exec then s.writeIgnored m k
  else if i = 0x00 then s.enWrite m r k w
  else if k = R.SPL_CORE then s.splCoreWrite m w
  else if r.multi then s.multiWrite m r k w
  else if k = R.WJ_ADDR then s.wjAddr m w
  else if k = R.WJ_CTL then s.wjCtl m w
  else s.plainWrite m r k w

/-- The timer's page. -/
def State.writeTim (s : State) (m : Master) (r : RegRow) (k : Nat) (w : Word) : State :=
  if k = R.TIM_RATE then (if m = .exec ∨ m = .link then s.plainWrite m r k w else s.writeIgnored m k)
  else if r.multi then s.multiWrite m r k w
  else if k = R.TIM_CFG then s.enWrite m r k w
  else s.plainWrite m r k w

/-- A write of an implemented register whose row is `r`. -/
def State.regWrite (s : State) (m : Master) (r : RegRow) (k : Nat) (w : Word) : State :=
  let p := k / 128
  let i := k % 128
  if p = 0x50 then s.writeIgnored m k
  else if r.acc = .ro then s
  else if k = R.HSP_CFG then (if m = .host ∨ m = .exec ∨ m = .maint then s.plainWrite m r k w else s.writeIgnored m k)
  else if k = R.HSP_READY then s.readyWrite m w
  else if k = R.HSP_MODE then s.modeWrite m w
  else if p = 0x01 then s.writeSys m r k w
  else if p = 0x03 then s.writeMbx m i w
  else if p = 0x08 ∨ p = 0x09 then (if k = R.FC_SRC 126 ∨ k = R.FC_SRC 127 then s else s.plainWrite m r k w)
  else if p = 0x0A then s.writeFc m r k i w
  else if 0x10 ≤ p ∧ p < 0x18 then (if r.multi then s.multiWrite m r k w else s.writeMe m r k i w)
  else if p = 0x18 then s.writeCtx m r k i w
  else if 0x20 ≤ p ∧ p < 0x28 then s.writeCoil m r k i w
  else if 0x28 ≤ p ∧ p < 0x30 then s.writePwm m r k i w
  else if 0x30 ≤ p ∧ p < 0x38 then s.writeGd m r k i w
  else if (0x40 ≤ p ∧ p ≤ 0x45) ∨ p = 0x48 then s.writeConv m r k i w
  else if p = 0x60 then s.writeMsp m r k i w
  else if p = 0x61 ∨ p = 0x68 then s.writeSpl m r k i w
  else if p = 0x70 then s.writeTim m r k w
  else if p = 0x58 ∧ i = 0x00 then s.enWrite m r k w
  else if p = 0x38 ∧ i = 0x00 then s.enWrite m r k w
  else s.plainWrite m r k w

/-- A write of an address by a master that reaches it over the bus: an unimplemented location ignores it (R86, R90), and one whose clock is
absent ends in BUS_TIMEOUT (R17, R90). Index 0x7F belongs to the serial ports alone (R97), and a block held in reset takes nothing
(R70). -/
def State.busWrite (s : State) (m : Master) (k : Nat) (w : Word) : State :=
  if k % 128 = 127 then s
  else if s.clockGone (k / 128) then s.timedOut m k
  else if s.held (k / 128) then s
  else match bchOf k with
    | some (n, o) => if o < 16 then s.msgWrite m n o w else if o = 0x10 then s.goWrite m n w else s.slotWrite m n k
    | none =>
      match regRow k with
      | none => s
      | some r => s.regWrite m r k w

/-- A read by an internal master with its side effects, answered to it (R17). -/
def State.busRead (s : State) (m : Master) (k : Nat) : Word × State :=
  if k % 128 = 127 then (0#32, s)
  else if s.clockGone (k / 128) then (0#32, s.timedOut m k)
  else (s.readWord m k, s.readEffect m k)

end Sys2Proof.Machine
end

