-- ==== Sys2Proof/Machine/Firmware.lean ====
section
/-! DEFINITION. How Hyash serves requests (R131 to R149): the checks a request meets, relaying, the order of service, and the answers. -/

namespace Sys2Proof.Machine

/-! ### Requests -/

/-- The number of a request channel: 0 BCH0, 1 BCH2, 2 BCH4. -/
def chanIx : ReqChan → Fin 3
  | .host => 0
  | .link => 1
  | .maint => 2

/-- The block channel of a request channel (R136). -/
def inChan (d : Fin 3) : Nat := 2 * d.val

/-- A request as firmware reads it: its channel, its header, its message words, and where it came from when it came over the link. -/
structure Req where
  d    : Fin 3
  h    : Word
  ws   : List Word
  link : Option LinkReq
  deriving DecidableEq, Repr

/-- Argument i of a request. -/
def Req.w (q : Req) (i : Nat) : Word := arg q.ws i

/-- Argument i of a request as a number. -/
def Req.n (q : Req) (i : Nat) : Nat := argN q.ws i

/-- The axis that w1 names. -/
def Req.ax (q : Req) : Axis := ⟨q.n 1 % 8, by omega⟩

/-- A channel holds a request for firmware. -/
def State.hasReq (s : State) (d : Fin 3) : Bool := s.bFull (inChan d) && s.rcvOf (inChan d) = 1

/-- The request that a channel holds. -/
def State.reqOf (s : State) (d : Fin 3) : Req :=
  let m := s.msg (inChan d)
  { d, h := m.getD 0 0#32, ws := m
    link := if d = 1 && s.lnk.posted then s.lnk.inq.head?.map (·.1) else none }

/-- The LINK core posts the oldest request from the link on BCH2 once the channel has room (R136). -/
def State.linkPosts (s : State) : State :=
  if !s.sys.linkRun || s.lnk.posted || s.bFull 2 then s else
  match s.lnk.inq with
  | [] => s
  | (_, ws) :: _ =>
    let m := fullMsg ws
    let s := ((List.range 16).foldl (fun s k => s.msgWrite .link 2 k (m.getD k 0#32)) s).goWrite .link 2 1#32
    { s with lnk := { s.lnk with posted := s.bFull 2 } }

/-- Firmware takes a request (R116, R147). -/
def State.fwTake (s : State) (d : Fin 3) : State :=
  let s := { s.takeEffect .exec (inChan d) with turn := d }
  if d = 1 && s.lnk.posted then { s with lnk := { s.lnk with inq := s.lnk.inq.drop 1, posted := false } } else s

/-- The answer to a request (R132, R133, R136, R138, R147): on the paired channel, or back over the link, in the order of the requests. -/
def State.respond (s : State) (q : Req) (r : Res) (ws : List Word) : State :=
  let m := rspHdr q.h r.code ws.length :: ws
  let cls0 : Bool := hdrClass q.h = 0
  match q.link with
  | some l => s.owe 1 cls0 { words := m, dest := l.src, cls := if l.cls ≤ 1 then 1 else l.cls, txn := l.txn }
  | none => s.owe q.d cls0 { words := m }

/-! ### The checks (R134, R137, R141 to R146) -/

/-- What becomes of a request that waits: it is refused, relayed, or served here. -/
inductive Verdict where
  | serve | relay
  | fail (r : Res)
  deriving DecidableEq, Repr

/-- A request is for this device: it came over the link, or its DEST is 0x7FE or the device's own address (R143). -/
def State.isLocal (s : State) (q : Req) : Bool :=
  q.link.isSome || hdrDest q.h = 0x7FE#11 || (hdrDest q.h = s.linkAddr && s.addressed)

/-- DEST is a group or all devices (R145). -/
def isMulti (a : LinkAddr) : Bool := isGroupAddr a || a = 0x7FF#11

/-- A class-0 request for a remote DEST that a stitch frame cannot carry, or a worker's for 0x000 (R352). -/
def State.noStitch (s : State) (q : Req) : Bool :=
  hdrClass q.h = 0 && ((s.isWorker && hdrDest q.h = 0#11) || (hdrOp q.h = 0x06 && (1 < hdrNarg q.h || (hdrNarg q.h = 1 && 65535 < q.n 1))))

/-- Pages that REG_WRITE does not reach (R152). -/
def regWriteBars (a : Nat) : Bool :=
  let p := keyOfAddr a / 128
  p = 3 || p = 4 || p = 5 || p = 0x50

/-- BADARG as the message alone shows it (R135, R137, R142, R145, R352). -/
def State.badReq (s : State) (q : Req) (o : OpSpec) : Bool :=
  let narg := hdrNarg q.h
  hdrTag q.h = 0 || narg = 15 || narg < o.nargs || (hdrClass q.h = 0 && !o.cls0)
    || (q.link.isNone && isMulti (hdrDest q.h) && !o.group) || badArgs (hdrOp q.h) (hdrClass q.h) narg q.ws
    || (!s.isLocal q && s.noStitch q)

/-- DENIED for a request to a remote DEST (R141, R143): a worker relays to 0x000 only, but that the baseline firmware answers every
remote DEST UNREACH (R154), every remote DEST of a manager is a worker, and REG_WRITE is open to MAINT. -/
def State.relayDenied (s : State) (q : Req) : Bool :=
  let op := hdrOp q.h
  (s.isWorker && !s.baseline && hdrDest q.h ≠ 0#11)
    || (s.isManager && (op = 0x05 || op = 0x71 || op = 0x72 || op = 0x73 || op = 0x75))
    || (op = 0x85 && (s.sndOf (inChan q.d) ≠ 4 || regWriteBars (q.n 1)))

/-- UNREACH for a remote DEST (R143, R153). -/
def State.unreach (s : State) (dest : LinkAddr) : Bool :=
  if s.baseline || s.linkRole = 2 then true
  else if s.isManager then !(isMulti dest || (s.worker dest).isSome)
  else !s.addressed

/-- The checks of R141 up to FULL, but for those that the state of the object decides. -/
def State.verdict (s : State) (q : Req) : Verdict :=
  let n := inChan q.d
  if s.bCrcBad n then .fail .crc
  else match opSpec (hdrOp q.h) with
    | none => .fail .badop
    | some o =>
      if s.baseline && !o.base then .fail .badop
      else if s.badReq q o then .fail .badarg
      else if s.isLocal q then .serve
      else if s.relayDenied q then .fail .denied
      else if s.unreach (hdrDest q.h) then .fail .unreach
      else if 256 ≤ s.lnk.txns.length then .fail .full
      else .relay

/-! ### Relaying (R139, R143 to R145) -/

/-- The lowest transaction number that is free. -/
def State.freeTxn (s : State) : Nat := ((List.range 256).find? fun n => !(s.lnk.txns.any fun t => t.num = n)).getD 0

/-- The workers that a group or broadcast request addresses; none for one device. -/
def State.targets (s : State) (dest : LinkAddr) : Option (List LinkAddr) :=
  if dest = 0x7FF#11 then some (s.lnk.table.map (·.addr))
  else if isGroupAddr dest then
    some ((s.lnk.groups.filter fun e => e.1 = dest.toNat - 0x600 && (s.worker e.2).isSome).map (·.2))
  else none

/-- ACT and ARG of a class-0 request (R352). -/
def stitchOf (q : Req) : Nat × Nat :=
  let bm := q.n 1 % 256
  if hdrOp q.h = 0x29 then (0, bm)
  else if hdrOp q.h = 0x2C then (1, bm + q.n 2 % 2 * 256)
  else if hdrOp q.h = 0x36 then (2, q.n 1 % 4)
  else (3, if hdrNarg q.h = 0 then 0 else q.n 1 % 65536)

/-- A request for a remote DEST is taken and relayed. -/
def State.relay (s : State) (q : Req) : State :=
  let s := s.fwTake q.d
  let dest := hdrDest q.h
  let group := if s.isManager then s.targets dest else none
  let t : Txn := { num := s.freeTxn, ch := q.d, hdr := q.h, dest, group }
  let s := s.setTxns (s.lnk.txns ++ [t])
  let s := { s with fw := { s.fw with owed := vset s.fw.owed q.d (vget s.fw.owed q.d ++ [Owed.relayed t.num]) } }
  if group = some [] then s.tryGroup t
  else if hdrClass q.h = 0 then
    let (act, arg) := stitchOf q
    { s with lnk := { s.lnk with cls0 := s.lnk.cls0 ++ [{ dest, act, txn := t.num, arg }] } }
  else s.reply 1 { words := q.ws.take (hdrNarg q.h + 1), dest, cls := hdrClass q.h, txn := t.num, kind := 0 }

/-! ### Order of service (R147) -/

/-- A request that waits on a channel is refused or relayed; one to be served here stays until its command comes. -/
def State.triageOne (s : State) (d : Fin 3) : State :=
  if !s.hasReq d then s else
  let q := s.reqOf d
  match s.verdict q with
  | .serve => s
  | .relay => s.relay q
  | .fail r => (s.fwTake d).respond q r []

/-- The `i`-th channel in turn after the one served last (R147). -/
def State.inTurn (s : State) (i : Nat) : Fin 3 := ⟨(s.turn + 1 + i) % 3, by omega⟩

/-- Every channel once, class by class, in turn within a class. -/
def State.triageRound (s : State) : State :=
  forAll 4 s.linkPosts fun s c =>
    let order := [s.inTurn 0, s.inTurn 1, s.inTurn 2]
    order.foldl (init := s) fun s d =>
    if s.hasReq d && hdrClass (s.reqOf d).h = c.val then s.triageOne d else s

/-- Rounds until every request from the link has had its turn. -/
def State.triage (s : State) : Nat → State
  | 0 => s
  | n + 1 => s.triageRound.triage n

/-- What firmware does whenever something may have arrived or room may have come free. -/
def State.fwStep (s : State) : State := if s.fwRuns then (s.triage (s.lnk.inq.length + 2)).linkPosts.fwSettle else s

/-- Channel `d` comes before channel `e` in turn. -/
def State.sooner (s : State) (d e : Fin 3) : Bool := (d.val + 2 + 2 * s.turn) % 3 < (e.val + 2 + 2 * s.turn) % 3

/-- Another channel holds a request that is served first: of a lower class number, or of the same class and sooner in turn (R147). -/
def State.outranked (s : State) (q : Req) : Bool :=
  (List.finRange 3).any fun d => d ≠ q.d && s.hasReq d
    && (hdrClass (s.reqOf d).h < hdrClass q.h || (hdrClass (s.reqOf d).h = hdrClass q.h && s.sooner d q.d))

/-! ### Serving a request here -/

/-- The staging image as a settings block of its LEN words; none when LEN lies outside 8 to 4,096 (R384). -/
def State.stagedBlock (s : State) : Option (List Word) :=
  let len := fldOf ((spFind s.fw.staging 2).getD 0#32) 15 0
  if 8 ≤ len ∧ len ≤ 4096 then some ((List.range len).map fun i => (spFind s.fw.staging i).getD 0#32) else none

/-- The staging image holds a malformed entry (R385, R388). -/
def State.malformed (s : State) : Bool :=
  match s.stagedBlock with
  | none => true
  | some ws => (entriesOf ws).any fun e => !e.good

/-- BADARG, DENIED and UNREACH where the state of the device decides (R141, R152, R388): a current above the rated one, a log index that is
not held, a malformed staging image, the role, the requesting master, and a worker that is absent. -/
def State.early (s : State) (op : Nat) (q : Req) : Option Res :=
  let rated := (vget s.fw.ax q.ax).rated
  let idx := argWideU q.ws 1
  if op = 0x13 && (match rated with | some r => decide (r < q.n 2) | none => false) then some .badarg
  else if op = 0x55 && (idx < s.logTail || s.logHead ≤ idx) then some .badarg
  else if op = 0x62 && s.malformed then some .badarg
  else if op = 0x05 && s.isWorker then some .denied
  else if (op = 0x71 || op = 0x72 || op = 0x73 || op = 0x75) && !s.isManager then some .denied
  else if op = 0x85 && ((q.link.isNone && s.sndOf (inChan q.d) ≠ 4) || regWriteBars (q.n 1)) then some .denied
  else if op = 0x73 && (s.worker (BitVec.ofNat 11 (q.n 2))).isNone then some .unreach
  else none

/-- How presence is given to a request: 0 at this device, 1 delegated by the manager (R146, R390). -/
def State.presenceOf (s : State) (p : Pres) (q : Req) : Option Nat :=
  match p with
  | .none => some 0
  | .local_ => if s.presence then some 0 else none
  | .delegable =>
    if s.presence then some 0
    else match q.link with
      | some l => if s.bit R.SPL_CFG 16 && l.pres then some 1 else none
      | none => none

/-- What an opcode does with a request: the state it leaves, its result and its response words. -/
abbrev OpFn := Req → State → State × Res × List Word

/-- A request refused. -/
def State.no (s : State) (r : Res) : State × Res × List Word := (s, r, [])

/-- A request carried out. -/
def State.yes (s : State) (ws : List Word) : State × Res × List Word := (s, .ok, ws)

/-- The remaining checks in R141's order, and then the opcode. -/
def State.runOp (s : State) (op : Nat) (f : OpFn) (q : Req) : State × Res × List Word :=
  match s.early op q, opSpec op with
  | some r, _ => s.no r
  | none, none => s.no .badop
  | none, some o => match s.presenceOf o.pres q with
    | none => s.no .nopres
    | some how => f q (if o.pres = .none then s else s.logEvent 0x0A s.sys.time [wordOfNat how, wordOfNat op])

/-- A request waits on a channel for this opcode, and is the next to be served. -/
def State.mayServe (s : State) (d : Fin 3) (op : Nat) : Bool :=
  let q := s.reqOf d
  s.fwRuns && s.hasReq d && hdrOp q.h = op && s.verdict q = .serve && !s.outranked q

/-- Firmware takes the request that waits on a channel, carries out its opcode, answers, and does what follows the answer. -/
def State.serveThen (s : State) (ch : ReqChan) (op : Nat) (f : OpFn) (g : Req → Res → State → State) : State :=
  let d := chanIx ch
  if !s.mayServe d op then s else
  let q := s.reqOf d
  let (t, r, ws) := (s.fwTake d).runOp op f q
  (g q r (t.respond q r ws)).fwStep

/-- Firmware serves the request that waits on a channel. -/
def State.serve (s : State) (ch : ReqChan) (op : Nat) (f : OpFn) : State := s.serveThen ch op f fun _ _ s => s

/-- A register write by firmware. -/
def State.fwWrite (s : State) (k : Nat) (w : Word) : State := { s.busWrite .exec k w with out := s.out }

/-- A field of a register written by firmware. -/
def State.fwFld (s : State) (k hi lo v : Nat) : State := s.fwWrite k (putFld (s.get k) hi lo v)

/-- A bit of a register written by firmware. -/
def State.fwBit (s : State) (k i : Nat) (b : Bool) : State := s.fwWrite k (putBit (s.get k) i b)

/-- A value of two words written by firmware: LO, then HI (R101). -/
def State.fwWide (s : State) (k : Nat) (x : Int) : State := (s.fwWrite (k + 1) (loWord x)).fwWrite k (hiWord x)

/-- A request word to the SAFE core on WCH1 and its answer on WCH0 (R324): the result; 1 when the SAFE core does not answer. -/
def State.askSafe (s : State) (req data : Nat) (f : State → Word → State × Nat) : State × Nat :=
  if !s.saf.s.ready || s.wFull 0 || s.wFull 1 then (s, 1) else
  let s := (s.wordWrite .exec 1 (wordOfNat (req * 268435456 + data))).serveSafe req f
  let r := s.fld (R.MBX_WDATA 0) 19 16
  (s.wordEffect .exec 0, r)

/-- A long operation starts in its slot (R149). -/
def State.startLong (s : State) (slot : LongSlot) (o : LongOp) : State :=
  match slot with
  | .axis ax => { s with fw := { s.fw with long := vset s.fw.long ax (some o) } }
  | .device => { s with fw := { s.fw with longDev := some o } }

/-- The slot of a long operation is taken. -/
def State.longBusy (s : State) (slot : LongSlot) : Bool :=
  match slot with
  | .axis ax => (vget s.fw.long ax).isSome
  | .device => s.fw.longDev.isSome

/-! ### The commands of the mailboxes that firmware sees -/

/-- MAILBOX_GO (R115, R118, R119): firmware then finds the request. -/
def execMailboxGo (m : Master) (ch : Fin 8) (w : Word) (s : State) : Host.Outcome State Fault Refusal :=
  .next (s.access m (bch ch 0x10) fun s => (s.goWrite m ch w).fwStep)

/-- MAILBOX_TAKE (R116): the next answer leaves once its channel has room. -/
def execMailboxTake (m : Master) (ch : Fin 8) (s : State) : Host.Outcome State Fault Refusal :=
  .next (s.accessRead m (bch ch 0x12) fun s =>
    let t := (s.takeEffect m ch).fwStep
    { t with out := { t.out with words := [s.takeWord m ch] } })

end Sys2Proof.Machine
end

