-- ==== Sys2Proof/Machine/FwSystem.lean ====
section
/-! DEFINITION. Opcodes of identity and system, faults and logbook, and reading (R152): 0x00 to 0x07, 0x50 to 0x57, 0x83 to 0x85. -/

namespace Sys2Proof.Machine

/-! ### Identity and system -/

/-- The version word of the firmware that runs (R152, R376). -/
def State.versionWord (s : State) : Word :=
  if s.baseline then Config.baselineVersion.setWidth 32 else (s.slotWords (s.fld R.SPL_BOOT 4 4)).getD 1 0#32

/-- GET_ID. -/
def opGetId : OpFn := fun _ s =>
  s.yes [s.get R.HSP_ID, s.get R.HSP_STEP, s.versionWord, s.get R.SYS_STRAP, wordOfNat s.linkAddr.toNat]

/-- Bits of the axes for which `f` holds. -/
def axisBits (f : Axis → Bool) : Nat := packBits 8 fun n => if h : n < 8 then f ⟨n, h⟩ else false

/-- GET_STATUS. -/
def opGetStatus : OpFn := fun _ s =>
  let t := s.sys.time
  s.yes
    [wordOfNat (s.opMode + s.fld R.SYS_PWRSTAT 1 0 * 4 + b2n s.baseline * 16 + b2n s.presence * 32)
     , wordOfNat (axisBits s.meEn + axisBits s.axisFault * 256 + axisBits s.axisHalted * 65536)
     , wordOfNat s.nlatch, hiWord t, loWord t, s.splPres &&& 0xFFFF#32]

/-- Positions and gathered records are saved before SLEEP (R77, R393, R395). -/
def State.beforeSleep (s : State) : State := s.logFlush.wjAxes true

/-- SYS_PWRCTL with its key. -/
def pwrWord (req : Nat) : Word := wordOfNat (0x9E370000 + req)

/-- SET_POWER: a refusal carries SYS_PWRSTAT.REFUSE. SLEEP is entered after the response; the baseline firmware refuses it (R153). -/
def opSetPower : OpFn := fun q s =>
  let req := q.n 1
  if req = 3 && s.baseline then (s, .state, [wordOfNat (s.fld R.SYS_PWRSTAT 18 16)])
  else
    let s := if req = 3 then s.beforeSleep else s
    let t := s.pwrctl .exec (pwrWord req)
    let refuse := t.fld R.SYS_PWRSTAT 18 16
    if refuse ≠ 0 then (t, .state, [wordOfNat refuse])
    else if req = 3 then s.yes [] else t.yes []

/-- What follows the response of SET_POWER. -/
def afterSetPower (q : Req) (r : Res) (s : State) : State :=
  if r = .ok && q.n 1 = 3 then { s.pwrctl .exec (pwrWord 3) with out := s.out } else s

/-- RESET: the reset follows the response (R152); gathered records are programmed first (R393). -/
def opReset : OpFn := fun q s =>
  let kind : DeferKind := match q.n 1 with
    | 0 => .crst
    | 1 => .execCore
    | _ => .linkCore
  let s := s.logFlush
  { s with fw := { s.fw with deferred := some (kind, q.d) } }.yes []

/-- GET_TIME. -/
def opGetTime : OpFn := fun _ s => s.yes [hiWord s.sys.time, loWord s.sys.time]

/-- SET_TIME. -/
def opSetTime : OpFn := fun q s => (s.timeWrite .exec (q.w 1) (q.w 2)).yes []

/-- PING. -/
def opPing : OpFn := fun q s => s.yes ((q.ws.drop 1).take (hdrNarg q.h))

/-- SET_EVENTS. -/
def opSetEvents : OpFn := fun q s => { s with fw := { s.fw with masks := #v[q.w 1, q.w 2, q.w 3] } }.yes []

/-! ### Faults -/

/-- FAULT_LIST (R342). -/
def opFaultList : OpFn := fun _ s => s.yes ((List.range 4).map s.fcLatchMap)

/-- FAULT_GET (R342). -/
def opFaultGet : OpFn := fun q s =>
  let r := s.fcRec (q.n 1)
  s.yes [s.fcRecWord (q.n 1), hiWord r.time, loWord r.time, r.detail]

/-- Axes with a latched trip in either channel. -/
def State.tripAxes (s : State) : Nat :=
  axisBits fun ax => s.saf.s.trip2.getLsbD ax || s.saf.s.trip3.getLsbD ax || s.saf.h.trip2.getLsbD ax || s.saf.h.trip3.getLsbD ax

/-- CLEAR goes to the SAFE core before SAF_TRIP is cleared (R321, R342). -/
def State.clearTrips (s : State) : State := if s.tripAxes = 0 then s else (s.askSafe 4 s.tripAxes State.safeClear).1

/-- FAULT_CLR (R342): a single source whose cause is present is refused; otherwise the records that could be cleared are counted. -/
def opFaultClr : OpFn := fun q s =>
  let all := q.n 1 = 0xFFFFFFFF
  let s := if all || q.n 1 = 30 then s.clearTrips else s
  if !all && s.present (q.n 1) then s.no .state
  else
    let t := if all then forAll 4 s fun s j => s.fcClr j 0xFFFFFFFF#32 else s.fcClear (q.n 1)
    t.yes [wordOfNat (s.nlatch - t.nlatch)]

/-- FAULT_REACT (R342): FC_SRC is written while FC_CTL.EN is 0. -/
def opFaultReact : OpFn := fun q s =>
  let en := s.bit R.FC_CTL 31
  let s := if en then s.fwBit R.FC_CTL 31 false else s
  let s := s.fwWrite (R.FC_SRC (q.n 1)) (wordOfNat (q.n 2 + q.n 3 * 16))
  (s.fwBit R.FC_CTL 31 true).yes []

/-! ### Logbook -/

/-- LOG_INFO. -/
def opLogInfo : OpFn := fun _ s =>
  let h := s.logHead
  let t := s.logTail
  s.yes [hiWord h, loWord h, hiWord t, loWord t, wordOfNat (min (h - t) 0xFFFFFFFF)]

/-- LOG_READ (R391, R393). -/
def opLogRead : OpFn := fun q s =>
  let (type, bad, body) := s.logRead (argWideU q.ws 1)
  s.yes ([q.w 1, q.w 2, wordOfNat (type + b2n bad * 2 ^ 31)] ++ body)

/-- LOG_MARK: b0 and b1 hold the time (R394), and b2 to b7 are as written. -/
def opLogMark : OpFn := fun q s =>
  let idx := s.logHead
  (s.logEvent (q.n 1) s.sys.time ((q.ws.drop 4).take 6)).yes [hiWord idx, loWord idx]

/-- ODOMETER. -/
def opOdometer : OpFn := fun q s =>
  let ax := q.ax
  s.yes [s.get (R.ME_CYC ax), s.get (R.ME_CYC ax + 1), s.get (R.ME_TRAV ax), s.get (R.ME_TRAV ax + 1), s.get (R.ME_OBSTOT ax)]

/-! ### Registers -/

/-- DARN_READ. -/
def opDarnRead : OpFn := fun _ s => s.yes ((List.range 8).map fun i => s.get (R.SYS_DARN i))

/-- REG_READ: reads in ascending order, with their side effects. -/
def opRegRead : OpFn := fun q s =>
  let k := keyOfAddr (q.n 1)
  let out := s.out
  let (ws, s) := (List.range (q.n 2)).foldl (fun (acc : List Word × State) i =>
    let (w, s) := acc.2.busRead .exec (k + i)
    (acc.1 ++ [w], s)) ([], s)
  { s with out := out }.yes ws

/-- REG_WRITE. -/
def opRegWrite : OpFn := fun q s =>
  if !s.bit R.HSP_MODE 0 then s.no .state else (s.fwWrite (keyOfAddr (q.n 1)) (q.w 2)).yes []

/-! ### The commands -/

/-- GET_ID (R152). -/
def execOpGetId (ch : ReqChan) (s : State) : Host.Outcome State Fault Refusal := .next (s.quiet.serve ch 0x00 opGetId)

/-- GET_STATUS (R152). -/
def execOpGetStatus (ch : ReqChan) (s : State) : Host.Outcome State Fault Refusal := .next (s.quiet.serve ch 0x01 opGetStatus)

/-- SET_POWER (R75, R77, R152, R153). -/
def execOpSetPower (ch : ReqChan) (s : State) : Host.Outcome State Fault Refusal :=
  .next (s.quiet.serveThen ch 0x02 opSetPower afterSetPower)

/-- RESET (R152). -/
def execOpReset (ch : ReqChan) (s : State) : Host.Outcome State Fault Refusal := .next (s.quiet.serve ch 0x03 opReset)

/-- GET_TIME (R152). -/
def execOpGetTime (ch : ReqChan) (s : State) : Host.Outcome State Fault Refusal := .next (s.quiet.serve ch 0x04 opGetTime)

/-- SET_TIME (R22, R152). -/
def execOpSetTime (ch : ReqChan) (s : State) : Host.Outcome State Fault Refusal := .next (s.quiet.serve ch 0x05 opSetTime)

/-- PING (R152). -/
def execOpPing (ch : ReqChan) (s : State) : Host.Outcome State Fault Refusal := .next (s.quiet.serve ch 0x06 opPing)

/-- SET_EVENTS (R150, R152). -/
def execOpSetEvents (ch : ReqChan) (s : State) : Host.Outcome State Fault Refusal := .next (s.quiet.serve ch 0x07 opSetEvents)

/-- FAULT_LIST (R342). -/
def execOpFaultList (ch : ReqChan) (s : State) : Host.Outcome State Fault Refusal := .next (s.quiet.serve ch 0x50 opFaultList)

/-- FAULT_GET (R342). -/
def execOpFaultGet (ch : ReqChan) (s : State) : Host.Outcome State Fault Refusal := .next (s.quiet.serve ch 0x51 opFaultGet)

/-- FAULT_CLR (R342). -/
def execOpFaultClr (ch : ReqChan) (s : State) : Host.Outcome State Fault Refusal := .next (s.quiet.serve ch 0x52 opFaultClr)

/-- FAULT_REACT (R342). -/
def execOpFaultReact (ch : ReqChan) (s : State) : Host.Outcome State Fault Refusal := .next (s.quiet.serve ch 0x53 opFaultReact)

/-- LOG_INFO (R152). -/
def execOpLogInfo (ch : ReqChan) (s : State) : Host.Outcome State Fault Refusal := .next (s.quiet.serve ch 0x54 opLogInfo)

/-- LOG_READ (R391). -/
def execOpLogRead (ch : ReqChan) (s : State) : Host.Outcome State Fault Refusal := .next (s.quiet.serve ch 0x55 opLogRead)

/-- LOG_MARK (R152, R394). -/
def execOpLogMark (ch : ReqChan) (s : State) : Host.Outcome State Fault Refusal := .next (s.quiet.serve ch 0x56 opLogMark)

/-- ODOMETER (R152). -/
def execOpOdometer (ch : ReqChan) (s : State) : Host.Outcome State Fault Refusal := .next (s.quiet.serve ch 0x57 opOdometer)

/-- DARN_READ (R152). -/
def execOpDarnRead (ch : ReqChan) (s : State) : Host.Outcome State Fault Refusal := .next (s.quiet.serve ch 0x83 opDarnRead)

/-- REG_READ (R152). -/
def execOpRegRead (ch : ReqChan) (s : State) : Host.Outcome State Fault Refusal := .next (s.quiet.serve ch 0x84 opRegRead)

/-- REG_WRITE (R152). -/
def execOpRegWrite (ch : ReqChan) (s : State) : Host.Outcome State Fault Refusal := .next (s.quiet.serve ch 0x85 opRegWrite)

/-- EVENT_POST (R150, R151, R342). -/
def execEventPost (ch : ReqChan) (s : State) : Host.Outcome State Fault Refusal :=
  .next (if s.fwRuns then s.quiet.fwFaults.postEvent (chanIx ch) else s.quiet)

/-- RELAY_TIMEOUT (R144, R145). -/
def execRelayTimeout (txn : Byte) (s : State) : Host.Outcome State Fault Refusal := .next (s.quiet.relayTimeout txn.toNat).fwStep

end Sys2Proof.Machine
end

