-- ==== Sys2Proof/Machine/FwAxis.lean ====
section
/-! DEFINITION. Opcodes of the axes and motors (R152, R189, R209, R210): 0x10 to 0x1A, with the contexts that firmware builds from the axis
limits (R437) and the checks of 0x80 to 0x82. -/

namespace Sys2Proof.Machine

/-- The state with what firmware holds of an axis changed. -/
def State.onFw (s : State) (ax : Axis) (f : FwAx → FwAx) : State := { s with fw := { s.fw with ax := vset s.fw.ax ax (f (vget s.fw.ax ax)) } }

/-- What firmware holds of an axis. -/
def State.fwAx (s : State) (ax : Axis) : FwAx := vget s.fw.ax ax

/-! ### Contexts that firmware builds (R437) -/

/-- Fields of a context that its opcode chooses; the others come from the axis limits. -/
structure Build where
  mode     : Nat
  start    : Option Nat := none
  preempt  : Bool := false
  autorel  : Bool := true
  cycle    : Bool := false
  stallact : Nat := 0
  homemeth : Nat := 0
  target   : Int := 0
  vmax     : Int := 0
  deriving DecidableEq, Repr

/-- Words 0 to 31 of a context built from axis limits (R159, R437). -/
def buildWords (l : AxLimits) (b : Build) : List Word :=
  let t := b.start.getD 0
  let w0 := b.mode + b2n (l.jerk ≠ 0) * 8 + b2n b.start.isSome * 16 + b2n b.preempt * 128 + b2n b.autorel * 256 + b2n b.cycle * 512
    + b.stallact * 1024 + l.obsact * 4096 + l.retries * 16384 + b.homemeth * 262144
  [wordOfNat w0, hiWord b.target, loWord b.target, hiWord b.vmax, loWord b.vmax, wordOfNat l.acc, wordOfNat l.acc, wordOfNat l.jerk,
   wordOfNat l.ecapO, wordOfNat l.ecapC, wordOfNat l.flim, wordOfNat (1 + 40 * 256), wordOfNat l.revdist, wordOfNat l.rcdelay,
   hiWord t, loWord t] ++ List.replicate 16 0#32

/-- The template of SET_ROLE (R437). -/
def templateOf (l : AxLimits) : Build := { mode := 0, autorel := false, cycle := true, stallact := 1, vmax := l.vlim * 65536 }

/-- A word of a LOADED context written by firmware, with the choice of AUTOREL made at its allocation (R152). -/
def State.fwCtxWord (s : State) (c w : Nat) (v : Word) : State :=
  let v := if w = 0 then (match spFind s.fw.autorel c with | some b => putBit v 8 b | none => v) else v
  let sel := s.get R.CTX_SEL
  { ((s.set R.CTX_SEL (wordOfNat c)).ctxWordWrite .exec w v).set R.CTX_SEL sel with out := s.out }

/-- Words of a LOADED context written by firmware from word `ofs` on. -/
def State.fwCtxWords (s : State) (c ofs : Nat) (vs : List Word) : State :=
  (List.range vs.length).foldl (fun s i => s.fwCtxWord c (ofs + i) (vs.getD i 0#32)) s

/-- A context is allocated with a choice of AUTOREL. -/
def State.fwAlloc (s : State) (autorel : Bool) : Option (Ctx × State) :=
  match s.lowestFree with
  | none => none
  | some c =>
    let s := s.ctxLoad c
    some (⟨c % 256, by omega⟩, { s with fw := { s.fw with autorel := spPut s.fw.autorel c autorel } })

/-- A context is allocated and built from the limits of an axis. -/
def State.fwBuild (s : State) (ax : Axis) (b : Build) : Option (Ctx × State) :=
  match s.fwAlloc b.autorel with
  | none => none
  | some (c, s) => some (c, s.fwCtxWords c 0 (buildWords (s.fwAx ax).lim b))

/-- Maintenance mode, in which firmware starts no context on any axis (R106). That a request for one is answered STATE is the model's (DESIGN
CHOICE, log entry 96). -/
def State.maint (s : State) : Bool := s.bit R.HSP_MODE 0

/-- A context is built and started on an axis; it is given back when the engine refuses it. -/
def State.fwMove (s : State) (ax : Axis) (b : Build) : State × Res × List Word :=
  if s.maint then s.no .state else
  match s.fwBuild ax b with
  | none => s.no .noctx
  | some (c, t) =>
    let r := t.startResult c ax
    if r = 4 then s.no .badarg else if r ≠ 0 then s.no .state else (t.ctxStart c ax).yes [wordOfNat c.val]

/-! ### Enabling an axis -/

/-- Settings are present (R387). -/
def State.hasSettings (s : State) : Bool := s.fld R.SPL_BOOT 3 2 ≠ 0

/-- No settings and an ISET resistor in no code band: no axis is energised (R49, R189). -/
def State.isetBars (s : State) : Bool := !s.hasSettings && s.bit R.SYS_STRAP 8

/-- CR_GAIN for a bandwidth of 1 kHz (R189): KP = ωc × L in 10 mΩ and KI = ωc × R in 10 Ω/s, with ωc = 2π × 1,000 rad/s, to the nearest code
as the worked example of spec/08 has it. -/
def gain1k (motor1 : Word) : Word :=
  let code (x : Nat) : Nat := min 65535 ((x * 6283185307 + 5000000000) / 10000000000)
  wordOfNat (code (fldOf motor1 15 0) * 65536 + code (fldOf motor1 31 16))

/-- With no settings, the first enable of an axis measures its resistance and inductance and sets CR_GAIN: values that no command brings
(R189). -/
def State.firstEnable (s : State) (ax : Axis) : State :=
  if s.hasSettings || (s.fwAx ax).measured then s else
  let (m, s) := s.drawWord
  let s := (s.fwWrite (R.CR_MOTOR1 ax) m).fwWrite (R.CR_GAIN ax) (gain1k m)
  s.onFw ax fun f => { f with measured := true }

/-- Offsets of the modulators of an axis: firmware takes the mean code at zero current, which no command brings (R277). -/
def State.zeroOffsets (s : State) (ax : Axis) : State :=
  let (a, s) := s.drawWord
  let (b, s) := s.drawWord
  (s.fwWrite (R.CSM_OFS (2 * ax)) (a &&& 0xFFFF#32)).fwWrite (R.CSM_OFS (2 * ax + 1)) (b &&& 0xFFFF#32)

/-- A bit that is 0 is set by firmware. -/
def State.fwSet (s : State) (k i : Nat) : State := if s.bit k i then s else s.fwBit k i true

/-- An axis's drivers and modulators are switched on. -/
def State.axisPower (s : State) (ax : Axis) : State :=
  let s := (s.fwSet (R.GD_CFG ax) 31).fwSet R.CSM_CFG 31
  (s.fwSet (R.CSM_CCFG (2 * ax)) 31).fwSet (R.CSM_CCFG (2 * ax + 1)) 31

/-- An axis's bridges, regulators and motion are enabled. -/
def State.axisDrive (s : State) (ax : Axis) : State :=
  ((s.fwSet (R.PWM_CFG ax) 31).fwSet (R.CR_CFG ax) 31).fwSet (R.ME_CFG ax) 31

/-- Firmware enables an axis: its drivers, modulators, bridges, regulators and motion (R152, R189, R277). -/
def State.axisOn (s : State) (ax : Axis) : State := (((s.axisPower ax).firstEnable ax).zeroOffsets ax).axisDrive ax

/-- Firmware disables an axis: motion, regulators and bridges; its drivers stay on. -/
def State.axisOff (s : State) (ax : Axis) : State :=
  ((s.fwBit (R.ME_CFG ax) 31 false).fwBit (R.CR_CFG ax) 31 false).fwBit (R.PWM_CFG ax) 31 false

/-- Safe torque off holds the group of an axis in either channel (R309, R316, R317). -/
def State.torqueBarred (s : State) (ax : Axis) : Bool :=
  (List.finRange 2).any fun g => Machine.inGroup s.saf.s.code g ax && !(s.permits .safeCore g && s.permits .selvedge g)

/-- Drives start on an axis: an alignment that still waits comes first, and what earlier drives changed stays to be put back. -/
def State.startPlan (s : State) (ax : Axis) (steps : List DriveStep) (speed : Nat) : State :=
  let old := (vget s.fw.plan ax).getD {}
  let p : DrivePlan := { steps := old.steps.filter (· = .align) ++ steps, start := (s.me ax).pos, speed, saved := old.saved }
  { s with fw := { s.fw with plan := vset s.fw.plan ax (some p) } }

/-- Firmware aligns an encoder at the enable of an axis whose mode needs it (R194; that it does so there is the model's, DESIGN CHOICE, log
entry 109). -/
def State.startAlign (s : State) (ax : Axis) : State :=
  if s.cmode ax = 3 && !s.bit (R.CR_ENC ax) 31 && s.fld (R.CR_ENC ax) 23 0 ≠ 0 then s.startPlan ax [.align] 0 else s

/-- AXIS_EN. -/
def opAxisEn : OpFn := fun q s =>
  let ax := q.ax
  if q.n 2 = 1 then
    if !(s.fwAx ax).motor || s.isetBars then s.no .state
    else if s.torqueBarred ax then s.no .safety
    else ((s.axisOn ax).startAlign ax).yes []
  else if s.axisBusy ax then s.no .state else (s.axisOff ax).yes []

/-! ### Roles and motors -/

/-- The settings in use loaded a template into a context (R387). -/
def State.settingsTemplate (s : State) (c : Nat) : Bool :=
  ((entriesOf s.fw.inUse).any fun e => e.kind = 2 && e.index = c) && s.ctxState c = ctxLoaded

/-- The role of an axis is set, with the input that it moves by (R45, R180, R181). -/
def State.setRole (s : State) (ax : Axis) (r : AxRole) : State :=
  let insrc := match r with
    | .stepDir => 1
    | .door => 2
    | .encoder => 0
  let s := s.fwFld (R.ME_CFG ax) 25 24 insrc
  { s with roles := vset s.roles ax r }

/-- The role that w2 of SET_ROLE names. -/
def roleOf (n : Nat) : AxRole := if n = 0 then .stepDir else if n = 1 then .door else .encoder

/-- SET_ROLE. -/
def opSetRole : OpFn := fun q s =>
  let ax := q.ax
  let r := roleOf (q.n 2)
  if s.meEn ax then s.no .state
  else if r = .door then
    let c := s.fld (R.ME_CFG ax) 23 16
    if s.settingsTemplate c || (s.fwAx ax).tmpl.isSome then (s.setRole ax r).yes []
    else match s.fwBuild ax (templateOf (s.fwAx ax).lim) with
      | none => s.no .noctx
      | some (c, s) =>
        let s := (s.fwFld (R.ME_CFG ax) 23 16 c).onFw ax fun f => { f with tmpl := some c }
        (s.setRole ax r).yes []
  else
    let old := (s.fwAx ax).tmpl
    let s := s.setRole ax r
    match old with
    | some c => ((s.ctxRelease c).onFw ax fun f => { f with tmpl := none }).yes []
    | none => s.yes []

/-- SET_MOTOR. -/
def opSetMotor : OpFn := fun q s =>
  let ax := q.ax
  if s.meEn ax then s.no .state
  else
    let s := (s.fwWrite (R.CR_MOTOR2 ax) (wordOfNat (q.n 2 * 16777216 + q.n 7))).fwWrite (R.CR_SHUNT ax) (q.w 4)
    let s := s.fwWrite (R.CR_MOTOR1 ax) (wordOfNat (q.n 6 * 65536 + q.n 5))
    (s.onFw ax fun f => { f with motor := true, rated := some (q.n 3) }).yes []

/-- The configured ceiling of an axis bars a current in mA, while the functions of its pair are enabled (R152, R320). -/
def State.ceilingBars (s : State) (ax : Axis) (mA : Nat) : Bool :=
  s.saf.s.latched.isSome && pairOn s.saf.s.code ax && fldOf (s.safCeilWord ax) 11 0 * 250000 < mA * s.shunt ax

/-- SET_CURRENT. -/
def opSetCurrent : OpFn := fun q s =>
  let ax := q.ax
  if s.ceilingBars ax (q.n 2) then s.no .safety
  else (((s.fwWrite (R.CR_IRUN ax) (q.w 2)).fwWrite (R.CR_IREST ax) (q.w 3)).fwWrite (R.ME_REST ax) (q.w 4)).yes []

/-- SET_COMMUT. -/
def opSetCommut : OpFn := fun q s =>
  let ax := q.ax
  if s.meEn ax || (q.n 2 = 2 && s.fld (R.CR_MOTOR2 ax) 23 0 = 0) || (q.n 2 = 3 && vget s.roles ax ≠ .encoder) then s.no .state
  else
    let s := s.fwFld (R.CR_CFG ax) 26 24 (q.n 2)
    let s := (s.fwWrite (R.CR_XUP ax) (q.w 3)).fwWrite (R.CR_XDN ax) (q.w 4)
    (s.fwFld (R.CR_ENC ax) 23 0 (q.n 5)).yes []

/-- SET_DOOR. -/
def opSetDoor : OpFn := fun q s =>
  let ax := q.ax
  if s.meEn ax then s.no .state
  else
    let s := (s.fwWrite (R.ME_MASS ax) (q.w 2)).fwWrite (R.ME_KPM ax) (q.w 3)
    ((s.fwWide (R.ME_OPEN ax) (argWide q.ws 4)).fwWide (R.ME_CLOSED ax) (argWide q.ws 6)).yes []

/-- The magnitude of the current vector in mA: the amplitude of the level, or of the d/q demands in CL and ENC. -/
def State.vectorMa (s : State) (ax : Axis) : Nat :=
  if s.inCl ax || s.mode ax = 3 then
    let d := (s.get (R.CR_IDDEM ax)).toInt
    let i := (s.get (R.CR_IQDEM ax)).toInt
    isqrt (d * d + i * i).toNat
  else (s.amp ax (s.me ax).record.level / 1000000).toNat

/-- GET_AXIS. -/
def opGetAxis : OpFn := fun q s =>
  let ax := q.ax
  let st := s.meStat ax
  let m := s.me ax
  let w1 := s.mode ax + b2n (s.meEn ax) * 8 + b2n (bitOf st 0) * 16 + b2n (bitOf st 6) * 32 + b2n (bitOf st 4) * 64
    + b2n (bitOf st 2) * 128 + fldOf st 31 24 * 256 + b2n (bitOf st 1) * 65536
  s.yes [wordOfNat w1, hiWord m.rpos, loWord m.rpos, hiWord m.rvel, loWord m.rvel, s.get (R.LO_LA ax), s.get (R.LO_FORCE ax),
    wordOfNat (s.vectorMa ax)]

/-! ### Identification and checks -/

/-- The steps of IDENTIFY for the bits of its w2 (R209). -/
def identSteps (want : Nat) : List DriveStep :=
  let part (b : Nat) (l : List DriveStep) : List DriveStep := if want.testBit b then l else []
  part 0 [.hold 0 1, .hold 0 3, .hold 1024 1, .hold 1024 3]
    ++ part 1 [.square .a false, .square .b false]
    ++ part 2 [.needRL (want.testBit 0) (want.testBit 1), .tune 0 true false, .pass (-65536), .pass 65536, .pass (-65536), .pass 65536,
        .pass (-65536)]
    ++ part 3 [.needPsi (want.testBit 2), .tune 2 false false, .pass (-65536), .pass 65536, .pass (-65536), .tune 2 false true, .pass 65536,
        .pass (-65536), .tune 2 false true, .pass 65536, .pass (-65536)]
    ++ [.restore]

/-- The steps of WIRING_CHECK (R229). -/
def wireSteps : List DriveStep := [.diag, .square .a true, .square .b true, .turn, .restore]

/-- IDENTIFY (R209): the results held before are given up. -/
def opIdentify : OpFn := fun q s =>
  let ax := q.ax
  if !s.meEn ax || s.axisBusy ax then s.no .state
  else if 4 ≤ q.n 2 && s.sstill ax then s.no .safety
  else if s.longBusy (.axis ax) then s.no .busy
  else
    let s := (s.onFw ax fun f => { f with ident := [] }).startLong (.axis ax) { op := 0x18, args := [q.w 1, q.w 2, q.w 3] }
    (s.startPlan ax (identSteps (q.n 2)) (q.n 3)).yes []

/-- GET_IDENT. -/
def opGetIdent : OpFn := fun q s =>
  let ws := (s.fwAx q.ax).ident
  if ws.getD 0 0#32 = 0#32 then s.no .state else s.yes ws

/-- g(φi) of R186 in 2^-46: sin φ and the terms b3 and b5 of the third and fifth harmonic, in 1/65,536. -/
def detentAt (b3 b5 : Int) (i : Nat) : Int :=
  let a : Int := 65536 * i + 32768
  65536 * sinQ a + b3 * sinQ (3 * a) + b5 * sinQ (5 * a)

/-- The table of R186. -/
def detentTable (b3 b5 : Int) : List Nat :=
  let gs := (List.range 1024).map (detentAt b3 b5)
  let m := gs.foldl max 1
  gs.map fun g => ((2 * 65535 * g + m) / (2 * m)).toNat

/-- Firmware writes the table of R186. -/
def State.identTable (s : State) (ax : Axis) (b3 b5 : Int) : State :=
  (detentTable b3 b5).foldl (fun s v => s.fwWrite (R.CR_WDATA ax) (wordOfNat v)) (s.fwWrite (R.CR_WADDR ax) 0#32)

/-- What IDENTIFY has measured: the completed steps as w2 has them, then resistance of coils A and B in mΩ, inductance of coils A and B in µH,
flux in the two directions in µWb, and a3, b3, a5, b5. -/
def identW (data : List Word) (i : Nat) : Word := data.getD i 0#32

/-- The two measurements at `i` differ by more than one part in `n` of their mean; that the mean is the base is the model's (DESIGN CHOICE, log
entry 95). -/
def identApart (data : List Word) (i n : Nat) : Bool :=
  let a := (identW data i).toNat
  let b := (identW data (i + 1)).toNat
  a + b < 2 * n * ((a : Int) - b).natAbs

/-- A cosine term exceeds half its sine term. -/
def identSkew (data : List Word) (i : Nat) : Bool :=
  (identW data (i + 1)).toInt.natAbs < 2 * (identW data i).toInt.natAbs

/-- IDENTIFY for the steps of `want` ends with RESULT STATE (R209, R210): a needed value is missing, or the measurements do not agree. -/
def State.identFails (s : State) (ax : Axis) (want : Nat) (data : List Word) : Bool :=
  let got := (identW data 0).toNat
  (want.testBit 2 && !((got.testBit 0 || s.fld (R.CR_MOTOR1 ax) 15 0 ≠ 0) && (got.testBit 1 || s.fld (R.CR_MOTOR1 ax) 31 16 ≠ 0)))
    || (want.testBit 3 && !(got.testBit 2 || s.fld (R.CR_MOTOR2 ax) 23 0 ≠ 0))
    || (got.testBit 0 && identApart data 1 5) || (got.testBit 1 && identApart data 3 5) || (got.testBit 2 && identApart data 5 10)
    || (got.testBit 3 && (identSkew data 7 || identSkew data 9))

/-- The words of GET_IDENT from what was measured: the means of the coils and of the directions; a half is rounded either way. -/
def State.identWords (s : State) (data : List Word) : List Word × State :=
  let mean (s : State) (i : Nat) : Int × State := s.nearest ((identW data i).toNat + (identW data (i + 1)).toNat : Nat) 2
  let (r, s) := mean s 1
  let (l, s) := mean s 3
  let (p, s) := mean s 5
  ([identW data 0, wordOfInt r, wordOfInt l, wordOfInt p, identW data 7, identW data 8, identW data 9, identW data 10], s)

/-- The values of a completed IDENTIFY are written (R210): `data` are the words of GET_IDENT. Configuration fields are written while the
regulators are off. -/
def State.identApply (s : State) (ax : Axis) (data : List Word) : State :=
  let d (i : Nat) : Nat := (data.getD i 0#32).toNat
  let done := d 0
  let en := s.bit (R.CR_CFG ax) 31
  let s := if en then s.fwBit (R.CR_CFG ax) 31 false else s
  let s := if done.testBit 0 then s.fwFld (R.CR_MOTOR1 ax) 15 0 (d 1) else s
  let s := if done.testBit 1 then s.fwFld (R.CR_MOTOR1 ax) 31 16 (d 2) else s
  let s := if done.testBit 2 then s.fwFld (R.CR_MOTOR2 ax) 23 0 (d 3) else s
  let s := if done.testBit 3 then s.identTable ax (data.getD 5 0#32).toInt (data.getD 7 0#32).toInt else s
  let s := if en then s.fwBit (R.CR_CFG ax) 31 true else s
  s.onFw ax fun f => { f with ident := (data ++ List.replicate 8 0#32).take 8 }

/-- LOAD_WAVE: entries two per word, the lower one in [15:0]. -/
def opLoadWave : OpFn := fun q s =>
  let ax := q.ax
  if s.meEn ax then s.no .state
  else
    let ws := (q.ws.drop 3).take (hdrNarg q.h - 2)
    let s := s.fwWrite (R.CR_WADDR ax) (q.w 2)
    (ws.foldl (fun s w => (s.fwWrite (R.CR_WDATA ax) (wordOfNat (fldOf w 15 0))).fwWrite (R.CR_WDATA ax) (wordOfNat (fldOf w 31 16))) s).yes []

/-- WIRING_CHECK (R229). -/
def opWiringCheck : OpFn := fun q s =>
  let ax := q.ax
  if !s.meEn ax || s.axisBusy ax then s.no .state
  else if s.longBusy (.axis ax) then s.no .busy
  else ((s.startLong (.axis ax) { op := 0x80, args := [q.w 1] }).startPlan ax wireSteps 0).yes []

/-- GD_SELFTEST (R271): the drivers are enabled for it when they were not. -/
def opGdSelftest : OpFn := fun q s =>
  let ax := q.ax
  if s.meEn ax then s.no .state
  else if s.longBusy (.axis ax) then s.no .busy
  else
    let was := s.bit (R.GD_CFG ax) 31
    let s := s.startLong (.axis ax) { op := 0x81, args := [q.w 1, wordOfNat (b2n was)] }
    ((s.fwSet (R.GD_CFG ax) 31).fwWrite (R.GD_CTL ax) 4#32).yes []

/-- PRESS_PROBE (R221). -/
def opPressProbe : OpFn := fun q s =>
  let ax := q.ax
  if q.n 2 = 1 && s.moving ax then s.no .state else (s.fwBit (R.LO_CFG ax) 30 (q.n 2 = 1)).yes []

/-! ### The commands -/

/-- AXIS_EN (R152, R189, R277). -/
def execOpAxisEn (ch : ReqChan) (s : State) : Host.Outcome State Fault Refusal := .next (s.quiet.serve ch 0x10 opAxisEn)

/-- SET_ROLE (R45, R152, R437). -/
def execOpSetRole (ch : ReqChan) (s : State) : Host.Outcome State Fault Refusal := .next (s.quiet.serve ch 0x11 opSetRole)

/-- SET_MOTOR (R152). -/
def execOpSetMotor (ch : ReqChan) (s : State) : Host.Outcome State Fault Refusal := .next (s.quiet.serve ch 0x12 opSetMotor)

/-- SET_CURRENT (R152). -/
def execOpSetCurrent (ch : ReqChan) (s : State) : Host.Outcome State Fault Refusal := .next (s.quiet.serve ch 0x13 opSetCurrent)

/-- SET_COMMUT (R152). -/
def execOpSetCommut (ch : ReqChan) (s : State) : Host.Outcome State Fault Refusal := .next (s.quiet.serve ch 0x14 opSetCommut)

/-- SET_DOOR (R152, R174). -/
def execOpSetDoor (ch : ReqChan) (s : State) : Host.Outcome State Fault Refusal := .next (s.quiet.serve ch 0x15 opSetDoor)

/-- GET_AXIS (R152). -/
def execOpGetAxis (ch : ReqChan) (s : State) : Host.Outcome State Fault Refusal := .next (s.quiet.serve ch 0x16 opGetAxis)

/-- IDENTIFY (R209). -/
def execOpIdentify (ch : ReqChan) (s : State) : Host.Outcome State Fault Refusal := .next (s.quiet.serve ch 0x18 opIdentify)

/-- GET_IDENT (R152, R210). -/
def execOpGetIdent (ch : ReqChan) (s : State) : Host.Outcome State Fault Refusal := .next (s.quiet.serve ch 0x19 opGetIdent)

/-- LOAD_WAVE (R152, R185). -/
def execOpLoadWave (ch : ReqChan) (s : State) : Host.Outcome State Fault Refusal := .next (s.quiet.serve ch 0x1A opLoadWave)

/-- WIRING_CHECK (R229). -/
def execOpWiringCheck (ch : ReqChan) (s : State) : Host.Outcome State Fault Refusal := .next (s.quiet.serve ch 0x80 opWiringCheck)

/-- GD_SELFTEST (R271). -/
def execOpGdSelftest (ch : ReqChan) (s : State) : Host.Outcome State Fault Refusal := .next (s.quiet.serve ch 0x81 opGdSelftest)

/-- PRESS_PROBE (R221). -/
def execOpPressProbe (ch : ReqChan) (s : State) : Host.Outcome State Fault Refusal := .next (s.quiet.serve ch 0x82 opPressProbe)

end Sys2Proof.Machine
end

