-- ==== Sys2Proof/Machine/FwMotion.lean ====
section
/-! DEFINITION. Opcodes of contexts and motion, limits and safety parameters (R152, R161 to R163, R437): 0x20 to 0x37. -/

namespace Sys2Proof.Machine

/-! ### Contexts -/

/-- The context that w1 names. -/
def Req.ctx (q : Req) : Ctx := ⟨q.n 1 % 256, by omega⟩

/-- CTX_ALLOC: word 0 is written with the choice of AUTOREL. -/
def opCtxAlloc : OpFn := fun q s =>
  match s.fwAlloc (q.n 1 = 1) with
  | none => s.no .noctx
  | some (c, s) => (s.fwCtxWord c 0 0#32).yes [wordOfNat c.val]

/-- CTX_LOAD. -/
def opCtxLoad : OpFn := fun q s =>
  if s.ctxState q.ctx ≠ ctxLoaded then s.no .state
  else (s.fwCtxWords q.ctx (q.n 2) ((q.ws.drop 3).take (hdrNarg q.h - 2))).yes []

/-- The result that answers a refusal of START (R162). -/
def startRes (r : Nat) : Res := if r = 4 then .badarg else .state

/-- CTX_START: a timed start writes START and TSTART first. -/
def opCtxStart : OpFn := fun q s =>
  let c := q.ctx
  let ax : Axis := ⟨q.n 2 % 8, by omega⟩
  let t := if q.n 3 = 1 then
      ((s.fwCtxWord c 0 (putFld (s.ctxW c 0) 5 4 1)).fwCtxWord c 14 (q.w 4)).fwCtxWord c 15 (q.w 5)
    else s
  let r := if s.ctxState c = ctxLoaded then t.startResult c ax else s.startResult c ax
  if s.maint then s.no .state
  else if r ≠ 0 then s.no (startRes r)
  else
    let t := t.ctxStart c ax
    if t.ctxState c = ctxQueued then t.yes [] else t.no .state

/-- CTX_ABORT. -/
def opCtxAbort : OpFn := fun q s =>
  let st := s.ctxState q.ctx
  if st ≠ ctxQueued ∧ st ≠ ctxActive then s.no .state else (s.ctxAbort q.ctx).yes []

/-- CTX_RELEASE. -/
def opCtxRelease : OpFn := fun q s =>
  let st := s.ctxState q.ctx
  if s.isTemplate q.ctx ∨ (st ≠ ctxLoaded ∧ st ≠ ctxDone ∧ st ≠ ctxAborted) then s.no .state
  else
    let s := s.ctxRelease q.ctx
    { s with fw := { s.fw with autorel := spDel s.fw.autorel q.ctx } }.yes []

/-- CTX_STATUS. -/
def opCtxStatus : OpFn := fun q s => s.yes [s.ctxW q.ctx 32 &&& 0x00FF0707#32, s.ctxW q.ctx 34, s.ctxW q.ctx 35]

/-! ### Motion -/

/-- The SYS_TIME of a timed request: words i + 1 and i + 2 when bit 0 of word i is 1. -/
def Req.timed (q : Req) (i : Nat) : Option Nat := if q.n i = 1 then some (argWideU q.ws (i + 1)) else none

/-- MOVE_TO. -/
def opMoveTo : OpFn := fun q s =>
  if !s.meEn q.ax then s.no .state
  else s.fwMove q.ax { mode := 0, start := q.timed 4, target := argWide q.ws 2, vmax := (s.fwAx q.ax).lim.vlim * 65536 }

/-- JOG. -/
def opJog : OpFn := fun q s =>
  if !s.meEn q.ax then s.no .state
  else s.fwMove q.ax { mode := 1, preempt := true, vmax := clampMag ((s.fwAx q.ax).lim.vlim * 65536) (argWide q.ws 2) }

/-- HOME: the operation keeps its context. -/
def opHome : OpFn := fun q s =>
  let ax := q.ax
  let meth := q.n 2
  if !s.meEn ax || (meth = 2 && vget s.roles ax ≠ .door) || (meth = 3 && vget s.roles ax ≠ .encoder) then s.no .state
  else if s.longBusy (.axis ax) then s.no .busy
  else
    let (t, r, ws) := s.fwMove ax
      { mode := 2, homemeth := meth, target := argWide q.ws 4, vmax := min (q.n 3) (s.fwAx ax).lim.vlim * 65536 }
    if r = .ok then (t.startLong (.axis ax) { op := 0x28, args := ws }).yes ws else (t, r, ws)

/-- ME_CTL.HALT of the axes of a bitmap. -/
def State.fwHalt (s : State) (axes : Nat) (on : Bool) : State :=
  forAll 8 s fun s ax => if axes.testBit ax then s.meCtlWrite ax (wordOfNat (b2n on)) else s

/-- HALT: long operations of the axes end (R149). -/
def opHalt : OpFn := fun q s => ((s.fwHalt (q.n 1) true).haltLong (q.n 1)).yes []

/-- RESUME. -/
def opResume : OpFn := fun q s => (s.fwHalt (q.n 1) false).yes []

/-- SET_POS. -/
def opSetPos : OpFn := fun q s =>
  let ax := q.ax
  if s.moving ax || (s.me ax).active.isSome then s.no .state else ((s.unstage (R.ME_POS ax)).mePosWrite .exec ax (q.w 2) (q.w 3)).yes []

/-- OBSCONT or OBSABORT on the axes of a bitmap (R178). -/
def State.obstRel (s : State) (axes : Nat) (abort : Bool) : State :=
  forAll 8 s fun s ax =>
    if axes.testBit ax then s.meCtlWrite ax ((s.get (R.ME_CTL ax) &&& 1#32) ||| (if abort then 8#32 else 4#32)) else s

/-- OBST_REL. -/
def opObstRel : OpFn := fun q s => (s.obstRel (q.n 1) (q.n 2 = 1)).yes []

/-- DOOR: every axis of the bitmap is checked, and a context is at hand for each, before any is started. -/
def opDoor : OpFn := fun q s =>
  let axes : List Axis := (List.finRange 8).filter fun ax => (q.n 1).testBit ax
  if axes.any fun (ax : Axis) => vget s.roles ax ≠ .door || !s.meEn ax || s.maint then s.no .state
  else if s.ctxFrees < axes.length then s.no .noctx
  else
    (axes.foldl (fun (s : State) (ax : Axis) =>
      let goal := s.wide (if q.n 2 = 1 then R.ME_CLOSED ax else R.ME_OPEN ax)
      (s.fwMove ax { mode := 0, start := q.timed 3, preempt := true, cycle := true, stallact := 1, target := goal
                     vmax := (s.fwAx ax).lim.vlim * 65536 }).1) s).yes []

/-! ### Limits and safety parameters -/

/-- SET_LIMITS. -/
def opSetLimits : OpFn := fun q s =>
  ((s.onFw q.ax fun f => { f with lim := { f.lim with vlim := q.n 2, acc := q.n 3, jerk := q.n 5 } }).fwWrite (R.ME_HDEC q.ax) (q.w 4)).yes []

/-- SET_ENERGY. -/
def opSetEnergy : OpFn := fun q s => (s.onFw q.ax fun f => { f with lim := { f.lim with ecapO := q.n 2, ecapC := q.n 3 } }).yes []

/-- SET_FORCE. -/
def opSetForce : OpFn := fun q s =>
  (s.onFw q.ax fun f => { f with lim := { f.lim with
    flim := q.n 2, obsact := q.n 3, revdist := q.n 4, rcdelay := q.n 5, retries := q.n 6 } }).yes []

/-- SET_CEILING (R320, R324). -/
def opSetCeiling : OpFn := fun q s =>
  let v := q.n 2 * s.shunt q.ax / 250000
  if 4095 < v then s.no .safety
  else
    let (s, r) := s.askSafe 2 (q.ax.val * 1048576 + v) State.safeCeil
    if r = 0 then s.yes [] else s.no .safety

/-- GET_SAFETY. -/
def opGetSafety : OpFn := fun _ s => s.yes ((List.range 8).map fun i => (s.safReg i).getD 0#32)

/-- The axes of the groups of a bitmap. -/
def State.groupAxes (s : State) (bm : Nat) : Nat :=
  axisBits fun ax => (List.finRange 2).any fun g => bm.testBit g && Machine.inGroup s.saf.s.code g ax

/-- SAFE_STOP (R317, R324): long operations of the axes end (R149). -/
def opSafeStop : OpFn := fun q s =>
  let on := q.n 2 = 1
  let (s, r) := s.askSafe 1 (q.n 1 * 1048576 + b2n on) State.safeStop
  if r ≠ 0 then s.no .safety else (if on then s.haltLong (s.groupAxes (q.n 1)) else s).yes []

/-- SET_SUPPLY (R65): EN is cleared, the fields are written, and EN is set again. -/
def opSetSupply : OpFn := fun q s =>
  let w := putFld (putBit (putFld (s.get R.SYS_SUPCFG) 7 0 (q.n 1)) 30 (q.n 2 = 1)) 23 16 (q.n 3)
  (((s.fwBit R.SYS_SUPCFG 31 false).fwWrite R.SYS_SUPCFG (putBit w 31 false)).fwWrite R.SYS_SUPCFG (putBit w 31 true)).yes []

/-! ### The commands -/

/-- CTX_ALLOC (R152, R163). -/
def execOpCtxAlloc (ch : ReqChan) (s : State) : Host.Outcome State Fault Refusal := .next (s.quiet.serve ch 0x20 opCtxAlloc)

/-- CTX_LOAD (R152, R162). -/
def execOpCtxLoad (ch : ReqChan) (s : State) : Host.Outcome State Fault Refusal := .next (s.quiet.serve ch 0x21 opCtxLoad)

/-- CTX_START (R152, R162). -/
def execOpCtxStart (ch : ReqChan) (s : State) : Host.Outcome State Fault Refusal := .next (s.quiet.serve ch 0x22 opCtxStart)

/-- CTX_ABORT (R152, R161). -/
def execOpCtxAbort (ch : ReqChan) (s : State) : Host.Outcome State Fault Refusal := .next (s.quiet.serve ch 0x23 opCtxAbort)

/-- CTX_RELEASE (R152, R161). -/
def execOpCtxRelease (ch : ReqChan) (s : State) : Host.Outcome State Fault Refusal := .next (s.quiet.serve ch 0x24 opCtxRelease)

/-- CTX_STATUS (R152, R159). -/
def execOpCtxStatus (ch : ReqChan) (s : State) : Host.Outcome State Fault Refusal := .next (s.quiet.serve ch 0x25 opCtxStatus)

/-- MOVE_TO (R437). -/
def execOpMoveTo (ch : ReqChan) (s : State) : Host.Outcome State Fault Refusal := .next (s.quiet.serve ch 0x26 opMoveTo)

/-- JOG (R437). -/
def execOpJog (ch : ReqChan) (s : State) : Host.Outcome State Fault Refusal := .next (s.quiet.serve ch 0x27 opJog)

/-- HOME (R437). -/
def execOpHome (ch : ReqChan) (s : State) : Host.Outcome State Fault Refusal := .next (s.quiet.serve ch 0x28 opHome)

/-- HALT (R149, R152, R173). -/
def execOpHalt (ch : ReqChan) (s : State) : Host.Outcome State Fault Refusal := .next (s.quiet.serve ch 0x29 opHalt)

/-- SET_POS (R152, R436). -/
def execOpSetPos (ch : ReqChan) (s : State) : Host.Outcome State Fault Refusal := .next (s.quiet.serve ch 0x2A opSetPos)

/-- RESUME (R152, R173). -/
def execOpResume (ch : ReqChan) (s : State) : Host.Outcome State Fault Refusal := .next (s.quiet.serve ch 0x2B opResume)

/-- OBST_REL (R152, R178). -/
def execOpObstRel (ch : ReqChan) (s : State) : Host.Outcome State Fault Refusal := .next (s.quiet.serve ch 0x2C opObstRel)

/-- DOOR (R437). -/
def execOpDoor (ch : ReqChan) (s : State) : Host.Outcome State Fault Refusal := .next (s.quiet.serve ch 0x2D opDoor)

/-- SET_LIMITS (R152, R437). -/
def execOpSetLimits (ch : ReqChan) (s : State) : Host.Outcome State Fault Refusal := .next (s.quiet.serve ch 0x30 opSetLimits)

/-- SET_ENERGY (R152, R437). -/
def execOpSetEnergy (ch : ReqChan) (s : State) : Host.Outcome State Fault Refusal := .next (s.quiet.serve ch 0x31 opSetEnergy)

/-- SET_FORCE (R152, R437). -/
def execOpSetForce (ch : ReqChan) (s : State) : Host.Outcome State Fault Refusal := .next (s.quiet.serve ch 0x32 opSetForce)

/-- SET_CEILING (R320). -/
def execOpSetCeiling (ch : ReqChan) (s : State) : Host.Outcome State Fault Refusal := .next (s.quiet.serve ch 0x33 opSetCeiling)

/-- GET_SAFETY (R152, R332). -/
def execOpGetSafety (ch : ReqChan) (s : State) : Host.Outcome State Fault Refusal := .next (s.quiet.serve ch 0x34 opGetSafety)

/-- SAFE_STOP (R317). -/
def execOpSafeStop (ch : ReqChan) (s : State) : Host.Outcome State Fault Refusal := .next (s.quiet.serve ch 0x36 opSafeStop)

/-- SET_SUPPLY (R65). -/
def execOpSetSupply (ch : ReqChan) (s : State) : Host.Outcome State Fault Refusal := .next (s.quiet.serve ch 0x37 opSetSupply)

end Sys2Proof.Machine
end

