-- ==== Sys2Proof/Machine/FwConv.lean ====
section
/-! DEFINITION. Opcodes of converters and comparators (R152, R288, R291, R300, R302): 0x40 to 0x48. -/

namespace Sys2Proof.Machine

/-! ### Precision converters -/

/-- The converter that w1 names. -/
def Req.pc (q : Req) : Conv := ⟨q.n 1 % 4, by omega⟩

/-- A converter runs a sequence or a calibration (PC_STAT). -/
def State.pcRuns (s : State) (p : Conv) : Bool :=
  let c := vget s.pc p
  c.rrun || c.iIdx.isSome || c.calRun.isSome || c.calPend.isSome

/-- PC_ENTRY: an enabled converter that does not run is disabled for the write (R103). -/
def opPcEntry : OpFn := fun q s =>
  let p := q.pc
  if s.pcRuns p then s.no .state
  else
    let en := s.pcEn p
    let s := if en then s.fwBit (R.PC_CFG p) 31 false else s
    let s := s.fwWrite (R.PC_ENT p (q.n 2)) (wordOfNat (q.n 6 * 65536 + q.n 5 * 4096 + q.n 4 * 256 + q.n 3))
    (if en then s.fwBit (R.PC_CFG p) 31 true else s).yes []

/-- PC_RUN: a converter that starts is enabled first. -/
def opPcRun : OpFn := fun q s =>
  (forAll 4 s fun s p =>
    if !(q.n 1).testBit p then s
    else if q.n 2 = 1 then (s.fwSet (R.PC_CFG p) 31).fwWrite (R.PC_CTL p) 1#32
    else s.fwWrite (R.PC_CTL p) 2#32).yes []

/-- PC_READ. -/
def opPcRead : OpFn := fun q s => s.yes ((List.range (q.n 3)).map fun i => s.get (R.PC_RES q.pc (q.n 2 + i)) &&& 0x03FFFFFF#32)

/-- PC_CAL (R291). -/
def opPcCal : OpFn := fun q s =>
  if s.longBusy .device then s.no .busy
  else
    let s := s.startLong .device { op := 0x43, args := [q.w 1, q.w 2, q.w 3] }
    ((s.fwSet (R.PC_CFG q.pc) 31).fwWrite (R.PC_CTL q.pc) (wordOfNat (q.n 2 * 256 + q.n 3 * 16 + 8))).yes []

/-- REF_CTL (R288). -/
def opRefCtl : OpFn := fun q s =>
  let s := s.fwBit R.REF_CFG 31 (q.n 1 = 1)
  s.yes [wordOfNat s.refAge]

/-- COIL_READ: CSM_FINE in mA; how a fraction is rounded is not stated. -/
def opCoilRead : OpFn := fun q s =>
  let (ws, s) := (List.range (q.n 2)).foldl (fun (acc : List Word × State) i =>
    let c : Coil := ⟨(q.n 1 + i) % 16, by omega⟩
    let code := acc.2.sfld (R.CSM_FINE c) 15 0
    let num := code * (if acc.2.bit (R.CSM_CCFG c) 0 then 2000 else 8000)
    let (x, s) := acc.2.meanOf num (acc.2.shunt (axisOf c))
    (acc.1 ++ [wordOfInt x], s)) ([], s)
  s.yes ws

/-! ### Comparators -/

/-- The comparator that w1 names. -/
def Req.cmp (q : Req) : Cmp := ⟨q.n 1 % 16, by omega⟩

/-- CMP_SET (R300): the comparator is configured and turned on. -/
def opCmpSet : OpFn := fun q s =>
  let c := q.cmp
  let k := R.CMP_CCFG c
  if s.bit k 31 then s.no .state
  else
    let w := putFld (putFld (putFld (putFld (s.get k) 29 28 (q.n 4)) 25 24 (q.n 3)) 22 20 (q.n 5 % 8)) 9 0 (q.n 2)
    let s := s.fwWrite k (putBit w 12 (q.n 6 = 1))
    let s := s.fwBit R.SYS_WAKECFG c ((q.n 5).testBit 3)
    ((s.fwBit k 31 true).fwSet R.CMP_CFG 31).yes []

/-- CMP_READ. -/
def opCmpRead : OpFn := fun _ s => s.yes [s.get R.CMP_OUT]

/-- CMP_CHECK (R302): PC3 is stopped for the check. -/
def opCmpCheck : OpFn := fun q s =>
  if s.refAge < 5 then s.no .state
  else if s.longBusy .device then s.no .busy
  else
    let run := (vget s.pc (3 : Conv)).rrun
    let s := s.startLong .device { op := 0x47, args := [q.w 1, wordOfNat (b2n run)] }
    (if run then s.fwWrite (R.PC_CTL 3) 2#32 else s).yes []

/-- The comparators of a check that are on: the others fail (R302, step 1). -/
def State.cmpOns (s : State) : Word := wordOfNat (packBits 16 fun c => s.bit (R.CMP_CCFG c) 31)

/-! ### The commands -/

/-- PC_ENTRY (R152, R281). -/
def execOpPcEntry (ch : ReqChan) (s : State) : Host.Outcome State Fault Refusal := .next (s.quiet.serve ch 0x40 opPcEntry)

/-- PC_RUN (R152, R282). -/
def execOpPcRun (ch : ReqChan) (s : State) : Host.Outcome State Fault Refusal := .next (s.quiet.serve ch 0x41 opPcRun)

/-- PC_READ (R152). -/
def execOpPcRead (ch : ReqChan) (s : State) : Host.Outcome State Fault Refusal := .next (s.quiet.serve ch 0x42 opPcRead)

/-- PC_CAL (R291). -/
def execOpPcCal (ch : ReqChan) (s : State) : Host.Outcome State Fault Refusal := .next (s.quiet.serve ch 0x43 opPcCal)

/-- REF_CTL (R288). -/
def execOpRefCtl (ch : ReqChan) (s : State) : Host.Outcome State Fault Refusal := .next (s.quiet.serve ch 0x44 opRefCtl)

/-- CMP_SET (R300, R305). -/
def execOpCmpSet (ch : ReqChan) (s : State) : Host.Outcome State Fault Refusal := .next (s.quiet.serve ch 0x45 opCmpSet)

/-- CMP_READ (R152). -/
def execOpCmpRead (ch : ReqChan) (s : State) : Host.Outcome State Fault Refusal := .next (s.quiet.serve ch 0x46 opCmpRead)

/-- CMP_CHECK (R302). -/
def execOpCmpCheck (ch : ReqChan) (s : State) : Host.Outcome State Fault Refusal := .next (s.quiet.serve ch 0x47 opCmpCheck)

/-- COIL_READ (R152, R273). -/
def execOpCoilRead (ch : ReqChan) (s : State) : Host.Outcome State Fault Refusal := .next (s.quiet.serve ch 0x48 opCoilRead)

end Sys2Proof.Machine
end

