-- ==== Sys2Proof/Machine/FwStore.lean ====
section
/-! DEFINITION. Opcodes of settings and firmware, of the hierarchy (R152, R359, R365, R380 to R388): 0x60 to 0x75; and the ends of long
operations and the resets that follow a response. -/

namespace Sys2Proof.Machine

/-! ### Settings -/

/-- SET_READ. -/
def opSetRead : OpFn := fun q s => s.yes ((List.range (q.n 2)).map fun i => (spFind s.fw.staging (q.n 1 + i)).getD 0#32)

/-- Words of the staging image from an offset on. -/
def stagePut (l : List (Nat × Word)) (ofs : Nat) (ws : List Word) : List (Nat × Word) :=
  (List.range ws.length).foldl (fun l i => spSet 0#32 l (ofs + i) (ws.getD i 0#32)) l

/-- SET_WRITE. -/
def opSetWrite : OpFn := fun q s =>
  { s with fw := { s.fw with staging := stagePut s.fw.staging (q.n 1) ((q.ws.drop 2).take (hdrNarg q.h - 1)) } }.yes []

/-- SET_COMMIT (R388): the blocks are written as the operation ends. -/
def opSetCommit : OpFn := fun _ s =>
  if !s.presence && safetyEntries (s.stagedBlock.getD []) ≠ safetyEntries s.fw.inUse then s.no .nopres
  else if s.longBusy .device then s.no .busy
  else (s.startLong .device { op := 0x62, args := s.stagedBlock.getD [] }).yes []

/-- The header word of a settings entry (R385). -/
def entryHead (kind page index count : Nat) : Word := wordOfNat (kind * 268435456 + page * 65536 + index * 256 + count)

/-- The replay of a request that sets what firmware holds of an axis (R385). -/
def replayEntry (kind op : Nat) (args : List Nat) : Word × List Word := (entryHead kind op 0 args.length, args.map wordOfNat)

/-- The live configuration as the entries that restore it (R385): the registers that an image may hold and that differ from reset, the
template contexts of the door inputs, and what firmware holds of its own: event masks, roles, rated currents, axis limits, memberships of
groups and the relay timeout. -/
def State.liveConfig (s : State) : List (Word × List Word) :=
  let regs := (s.regs.filter fun e => imageReg (e.1 / 128) (e.1 % 128)).map fun e =>
    (entryHead (b2n (safetyReg (e.1 / 128) (e.1 % 128))) (e.1 / 128) (e.1 % 128) 1, [e.2])
  let tmpl := ((List.range 256).filter fun c => s.isTemplate c).map fun c => (entryHead 2 0 c 32, (List.range 32).map (s.ctxW c))
  let own := (List.finRange 8).flatMap fun ax =>
    let f := vget s.fw.ax ax
    let l := f.lim
    let role := match vget s.roles ax with
      | .stepDir => 0
      | .door => 1
      | .encoder => 2
    (match f.rated with
      | some r => [replayEntry 3 0x12 [ax, s.fld (R.CR_MOTOR2 ax) 30 24, r, s.fld (R.CR_SHUNT ax) 23 0, s.fld (R.CR_MOTOR1 ax) 15 0,
          s.fld (R.CR_MOTOR1 ax) 31 16, s.fld (R.CR_MOTOR2 ax) 23 0]]
      | none => [])
      ++ [replayEntry 3 0x11 [ax, role], replayEntry 3 0x30 [ax, l.vlim, l.acc, (s.get (R.ME_HDEC ax)).toNat, l.jerk],
        replayEntry 4 0x31 [ax, l.ecapO, l.ecapC], replayEntry 4 0x32 [ax, l.flim, l.obsact, l.revdist, l.rcdelay, l.retries]]
  let dev := [(entryHead 3 0x07 0 3, s.fw.masks.toList), replayEntry 3 0x75 [s.fw.relay]]
    ++ s.lnk.groups.map fun g => replayEntry 3 0x73 [g.1, g.2.toNat, 1]
  regs ++ tmpl ++ own ++ dev

/-- SET_CAPTURE: an image of the live configuration; the choice, grouping and order of its entries are firmware's. -/
def opSetCapture : OpFn := fun _ s =>
  let img := (Config.freeImage s.free s.liveConfig).take 4096
  { s with free := s.free + 1, fw := { s.fw with staging := stagePut [] 0 img } }.yes []

/-- A block with its GEN and its CRC word (R384, R388). -/
def sealBlock (ws : List Word) (gen : Nat) : List Word :=
  let body := [ws.getD 0 0#32, wordOfNat gen] ++ (ws.drop 2).take (ws.length - 3)
  body ++ [crc32Words body]

/-- The blocks of a commit are written (R388): GEN one greater than both; `fails` names the block whose read-back does not match. -/
def State.commitBlocks (s : State) (ws : List Word) (fails : Option Bool) : State :=
  let gen := max (blockGen (s.block false)) (blockGen (s.block true)) + 1
  let b := sealBlock ws gen
  let put (s : State) (mirror : Bool) (ws : List Word) : State := (s.flashErase (blockBase mirror) 16384).flashPutWords (blockBase mirror) ws
  match fails with
  | none => ((put (put s false b) true b)).logEvent 6 s.sys.time [wordOfNat gen, b.getLast?.getD 0#32]
  | some mirror =>
    let s := if mirror then put s false b else s
    let bad := (Config.freeImage s.free []).take 4096
    (put { s with free := s.free + 1 } mirror bad).raise 120 (wordOfNat (blockBase mirror))

/-! ### Firmware slots -/

/-- A core runs from a slot. -/
def State.slotActive (s : State) (slot : Nat) : Bool := !s.baseline && (s.fld R.SPL_BOOT 4 4 = slot || s.fld R.SPL_BOOT 5 5 = slot)

/-- FW_WRITE. -/
def opFwWrite : OpFn := fun q s =>
  if s.slotActive (q.n 1) then s.no .state
  else (s.flashPutWords (slotBase (q.n 1) + q.n 2) ((q.ws.drop 3).take (hdrNarg q.h - 2))).yes []

/-- FW_VERIFY (R376). -/
def opFwVerify : OpFn := fun q s =>
  let h := s.slotWords (q.n 1)
  s.yes [wordOfNat (s.slotState (q.n 1)), h.getD 1 0#32, h.getD 15 0#32]

/-- Word 2 of a header that names a slot for a core, on trial, with the slot it leaves (R374, R380). -/
def switchHeader (slot : Nat) (link : Bool) (w : Word) : Word :=
  let c := b2n link
  putFld (putBit (putFld w (4 + c) (4 + c) (fldOf w c c)) (8 + c) true) c c slot

/-- FW_SWITCH (R380): records and positions are saved and the header written before the response, and the switch follows it. -/
def opFwSwitch : OpFn := fun q s =>
  let slot := q.n 1
  let link := q.n 2 = 1
  let commit : Bool := match s.fw.longDev with
    | some o => o.op = 0x62
    | none => false
  if !s.slotValid slot then s.no .state
  else if commit then s.no .busy
  else
    let s := s.logEvent 7 s.sys.time [wordOfNat (b2n link * 2 + slot), (s.slotWords slot).getD 1 0#32]
    let s := (s.logFlush.wjAxes false).hdrWrite (switchHeader slot link)
    { s with fw := { s.fw with deferred := some (if link then .switchLink slot else .switchExec slot, q.d) } }.yes []

/-- The LINK image of a slot is copied while LHOLD is 1, or that of LPREV when its check fails (R383). -/
def State.switchLink (s : State) (slot : Nat) : State :=
  let s := s.splCoreWrite .exec 0x9E370001#32
  let prev := match s.hdr with
    | some (_, ws) => fldOf (ws.getD 2 0#32) 5 5
    | none => slot
  let use := if s.slotValid slot then slot else prev
  let s := s.loadImage use true
  ((s.setBit R.SPL_BOOT 5 (use = 1)).setBit R.SPL_BOOT 9 (use = slot)).setBit R.SPL_BOOT 29 (s.bit R.SPL_BOOT 29 || use ≠ slot)

/-- What follows a response (R152, R381, R383). -/
def State.deferredReset (s : State) : State :=
  match s.fw.deferred with
  | none => s
  | some (k, _) =>
    let s := { s with fw := { s.fw with deferred := none } }
    match k with
    | .crst => s.chipReset .swrst
    | .execCore => s.execReset
    | .linkCore => if s.sys.linkRun then s.linkReset else s
    | .switchExec _ => s.execReset
    | .switchLink slot => s.switchLink slot

/-! ### Hierarchy -/

/-- LINK_STATUS. -/
def opLinkStatus : OpFn := fun _ s =>
  let ports := ((List.range 4).map fun p => s.fld (R.LNK_PORT p) 7 0 * 256 ^ p).sum
  s.yes [wordOfNat s.role, wordOfNat s.linkAddr.toNat, wordOfNat ports, wordOfNat (s.fld R.LNK_WCNT 10 0), wordOfNat (s.fld R.LNK_TXN 8 0)]

/-- ENUMERATE (R359). -/
def opEnumerate : OpFn := fun _ s =>
  if s.longBusy .device then s.no .busy else ((s.startLong .device { op := 0x71, args := [] }).startEnum [0, 1, 2, 3]).yes []

/-- WORKER_MAP. -/
def opWorkerMap : OpFn := fun q s =>
  s.yes (q.w 1 :: (List.range 12).map fun j => wordOfNat (packBits 32 fun b => (s.worker (BitVec.ofNat 11 (q.n 1 + 32 * j + b))).isSome))

/-- GROUP: the manager keeps the membership and tells the worker (R358). -/
def opGroup : OpFn := fun q s =>
  let e : Nat × LinkAddr := (q.n 1, BitVec.ofNat 11 (q.n 2))
  let rest := s.lnk.groups.filter (· ≠ e)
  ({ s with lnk := { s.lnk with groups := if q.n 3 = 1 then rest ++ [e] else rest } }.sendGroup e.1 e.2 (q.n 3 = 1)).yes []

/-- SET_ORPHAN (R365). -/
def opSetOrphan : OpFn := fun q s => (s.fwWrite R.LNK_ORPH (wordOfNat (q.n 2 * 65536 + q.n 1))).yes []

/-- SET_RELAY (R144). -/
def opSetRelay : OpFn := fun q s => { s with fw := { s.fw with relay := q.n 1 } }.yes []

/-! ### Ends of long operations (R149) -/

/-- The wiring report of a result bitmap (R230, R270). -/
def wrepOf (ax : Axis) (w : Word) : Nat :=
  let own (on : Bool) (coil : Nat) : Bool := on && coil / 2 = ax.val
  let far (on : Bool) (coil : Nat) : Bool := on && coil / 2 ≠ ax.val
  let a := bitOf w 3
  let b := bitOf w 4
  let ca := fldOf w 19 16
  let cb := fldOf w 23 20
  b2n (bitOf w 1 || bitOf w 2) + b2n (own a ca || own b cb) * 2 + b2n (far a ca || far b cb) * 4 + b2n (bitOf w 6) * 8 + b2n (bitOf w 7) * 16

/-- An axis's long operation ends: its RESULT, what firmware applies, and the data of the event. That a self-test ended early and a home
context that was aborted give RESULT STATE is the model's (DESIGN CHOICE, log entry 111). -/
def State.axisLongEnd (s : State) (ax : Axis) (o : LongOp) (data : List Word) : Nat × State × List Word :=
  if o.op = 0x18 then
    if s.identFails ax (o.args.getD 1 0#32).toNat data then (9, s, [])
    else
      let (ws, s) := s.identWords data
      (0, s.identApply ax ws, [])
  else if o.op = 0x80 then
    let w := ((vget s.fw.plan ax).map (·.found)).getD 0#32 ||| 1#32
    (0, (s.set (R.LO_WIRE ax) w).fwWrite (R.GD_WREP ax) (wordOfNat (wrepOf ax w)), [w])
  else if o.op = 0x81 then
    if s.bit (R.GD_STRES ax) 31 then (0, s, [s.get (R.GD_STRES ax) &&& 0x3FFFFFFF#32]) else (9, s, [])
  else (if fldOf (s.ctxW (o.args.getD 0 0#32).toNat 32) 6 4 = ctxAborted then 9 else 0, s, [])

/-- A device-wide long operation ends: its RESULT, what firmware applies, and the data of the event. -/
def State.devLongEnd (s : State) (o : LongOp) (result : Nat) (data : List Word) : Nat × State × List Word :=
  let a (i : Nat) : Nat := (o.args.getD i 0#32).toNat
  if o.op = 0x43 then
    let p : Conv := ⟨a 0 % 4, by omega⟩
    let c := vget s.pc p
    if result ≠ 0 || c.calAb || c.calErr then (if result = 0 then 9 else result, s, [])
    else (0, s, [s.get (R.PC_OFS p (a 1)), s.get (R.PC_GAIN p (a 1))])
  else if o.op = 0x47 then
    let s := if a 1 = 1 then s.fwWrite (R.PC_CTL 3) 1#32 else s
    if result ≠ 0 then (result, s, []) else (0, s, [data.getD 0 0#32 &&& o.args.getD 0 0#32 &&& s.cmpOns])
  else if o.op = 0x62 then
    (if result = 0 then 0 else 9, s.commitBlocks o.args (if result = 0 then none else some (data.getD 0 0#32 ≠ 0#32)), [])
  else (result, s, if result = 0 then [wordOfNat (s.fld R.LNK_WCNT 10 0)] else [])

/-- A long operation ends with a RESULT and what it measured (R149); one that still runs does not (R209, R229, R271, R291, R359, R437). -/
def State.longEnds (s : State) (slot : LongSlot) (result : Nat) (data : List Word) : State :=
  if !s.fwRuns then s else
  match slot with
  | .axis ax => match vget s.fw.long ax with
    | none => s
    | some o =>
      let fails := ((vget s.fw.plan ax).map (·.fails)).getD 0
      if s.axisRuns ax o then s
      else if result ≠ 0 ∨ fails ≠ 0 then s.endLong slot (if fails ≠ 0 then fails else result) []
      else
        let (r, s, ws) := s.axisLongEnd ax o data
        s.endLong slot r ws
  | .device => match s.fw.longDev with
    | none => s
    | some o =>
      if s.devRuns o then s else
      let (r, s, ws) := s.devLongEnd o result data
      s.endLong slot r ws

/-! ### The commands -/

/-- SET_READ (R384). -/
def execOpSetRead (ch : ReqChan) (s : State) : Host.Outcome State Fault Refusal := .next (s.quiet.serve ch 0x60 opSetRead)

/-- SET_WRITE (R384). -/
def execOpSetWrite (ch : ReqChan) (s : State) : Host.Outcome State Fault Refusal := .next (s.quiet.serve ch 0x61 opSetWrite)

/-- SET_COMMIT (R388). -/
def execOpSetCommit (ch : ReqChan) (s : State) : Host.Outcome State Fault Refusal := .next (s.quiet.serve ch 0x62 opSetCommit)

/-- SET_CAPTURE (R152). -/
def execOpSetCapture (ch : ReqChan) (s : State) : Host.Outcome State Fault Refusal := .next (s.quiet.serve ch 0x63 opSetCapture)

/-- FW_WRITE (R152). -/
def execOpFwWrite (ch : ReqChan) (s : State) : Host.Outcome State Fault Refusal := .next (s.quiet.serve ch 0x64 opFwWrite)

/-- FW_VERIFY (R376). -/
def execOpFwVerify (ch : ReqChan) (s : State) : Host.Outcome State Fault Refusal := .next (s.quiet.serve ch 0x65 opFwVerify)

/-- FW_SWITCH (R380). -/
def execOpFwSwitch (ch : ReqChan) (s : State) : Host.Outcome State Fault Refusal := .next (s.quiet.serve ch 0x66 opFwSwitch)

/-- LINK_STATUS (R152). -/
def execOpLinkStatus (ch : ReqChan) (s : State) : Host.Outcome State Fault Refusal := .next (s.quiet.serve ch 0x70 opLinkStatus)

/-- ENUMERATE (R359). -/
def execOpEnumerate (ch : ReqChan) (s : State) : Host.Outcome State Fault Refusal := .next (s.quiet.serve ch 0x71 opEnumerate)

/-- WORKER_MAP (R152). -/
def execOpWorkerMap (ch : ReqChan) (s : State) : Host.Outcome State Fault Refusal := .next (s.quiet.serve ch 0x72 opWorkerMap)

/-- GROUP (R152, R358). -/
def execOpGroup (ch : ReqChan) (s : State) : Host.Outcome State Fault Refusal := .next (s.quiet.serve ch 0x73 opGroup)

/-- SET_ORPHAN (R365). -/
def execOpSetOrphan (ch : ReqChan) (s : State) : Host.Outcome State Fault Refusal := .next (s.quiet.serve ch 0x74 opSetOrphan)

/-- SET_RELAY (R144). -/
def execOpSetRelay (ch : ReqChan) (s : State) : Host.Outcome State Fault Refusal := .next (s.quiet.serve ch 0x75 opSetRelay)

/-- LONG_OP_END (R149). -/
def execLongOpEnd (slot : LongSlot) (result : Byte) (data : List Word) (s : State) : Host.Outcome State Fault Refusal :=
  .next (s.quiet.longEnds slot result.toNat data)

/-- DEFERRED_RESET (R152). -/
def execDeferredReset (s : State) : Host.Outcome State Fault Refusal := .next s.quiet.deferredReset

/-- LHOLD_SET (R383). -/
def execLholdSet (m : Master) (w : Word) (s : State) : Host.Outcome State Fault Refusal :=
  .next (s.access m R.SPL_CORE fun s => s.splCoreWrite m w)

/-- LHOLD_CLEAR (R383). -/
def execLholdClear (m : Master) (w : Word) (s : State) : Host.Outcome State Fault Refusal :=
  .next (s.access m R.SPL_CORE fun s => (s.splCoreWrite m w).fwStep)

/-- LINK_CORE_RESTART (R35, R367): the LINK core leaves reset. -/
def execLinkCoreRestart (s : State) : Host.Outcome State Fault Refusal := .next s.quiet.linkStart.fwStep

end Sys2Proof.Machine
end

