-- ==== Sys2Proof/Machine/LinkFrames.lean ====
section
/-! DEFINITION. The commands of the Bobbin link (spec/16): frames and stitch frames as they arrive, ports, enumeration, notices and time. After
each, firmware and the LINK core do what has become possible. -/

namespace Sys2Proof.Machine

/-! ### Regular frames of KIND 0 to 2 (R350, R351, R356, R358, R367) -/

/-- A frame of KIND 0 to 2 as a worker sends it on. -/
def forwarded (f : LinkFrame) (kind : Nat) : TxFrame :=
  { cls := f.cls, kind, dest := f.dest, src := f.src, pres := f.pres, txn := f.txn.toNat, payload := f.payload, bad := !f.intact }

/-- A regular frame of KIND 0 to 2 arrives. The device takes it, sends it on, or both; while its LINK core is in reset, what it would take is
discarded and counted. -/
def State.frameIn (s : State) (p : LinkPort) (f : LinkFrame) (kind : Nat) (busy : Bool) (take : State → State) : State :=
  if !s.hears p || f.cls = 0 || f.dest = 0x7FE#11 then s else
  let ours := f.src = 0#11
  let s := if !f.intact then s.crcError p else if s.isWorker && ours then s.heardManager p else s
  let unicast := s.isWorker && ours && s.addressed && f.dest = s.linkAddr
  let s := if s.isWorker && !unicast then s.passOn p busy (forwarded f kind) else s
  let takes := f.intact && (if s.isManager then f.dest = 0#11 && !ours else ours && s.forMe f.dest)
  if !takes then s else if s.sys.linkRun then take s else s.dropFrame p

/-- A request that the device takes waits for BCH2 (R136). -/
def State.takeRequest (s : State) (f : LinkFrame) : State :=
  { s with lnk := { s.lnk with inq := s.lnk.inq ++ [({ src := f.src, txn := f.txn.toNat, cls := f.cls, pres := f.pres }, f.payload)] } }

/-- A response that the device takes ends a transaction. -/
def State.takeResponse (s : State) (f : LinkFrame) : State :=
  if s.isManager then s.gotResponse f.src f.txn.toNat f.payload else s.gotAnswer f.payload

/-- An event that the manager takes: forwarded to HOST when SET_EVENTS asks for it, and logged (R151, R152, R394). -/
def State.takeEvent (s : State) (f : LinkFrame) : State :=
  if !s.isManager || !s.fwRuns then s else
  let w (i : Nat) : Word := f.payload.getD i 0#32
  let s := if bitOf (vget s.fw.masks 0) 31 then s.queueEv 0 f.payload else s
  s.logEvent 0x10 s.sys.time [wordOfNat f.src.toNat, wordOfNat (fldOf (w 1) 7 0), w 5, w 6, w 7, w 8]

/-- REQUEST_FRAME (R356). -/
def execRequestFrame (p : LinkPort) (f : LinkFrame) (busy : Bool) (s : State) : Host.Outcome State Fault Refusal :=
  .next (s.quiet.frameIn p f 0 busy (·.takeRequest f)).fwStep

/-- RESPONSE_FRAME (R356). -/
def execResponseFrame (p : LinkPort) (f : LinkFrame) (busy : Bool) (s : State) : Host.Outcome State Fault Refusal :=
  .next (s.quiet.frameIn p f 1 busy (·.takeResponse f)).fwStep

/-- EVENT_FRAME (R356). -/
def execEventFrame (p : LinkPort) (f : LinkFrame) (busy : Bool) (s : State) : Host.Outcome State Fault Refusal :=
  .next (s.quiet.frameIn p f 2 busy (·.takeEvent f)).fwStep

/-- BUFFERED_FRAME_SEND (R357). -/
def execBufferedFrameSend (p : LinkPort) (s : State) : Host.Outcome State Fault Refusal := .next (s.quiet.sendStored p)

/-! ### Stitch frames (R352 to R355) -/

/-- The engine sends the class-0 request that has waited longest as a double stitch on every port that is UP, no sooner than 10 µs after the
one before (R139, R354, R358). -/
def State.stitchSend (s : State) : State :=
  let soon : Bool := match s.lnk.lastStitch with
    | some t => s.sys.cyc < t + 2000
    | none => false
  match s.lnk.cls0 with
  | [] => s
  | x :: rest =>
    if !s.isManager || soon then s else
    let q := s.lnk.sseq
    let s := { s with lnk := { s.lnk with cls0 := rest, sseq := (q + 1) % 256, lastStitch := some s.sys.cyc } }
    forAll 4 s fun s p => if s.portUp p then s.sends (.stitch p x.dest x.act x.txn q x.arg true true) else s

/-- STITCH_SEND (R354). -/
def execStitchSend (s : State) : Host.Outcome State Fault Refusal := .next s.quiet.stitchSend

/-- Both copies of a stitch frame leave a worker as they came (R353, R356). -/
def State.passStitch (s : State) (p : LinkPort) (f : StitchFrame) (act : Nat) : State :=
  match s.outPort (otherPort p) with
  | some q => if s.portUp q then s.sends (.stitch q f.dest act f.txn.toNat f.sseq.toNat f.arg.toNat f.first f.second) else s
  | none => s

/-- The class-1 response to a stitch frame (R355). -/
def State.stitchRsp (s : State) (f : StitchFrame) (op : Nat) (ws : List Word) : State :=
  s.sendUp { cls := 1, kind := 1, dest := 0#11, src := s.linkAddr, txn := f.txn.toNat
             payload := wordOfNat (op * 16777216 + ws.length * 128) :: ws }

/-- A copy that fails R351 is discarded and counted. -/
def State.stitchErrors (s : State) (p : LinkPort) (f : StitchFrame) : State :=
  let s := if f.first then s else s.crcError p
  if f.second then s else s.crcError p

/-- A worker accepts the first copy that passes R351, unless it has accepted this SSEQ within the last 1 ms (R354). -/
def State.stitchNew (s : State) (f : StitchFrame) : Bool :=
  (f.first || f.second) && s.forMe f.dest && !(s.lnk.accepted.any fun e => e.1 = f.sseq.toNat && s.sys.cyc < e.2 + 200000)

/-- An accepted stitch frame is noted, executed and answered. -/
def State.stitchRun (s : State) (p : LinkPort) (f : StitchFrame) (op : Nat) (ws : List Word) (run : State → State) : State :=
  let acc := (s.lnk.accepted.filter fun e => s.sys.cyc < e.2 + 200000) ++ [(f.sseq.toNat, s.sys.cyc)]
  let s := { s with lnk := { s.lnk with accepted := acc } }
  let s := if f.first then s else s.incFld (R.LNK_ERR p) 7 0
  (run s).stitchRsp f op ws

/-- The two copies of a stitch frame arrive: at the manager they are its own, and discarded (R358); a worker sends them on unless they are for
it alone, and executes them once. -/
def State.stitchIn (s : State) (p : LinkPort) (f : StitchFrame) (act op : Nat) (ws : List Word) (run : State → State) : State :=
  if !s.hears p then s else
  let s := s.stitchErrors p f
  if !s.isWorker then s else
  let s := if f.first || f.second then s.heardManager p else s
  let s := if s.addressed && f.dest = s.linkAddr then s else s.passStitch p f act
  if s.stitchNew f then s.stitchRun p f op ws run else s

/-- STITCH_HALT (R355); long operations of the axes end (R149). -/
def execStitchHalt (p : LinkPort) (f : StitchFrame) (s : State) : Host.Outcome State Fault Refusal :=
  let axes := f.arg.toNat % 256
  .next (s.quiet.stitchIn p f 0 0x29 [] fun s => (s.haltAxes axes).haltLong axes).fwStep

/-- STITCH_OBST_REL (R355). -/
def execStitchObstRel (p : LinkPort) (f : StitchFrame) (s : State) : Host.Outcome State Fault Refusal :=
  .next (s.quiet.stitchIn p f 1 0x2C [] fun s => s.obstRel (f.arg.toNat % 256) (f.arg.getLsbD 8)).fwStep

/-- STITCH_SAFE_STOP (R355): the SAFE core takes the link stop input as a STOP apply request (R324); long operations of the axes end (R149). -/
def execStitchSafeStop (p : LinkPort) (f : StitchFrame) (s : State) : Host.Outcome State Fault Refusal :=
  let bm := f.arg.toNat % 4
  .next (s.quiet.stitchIn p f 2 0x36 [] fun s =>
    (if s.saf.s.ready then (s.safeStop (wordOfNat (bm * 1048576 + 1))).1 else s).haltLong (s.groupAxes bm)).fwStep

/-- STITCH_PING (R355). -/
def execStitchPing (p : LinkPort) (f : StitchFrame) (s : State) : Host.Outcome State Fault Refusal :=
  .next (s.quiet.stitchIn p f 3 0x06 [wordOfNat f.arg.toNat] id).fwStep

/-! ### Ports (R349, R362, R364, R368) -/

/-- RX_SYNC_GAIN (R349). -/
def execRxSyncGain (p : LinkPort) (s : State) : Host.Outcome State Fault Refusal := .next (s.quiet.syncGain p)

/-- PORT_UP (R349). -/
def execPortUp (p : LinkPort) (s : State) : Host.Outcome State Fault Refusal := .next (s.quiet.portRises p)

/-- PORT_DOWN (R349, R364, R368). -/
def execPortDown (p : LinkPort) (codeErrors : Nat) (s : State) : Host.Outcome State Fault Refusal := .next (s.quiet.portFalls p codeErrors)

/-- HEM_BACK_END (R368). -/
def execHemBackEnd (p : LinkPort) (s : State) : Host.Outcome State Fault Refusal := .next (s.quiet.turnEnds p)

/-! ### Enumeration (R359 to R363) -/

/-- A frame of a worker for the manager passes another worker (R356). -/
def State.relayUp (s : State) (p : LinkPort) (f : TxFrame) : State := if s.isWorker then s.passOn p false f else s

/-- ENUM (R359). -/
def execEnum (p : LinkPort) (k : Nat) (r : Byte) (s : State) : Host.Outcome State Fault Refusal := .next (s.quiet.enumArrives p k r.toNat)

/-- ENUMRSP (R359, R360, R363). -/
def execEnumrsp (p : LinkPort) (k : Nat) (r : Byte) (addr : LinkAddr) (other : Bool) (dly : Nat) (s : State) : Host.Outcome State Fault Refusal :=
  let s := s.quiet
  if !s.hears p then .next s else
  .next ((s.relayUp p { cls := 1, kind := 4, dest := 0#11, src := addr, kdata := enumData 1 k r.toNat
                        payload := [wordOfNat (addr.toNat + b2n other * 65536), wordOfNat dly] }).enumrsp p k r.toNat addr).fwStep

/-- ENUM_TIMEOUT (R359). -/
def execEnumTimeout (s : State) : Host.Outcome State Fault Refusal :=
  .next (if s.sys.linkRun && s.isManager then s.quiet.enumTimeout.fwStep else s.quiet)

/-- ENUM_RETURN (R359). -/
def execEnumReturn (q : LinkPort) (s : State) : Host.Outcome State Fault Refusal :=
  .next (if s.sys.linkRun && s.hears q then (s.quiet.enumReturn q).fwStep else s.quiet)

/-- ASSIGN (R359, R360): a worker that did not answer this position sends it on. -/
def execAssign (p : LinkPort) (k : Nat) (up : Bool) (r : Byte) (addr : LinkAddr) (pos : Nat) (s : State) : Host.Outcome State Fault Refusal :=
  let s := s.quiet
  if !s.hears p || !s.isWorker then .next s else
  let s := s.heardManager p
  .next (if s.offeredTo k r.toNat then s.assigned k r.toNat up addr pos
    else s.passOn p false { cls := 1, kind := 4, dest := 0x7FF#11, src := 0#11, kdata := enumData 2 k r.toNat + b2n up * 256
                            payload := [wordOfNat (addr.toNat + pos % 1024 * 65536)] })

/-- REFUSE (R363): a worker that did not answer this position sends it on. -/
def execRefuse (p : LinkPort) (k : Nat) (r : Byte) (s : State) : Host.Outcome State Fault Refusal :=
  let s := s.quiet
  if !s.hears p || !s.isWorker then .next s else
  let s := s.heardManager p
  .next (if s.offeredTo k r.toNat then s.refusedBy k r.toNat
    else s.passOn p false { cls := 1, kind := 5, dest := 0x7FF#11, src := 0#11, kdata := enumData 1 k r.toNat })

/-- DREQ (R361). -/
def execDreq (p : LinkPort) (residence : Nat) (s : State) : Host.Outcome State Fault Refusal := .next (s.quiet.dreq p residence)

/-- DRSP (R361). -/
def execDrsp (p : LinkPort) (roundTrip residence : Nat) (s : State) : Host.Outcome State Fault Refusal :=
  .next (s.quiet.drsp p roundTrip residence)

/-- GROUP_FRAME (R359, LNK_GRPj). -/
def execGroupFrame (p : LinkPort) (dest : LinkAddr) (group : Fin 64) (join : Bool) (s : State) : Host.Outcome State Fault Refusal :=
  let s := s.quiet
  if !s.hears p || !s.isWorker then .next s else
  let s := s.heardManager p
  let s := if s.addressed && dest = s.linkAddr then s else
    s.passOn p false { cls := 1, kind := 4, dest, src := 0#11, kdata := enumData 5 0 0, payload := [wordOfNat (group + b2n join * 256)] }
  .next (s.groupSet dest group join)

/-- JOIN_SEND (R362). -/
def execJoinSend (s : State) : Host.Outcome State Fault Refusal := .next (if s.addressed then s.quiet else s.quiet.sendJoin)

/-- JOIN (R362, R367): discarded while the manager's LINK core is in reset. -/
def execJoin (p : LinkPort) (src : LinkAddr) (s : State) : Host.Outcome State Fault Refusal :=
  let s := s.quiet
  if !s.hears p then .next s else
  let s := s.relayUp p { s.joinFrame with src }
  .next (if s.isManager && s.sys.linkRun then (s.joined p).fwStep else s)

/-! ### Notices (R364, R368) -/

/-- A notice arrives: a worker sends it on, and the manager's LINK core acts on it. -/
def State.noticeIn (s : State) (p : LinkPort) (src : LinkAddr) (code port : Nat) (act : State → State) : State :=
  if !s.hears p then s else
  let s := s.relayUp p { s.notice code port with src }
  if s.isManager && s.sys.linkRun then (act s).fwStep else s

/-- ALIVE_SEND (R364). -/
def execAliveSend (s : State) : Host.Outcome State Fault Refusal :=
  .next (if s.isWorker && s.addressed then s.quiet.sendUp (s.notice 0 0) else s.quiet)

/-- ALIVE (R364). -/
def execAlive (p : LinkPort) (src : LinkAddr) (s : State) : Host.Outcome State Fault Refusal :=
  .next (s.quiet.noticeIn p src 0 0 fun s =>
    { s with lnk := { s.lnk with table := s.lnk.table.map fun (w : WorkerRec) => if w.addr = src then { w with alive := s.sys.cyc } else w } })

/-- BREAK (R364, R368). -/
def execBreak (p : LinkPort) (src : LinkAddr) (port : Fin 2) (s : State) : Host.Outcome State Fault Refusal :=
  .next (s.quiet.noticeIn p src 1 port fun s => s.broken src port)

/-- REPAIR (R368). -/
def execRepair (p : LinkPort) (src : LinkAddr) (port : Fin 2) (s : State) : Host.Outcome State Fault Refusal :=
  .next (s.quiet.noticeIn p src 2 port fun s => s.repaired src port)

/-- WORKER_DEPART (R364, R366). -/
def execWorkerDepart (addr : LinkAddr) (s : State) : Host.Outcome State Fault Refusal :=
  .next (if s.isManager && s.sys.linkRun then (s.quiet.depart addr).fwStep else s.quiet)

/-- ORPHAN_TIMEOUT (R365). -/
def execOrphanTimeout (s : State) : Host.Outcome State Fault Refusal := .next s.quiet.orphaned

/-! ### Time (R369) -/

/-- SYNC_SEND (R369). -/
def execSyncSend (s : State) : Host.Outcome State Fault Refusal := .next s.quiet.syncSend

/-- SYNC_FRAME (R369). -/
def execSyncFrame (p : LinkPort) (f : SyncFrame) (s : State) : Host.Outcome State Fault Refusal := .next (s.quiet.syncArrives p f)

/-- SYNC_LOSS (R369). -/
def execSyncLoss (s : State) : Host.Outcome State Fault Refusal := .next s.quiet.syncLoss

end Sys2Proof.Machine
end

