-- ==== Sys2Proof/Machine/Boot.lean ====
section
/-! DEFINITION. From the end of a chip reset to READY and what follows it (R359, R377 to R379, R387, R395 to R397), the reload of the EXEC core in a handover (R381,
R382), and what firmware does of its own accord: confirming a trial, learning an open end, and acting on VSUP_WARN, a SLEEP request and window
alarms. -/

namespace Sys2Proof.Machine

/-! ### The wear journal at boot (R395 to R397) -/

/-- The odometers of an axis are restored; its position only after a wake from SLEEP, from a record marked as written at SLEEP entry (R396). -/
def State.wjRestore (s : State) (ax : Axis) : State :=
  let s := s.wjCheck (2 * ax)
  let ws := s.wjRead (2 * ax)
  let w (i : Nat) : Word := ws.getD i 0#32
  let s := ((s.set (R.ME_CYC ax) (w 2)).set (R.ME_CYC ax + 1) (w 3)).set (R.ME_TRAV ax) (w 4)
  let s := (s.set (R.ME_TRAV ax + 1) (w 5)).set (R.ME_OBSTOT ax) (w 6)
  if bitOf (s.get R.SYS_RSTCAUSE) 6 && bitOf (w 1) 9 then
    let x : Int := (w 0).toInt * 65536 + fldOf (w 1) 31 16
    (s.unstage (R.ME_POS ax)).mePosWrite .exec ax (hiWord x) (loWord x)
  else s

/-- Logbook pages accepted from a head on: each next page whose CRC is correct and whose SEQ follows, up to 16 (R393). -/
def State.logScan (s : State) (pages : Nat) : Nat → Nat → Nat
  | 0, head => head
  | n + 1, head =>
    let seq := head / 7
    let page := s.flashBytes (0x410000 + 256 * (seq % max 1 pages)) 256
    let good := crc32 (page.take 14 ++ page.drop 18) = (wordsOf ((page.drop 14).take 4)).getD 0 0#32
    let ws := wordsOf (page.take 8)
    if good && ofHiLoU (ws.getD 0 0#32) (ws.getD 1 0#32) = seq then s.logScan pages n ((seq + 1) * 7) else head

/-- Head, tail and size of the logbook; records gathered before a warm reset follow the pages (R392, R393). -/
def State.logBoot (s : State) (cap : Nat) : State :=
  let pages := cap * 256 - 0x4100
  let s := s.wjCheck 16
  let ws := s.wjRead 16
  let w (i : Nat) : Word := ws.getD i 0#32
  let head := if pages = 0 then 0 else s.logScan pages 16 (ofHiLoU (w 0) (w 1))
  let s := (s.set R.SPL_LOGPAGES (wordOfNat pages)).setWide R.SPL_LOGHEAD (head + s.spool.gathered.length : Nat)
  s.setWide R.SPL_LOGTAIL (ofHiLoU (w 2) (w 3) : Nat)

/-! ### Header, trial and images (R373 to R379) -/

/-- Capacity by SFDP, in 64 KB units; 16 MB without it (R373). -/
def probeCap (p : SpoolProbe) : Nat := if p.sfdp then p.capUnits else 256

/-- No spool answers 9Fh (R397). -/
def noSpool (p : SpoolProbe) : Bool := p.jedec = 0x000000#24 || p.jedec = 0xFFFFFF#24

/-- What SFDP shows of the spool's commands suits firmware (R409): 20h erases 4 KB and 0Bh takes 8 dummy clocks. -/
def spoolSuits (p : SpoolProbe) : Bool := !p.sfdp || (p.erase4k && p.dummy8)

/-- What the boot ROM decides of one core: its slot, whether it fell back, went back from a trial, or is on trial, and the trial's count. -/
structure BootSlot where
  slot   : Option Nat
  fall   : Bool
  revert : Bool
  trial  : Bool
  count  : Nat
  deriving DecidableEq, Repr

/-- The slot of a core (0 EXEC, 1 LINK) by word 2 of the header and the count of its trial in the boot record (R378, R379). -/
def State.bootSlot (s : State) (hdr : Word) (core before : Nat) : BootSlot :=
  let trial := bitOf hdr (8 + core)
  let count := if trial then before + 1 else 0
  let revert := trial && 4 ≤ count
  let want := if revert then fldOf hdr (4 + core) (4 + core) else fldOf hdr core core
  if s.slotValid want then { slot := some want, fall := false, revert, trial := trial && !revert, count }
  else { slot := if s.slotValid (1 - want) then some (1 - want) else none, fall := s.slotValid (1 - want), revert, trial := false, count }

/-- The boot record: counts of the EXEC and LINK trials, boots, and the last four SYS_RSTCAUSE values, the newest first (R395). -/
def State.bootRecord (s : State) (ce cl : Nat) : State :=
  let ws := s.wjRead 18
  let w (i : Nat) : Word := ws.getD i 0#32
  s.wjPair 18 [wordOfNat ce, wordOfNat cl, w 2 + 1#32, s.get R.SYS_RSTCAUSE, w 3, w 4, w 5]

/-- What the boot ROM found: SPL_BOOT, and the trials' counts for the boot record. -/
structure BootFound where
  boot  : Word
  ce    : Nat
  cl    : Nat
  exec  : Option Nat
  link  : Option Nat
  deriving DecidableEq, Repr

/-- Steps 3 to 5 of R377 as SPL_BOOT tells them, before the settings; a spool that does not suit counts as one with no valid slot (R409). -/
def State.bootFind (s : State) (p : SpoolProbe) : BootFound :=
  let base (src : Nat) : Word := wordOfNat (0x40000000 + src * 16777216)
  if noSpool p then { boot := base 1, ce := 0, cl := 0, exec := none, link := none }
  else match s.hdr with
    | none => { boot := base 2, ce := 0, cl := 0, exec := none, link := none }
    | some (copy, ws) =>
      let rec_ := s.wjRead 18
      let e := s.bootSlot (ws.getD 2 0#32) 0 (rec_.getD 0 0#32).toNat
      let l := s.bootSlot (ws.getD 2 0#32) 1 (rec_.getD 1 0#32).toNat
      let none_ : BootFound := { boot := base 3 ||| wordOfNat copy, ce := e.count, cl := l.count, exec := none, link := none }
      if !spoolSuits p then none_ else
      match e.slot, l.slot with
      | some a, some b =>
        let w := b2n (e.revert || l.revert) * 536870912 + b2n (e.fall || l.fall) * 268435456 + b2n l.trial * 512 + b2n e.trial * 256
          + b * 32 + a * 16 + copy
        { boot := wordOfNat w, ce := e.count, cl := l.count, exec := some a, link := some b }
      | _, _ => none_

/-- Images of the slots found are loaded at 50 MHz (R376, R407). -/
def State.loadFound (s : State) (f : BootFound) : State :=
  match f.exec, f.link with
  | some a, some b => ((s.fwWrite R.MSP_CFG 0#32).fwWrite R.MSP_CFG 0x80000000#32).loadImage b true |>.loadImage a false
  | _, _ => s

/-- Capacity in use: the smaller of CAP and that of SFDP (R375). -/
def State.capOf (s : State) (p : SpoolProbe) : Nat :=
  if noSpool p then 0 else match s.hdr with
  | some (_, ws) => min (fldOf (ws.getD 3 0#32) 16 0) (probeCap p)
  | none => probeCap p

/-- Steps 2 to 6 of R377: FAULT_N released, the link's role, the spool read, the images loaded, and both cores started. Under the baseline
firmware a manager strap acts as a worker, and a standalone device's link stays disabled (R154). -/
def State.bootRom (s : State) (p : SpoolProbe) : State :=
  let s := (s.fwBit R.FC_CTL 1 true).wjCheck 18
  let s := { s with spool := { s.spool with probe := some p } }
  let s := (s.fwWrite R.MSP_TIM 0x00050202#32).fwWrite R.MSP_CFG 0x80000003#32
  let f := s.bootFind p
  let base := f.exec.isNone
  let role := if base && s.role = 1 then 0 else s.role
  let s := (s.setFld R.LNK_STAT 1 0 role).setBit R.LNK_STAT 9 (role = 1)
  let s := if role = 1 then s.set R.LNK_ADDR 0#32 else if s.linkAddr = 0#11 then s.set R.LNK_ADDR 0x7FF#32 else s
  let s := s.fwBit R.LNK_CFG 31 (!(base && role = 2))
  let cap := s.capOf p
  let s := (s.set R.SPL_ID (if noSpool p then 0#32 else p.jedec.setWidth 32)).set R.SPL_CAP
    (wordOfNat (cap + b2n (256 < cap && p.addr4) * 2147483648 + b2n (256 < cap && !p.addr4 && p.b7) * 1073741824))
  let s := ((s.set R.SPL_BOOT f.boot).setBit R.SPL_CFG 31 true).setBit R.WJ_CFG 31 true
  let s := if noSpool p || spoolSuits p then s else s.raise 120 0#32
  let s := (s.loadFound f).bootRecord f.ce f.cl
  { s with sys := { s.sys with exec := .firmware, linkRun := true } }

/-! ### Settings (R384 to R388) -/

/-- The opcodes that an entry may replay (R385). -/
def replayFn (op : Nat) : Option OpFn :=
  match op with
  | 0x07 => some opSetEvents
  | 0x10 => some opAxisEn
  | 0x11 => some opSetRole
  | 0x12 => some opSetMotor
  | 0x13 => some opSetCurrent
  | 0x14 => some opSetCommut
  | 0x15 => some opSetDoor
  | 0x1A => some opLoadWave
  | 0x30 => some opSetLimits
  | 0x31 => some opSetEnergy
  | 0x32 => some opSetForce
  | 0x33 => some opSetCeiling
  | 0x37 => some opSetSupply
  | 0x40 => some opPcEntry
  | 0x41 => some opPcRun
  | 0x45 => some opCmpSet
  | 0x53 => some opFaultReact
  | 0x73 => some opGroup
  | 0x74 => some opSetOrphan
  | 0x75 => some opSetRelay
  | _ => none

/-- An entry as the request it replays. -/
def SetEntry.req (e : SetEntry) : Req :=
  let h := wordOfNat (e.page * 16777216 + e.data.length * 128 + 1)
  { d := 0, h, ws := h :: e.data, link := none }

/-- An entry's opcode and arguments are in order (R131, R135). -/
def SetEntry.argsOk (e : SetEntry) : Bool :=
  match opSpec e.page with
  | some o => o.nargs ≤ e.data.length && !badArgs e.page 1 e.data.length e.req.ws
  | none => false

/-- An entry is replayed: presence is not asked for, and the workers of a GROUP need not have joined yet. -/
def State.replay (s : State) (e : SetEntry) : State × Res :=
  match replayFn e.page with
  | none => (s, .badop)
  | some f =>
    let go : State × Res := let (t, r, _) := f e.req s; if r = .ok then (t, .ok) else (s, r)
    if !e.argsOk then (s, .badarg)
    else match s.early e.page e.req with
      | some .unreach => go
      | some r => (s, r)
      | none => go

/-- One entry is applied (R387). -/
def State.applyEntry (s : State) (e : SetEntry) : State × Res :=
  if !e.good || !e.admitted then (s, .badarg)
  else match e.kind with
    | 0 | 1 => ((List.range e.data.length).foldl (fun s j => s.fwWrite (regKey e.page (e.index + j)) (e.data.getD j 0#32)) s, .ok)
    | 2 => (s.fwCtxWords e.index 0 e.data, .ok)
    | _ => s.replay e

/-- The templates that a block loads. -/
def templatesOf (es : List SetEntry) : List Nat := (es.filter fun e => e.good && e.kind = 2).map (·.index)

/-- The entries of a block are applied in order; an entry skipped is logged. Contexts are allocated from 0 upwards for the templates, and
those that hold none are released (R387). -/
def State.applySettings (s : State) (ws : List Word) : State :=
  let es := entriesOf ws
  let ts := templatesOf es
  let n := ts.foldl (fun m c => max m (c + 1)) 0
  let s := (List.range n).foldl (fun s c => s.ctxLoad c) s
  let s := es.foldl (fun s e =>
    let (t, r) := s.applyEntry e
    if r = .ok then t else t.logEvent 8 t.sys.time [wordOfNat e.ofs, wordOfNat r.code]) s
  (List.range n).foldl (fun s c => if ts.contains c then s else s.ctxGo c ctxFree) s

/-- The SENSE request of every axis (R320, R324). -/
def State.sendSenses (s : State) : State :=
  forAll 8 s fun s ax =>
    let sense := (s.bit (R.ME_CFG ax) 13 != s.bit (R.CR_CFG ax) 0) != s.bit (R.CR_CFG ax) 1
    (s.askSafe 3 (ax.val * 1048576 + b2n sense) State.safeSense).1

/-- The axis inputs of the default door mode: the template of R182 in context n, named in ME_CFG. -/
def State.defaultDoor (s : State) (ax : Axis) : State :=
  let s := match s.fwBuild ax (templateOf {}) with
    | some (c, t) => t.fwFld (R.ME_CFG ax) 23 16 c
    | none => s
  ((s.fwBit (R.ME_CFG ax) 15 true).fwBit (R.ME_CFG ax) 14 false).fwBit (R.ME_CFG ax) 13 false

/-- No settings present: currents by ISET, modulators on at gain 1, the VSUP entry of PC0, and every axis in the role of DEFMODE and enabled,
unless ISET lies in no band (R45, R49, R182, R189, R231, R278, R289). -/
def State.noSettings (s : State) : State :=
  let k := s.fld R.SYS_STRAP 7 4
  let door := s.bit R.SYS_STRAP 2
  let s := forAll 8 s fun s ax =>
    let ma := 12500000 * (k + 1) / s.shunt ax
    let s := ((s.fwWrite (R.CR_IRUN ax) (wordOfNat ma)).fwWrite (R.CR_IREST ax) (wordOfNat (ma / 2))).fwSet (R.LO_CFG ax) 31
    s.onFw ax fun f => { f with motor := true }
  let s := forAll 16 (s.fwSet R.CSM_CFG 31) fun s c => s.fwSet (R.CSM_CCFG c) 31
  let (x, s) := s.drawWord
  let s := (s.fwSet R.REF_CFG 31).fwWrite (R.PC_ENT 0 0) (wordOfNat (x.toNat % 6 * 4096 + 0x31))
  let s := (s.fwWrite (R.PC_CFG 0) 0xC0010000#32).fwWrite (R.PC_CTL 0) 1#32
  forAll 8 s fun s ax =>
    let s := if door then s.defaultDoor ax else s
    let s := s.setRole ax (if door then .door else .stepDir)
    if s.isetBars then s else ((s.axisPower ax).firstEnable ax).axisDrive ax

/-- The settings block in use: SPL_BOOT.SETSRC, DELEG and its words. The baseline firmware applies none (R154). -/
def State.settle (s : State) : State :=
  match if s.baseline then none else s.chosenBlock with
  | none => s.noSettings
  | some (mirror, ws) =>
    let s := (s.setFld R.SPL_BOOT 3 2 (if mirror then 2 else 1)).setBit R.SPL_CFG 16 (bitOf (ws.getD 2 0#32) 16)
    let s := { s with fw := { s.fw with inUse := ws } }
    (s.applySettings ws).sendSenses

/-- After READY an invalid or older block is written again from the one applied (R387). -/
def State.healBlocks (s : State) : State :=
  if s.baseline then s else match s.chosenBlock with
  | none => s
  | some (mirror, ws) =>
    if blockGen (s.block (!mirror)) = blockGen (some ws) && (s.block (!mirror)).isSome then s
    else (s.flashErase (blockBase (!mirror)) 16384).flashPutWords (blockBase (!mirror)) ws

/-- Word 2 of a header that makes the previous slots active where a trial went back, with the trial cleared (R379). -/
def revertHeader (e l : Bool) (w : Word) : Word :=
  let w := if e then (putFld w 0 0 (fldOf w 4 4)) &&& 0xFFFFFEFF#32 else w
  if l then (putFld w 1 1 (fldOf w 5 5)) &&& 0xFFFFFDFF#32 else w

/-- Firmware that finds REVERT set writes the header that makes it lasting (R379). -/
def State.afterRevert (s : State) : State :=
  match s.hdr with
  | some (_, ws) =>
    let w := ws.getD 2 0#32
    if s.bit R.SPL_BOOT 29 && !s.baseline then
      let e := bitOf w 8 && !s.bit R.SPL_BOOT 8 && s.fld R.SPL_BOOT 4 4 = fldOf w 4 4
      let l := bitOf w 9 && !s.bit R.SPL_BOOT 9 && s.fld R.SPL_BOOT 5 5 = fldOf w 5 5
      s.hdrWrite (revertHeader e l)
    else s
  | none => s

/-- Firmware starts the watchdog with the TIMEOUT that the settings left, 1,000 ms otherwise (R72). -/
def State.startWdt (s : State) : State :=
  let w := s.get R.SYS_WDT
  if bitOf w 31 then s else s.fwWrite R.SYS_WDT (0x80000000#32 ||| (if w &&& 0xFF#32 = 0#32 then 100#32 else w &&& 0xFF#32))

/-- Step 7 of R377 up to READY: settings, logbook, wear journal, watchdog, the boot record of the logbook, and the lock of the binding table.
READY itself is firmware's next write (HSP_READY_WRITE). -/
def State.bootFirmware (s : State) (cap : Nat) : State :=
  let s := forAll 8 (s.logBoot cap).settle fun s ax => s.wjRestore ax
  let s := s.startWdt
  let s := s.logEvent 5 s.sys.time [s.get R.SYS_RSTCAUSE, s.get R.SPL_BOOT, s.versionWord]
  (s.fwWrite R.MBX_LOCK 1#32).afterRevert

/-- BOOT_SEQUENCE (R377): once per chip reset, after the straps are latched; a strap fault keeps the device in the boot ROM (R48). -/
def State.bootSequence (s : State) (p : SpoolProbe) : State :=
  if s.sys.chipReset || s.sys.asleep || !s.sys.strapped || s.sys.strapStuck || s.sys.exec ≠ .bootRom then s
  else
    let s := s.bootRom p
    (s.bootFirmware (s.fld R.SPL_CAP 16 0)).fwStep

/-- BOOT_SEQUENCE (R377). -/
def execBootSequence (probe : SpoolProbe) (s : State) : Host.Outcome State Fault Refusal := .next (s.quiet.bootSequence probe)

/-- What firmware does once READY is set: an invalid or older settings block is written again, and a manager enumerates (R359, R387). -/
def State.afterReady (s : State) : State :=
  let s := s.healBlocks
  (if s.isManager then s.startEnum [0, 1, 2, 3] else s).fwStep

/-- HSP_READY_WRITE (R106, R107, R113). -/
def execHspReadyWrite (m : Master) (w : Word) (s : State) : Host.Outcome State Fault Refusal :=
  .next (s.access m R.HSP_READY fun s =>
    let t := s.readyWrite m w
    if !s.ready && t.ready && t.fwRuns then t.afterReady else t)

/-! ### Handover (R381, R382) -/

/-- What firmware holds, as the settings in use leave it: the entries that set such values are carried out on a machine at reset, and only what
firmware holds is kept (R382). -/
def State.heldBySettings (s : State) : Fw :=
  let es := (entriesOf s.fw.inUse).filter fun e =>
    e.good && e.admitted && (e.kind = 3 || e.kind = 4) && [0x07, 0x12, 0x30, 0x31, 0x32, 0x75].contains e.page && e.argsOk
  es.foldl (fun fw e => match replayFn e.page with
    | some f => (f e.req { State.reset with fw }).1.fw
    | none => fw) s.fw

/-- The template that SET_ROLE door allocated for an axis: the context that ME_CFG names, where no settings template fills it. -/
def State.heldTemplate (s : State) (ax : Axis) : Option Ctx :=
  let c := s.fld (R.ME_CFG ax) 23 16
  if s.hasSettings && vget s.roles ax = .door && s.ctxState c = ctxLoaded && !s.settingsTemplate c then some ⟨c % 256, by omega⟩ else none

/-- AUTOREL of every allocated context, from bit 8 of its word 0 (R382). -/
def State.heldAutorel (s : State) : List (Nat × Bool) :=
  (List.range 256).filterMap fun c => if s.ctxState c = ctxFree then none else some (c, bitOf (s.ctxW c 0) 8)

/-- Firmware rebuilds what it holds, without writing a register. -/
def State.rebuildFw (s : State) : State :=
  let fw := s.heldBySettings
  let s := { s with fw := { fw with autorel := s.heldAutorel } }
  forAll 8 s fun s ax => s.onFw ax fun f =>
    { f with tmpl := s.heldTemplate ax, motor := f.motor || !s.hasSettings, measured := !s.hasSettings && !s.isetBars }

/-- The EXEC image of the slot that the header names, or that of EPREV when its check fails; the baseline firmware when there is none
(R378, R381). -/
def State.reloadExec (s : State) : State :=
  let none_ := (s.setBit R.SPL_BOOT 30 true)
  if s.fld R.SPL_BOOT 27 24 = 1 then none_ else match s.hdr with
  | none => none_
  | some (_, ws) =>
    let w := ws.getD 2 0#32
    let a := fldOf w 0 0
    let b := fldOf w 4 4
    let run (slot : Nat) (revert : Bool) : State :=
      let s := ((s.loadImage slot false).setBit R.SPL_BOOT 30 false).setFld R.SPL_BOOT 27 24 0
      let s := (s.setBit R.SPL_BOOT 4 (slot = 1)).setBit R.SPL_BOOT 8 (bitOf w 8 && !revert)
      (s.setBit R.SPL_BOOT 29 (s.bit R.SPL_BOOT 29 || revert)).afterRevert
    if s.slotValid a then run a false else if s.slotValid b then run b true else none_

/-- HANDOVER_IMAGE_LOAD (R381, R382): once the master port's queue is empty, the image is loaded, and the new firmware rebuilds its record and
claims each axis. The watchdog restarts with its full timeout, and an NMI held through the reset is delivered (R32, R72, R338). -/
def State.handoverLoad (s : State) : State :=
  if s.sys.chipReset || s.sys.exec ≠ .handover || s.msp.cur.isSome || s.msp.txq ≠ [] then s
  else
    let s := s.reloadExec
    let s := { s with sys := { s.sys with exec := .firmware, nmiHeld := false, wdSince := s.sys.cyc } }
    (s.rebuildFw.fwWrite R.SYS_AXCLAIM 0xFF#32).fwStep

/-- HANDOVER_IMAGE_LOAD (R381). -/
def execHandoverImageLoad (s : State) : Host.Outcome State Fault Refusal := .next s.quiet.handoverLoad

/-! ### Trial (R379) -/

/-- READY has held for 60 s: the trials of the header are confirmed and their counts cleared. -/
def State.confirmTrial (s : State) : State :=
  match s.hdr with
  | none => s
  | some (_, ws) =>
    if !s.fwRuns || !s.ready || s.baseline || ws.getD 2 0#32 &&& 0x300#32 = 0#32 then s
    else
      let s := s.hdrWrite fun w => w &&& 0xFFFFFCFF#32
      let r := s.wjRead 18
      let s := s.wjPair 18 ([0#32, 0#32] ++ (r.drop 2).take 5)
      s.setFld R.SPL_BOOT 9 8 0

/-- TRIAL_CONFIRM (R379). -/
def execTrialConfirm (s : State) : Host.Outcome State Fault Refusal := .next s.quiet.confirmTrial

/-! ### Learning the open end (R182) -/

/-- ME_CFG is rewritten with EN cleared for the change and set again. -/
def State.meRecfg (s : State) (ax : Axis) (f : State → State) : State :=
  (f (s.fwBit (R.ME_CFG ax) 31 false)).fwBit (R.ME_CFG ax) 31 true

/-- Learning fails: the axis is left de-energised and the software source 0 is raised. -/
def State.learnFails (s : State) (ax : Axis) : State :=
  let s := s.onFw ax fun f => { f with learn := none }
  ((s.fwBit (R.ME_CFG ax) 31 false).fwBit (R.CR_CFG ax) 31 false).fwBit R.FC_SWSET 0 true

/-- Steps 1 and 2: the inputs are set aside, the soft limit is set, and a stall-ended velocity context starts. -/
def State.learnStart (s : State) (ax : Axis) : State :=
  let s := s.meRecfg ax fun s =>
    ((s.fwFld (R.ME_CFG ax) 25 24 0).fwBit (R.ME_CFG ax) 14 true).fwWide (R.ME_PMAX ax) 16777216
  match s.fwAlloc false with
  | none => s.learnFails ax
  | some (c, s) =>
    let s := s.fwCtxWords c 0 (buildWords {} { mode := 1, autorel := false, vmax := 204800 * 65536 })
    if s.startResult c ax ≠ 0 then (s.ctxRelease c).learnFails ax
    else (s.ctxStart c ax).onFw ax fun f => { f with learn := some c }

/-- Steps 3 and 4, once the context has ended: by a stall, its end less 8,192 microsteps is the open end. -/
def State.learnEnd (s : State) (ax : Axis) (c : Ctx) : State :=
  let stalled := s.ctxState c = ctxAborted && fldOf (s.ctxW c 32) 23 16 = 7
  let openEnd := s.ctxWide c 38 - 8192
  let s := s.ctxRelease c
  let s := { s with fw := { s.fw with autorel := spDel s.fw.autorel c } }
  if !stalled then s.learnFails ax
  else
    let s := s.onFw ax fun f => { f with learn := none }
    s.meRecfg ax fun s =>
      let s := (s.fwWide (R.ME_OPEN ax) openEnd).fwFld (R.ME_CFG ax) 25 24 2
      ((s.fwBit (R.ME_CFG ax) 14 false).fwWrite (R.ME_PMAX ax + 1) (regReset (R.ME_PMAX ax + 1))).fwWrite (R.ME_PMAX ax) (regReset (R.ME_PMAX ax))

/-- OPEN_END_LEARNING (R182): the step that is due on an axis. -/
def State.learn (s : State) (ax : Axis) : State :=
  if !s.fwRuns || s.hasSettings || s.maint || !s.bit R.SYS_STRAP 2 then s else
  match (s.fwAx ax).learn with
  | none =>
    if s.meEn ax && (s.me ax).homed && s.wide (R.ME_OPEN ax) = s.wide (R.ME_CLOSED ax) then s.learnStart ax else s
  | some c => if s.ctxState c = ctxDone ∨ s.ctxState c = ctxAborted then s.learnEnd ax c else s

/-- OPEN_END_LEARNING (R182). -/
def execOpenEndLearning (ax : Axis) (s : State) : Host.Outcome State Fault Refusal := .next (s.quiet.learn ax)

/-! ### VSUP_WARN, SLEEP and window alarms -/

/-- VSUP_WARN_ASSERT (R67, R68): firmware programs its records and writes its axis records (R393, R395). -/
def execVsupWarnAssert (vsupMv : Nat) (s : State) : Host.Outcome State Fault Refusal :=
  let t := s.quiet.vsupWarn vsupMv
  .next (if s.warns vsupMv && t.fwRuns then t.logFlush.wjAxes false else t)

/-- SLEEP_REQUEST (R74, R75): before its own request firmware programs its records and marks its axis records (R393, R395). -/
def execSleepRequest (m : Master) (w : Word) (s : State) : Host.Outcome State Fault Refusal :=
  .next (s.access m R.SYS_PWRCTL fun s =>
    let own := m = .exec && s.fwRuns && fldOf w 31 16 = 0x9E37 && fldOf w 1 0 = 3
    (if own then s.beforeSleep else s).pwrctl m w)

/-- Bit 16 + w of MBX_FLAG_1_0 follows the alarms of window w that are routed to EXEC (R300). -/
def State.mirrorAlarm (s : State) (w : Fin 8) : State :=
  let c : Cmp := ⟨2 * w.val, by omega⟩
  let c' : Cmp := ⟨2 * w.val + 1, by omega⟩
  let k := R.MBX_FLAG 5
  if s.fwRuns then s.fwBit k (16 + w) (s.routeAlarm c 2 || s.routeAlarm c' 2) else s

/-- CMP_ALARM_NOTIFY (R300). -/
def execCmpAlarmNotify (win : Fin 8) (s : State) : Host.Outcome State Fault Refusal := .next (s.quiet.mirrorAlarm win)

end Sys2Proof.Machine
end

