-- ==== Sys2Proof/Machine/HostPort.lean ====
section
/-! DEFINITION. The serial ports (spec/04): write and read frames of the host and the maintenance port, HSP_PAGE, test mode, and the register
write of a single master. -/

namespace Sys2Proof.Machine

/-! ### Ports -/

/-- The master behind a serial port (R55, R96). -/
def portMaster : SerialPort → Master
  | .host => .host
  | .maint => .maint

/-- A serial port. -/
def State.port (s : State) : SerialPort → Port
  | .host => s.hostPort
  | .maint => s.maintPort

/-- The state with a serial port changed. -/
def State.setPort (s : State) (p : SerialPort) (f : Port → Port) : State :=
  match p with
  | .host => { s with hostPort := f s.hostPort }
  | .maint => { s with maintPort := f s.maintPort }

/-- Padding bytes T of a read frame; 5 to 7 act as 4 (R84, R108). -/
def State.padding (s : State) (p : SerialPort) : Nat :=
  min 4 (match p with | .host => s.fld R.HSP_CFG 2 0 | .maint => s.fld R.HSP_CFG 6 4)

/-- The index of word `j` of a frame (R87): 0x7E and 0x7F are followed by 0x00. -/
def frameIndex (i : Nat) : Nat → Nat
  | 0 => i
  | j + 1 => let k := frameIndex i j; if 0x7E ≤ k then 0 else k + 1

/-- A frame of `n` words wraps: its index passes from 0x7E to 0x00 (R87). -/
def wraps (i n : Nat) : Bool := (List.range (n - 1)).any fun j => frameIndex i j = 0x7E

/-- The words of a frame, begun or whole, after its first `head` edges (R84). -/
def wordsBegun (edges head : Nat) : Nat := (edges - head + 31) / 32

/-- A frame is legal in length (R84): `lo` to 32 words, or at most one from index 0x7F. -/
def legalLength (edges head lo i : Nat) : Bool :=
  let n := (edges - head) / 32
  edges = head + 32 * n && lo ≤ n && n ≤ (if i = 0x7F then 1 else 32)

/-- Test mode opens page 0x7E, of which the spec gives nothing: some word of a frame lies there (R86, R106). -/
def State.testAccess (s : State) (page i n : Nat) : Bool :=
  s.sys.testMode && page = 0x7E && s.pageServed page && (List.range n).any fun j => frameIndex i j ≠ 0x7F

/-! ### Write frames (R85, R88 to R90) -/

/-- A word of a write frame rejects it (R88): a channel that its own master filled, a write-once register written again, or a field under
presence without it. -/
def State.wordNak (s : State) (m : Master) (k : Nat) : Bool :=
  match bchOf k with
  | some (n, _) => s.bFull n && s.sndOf n = m.id
  | none =>
    (match regRow k with
      | some r => (r.acc = .rw1 && s.bit k 0) || (r.acc = .rwp && !s.presence)
      | none => false)
    || (k / 128 = 3 && 0x60 ≤ k % 128 && k % 128 < 0x68 && s.wFull (k % 128 - 0x60) && s.sndOf (8 + (k % 128 - 0x60)) = m.id)

/-- A write-once register that a rejected frame would have written again raises LOCK_VIOLATION (R88, R107). -/
def State.onceRaise (s : State) (m : Master) (k : Nat) : State :=
  match regRow k with
  | some r => if (bchOf k).isNone ∧ r.acc = .rw1 ∧ s.bit k 0 then s.raise 3 (accessDetail m k) else s
  | none => s

/-- A committed word of a frame: index 0x7F is the port's own page register (R86, R97). -/
def State.commitWord (s : State) (p : SerialPort) (page i : Nat) (w : Word) : State :=
  if i = 0x7F then s.setPort p fun q => { q with page := w.toNat % 128 }
  else if s.pageServed page then s.busWrite (portMaster p) (regKey page i) w else s

/-- A write frame ends after `edges` rising edges. -/
def State.writeFrame (s : State) (p : SerialPort) (i : Nat) (ws : List Word) (edges : Nat) : State :=
  let page := (s.port p).page
  let m := portMaster p
  let n := wordsBegun edges 8
  let wrap := wraps i n
  if !legalLength edges 8 1 i then s.setPort p fun q => { page := q.page, rej := true, wrap }
  else
    let idx := (List.range n).map (frameIndex i)
    let keys := if s.pageServed page then (idx.filter fun j => j ≠ 0x7F).map (regKey page) else []
    if keys.any (s.wordNak m) then
      (keys.foldl (fun s k => s.onceRaise m k) s).setPort p fun q => { page := q.page, nak := true, wrap }
    else
      let s := (List.range n).foldl (fun s j => s.commitWord p page (frameIndex i j) (ws.getD j 0#32)) s
      (s.setPort p fun q => { page := q.page, wrap }).fwStep

/-- WRITE_FRAME (R84 to R90): frames without a rising edge are none (R81); a command byte with bit 7 set commands a read (R82). -/
def execWriteFrame (p : SerialPort) (cmd : Byte) (words : List Word) (edges : Nat) (s : State) : Host.Outcome State Fault Refusal :=
  let s := s.quiet
  let i := cmd.toNat % 128
  let page := (s.port p).page
  if edges = 0 || !s.portOpen || bitOf (cmd.setWidth 32) 7 then .next s
  else if legalLength edges 8 1 i && s.testAccess page i (wordsBegun edges 8) then .fault .testPage
  else .next { s.writeFrame p i words edges with out := {} }

/-! ### Read frames (R84, R85, R91 to R95) -/

/-- The access time of a page in ns (R91); in STANDBY the pages of the stopped domains are clocked from SYS (R93). -/
def State.accessTime (s : State) (page i : Nat) : Nat :=
  if page = 0 ∨ i = 0x7F then 0
  else if page = 0x18 then 40
  else if s.standby ∧ ((0x20 ≤ page ∧ page ≤ 0x38) ∨ (0x40 ≤ page ∧ page ≤ 0x45) ∨ page = 0x48) then 20
  else if (0x20 ≤ page ∧ page ≤ 0x38) ∨ page = 0x48 then 80
  else if page = 0x58 then 90
  else if page = 0x60 then 95
  else if page = 0x50 then 150
  else if page = 0x40 then 170
  else if page = 0x68 then 300
  else if page = 0x02 then 360
  else if 0x41 ≤ page ∧ page ≤ 0x45 then 660
  else 20

/-- Word `j` of a read frame is not in time (R91, R93): `tckPs` is the clock period in ps. -/
def State.late (s : State) (page i j t tckPs : Nat) : Bool :=
  if !s.pageServed page then false
  else if i ≠ 0x7F && s.clockGone page then true
  else (if j = 0 then 8 * t + 3 else 27) * tckPs < s.accessTime page i * 1000

/-- What a word of a read frame finds: the page in effect at index 0x7F, nothing on a page that is not served (R48, R86). -/
def State.frameWord (s : State) (p : SerialPort) (page i : Nat) : Word :=
  if i = 0x7F then wordOfNat page else if s.pageServed page then s.readWord (portMaster p) (regKey page i) else 0#32

/-- The words that a read frame shifts out, and whether one was late: a late word repeats the one before it, 0 where there is none (R92). -/
def State.frameWords (s : State) (p : SerialPort) (page i t tckPs n : Nat) : List Word × Bool :=
  (List.range n).foldl (fun (acc : List Word × Bool) j =>
    let k := frameIndex i j
    if s.late page k j t tckPs then (acc.1 ++ [acc.1.getLast?.getD 0#32], true) else (acc.1 ++ [s.frameWord p page k], acc.2)) ([], false)

/-- The side effects of a committed read (R85). -/
def State.frameEffects (s : State) (p : SerialPort) (page i n : Nat) (fetched : Option Nat) : State :=
  (List.range n).foldl (fun s j =>
    let k := frameIndex i j
    if k = 0x7F || !s.pageServed page then s
    else if regKey page k = R.CTX_ALLOC then s.allocCommit fetched
    else s.readEffect (portMaster p) (regKey page k)) s

/-- A read frame ends after `edges` rising edges. -/
def State.readFrame (s : State) (p : SerialPort) (i edges tckPs taken : Nat) : State :=
  let fetched := s.lowestFree
  let page := (s.port p).page
  let t := s.padding p
  let head := 16 + 8 * t
  let n := wordsBegun edges head
  let status := if 9 ≤ edges then some (BitVec.ofNat 8 (s.statusByte (s.port p))) else none
  let (ws, undr) := s.frameWords p page i t tckPs n
  let legal := legalLength edges head 0 i
  let s := (List.range taken).foldl (fun s _ => s.allocEffect .exec) s
  let s := if legal && !undr then (s.frameEffects p page i n fetched).fwStep else s
  { s.setPort p fun q => { page := q.page, rej := !legal, undr, wrap := wraps i n } with out := { words := ws, status } }

/-- READ_FRAME (R82, R84 to R87, R91 to R95); `taken` contexts are allocated by a core between the fetch and the commit (R163). -/
def execReadFrame (p : SerialPort) (cmd : Byte) (edges tckPs taken : Nat) (s : State) : Host.Outcome State Fault Refusal :=
  let s := s.quiet
  let i := cmd.toNat % 128
  if edges = 0 || !s.portOpen || !bitOf (cmd.setWidth 32) 7 then .next s
  else if s.testAccess (s.port p).page i (wordsBegun edges (16 + 8 * s.padding p)) then .fault .testPage
  else .next (s.readFrame p i edges tckPs taken)

/-- HSP_PAGE_WRITE (R86): a frame of one word at index 0x7F. -/
def execHspPageWrite (p : SerialPort) (w : Word) (s : State) : Host.Outcome State Fault Refusal :=
  let s := s.quiet
  .next (if s.portOpen then s.setPort p fun _ => { page := w.toNat % 128 } else s)

/-- TEST_MODE_ENTRY (R106): during start-up, with no bridge enabled. -/
def State.testEntry (s : State) : State :=
  if s.portOpen && !s.ready && (List.finRange 8).all fun ax => !s.bit (R.PWM_CFG ax) 31 then { s with sys := { s.sys with testMode := true } } else s

/-- TEST_MODE_ENTRY (R106). -/
def execTestModeEntry (s : State) : Host.Outcome State Fault Refusal := .next s.quiet.testEntry

/-! ### A register write of one master (R5, R90, R97, R103) -/

/-- The register that an internal address names (R5). -/
def keyAt (addr : Word) : Option Nat := if fldOf addr 31 16 = 0x4000 then some (fldOf addr 15 2) else none

/-- A write by an internal master: one of another width, or unaligned, ends in a bus error (R97); one outside the register space meets no
register. -/
def State.masterWrite (s : State) (m : Master) (addr : Word) (width : Nat) (w : Word) : State :=
  match keyAt addr with
  | none => s
  | some k =>
    if width ≠ 4 ∨ fldOf addr 1 0 ≠ 0 then (s.raise 0 (wordOfNat (m.id * 536870912 + fldOf addr 15 0))).busError
    else s.busWrite m k w

/-- A single word that a serial port commits at an address (R88, R90). -/
def State.portWrite (s : State) (p : SerialPort) (addr : Word) (w : Word) : State :=
  match keyAt addr with
  | none => s
  | some k =>
    if k % 128 ≠ 0x7F && s.pageServed (k / 128) && s.wordNak (portMaster p) k then
      (s.onceRaise (portMaster p) k).setPort p fun q => { page := q.page, nak := true }
    else s.commitWord p (k / 128) (k % 128) w

/-- REGISTER_WRITE (R5, R90, R97, R103). -/
def execRegisterWrite (m : Master) (addr : Word) (width : Nat) (w : Word) (s : State) : Host.Outcome State Fault Refusal :=
  if !s.portOpen then .next s.quiet else
  let s := s.opened m
  if s.sys.testMode && (!m.serial || s.pageServed 0x7E) && (keyAt addr).any fun k => k / 128 = 0x7E && k % 128 ≠ 0x7F then
    .fault .testPage
  else .next (match m with
    | .host => s.portWrite .host addr w
    | .maint => s.portWrite .maint addr w
    | _ => s.masterWrite m addr width w).fwStep

end Sys2Proof.Machine
end

