-- ==== Sys2Proof/Machine/FwDrive.lean ====
section
/-! DEFINITION. What firmware drives during IDENTIFY (R209) and WIRING_CHECK (R229), and the alignment of an encoder (R194). Firmware works
on a plan of steps once per motion tick (DESIGN CHOICE, log entry 108). -/

namespace Sys2Proof.Machine

/-! ### The plan of an axis -/

/-- The state with the plan of an axis changed. -/
def State.onPlan (s : State) (ax : Axis) (f : DrivePlan → DrivePlan) : State :=
  { s with fw := { s.fw with plan := vset s.fw.plan ax ((vget s.fw.plan ax).map f) } }

/-- The axis neither moves nor has a context. -/
def State.unmoved (s : State) (ax : Axis) : Bool := !s.moving ax && !s.axisBusy ax

/-- A further tick of the present step. -/
def State.planTicks (s : State) (ax : Axis) : State := s.onPlan ax fun p => { p with ticks := p.ticks + 1 }

/-- No override (R208). -/
def State.noOverride (s : State) (ax : Axis) : State := if s.fld (R.CR_OVR ax) 31 30 = 0 then s else s.fwWrite (R.CR_OVR ax) 0#32

/-- The present step is done; an override stays only for a vector to be held next. -/
def State.planNext (s : State) (ax : Axis) : State :=
  let s := s.onPlan ax fun p => { p with steps := p.steps.drop 1, ticks := 0, amp := 655, last := false, ctx := none, stop := false }
  match ((vget s.fw.plan ax).getD {}).steps with
  | .hold _ _ :: _ => s
  | _ => s.noOverride ax

/-- The operation will end with a RESULT; its remaining drives are dropped. -/
def State.planFail (s : State) (ax : Axis) (r : Nat) : State :=
  s.onPlan ax fun p => { p with steps := [.restore], ticks := 0, fails := r }

/-- The rated current IR, mA: that of SET_MOTOR, else CR_IRUN (R189, R209). -/
def State.rated (s : State) (ax : Axis) : Nat := (s.fwAx ax).rated.getD (s.fld (R.CR_IRUN ax) 19 0)

/-! ### Drives at rest (R208, R209, R229) -/

/-- A current vector is held for so many ticks, 40 to a ms; `f` follows at the end. -/
def State.holdStep (s : State) (ax : Axis) (p : DrivePlan) (ang mA n : Nat) (f : State → State) : State :=
  if p.ticks = 0 then
    if s.unmoved ax then
      ((s.fwWrite (R.CR_OVRI ax) (wordOfNat mA)).fwWrite (R.CR_OVR ax) (wordOfNat (1073741824 + ang))).planTicks ax
    else s
  else if s.fld (R.CR_OVR ax) 31 30 ≠ 1 then s.planFail ax 9
  else if p.ticks < n then s.planTicks ax
  else (f s).planNext ax

/-- The command of the square wave: its sign, on one coil. -/
def squareWord (br : Bridge) (u : Int) : Word :=
  match br with
  | .a => wordOfInt (u % 65536)
  | .b => wordOfInt (u % 65536 * 65536)

/-- The amplitude of a coil over the demodulation, nA. -/
def DrivePlan.amplitude (p : DrivePlan) (c : Nat) : Nat :=
  let i := p.di.getD c 0
  let q := p.dq.getD c 0
  2 * isqrt (i * i + q * q).toNat / max 1 p.dn

/-- The coil other than `c` that carries the largest amplitude. -/
def DrivePlan.loudest (p : DrivePlan) (c : Nat) : Nat :=
  (List.range 16).foldl (fun b k => if k ≠ c ∧ (b = c ∨ p.amplitude b < p.amplitude k) then k else b) c

/-- The findings of a coil's drive (R229): no current in it, and current in another. -/
def State.wireFound (s : State) (ax : Axis) (br : Bridge) (p : DrivePlan) : Word :=
  let c := (coilOf ax br).val
  let k := p.loudest c
  let isOpen : Bool := 10 * (p.hi - p.lo) < s.rated ax
  let far : Bool := if isOpen then s.rated ax * 10000 ≤ p.amplitude k else p.amplitude c ≤ 10 * p.amplitude k
  let i := brIx br
  wordOfNat (b2n isOpen * 2 ^ (1 + i) + (if far then 2 ^ (3 + i) + k * 2 ^ (16 + 4 * i) else 0))

/-- The square wave ±U at 1 kHz (R209, R229): 10 ms for a trial, 100 ms at the final U. -/
def State.squareStep (s : State) (ax : Axis) (p : DrivePlan) (br : Bridge) (check : Bool) : State :=
  let put (s : State) (u : Int) : State := s.fwWrite (R.CR_OVRU ax) (squareWord br u)
  if p.ticks = 0 then
    if s.unmoved ax then ((put s p.amp).fwWrite (R.CR_OVR ax) 0x80000000#32).planTicks ax else s
  else if s.fld (R.CR_OVR ax) 31 30 ≠ 2 then s.planFail ax 9
  else
    let i := (s.get (match br with | .a => R.CR_IMA ax | .b => R.CR_IMB ax)).toInt
    let p := { p with lo := if p.ticks = 1 then i else min p.lo i, hi := if p.ticks = 1 then i else max p.hi i }
    let s := s.onPlan ax fun _ => { p with ticks := p.ticks + 1 }
    if p.last then
      if p.ticks < 4000 then (if p.ticks % 20 = 0 then put s (if p.ticks % 40 = 0 then p.amp else -(p.amp : Int)) else s)
      else
        let s := if check then s.onPlan ax fun q => { q with found := q.found ||| s.wireFound ax br p } else s
        s.planNext ax
    else if p.ticks < 400 then (if p.ticks % 20 = 0 then put s (if p.ticks % 40 = 0 then p.amp else -(p.amp : Int)) else s)
    else
      let done : Bool := s.rated ax ≤ 10 * (p.hi - p.lo)
      let top : Bool := (if check then 5240 else 20960) ≤ p.amp
      if done || (top && check) then put (s.onPlan ax fun q => { q with ticks := 1, last := true, dn := 0, di := [], dq := [] }) p.amp
      else if top then s.planFail ax 9
      else put (s.onPlan ax fun q => { q with ticks := 1, amp := 2 * p.amp }) (2 * p.amp)

/-- The off-state diagnostics as the first step of a check: a fault ends it there (R229, R268). -/
def State.diagStep (s : State) (ax : Axis) (p : DrivePlan) : State :=
  if p.ticks = 0 then
    if s.unmoved ax then ((s.fwBit (R.PWM_CFG ax) 31 false).fwWrite (R.GD_CTL ax) 2#32).planTicks ax else s
  else if s.bit (R.GD_STAT ax) 18 then s
  else
    let s := s.fwBit (R.PWM_CFG ax) 31 true
    if s.fld (R.GD_DIAG ax) 17 1 = 0 then s.planNext ax
    else s.onPlan ax fun p => { p with steps := [.restore], ticks := 0, found := p.found ||| 0x220#32 }

/-! ### Drives with motion (R209, R229) -/

/-- CR_CFG.EN is cleared for what is written, and restored. -/
def State.regsOff (s : State) (ax : Axis) (f : State → State) : State :=
  if s.bit (R.CR_CFG ax) 31 then (f (s.fwBit (R.CR_CFG ax) 31 false)).fwBit (R.CR_CFG ax) 31 true else f s

/-- What a plan is about to change, as it is. -/
def State.planSave (s : State) (ax : Axis) : State :=
  let v : DriveSaved := { cmode := s.fld (R.CR_CFG ax) 26 24, irun := s.get (R.CR_IRUN ax), psi := s.fld (R.CR_MOTOR2 ax) 23 0
                          wave := (vget s.coil ax).wave }
  s.onPlan ax fun p => if p.saved.isSome then p else { p with saved := some v }

/-- The commutation mode of the passes (R209, R229). Values that IDENTIFY has measured and no command brings so far are free: the sine terms
of a rewritten table, and the flux that CL needs (log entry 110). -/
def State.tuneStep (s : State) (ax : Axis) (cmode : Nat) (rated table : Bool) : State :=
  if !s.unmoved ax then s else
  let s := s.planSave ax
  let (b3, s) := s.drawWord
  let (b5, s) := s.drawWord
  let (psi, s) := s.drawWord
  let s := s.regsOff ax fun s =>
    let s := s.fwFld (R.CR_CFG ax) 26 24 cmode
    let s := if cmode = 2 && s.fld (R.CR_MOTOR2 ax) 23 0 = 0 then s.fwFld (R.CR_MOTOR2 ax) 23 0 (fldOf psi 23 0) else s
    if table then s.identTable ax b3.toInt b5.toInt else s
  let was := (((vget s.fw.plan ax).bind (·.saved)).map (·.irun)).getD (s.get (R.CR_IRUN ax))
  (s.fwWrite (R.CR_IRUN ax) (if rated then wordOfNat (s.rated ax) else was)).planNext ax

/-- The wave table is written back. -/
def State.waveBack (s : State) (ax : Axis) (w : List (Nat × Nat)) : State :=
  if (vget s.coil ax).wave = w then s
  else (List.range 1024).foldl (fun s i => s.fwWrite (R.CR_WDATA ax) (wordOfNat ((spFind w i).getD (waveDefault i)))) (s.fwWrite (R.CR_WADDR ax) 0#32)

/-- What was changed is put back, at rest. -/
def State.restoreStep (s : State) (ax : Axis) (p : DrivePlan) : State :=
  if !s.unmoved ax then s else
  let s := s.noOverride ax
  match p.saved with
  | none => s.planNext ax
  | some v =>
    let s := s.regsOff ax fun s => ((s.fwFld (R.CR_CFG ax) 26 24 v.cmode).fwFld (R.CR_MOTOR2 ax) 23 0 v.psi).waveBack ax v.wave
    ((s.fwWrite (R.CR_IRUN ax) v.irun).onPlan ax fun p => { p with saved := none }).planNext ax

/-- What a tick of a pass shows at constant speed: vest in the direction of motion, the coils' back-EMF, VALID (R229). -/
def State.passSees (s : State) (ax : Axis) (p : DrivePlan) : DrivePlan :=
  let m := s.me ax
  let ok := if s.bit (R.LO_STAT ax) 0 then p.okRun + 1 else 0
  let p := { p with okRun := ok, okMax := max p.okMax ok }
  if m.rvel.natAbs ≠ p.speed * 65536 then p else
  let l := vget s.lo ax
  { p with along := p.along + sgn m.rvel * (s.get (R.LO_VEST ax)).toInt, sumA := p.sumA + l.eA.natAbs, sumB := p.sumB + l.eB.natAbs }

/-- The axis must stop now to come to rest before a position: the way at ME_HDEC, and two ticks' way. -/
def State.mustStop (s : State) (ax : Axis) (goal : Int) : Bool :=
  let m := s.me ax
  sgn m.vel * (goal - m.pos) ≤ stopDist (s.hdec ax) m.vel + m.vel.natAbs / 1310720000

/-- A pass: a velocity context is started, and stopped before the offset (R209, R229); within 100 µs' way the axis counts as there. -/
def State.passStep (s : State) (ax : Axis) (p : DrivePlan) (offset : Int) : State :=
  let m := s.me ax
  let goal := p.start + offset * 4294967296
  if p.ticks = 0 then
    if !s.unmoved ax then s
    else if (goal - m.pos).natAbs < (p.speed / 10000 + 1) * 4294967296 then s.planNext ax
    else
      let (t, r, ws) := s.fwMove ax { mode := 1, vmax := sgn (goal - m.pos) * (p.speed * 65536 : Nat) }
      if r ≠ .ok then s.planFail ax r.code
      else (t.onPlan ax fun p => { p with ctx := some ⟨(ws.getD 0 0#32).toNat % 256, by omega⟩, stop := false }).planTicks ax
  else if p.stop then (if s.unmoved ax then s.planNext ax else s)
  else match p.ctx with
    | none => s.planFail ax 9
    | some c =>
      if m.active ≠ some c ∧ !m.queue.contains c then s.planFail ax 9
      else
        let s := s.onPlan ax fun p => s.passSees ax p
        if m.vel ≠ 0 && s.mustStop ax goal then (s.ctxAbort c).onPlan ax fun p => { p with stop := true } else s

/-- The speed of step 4 of R229: at which ωψ is 3 % of VS, between 102,400 and 1,024,000 microsteps/s. -/
def State.turnSpeed (s : State) (ax : Axis) : Nat :=
  let psi : Int := max 1 (s.fld (R.CR_MOTOR2 ax) 23 0)
  (clampI 102400 1024000 (s.vs ax * 1228800 / (62831853 * psi))).toNat

/-- Whether step 4 of R229 runs. -/
def State.turnStep (s : State) (ax : Axis) (p : DrivePlan) : State :=
  if p.found &&& 0x1E#32 = 0#32 ∧ s.fld (R.CR_MOTOR2 ax) 23 0 ≠ 0 then
    let v := s.turnSpeed ax
    s.onPlan ax fun p => { p with steps := [.tune 0 false false, .pass 16384, .pass 0, .verdict, .restore], speed := v, start := (s.me ax).pos }
  else (s.onPlan ax fun p => { p with found := p.found ||| 0x200#32 }).planNext ax

/-- The findings of step 4 (R229): rotation reversed, back-EMF unlike by more than 20 % of the mean (log entry 95), no valid estimate for
10 ms. -/
def State.verdictStep (s : State) (ax : Axis) (p : DrivePlan) : State :=
  let w := b2n (p.along < 0) * 64 + b2n (p.sumA + p.sumB < 10 * (p.sumA - p.sumB).natAbs) * 128 + b2n (p.okMax < 400) * 256
  (s.onPlan ax fun p => { p with found := p.found ||| wordOfNat w }).planNext ax

/-! ### The alignment of an encoder (R194) -/

/-- The count is recorded at the held angle 0, and VALID set (DESIGN CHOICE of the angle, log entry 109). -/
def State.alignEnd (s : State) (ax : Axis) : State :=
  let cpr : Int := s.fld (R.CR_ENC ax) 23 0
  let ofs := -((s.get (R.CR_ENCCNT ax)).toInt * 4096 * s.polePairs ax / cpr) % 4096
  (s.fwWrite (R.CR_ENCOFS ax) (wordOfInt ofs)).fwBit (R.CR_ENC ax) 31 true

/-! ### A tick -/

/-- The present step of a plan. -/
def State.planStep (s : State) (ax : Axis) (p : DrivePlan) : DriveStep → State
  | .diag => s.diagStep ax p
  | .hold ang q => s.holdStep ax p ang (q * s.rated ax / 4) 4000 id
  | .square br check => s.squareStep ax p br check
  | .needRL r l =>
    if (r || s.fld (R.CR_MOTOR1 ax) 15 0 ≠ 0) && (l || s.fld (R.CR_MOTOR1 ax) 31 16 ≠ 0) then s.planNext ax else s.planFail ax 9
  | .needPsi psi => if psi || s.fld (R.CR_MOTOR2 ax) 23 0 ≠ 0 then s.planNext ax else s.planFail ax 9
  | .tune m r t => s.tuneStep ax m r t
  | .pass off => s.passStep ax p off
  | .turn => s.turnStep ax p
  | .verdict => s.verdictStep ax p
  | .align => s.holdStep ax p 0 (s.fld (R.CR_IRUN ax) 19 0) 4000 fun s => s.alignEnd ax
  | .restore => s.restoreStep ax p

/-- The axis's long operation is one that firmware drives. -/
def State.driven (s : State) (ax : Axis) : Bool := ((vget s.fw.long ax).map fun o => o.op = 0x18 || o.op = 0x80).getD false

/-- What firmware drives on an axis at a tick. A gate-enable removal ends the operation as a HALT does (R149, R210), and an alignment. -/
def State.planTick (s : State) (ax : Axis) : State :=
  match vget s.fw.plan ax with
  | none => s
  | some p =>
    if s.driven ax && !s.granted ax then s.endLong (.axis ax) 9 []
    else match p.steps with
      | [] => if s.driven ax then s else { s with fw := { s.fw with plan := vset s.fw.plan ax none } }
      | .align :: _ => if s.granted ax then s.planStep ax p .align else s.planFail ax 9
      | d :: _ => s.planStep ax p d

/-- What firmware drives at a tick. -/
def State.fwDrive (s : State) : State := if s.fwRuns then forAll 8 s fun s ax => s.planTick ax else s

end Sys2Proof.Machine
end

