-- ==== Sys2Proof/Machine/Tick.lean ====
section
/-! DEFINITION. The motion tick as a whole (R9, R10), and the fast-path samples (R274), which reach regulators and the SAFE core. -/

namespace Sys2Proof.Machine

/-- A motion tick: the engine updates the eight axes, then each axis's commutation stage and observer take the tick record, and firmware
notices what came about and drives what it has before it. -/
def State.fullTick (s : State) : State :=
  let old := s
  let s := s.engineTick
  if s.sys.chipReset then s else
  let s := forAll 8 s fun s ax =>
    let lv := (vget s.coil ax).level
    (s.coilTick ax).loTick ax lv
  (s.fwTick old).fwDrive

/-- MOTION_TICK (R9): SYS cycles pass, and the tick takes place when its multiple of 25,000 ns has been reached. -/
def State.motionTick (s : State) (cycles : Nat) : State :=
  let s := s.pass cycles
  if s.tickIsDue then s.fullTick else s

/-- One entry of the SAFE core's queue is taken. -/
def State.safeTake (s : State) (ys : List ModSample) : State :=
  forAll 8 s fun s ax => s.safeFastAxis ax (ys.getD (2 * ax) ⟨0, false⟩) (ys.getD (2 * ax + 1) ⟨0, false⟩)

/-- The fast-path samples (R16, R274): the SAFE core's stream through its queue, and the regulators of the axes in COFF and CON. While RC-S
stands the queue fills; a further entry is discarded and raises CDC_OVF of domain 7 (R15). -/
def State.fast (s : State) (xs : List ModSample) : State :=
  if s.modStopped then s else
  let (s, ys) := s.csmFast xs
  let s :=
    if s.sys.rcsStop then (if s.safeQ.length < 4 then { s with safeQ := s.safeQ ++ [ys.toList] } else s.raise 4 7#32)
    else ((s.safeQ ++ [ys.toList]).foldl State.safeTake { s with safeQ := [] }).settleSafety
  s.chopSamples ys

/-! ### The commands -/

/-- MOTION_TICK (R9). -/
def execMotionTick (cycles : Nat) (s : State) : Host.Outcome State Fault Refusal := .next (s.quiet.motionTick cycles)

/-- FAST_PATH_SAMPLE (R274). -/
def execFastPathSample (xs : List ModSample) (s : State) : Host.Outcome State Fault Refusal := .next (s.quiet.fast xs)

end Sys2Proof.Machine
end

