-- ==== Sys2Proof/Machine/Dispatch.lean ====
section
/-! DEFINITION. The dispatch: one arm per command, in the table's order. -/

namespace Sys2Proof.Machine

/-- The effect of a command on everything but the queue. -/
def exec (i : Instr) (s : State) : Host.Outcome State Fault Refusal :=
  match i with
  | .powerOn => Sys2Proof.Machine.execPowerOn s
  | .brownOut supply => Sys2Proof.Machine.execBrownOut supply s
  | .reverseConnection => Sys2Proof.Machine.execReverseConnection s
  | .pinReset => Sys2Proof.Machine.execPinReset s
  | .chipResetEnd => Sys2Proof.Machine.execChipResetEnd s
  | .strapLatch sets isetMv => Sys2Proof.Machine.execStrapLatch sets isetMv s
  | .bootSequence probe => Sys2Proof.Machine.execBootSequence probe s
  | .trialConfirm => Sys2Proof.Machine.execTrialConfirm s
  | .openEndLearning ax => Sys2Proof.Machine.execOpenEndLearning ax s
  | .vsupWarnAssert mv => Sys2Proof.Machine.execVsupWarnAssert mv s
  | .vsupWarnRelease mv => Sys2Proof.Machine.execVsupWarnRelease mv s
  | .rideThroughEnd => Sys2Proof.Machine.execRideThroughEnd s
  | .vgUvAssert => Sys2Proof.Machine.execVgUvAssert s
  | .vgUvRelease => Sys2Proof.Machine.execVgUvRelease s
  | .vioLimit active => Sys2Proof.Machine.execVioLimit active s
  | .crst m w => Sys2Proof.Machine.execCrst m w s
  | .execrst by_ => Sys2Proof.Machine.execExecrst by_ s
  | .linkrst by_ => Sys2Proof.Machine.execLinkrst by_ s
  | .blockReset m w => Sys2Proof.Machine.execBlockReset m w s
  | .blockResetEnd page => Sys2Proof.Machine.execBlockResetEnd page s
  | .watchdogKick m w => Sys2Proof.Machine.execWatchdogKick m w s
  | .watchdogExpiry => Sys2Proof.Machine.execWatchdogExpiry s
  | .handoverWindowClose => Sys2Proof.Machine.execHandoverWindowClose s
  | .axisClaim m w => Sys2Proof.Machine.execAxisClaim m w s
  | .runRequest m w => Sys2Proof.Machine.execRunRequest m w s
  | .pllbRelock => Sys2Proof.Machine.execPllbRelock s
  | .standbyRequest m w => Sys2Proof.Machine.execStandbyRequest m w s
  | .sleepRequest m w => Sys2Proof.Machine.execSleepRequest m w s
  | .idleEntry => Sys2Proof.Machine.execIdleEntry s
  | .idleExit core => Sys2Proof.Machine.execIdleExit core s
  | .wake src sleepNs => Sys2Proof.Machine.execWake src sleepNs s
  | .wakeTimerExpiry sleepNs => Sys2Proof.Machine.execWakeTimerExpiry sleepNs s
  | .presNChange level lowMs => Sys2Proof.Machine.execPresNChange level lowMs s
  | .presenceExpiry => Sys2Proof.Machine.execPresenceExpiry s
  | .motionTick cycles => Sys2Proof.Machine.execMotionTick cycles s
  | .timedStart ax => Sys2Proof.Machine.execTimedStart ax s
  | .restDelayExpiry ax => Sys2Proof.Machine.execRestDelayExpiry ax s
  | .recloseDelayExpiry ax => Sys2Proof.Machine.execRecloseDelayExpiry ax s
  | .motionEvent e => Sys2Proof.Machine.execMotionEvent e s
  | .stepEdge ax => Sys2Proof.Machine.execStepEdge ax s
  | .enaFall ax => Sys2Proof.Machine.execEnaFall ax s
  | .encoderEdge ax up => Sys2Proof.Machine.execEncoderEdge ax up s
  | .encoderZEdge ax => Sys2Proof.Machine.execEncoderZEdge ax s
  | .ctxAllocRead m => Sys2Proof.Machine.execCtxAllocRead m s
  | .ctxWordWrite m k w => Sys2Proof.Machine.execCtxWordWrite m k w s
  | .ctxCmdStart m ctx ax => Sys2Proof.Machine.execCtxCmdStart m ctx ax s
  | .ctxCmdAbort m ctx => Sys2Proof.Machine.execCtxCmdAbort m ctx s
  | .ctxCmdRelease m ctx => Sys2Proof.Machine.execCtxCmdRelease m ctx s
  | .meCtlHalt m ax halt => Sys2Proof.Machine.execMeCtlHalt m ax halt s
  | .obscont m ax => Sys2Proof.Machine.execObscont m ax s
  | .obsabort m ax => Sys2Proof.Machine.execObsabort m ax s
  | .ferrclr m ax => Sys2Proof.Machine.execFerrclr m ax s
  | .mePosWrite m ax hi lo => Sys2Proof.Machine.execMePosWrite m ax hi lo s
  | .meDisable m ax => Sys2Proof.Machine.execMeDisable m ax s
  | .haltAllHold m => Sys2Proof.Machine.execHaltAllHold m s
  | .haltAllRelease m => Sys2Proof.Machine.execHaltAllRelease m s
  | .fastPathSample xs => Sys2Proof.Machine.execFastPathSample xs s
  | .alignedSample coil x => Sys2Proof.Machine.execAlignedSample coil x s
  | .finePathSample xs => Sys2Proof.Machine.execFinePathSample xs s
  | .observerValid ax => Sys2Proof.Machine.execObserverValid ax s
  | .observerLock ax => Sys2Proof.Machine.execObserverLock ax s
  | .backEmfCollapse ax => Sys2Proof.Machine.execBackEmfCollapse ax s
  | .pressProbeStart ax => Sys2Proof.Machine.execPressProbeStart ax s
  | .pressProbeHalfWindow ax => Sys2Proof.Machine.execPressProbeHalfWindow ax s
  | .waveTableCheck entry bad => Sys2Proof.Machine.execWaveTableCheck entry bad s
  | .crWdataWrite m ax w => Sys2Proof.Machine.execCrWdataWrite m ax w s
  | .crOvrWrite m ax w => Sys2Proof.Machine.execCrOvrWrite m ax w s
  | .periodBoundary ax br => Sys2Proof.Machine.execPeriodBoundary ax br s
  | .commutation ax leg high => Sys2Proof.Machine.execCommutation ax leg high s
  | .turnOnStart ax leg => Sys2Proof.Machine.execTurnOnStart ax leg s
  | .interlockTimeout ax leg => Sys2Proof.Machine.execInterlockTimeout ax leg s
  | .maskEnd ax br reg ilim => Sys2Proof.Machine.execMaskEnd ax br reg ilim s
  | .regTrip ax br active => Sys2Proof.Machine.execRegTrip ax br active s
  | .ilimTrip ax br active => Sys2Proof.Machine.execIlimTrip ax br active s
  | .maxOnTime ax br => Sys2Proof.Machine.execMaxOnTime ax br s
  | .offTimeEnd ax br => Sys2Proof.Machine.execOffTimeEnd ax br s
  | .onTimeEnd ax br => Sys2Proof.Machine.execOnTimeEnd ax br s
  | .periodMaxEnd ax br => Sys2Proof.Machine.execPeriodMaxEnd ax br s
  | .tackFire ax br k => Sys2Proof.Machine.execTackFire ax br k s
  | .commit m ax => Sys2Proof.Machine.execCommit m ax s
  | .latchClear m ax br => Sys2Proof.Machine.execLatchClear m ax br s
  | .pendingClearApply ax br => Sys2Proof.Machine.execPendingClearApply ax br s
  | .pwmEnable m ax => Sys2Proof.Machine.execPwmEnable m ax s
  | .pwmDisable m ax => Sys2Proof.Machine.execPwmDisable m ax s
  | .vdsShort ax leg high active => Sys2Proof.Machine.execVdsShort ax leg high active s
  | .hardShort ax br active => Sys2Proof.Machine.execHardShort ax br active s
  | .bootstrapUvAssert ax leg => Sys2Proof.Machine.execBootstrapUvAssert ax leg s
  | .bootstrapUvRelease ax leg => Sys2Proof.Machine.execBootstrapUvRelease ax leg s
  | .gateBudgetWindow mA => Sys2Proof.Machine.execGateBudgetWindow mA s
  | .prech m ax => Sys2Proof.Machine.execPrech m ax s
  | .prechargeEnd ax => Sys2Proof.Machine.execPrechargeEnd ax s
  | .diag m ax => Sys2Proof.Machine.execDiag m ax s
  | .diagComplete ax shvs shgnd openA openB => Sys2Proof.Machine.execDiagComplete ax shvs shgnd openA openB s
  | .stest m ax => Sys2Proof.Machine.execStest m ax s
  | .selftestComplete ax failed => Sys2Proof.Machine.execSelftestComplete ax failed s
  | .gdWrepWrite m ax w => Sys2Proof.Machine.execGdWrepWrite m ax w s
  | .csmEnable m => Sys2Proof.Machine.execCsmEnable m s
  | .csmCcfgWrite m coil w => Sys2Proof.Machine.execCsmCcfgWrite m coil w s
  | .modulatorOverload coil active => Sys2Proof.Machine.execModulatorOverload coil active s
  | .rstart m pc => Sys2Proof.Machine.execRstart m pc s
  | .rstop m pc => Sys2Proof.Machine.execRstop m pc s
  | .istart m pc => Sys2Proof.Machine.execIstart m pc s
  | .injectedTrigger t => Sys2Proof.Machine.execInjectedTrigger t s
  | .rsync m => Sys2Proof.Machine.execRsync m s
  | .isync m => Sys2Proof.Machine.execIsync m s
  | .pcSettleEnd pc => Sys2Proof.Machine.execPcSettleEnd pc s
  | .pcEntryResult pc code ovr => Sys2Proof.Machine.execPcEntryResult pc code ovr s
  | .cal m pc w => Sys2Proof.Machine.execCal m pc w s
  | .calComplete pc codes bad => Sys2Proof.Machine.execCalComplete pc codes bad s
  | .comparatorResolve c uV => Sys2Proof.Machine.execComparatorResolve c uV s
  | .comparatorEdge c uV => Sys2Proof.Machine.execComparatorEdge c uV s
  | .cmpAlarmNotify win => Sys2Proof.Machine.execCmpAlarmNotify win s
  | .cmpCcfgWrite m c w => Sys2Proof.Machine.execCmpCcfgWrite m c w s
  | .tieRelease c => Sys2Proof.Machine.execTieRelease c s
  | .stoChange ch ball level => Sys2Proof.Machine.execStoChange ch ball level s
  | .stoDiscrepancy ch g => Sys2Proof.Machine.execStoDiscrepancy ch g s
  | .discrepancyClear ch g => Sys2Proof.Machine.execDiscrepancyClear ch g s
  | .stoQualified ch g => Sys2Proof.Machine.execStoQualified ch g s
  | .sealSample ch code => Sys2Proof.Machine.execSealSample ch code s
  | .selvedgeSinc2Result xs => Sys2Proof.Machine.execSelvedgeSinc2Result xs s
  | .safeCurrentEval => Sys2Proof.Machine.execSafeCurrentEval s
  | .standstillDeclare ch ax => Sys2Proof.Machine.execStandstillDeclare ch ax s
  | .standstillWithdraw ch ax => Sys2Proof.Machine.execStandstillWithdraw ch ax s
  | .crossComparison => Sys2Proof.Machine.execCrossComparison s
  | .enableReadbackFail ch ax => Sys2Proof.Machine.execEnableReadbackFail ch ax s
  | .enableDecay ch => Sys2Proof.Machine.execEnableDecay ch s
  | .soutReadbackFail ch g => Sys2Proof.Machine.execSoutReadbackFail ch g s
  | .darkPulseStart g => Sys2Proof.Machine.execDarkPulseStart g s
  | .darkPulseEnd g readbackLow => Sys2Proof.Machine.execDarkPulseEnd g readbackLow s
  | .stop => Sys2Proof.Machine.execStop s
  | .ceil => Sys2Proof.Machine.execCeil s
  | .sense => Sys2Proof.Machine.execSense s
  | .clear => Sys2Proof.Machine.execClear s
  | .safeCoreReady romOk ver => Sys2Proof.Machine.execSafeCoreReady romOk ver s
  | .selvedgeReady first second => Sys2Proof.Machine.execSelvedgeReady first second s
  | .safeRomCheck ok => Sys2Proof.Machine.execSafeRomCheck ok s
  | .safeWatchdogExpiry => Sys2Proof.Machine.execSafeWatchdogExpiry s
  | .clockMonitorWindow mon count => Sys2Proof.Machine.execClockMonitorWindow mon count s
  | .pllLockLoss pll stopped => Sys2Proof.Machine.execPllLockLoss pll stopped s
  | .busTimeout m page index => Sys2Proof.Machine.execBusTimeout m page index s
  | .timTimeWrite m hi lo => Sys2Proof.Machine.execTimTimeWrite m hi lo s
  | .timerAlarm a => Sys2Proof.Machine.execTimerAlarm a s
  | .darnedMemoryRead m mem word err => Sys2Proof.Machine.execDarnedMemoryRead m mem word err s
  | .narrowMemoryWrite m mem word lane w err => Sys2Proof.Machine.execNarrowMemoryWrite m mem word lane w err s
  | .scrubVisit visits => Sys2Proof.Machine.execScrubVisit visits s
  | .parityScrub page index => Sys2Proof.Machine.execParityScrub page index s
  | .sysDarnclr m w same => Sys2Proof.Machine.execSysDarnclr m w same s
  | .registerWrite m addr width w => Sys2Proof.Machine.execRegisterWrite m addr width w s
  | .writeFrame p cmd words edges => Sys2Proof.Machine.execWriteFrame p cmd words edges s
  | .readFrame p cmd edges tckPs taken => Sys2Proof.Machine.execReadFrame p cmd edges tckPs taken s
  | .hspPageWrite p w => Sys2Proof.Machine.execHspPageWrite p w s
  | .hspReadyWrite m w => Sys2Proof.Machine.execHspReadyWrite m w s
  | .maintenanceModeWrite m w => Sys2Proof.Machine.execMaintenanceModeWrite m w s
  | .testModeEntry => Sys2Proof.Machine.execTestModeEntry s
  | .mailboxMsgWrite m ch k w => Sys2Proof.Machine.execMailboxMsgWrite m ch k w s
  | .mailboxGo m ch w => Sys2Proof.Machine.execMailboxGo m ch w s
  | .mailboxTake m ch => Sys2Proof.Machine.execMailboxTake m ch s
  | .wordPost m ch w => Sys2Proof.Machine.execWordPost m ch w s
  | .wordTake m ch => Sys2Proof.Machine.execWordTake m ch s
  | .bindingWrite m entry w => Sys2Proof.Machine.execBindingWrite m entry w s
  | .bindingLock m w => Sys2Proof.Machine.execBindingLock m w s
  | .flagWrite m sn t w => Sys2Proof.Machine.execFlagWrite m sn t w s
  | .attnWrite m w => Sys2Proof.Machine.execAttnWrite m w s
  | .dbmaskWrite m t w => Sys2Proof.Machine.execDbmaskWrite m t w s
  | .eventPost ch => Sys2Proof.Machine.execEventPost ch s
  | .longOpEnd slot result data => Sys2Proof.Machine.execLongOpEnd slot result data s
  | .relayTimeout txn => Sys2Proof.Machine.execRelayTimeout txn s
  | .deferredReset => Sys2Proof.Machine.execDeferredReset s
  | .opGetId ch => Sys2Proof.Machine.execOpGetId ch s
  | .opGetStatus ch => Sys2Proof.Machine.execOpGetStatus ch s
  | .opSetPower ch => Sys2Proof.Machine.execOpSetPower ch s
  | .opReset ch => Sys2Proof.Machine.execOpReset ch s
  | .opGetTime ch => Sys2Proof.Machine.execOpGetTime ch s
  | .opSetTime ch => Sys2Proof.Machine.execOpSetTime ch s
  | .opPing ch => Sys2Proof.Machine.execOpPing ch s
  | .opSetEvents ch => Sys2Proof.Machine.execOpSetEvents ch s
  | .opAxisEn ch => Sys2Proof.Machine.execOpAxisEn ch s
  | .opSetRole ch => Sys2Proof.Machine.execOpSetRole ch s
  | .opSetMotor ch => Sys2Proof.Machine.execOpSetMotor ch s
  | .opSetCurrent ch => Sys2Proof.Machine.execOpSetCurrent ch s
  | .opSetCommut ch => Sys2Proof.Machine.execOpSetCommut ch s
  | .opSetDoor ch => Sys2Proof.Machine.execOpSetDoor ch s
  | .opGetAxis ch => Sys2Proof.Machine.execOpGetAxis ch s
  | .opIdentify ch => Sys2Proof.Machine.execOpIdentify ch s
  | .opGetIdent ch => Sys2Proof.Machine.execOpGetIdent ch s
  | .opLoadWave ch => Sys2Proof.Machine.execOpLoadWave ch s
  | .opCtxAlloc ch => Sys2Proof.Machine.execOpCtxAlloc ch s
  | .opCtxLoad ch => Sys2Proof.Machine.execOpCtxLoad ch s
  | .opCtxStart ch => Sys2Proof.Machine.execOpCtxStart ch s
  | .opCtxAbort ch => Sys2Proof.Machine.execOpCtxAbort ch s
  | .opCtxRelease ch => Sys2Proof.Machine.execOpCtxRelease ch s
  | .opCtxStatus ch => Sys2Proof.Machine.execOpCtxStatus ch s
  | .opMoveTo ch => Sys2Proof.Machine.execOpMoveTo ch s
  | .opJog ch => Sys2Proof.Machine.execOpJog ch s
  | .opHome ch => Sys2Proof.Machine.execOpHome ch s
  | .opHalt ch => Sys2Proof.Machine.execOpHalt ch s
  | .opSetPos ch => Sys2Proof.Machine.execOpSetPos ch s
  | .opResume ch => Sys2Proof.Machine.execOpResume ch s
  | .opObstRel ch => Sys2Proof.Machine.execOpObstRel ch s
  | .opDoor ch => Sys2Proof.Machine.execOpDoor ch s
  | .opSetLimits ch => Sys2Proof.Machine.execOpSetLimits ch s
  | .opSetEnergy ch => Sys2Proof.Machine.execOpSetEnergy ch s
  | .opSetForce ch => Sys2Proof.Machine.execOpSetForce ch s
  | .opSetCeiling ch => Sys2Proof.Machine.execOpSetCeiling ch s
  | .opGetSafety ch => Sys2Proof.Machine.execOpGetSafety ch s
  | .opSafeStop ch => Sys2Proof.Machine.execOpSafeStop ch s
  | .opSetSupply ch => Sys2Proof.Machine.execOpSetSupply ch s
  | .opPcEntry ch => Sys2Proof.Machine.execOpPcEntry ch s
  | .opPcRun ch => Sys2Proof.Machine.execOpPcRun ch s
  | .opPcRead ch => Sys2Proof.Machine.execOpPcRead ch s
  | .opPcCal ch => Sys2Proof.Machine.execOpPcCal ch s
  | .opRefCtl ch => Sys2Proof.Machine.execOpRefCtl ch s
  | .opCmpSet ch => Sys2Proof.Machine.execOpCmpSet ch s
  | .opCmpRead ch => Sys2Proof.Machine.execOpCmpRead ch s
  | .opCmpCheck ch => Sys2Proof.Machine.execOpCmpCheck ch s
  | .opCoilRead ch => Sys2Proof.Machine.execOpCoilRead ch s
  | .opFaultList ch => Sys2Proof.Machine.execOpFaultList ch s
  | .opFaultGet ch => Sys2Proof.Machine.execOpFaultGet ch s
  | .opFaultClr ch => Sys2Proof.Machine.execOpFaultClr ch s
  | .opFaultReact ch => Sys2Proof.Machine.execOpFaultReact ch s
  | .opLogInfo ch => Sys2Proof.Machine.execOpLogInfo ch s
  | .opLogRead ch => Sys2Proof.Machine.execOpLogRead ch s
  | .opLogMark ch => Sys2Proof.Machine.execOpLogMark ch s
  | .opOdometer ch => Sys2Proof.Machine.execOpOdometer ch s
  | .opSetRead ch => Sys2Proof.Machine.execOpSetRead ch s
  | .opSetWrite ch => Sys2Proof.Machine.execOpSetWrite ch s
  | .opSetCommit ch => Sys2Proof.Machine.execOpSetCommit ch s
  | .opSetCapture ch => Sys2Proof.Machine.execOpSetCapture ch s
  | .opFwWrite ch => Sys2Proof.Machine.execOpFwWrite ch s
  | .opFwVerify ch => Sys2Proof.Machine.execOpFwVerify ch s
  | .opFwSwitch ch => Sys2Proof.Machine.execOpFwSwitch ch s
  | .opLinkStatus ch => Sys2Proof.Machine.execOpLinkStatus ch s
  | .opEnumerate ch => Sys2Proof.Machine.execOpEnumerate ch s
  | .opWorkerMap ch => Sys2Proof.Machine.execOpWorkerMap ch s
  | .opGroup ch => Sys2Proof.Machine.execOpGroup ch s
  | .opSetOrphan ch => Sys2Proof.Machine.execOpSetOrphan ch s
  | .opSetRelay ch => Sys2Proof.Machine.execOpSetRelay ch s
  | .opWiringCheck ch => Sys2Proof.Machine.execOpWiringCheck ch s
  | .opGdSelftest ch => Sys2Proof.Machine.execOpGdSelftest ch s
  | .opPressProbe ch => Sys2Proof.Machine.execOpPressProbe ch s
  | .opDarnRead ch => Sys2Proof.Machine.execOpDarnRead ch s
  | .opRegRead ch => Sys2Proof.Machine.execOpRegRead ch s
  | .opRegWrite ch => Sys2Proof.Machine.execOpRegWrite ch s
  | .faultRaise raises => Sys2Proof.Machine.execFaultRaise raises s
  | .fcClr m j w => Sys2Proof.Machine.execFcClr m j w s
  | .fcAck m j w => Sys2Proof.Machine.execFcAck m j w s
  | .fcSwset m w => Sys2Proof.Machine.execFcSwset m w s
  | .collectorFault f => Sys2Proof.Machine.execCollectorFault f s
  | .rxSyncGain p => Sys2Proof.Machine.execRxSyncGain p s
  | .portUp p => Sys2Proof.Machine.execPortUp p s
  | .portDown p codeErrors => Sys2Proof.Machine.execPortDown p codeErrors s
  | .hemBackEnd p => Sys2Proof.Machine.execHemBackEnd p s
  | .requestFrame p f busy => Sys2Proof.Machine.execRequestFrame p f busy s
  | .responseFrame p f busy => Sys2Proof.Machine.execResponseFrame p f busy s
  | .eventFrame p f busy => Sys2Proof.Machine.execEventFrame p f busy s
  | .bufferedFrameSend p => Sys2Proof.Machine.execBufferedFrameSend p s
  | .stitchSend => Sys2Proof.Machine.execStitchSend s
  | .stitchHalt p f => Sys2Proof.Machine.execStitchHalt p f s
  | .stitchObstRel p f => Sys2Proof.Machine.execStitchObstRel p f s
  | .stitchSafeStop p f => Sys2Proof.Machine.execStitchSafeStop p f s
  | .stitchPing p f => Sys2Proof.Machine.execStitchPing p f s
  | .syncSend => Sys2Proof.Machine.execSyncSend s
  | .syncFrame p f => Sys2Proof.Machine.execSyncFrame p f s
  | .syncLoss => Sys2Proof.Machine.execSyncLoss s
  | .enum p k r => Sys2Proof.Machine.execEnum p k r s
  | .enumrsp p k r addr other dly => Sys2Proof.Machine.execEnumrsp p k r addr other dly s
  | .enumTimeout => Sys2Proof.Machine.execEnumTimeout s
  | .assign p k up r addr pos => Sys2Proof.Machine.execAssign p k up r addr pos s
  | .dreq p residence => Sys2Proof.Machine.execDreq p residence s
  | .groupFrame p dest group join => Sys2Proof.Machine.execGroupFrame p dest group join s
  | .joinSend => Sys2Proof.Machine.execJoinSend s
  | .join p src => Sys2Proof.Machine.execJoin p src s
  | .refuse p k r => Sys2Proof.Machine.execRefuse p k r s
  | .aliveSend => Sys2Proof.Machine.execAliveSend s
  | .alive p src => Sys2Proof.Machine.execAlive p src s
  | .break_ p src port => Sys2Proof.Machine.execBreak p src port s
  | .repair p src port => Sys2Proof.Machine.execRepair p src port s
  | .workerDepart addr => Sys2Proof.Machine.execWorkerDepart addr s
  | .orphanTimeout => Sys2Proof.Machine.execOrphanTimeout s
  | .lholdSet m w => Sys2Proof.Machine.execLholdSet m w s
  | .lholdClear m w => Sys2Proof.Machine.execLholdClear m w s
  | .handoverImageLoad => Sys2Proof.Machine.execHandoverImageLoad s
  | .logFlushTimeout => Sys2Proof.Machine.execLogFlushTimeout s
  | .wjAddrWrite m w => Sys2Proof.Machine.execWjAddrWrite m w s
  | .wjReadComplete err => Sys2Proof.Machine.execWjReadComplete err s
  | .wjWrite m w => Sys2Proof.Machine.execWjWrite m w s
  | .wjWriteComplete ok => Sys2Proof.Machine.execWjWriteComplete ok s
  | .mspPush m w => Sys2Proof.Machine.execMspPush m w s
  | .mspEntryStart => Sys2Proof.Machine.execMspEntryStart s
  | .mspEntryComplete rx => Sys2Proof.Machine.execMspEntryComplete rx s
  | .mspRxdRead m => Sys2Proof.Machine.execMspRxdRead m s
  | .rel m => Sys2Proof.Machine.execRel m s
  | .flush m => Sys2Proof.Machine.execFlush m s
  | .mspDisable m => Sys2Proof.Machine.execMspDisable m s
  | .conMinPeriodEnd ax br => Sys2Proof.Machine.execConMinPeriodEnd ax br s
  | .drsp p roundTrip residence => Sys2Proof.Machine.execDrsp p roundTrip residence s
  | .enumReturn p => Sys2Proof.Machine.execEnumReturn p s
  | .linkCoreRestart => Sys2Proof.Machine.execLinkCoreRestart s

end Sys2Proof.Machine
end

