-- ==== Sys2Proof/Safety.lean ====
section
/-! DEFINITION. The terms in which claims about the VBH8A are stated: the canonical form of what it stores, what a reset leaves, what a raise
does, and what a safe run is. -/

namespace Sys2Proof.Machine

/-! ### Canonical form -/

/-- A sparse memory is canonical: keys strictly rising, and no entry equal to what an unlisted key reads as. -/
abbrev Memory.wf {α : Type} [DecidableEq α] (d : Nat → α) (l : List (Nat × α)) : Prop :=
  spSorted l = true ∧ ∀ e ∈ l, e.2 ≠ d e.1

/-- The registers, the context RAM, the flash, the wear journal, the darned memories and the fault records stand in canonical form. -/
structure State.Wf (s : State) : Prop where
  regs  : Memory.wf regReset s.regs
  ctx   : Memory.wf (fun _ => 0#32) s.ctxRam
  flash : Memory.wf (fun _ => 0xFF#8) s.spool.flash
  wj    : Memory.wf (fun _ => 0#256) s.spool.wj
  darn  : Memory.wf (fun _ => 0#256) s.darn
  fc    : Memory.wf (fun _ => ({} : FcRec)) s.fc

/-! ### Resets -/

/-- What the start of a chip reset for cause `c` leaves (R70, R71, R79): the reset in progress with its cause, gathered with those of a reset
that it meets, every gate off, no
context, no fault record; the flash and the wear journal as they were; every register at its reset value, but for those that AON keeps
over a warm reset and the supply bits. -/
def StartsReset (s t : State) (c : ResetCause) : Prop :=
  t.sys.chipReset = true ∧ t.sys.rstPend = (if s.sys.chipReset ∧ c ≠ .por then c.gather s.sys.rstPend else c.word)
  ∧ (∀ (ax : Axis) (j : Leg), t.leg ax j = {}) ∧ (∀ ax : Axis, t.me ax = {}) ∧ t.ctxRam = [] ∧ t.fc = []
  ∧ t.spool.flash = s.spool.flash ∧ t.spool.wj = s.spool.wj
  ∧ (∀ k, k ≠ R.SYS_SUPSTAT → (c.cold = true ∨ keptWarm k = false) → t.get k = regReset k)
  ∧ (c.cold = false → ∀ k, k ≠ R.SYS_SUPSTAT → keptWarm k = true → t.get k = s.get k)

/-! ### Raises -/

/-- A raise of source `src` with this detail latches its record and resets nothing: no chip reset is in progress, and the reaction that
applies is neither BRST nor CRST (R333, R337). -/
def Plain (s : State) (src : Nat) (detail : Word) : Prop := s.sys.chipReset = false ∧ (s.applied src detail).1 < 3

/-- Source `src` has been raised in `t` from `s` with this detail: a first raise latches the whole record with the time, a further one
counts up to 255 (R339); the collector notes the source. -/
def RaisedIn (s t : State) (src : Nat) (detail : Word) : Prop :=
  (t.fcRec src).latch = true ∧ t.fcLast = src
  ∧ ((s.fcRec src).latch = false → (t.fcRec src).cnt = 1 ∧ (t.fcRec src).time = s.sys.time ∧ (t.fcRec src).detail = detail)
  ∧ ((s.fcRec src).latch = true → (t.fcRec src).cnt = min 255 ((s.fcRec src).cnt + 1) ∧ (t.fcRec src).time = (s.fcRec src).time
      ∧ (t.fcRec src).detail = (s.fcRec src).detail)

/-- No source of the collector that may be raised is set to a chip reset. -/
def NoCrst (s : State) : Prop := ∀ src < 126, ∀ d, (s.applied src d).1 ≠ 4

/-- No source of the collector that may be raised, whatever its detail, resets anything: none reacts with BRST or CRST, and no chip reset
is in progress. -/
def NoReset (s : State) : Prop := s.sys.chipReset = false ∧ ∀ src < 126, ∀ d, (s.applied src d).1 < 3

/-! ### The safety channels -/

/-- The channels have entered the safe state (R326): with this cause if it is the first, and with no axis enabled by either. -/
def EntersSafe (s t : State) (cause : Nat) : Prop :=
  t.saf.safe = true ∧ (s.saf.safe = false → s.fcSafe = false → t.saf.cause = cause) ∧ (s.saf.safe = true → t.saf.cause = s.saf.cause)
  ∧ t.saf.s.en = 0#8 ∧ t.saf.h.en = 0#8 ∧ t.saf.dark = 0#2

/-- No gate of any axis is on while the axis lacks the enable of either safety channel (R309, R310). -/
def GatesNeedEnable (s : State) : Prop :=
  ∀ (ax : Axis) (j : Leg), ((s.leg ax j).hiOn = true ∨ (s.leg ax j).loOn = true) → s.granted ax = true

/-! ### Firmware and its requests -/

/-- A request for opcode `op` waits on the channel of HOST or MAINT and is next to be served: firmware runs, the checks that the message
alone decides are passed, no other channel holds a request, no response is owed or waits to leave, and the response channel is firmware's and
empty. -/
structure Waits (s : State) (ch : ReqChan) (op : Nat) : Prop where
  serve : s.mayServe (chanIx ch) op = true
  here  : ch ≠ .link
  alone : ∀ d, d ≠ chanIx ch → s.hasReq d = false
  inq   : s.lnk.inq = []
  outq  : ∀ d, vget s.fw.outq d = []
  owed  : ∀ d, vget s.fw.owed d = []
  room  : s.bFull (outChan (chanIx ch)) = false
  bound : s.sndOf (outChan (chanIx ch)) = 1

/-- The request of a channel has been taken and answered: the response is full, and its first words are the header of R132 with this result
and the response words. -/
def Answers (s t : State) (ch : ReqChan) (r : Res) (ws : List Word) : Prop :=
  t.bFull (inChan (chanIx ch)) = false ∧ t.bFull (outChan (chanIx ch)) = true
  ∧ (t.msg (outChan (chanIx ch))).take (ws.length + 1) = rspHdr (s.reqOf (chanIx ch)).h r.code ws.length :: ws

/-- Registers outside the mailbox pages stand. -/
def RegsStand (s t : State) : Prop := ∀ k, ¬(3 ≤ k / 128 ∧ k / 128 ≤ 5) → t.get k = s.get k

/-- Everything but the mailboxes stands: a request that only asks. -/
def OnlyAsked (s t : State) : Prop :=
  RegsStand s t ∧ t.sys = s.sys ∧ t.mot = s.mot ∧ t.ctxRam = s.ctxRam ∧ t.pwm = s.pwm ∧ t.coil = s.coil ∧ t.lo = s.lo ∧ t.csm = s.csm
  ∧ t.pc = s.pc ∧ t.cmp = s.cmp ∧ t.saf = s.saf ∧ t.fc = s.fc ∧ t.fw = s.fw ∧ t.lnk = s.lnk ∧ t.spool = s.spool ∧ t.msp = s.msp
  ∧ t.roles = s.roles ∧ t.darn = s.darn

/-- The clocks run, no block is held in reset and no strap fault closes pages: a master's access reaches its register (R17, R48, R70, R93). -/
def ClocksRun (s : State) : Prop :=
  s.sys.pllStop = 0#2 ∧ s.sys.rcsStop = false ∧ s.sys.rchStop = false ∧ s.sys.blockRst = [] ∧ s.sys.strapStuck = false ∧ s.portOpen = true

/-! ### The link -/

/-- No request waits for firmware, and no message waits to leave it. -/
structure Settled (s : State) : Prop where
  reqs : ∀ d, s.hasReq d = false
  inq  : s.lnk.inq = []
  outq : ∀ d, vget s.fw.outq d = []

/-- A port of the link is UP, turns no traffic, and its transmitter holds nothing. -/
def Free (s : State) (p : LinkPort) : Prop := s.portUp p = true ∧ s.bit (R.LNK_PORT p) 4 = false ∧ (s.lp p).buf = []

/-- A worker has accepted no stitch frame of this SSEQ within the last 1 ms (R354). -/
def Fresh (s : State) (sseq : Byte) : Prop := ∀ e ∈ s.lnk.accepted, e.1 = sseq.toNat → e.2 + 200000 ≤ s.sys.cyc

end Sys2Proof.Machine
end

