-- ==== Sys2Proof/Certificates/Slice0/Obligations.lean ====
section
/-! DEFINITION. The statements for the provers: what each command of the VBH8A does, what it leaves as it was, and what every step keeps. -/

open Sys2Proof Sys2Proof.Machine

/-- A step takes the command at the front of the queue and is exec of it on the state with the queue's rest (spec/98_reader.md).
For every state and command c, with c at the front of the queue of waiting commands, the step of the block is exec of c on the same state
with the rest of the queue. This is the model's convention for a block (log entry 1), not a rule of the spec. -/
def Obligations.StepRunsFrontCommand : Prop :=
  ∀ (s : State) (c : Instr) (rest : List Instr), s.pending = c :: rest → step s = exec c { s with pending := rest }

/-- With no command waiting, one SYS cycle of SYS_TIME passes at the correction in force (the idle step is the model's choice, entry 1) (R21, spec/01_architecture.md).
With an empty queue, outside a chip reset and SLEEP, a step adds 5 ns to SYS_TIME, or 10 ns or 0 ns when the signed remainder of R21
reaches a whole 5 ns either way, keeps the remainder, and changes no register, no memory and no axis. During a chip reset or SLEEP it
changes nothing. That a step with nothing waiting is one SYS cycle is the model's choice (log entry 1). -/
def Obligations.IdleStepPassesOneCycle : Prop :=
  ∀ s : State, s.pending = [] →
    ((s.sys.chipReset = true ∨ s.sys.asleep = true) → step s = .next s)
    ∧ (s.sys.chipReset = false → s.sys.asleep = false → s.sys.rem.natAbs < 1000000000 → ∃ t, step s = .next t
        ∧ (t.sys.time, t.sys.rem) = timeStep s.rate (s.sys.time, s.sys.rem)
        ∧ t.regs = s.regs ∧ t.ctxRam = s.ctxRam ∧ t.darn = s.darn ∧ t.spool.flash = s.spool.flash ∧ t.spool.wj = s.spool.wj
        ∧ t.fc = s.fc ∧ t.mot = s.mot ∧ t.pwm = s.pwm ∧ t.coil = s.coil ∧ t.saf = s.saf ∧ t.lnk = s.lnk ∧ t.fw = s.fw ∧ t.pending = [])

/-- Right after reset: the registers at the spec's reset values, no gate on, no context, no fault record, no command waiting (R7, R77, R112, R99, spec/03_power_reset.md, spec/05_mailboxes.md, spec/15_fault_collector.md).
State.reset reads, at registers of every page, the reset values of the spec: the chip reset bindings of R112, ME_PMIN and ME_PMAX at the
ends of their 48 bits, ME_VLIM at its maximum, every other implemented register at its row's reset value and an unimplemented address at
0; SYS_TIME is 0, no gate is on, no context is queued or active, no fault record is latched, no command waits, the memories are empty.
Where the spec gives no number (SYS_RSTCAUSE, which each chip reset loads; the contents of flash and RAM; internal state) the value is the
model's choice (log entry 3). -/
def Obligations.ResetValuesOfTheDevice : Prop :=
  (∀ k, State.reset.get k = regReset k) ∧ State.reset.get (regKey 0x03 0) = 0x10#32 ∧ State.reset.get (regKey 0x03 1) = 0x01#32
  ∧ State.reset.get (regKey 0x03 8) = 0x13#32 ∧ State.reset.get (regKey 0x03 12) = 0x77#32
  ∧ (∀ ax : Axis, State.reset.wide (R.ME_PMIN ax) = -140737488355328 ∧ State.reset.wide (R.ME_PMAX ax) = 140737488355327)
  ∧ (∀ ax : Axis, State.reset.bit (R.ME_CFG ax) 31 = false ∧ State.reset.bit (R.PWM_CFG ax) 31 = false ∧ State.reset.bit (R.GD_CFG ax) 31 = false)
  ∧ State.reset.ready = false ∧ State.reset.sys.time = 0 ∧ (∀ (ax : Axis) (j : Leg), State.reset.leg ax j = {})
  ∧ (∀ ax : Axis, (State.reset.me ax).active = none ∧ (State.reset.me ax).queue = [])
  ∧ (∀ src, (State.reset.fcRec src).latch = false) ∧ State.reset.pending = [] ∧ State.reset.Wf

/-- POWER_ON, BROWN_OUT, REVERSE_CONNECTION, PIN_RESET, CRST, a wrong watchdog kick, WATCHDOG_EXPIRY, WAKE and the wake timer start a chip reset (R70, R71, R72, R76, R78, R79, spec/03_power_reset.md).
Each of the named commands answers a next state in which a chip reset is in progress with its cause gathered, every gate off, no context
and no fault record, the flash and the wear journal as they were, every register at its reset value, but for the AON registers that a warm
reset keeps (SYS_SUPSTAT is the supplies': a brown-out of VDD11 or VIO leaves the other levels). CRST: a write of SYS_RSTCTL by EXEC or
MAINT, where it reaches the register, with the key and bit 0 set. The watchdog: EXEC writes another value than 0x6A3C, or its full timeout
of 10 ms steps has passed with EN 1 and EXEC out of reset. WAKE: in SLEEP, a source that SYS_WAKECFG enables and that can wake; those
sources are held. A watchdog that has not counted its timeout, and a wake outside SLEEP, change nothing. Where the spec leaves a point
open, what is said of it is the model's choice (log entries 15, 18, 90). -/
def Obligations.ChipResetStarts : Prop :=
  ∀ s : State,
    (∃ t, exec .powerOn s = .next t ∧ StartsReset s t .por ∧ t.sys.reversed = false ∧ t.get R.SYS_SUPSTAT = 3#32)
    ∧ (∀ u : Supply, ∃ t, exec (.brownOut u) s = .next t ∧ StartsReset s t .bor
        ∧ t.get R.SYS_SUPSTAT = s.get R.SYS_SUPSTAT &&& (match u with | .vsup => 0#32 | .vdd11 => 0x6B#32 | .vio => 0x5B#32))
    ∧ (∃ t, exec .reverseConnection s = .next t ∧ StartsReset s t .bor ∧ t.sys.reversed = true)
    ∧ (∃ t, exec .pinReset s = .next t ∧ StartsReset s t .pin)
    ∧ (∀ (m : Master) (w : Word), m = .exec ∨ m = .maint → s.opens m 0x01 = true → fldOf w 31 16 = 0x9E37 → bitOf w 0 = true →
        ∃ t, exec (.crst m w) s = .next t ∧ StartsReset s t .swrst)
    ∧ (∀ w : Word, s.opens .exec 0x01 = true → w ≠ 0x6A3C#32 → ∃ t, exec (.watchdogKick .exec w) s = .next t ∧ StartsReset s t .wdt)
    ∧ (s.portOpen = true → s.bit R.SYS_WDT 31 = true → s.sys.exec ≠ .handover →
        s.sys.wdSince + max 1 (s.fld R.SYS_WDT 7 0) * 2000000 ≤ s.sys.cyc → ∃ t, exec .watchdogExpiry s = .next t ∧ StartsReset s t .wdt)
    ∧ (s.sys.cyc < s.sys.wdSince + max 1 (s.fld R.SYS_WDT 7 0) * 2000000 → exec .watchdogExpiry s = .next s.quiet)
    ∧ (∀ (src : Word) (ns : Nat), s.sys.asleep = true → src &&& s.get R.SYS_WAKECFG &&& s.wakeable ≠ 0#32 →
        ∃ t, exec (.wake src ns) s = .next t ∧ StartsReset s t .wake ∧ t.sys.wakeHeld = src &&& s.get R.SYS_WAKECFG &&& s.wakeable
          ∧ t.sys.wakeTime = some (s.sys.time + ns))
    ∧ (∀ ns : Nat, s.sys.asleep = true → s.bit R.SYS_WAKECFG 21 = true →
        ∃ t, exec (.wakeTimerExpiry ns) s = .next t ∧ StartsReset s t .wake ∧ t.sys.wakeHeld = 0x200000#32)
    ∧ (∀ (src : Word) (ns : Nat), s.sys.asleep = false → exec (.wake src ns) s = .next s.quiet)

/-- CHIP_RESET_END: SYS_RSTCAUSE takes the gathered causes and SYS_TIME its start; STRAP_LATCH: the agreeing samples and the ISET code (R47, R48, R49, R63, R71, R77, spec/02_balls_and_straps.md, spec/03_power_reset.md).
CHIP_RESET_END, with a chip reset in progress and the supply connected the right way (and the collector at its reset enable): the reset is
over, SYS_RSTCAUSE holds the causes gathered, SYS_TIME is 0 or the time the wake resumes, rounded down to 5 ns, the next motion tick is
due at the next multiple of 25 µs, VG_OK and VIO_LIM follow their supervisors, and the axes and contexts are as they were. STRAP_LATCH,
once per chip reset in the boot ROM: a first set whose samples agree gives role and default mode, the measured ISET voltage within the
band of code k gives k, and SYS_STRAP holds them; when the samples of each of four sets differ, SYS_STRAP.BAD is set and the device stays
in its boot ROM; fewer sets latch nothing. Where the spec leaves a point open, what is said of it is the model's choice (log entries 18,
90). -/
def Obligations.ChipResetEndsAndStrapsLatch : Prop :=
  ∀ s : State,
    (s.sys.chipReset = true → s.sys.reversed = false → s.bit R.FC_CTL 31 = false → ∃ t, exec .chipResetEnd s = .next t
      ∧ t.sys.chipReset = false ∧ t.get R.SYS_RSTCAUSE = s.sys.rstPend ∧ t.sys.time = s.sys.wakeTime.getD 0 / 5 * 5
      ∧ t.sys.tickDue = (t.sys.time / 25000 + 1) * 25000 ∧ t.vgOk = !s.present 7 ∧ t.bit R.SYS_SUPSTAT 6 = s.present 8 ∧ t.ctxRam = s.ctxRam ∧ t.saf = s.saf ∧ t.spool = s.spool)
    ∧ (∀ (x : StrapSample) (n : Nat) (rest : List (List StrapSample)) (k mv : Nat), s.sys.chipReset = false → s.sys.strapped = false →
        s.sys.exec = .bootRom → k < 16 → 100 * (k + 1) ≤ mv + 40 → mv ≤ 100 * (k + 1) + 40 →
        ∃ t, exec (.strapLatch (List.replicate (n + 1) x :: rest) mv) s = .next t ∧ t.sys.strapped = true
          ∧ t.get R.SYS_STRAP = wordOfNat (x.role.val + b2n x.defmode * 4 + k * 16 + mv * 4096)
          ∧ t.sys.strapStuck = decide (x.role.val = 3) ∧ ∀ j, j ≠ R.SYS_STRAP → t.get j = s.get j)
    ∧ (∀ (sets : List (List StrapSample)) (mv : Nat), s.sys.chipReset = false → s.sys.strapped = false → s.sys.exec = .bootRom →
        4 ≤ sets.length → (∀ xs ∈ sets.take 4, ∃ a ∈ xs, ∃ b ∈ xs, a ≠ b) →
        ∃ t, exec (.strapLatch sets mv) s = .next t ∧ t.sys.strapped = true ∧ t.bit R.SYS_STRAP 3 = true ∧ t.sys.strapStuck = true)
    ∧ (∀ (sets : List (List StrapSample)) (mv : Nat), sets.length < 4 → (∀ xs ∈ sets, ∃ a ∈ xs, ∃ b ∈ xs, a ≠ b) →
        exec (.strapLatch sets mv) s = .next s.quiet)

/-- VSUP_WARN, ride-through, VG undervoltage and VIO limit: what each assertion and release does to SYS_SUPSTAT, the gates and the sources (R62, R64, R65, R66, R67, R68, spec/03_power_reset.md).
VSUP_WARN_ASSERT with supervision enabled, VSUP below 16.0 V + 0.5 V × code (229 and above as 228) and its reaction resetting nothing
(outside firmware, which adds its records): WARN reads 1, VSUP_WARN is raised, ride-through starts where SYS_SUPCFG enables it.
VSUP_WARN_RELEASE with WARN 1 and VSUP more than 0.5 V above that level: WARN reads 0, the source's condition ends, ride-through stands
and will end RTEXT ms later. RIDE_THROUGH_END: ride-through reads 0 once WARN is 0 and its end has come; before, nothing changes. A
warning above the level, and a release not above it, change nothing. VG_UV_RELEASE: the level reads present again and the condition ends.
VIO_LIMIT: the limit bit follows the condition, and VIO_LIM is raised as it starts. Registers other than SYS_SUPSTAT keep their values.
Where the spec leaves a point open, what is said of it is the model's choice (log entries 18, 94). -/
def Obligations.SupplySupervisionActs : Prop :=
  ∀ s : State,
    (∀ mv : Nat, s.bit R.SYS_SUPCFG 31 = true → mv < 16000 + 500 * min (s.fld R.SYS_SUPCFG 7 0) 228 → s.sys.exec ≠ .firmware → s.present 6 = false → (∀ d, Plain s 6 d) →
      ∃ t d, exec (.vsupWarnAssert mv) s = .next t ∧ t.bit R.SYS_SUPSTAT 2 = true ∧ RaisedIn s t 6 d ∧ t.present 6 = true
        ∧ (s.bit R.SYS_SUPCFG 30 = true → t.rideThrough = true) ∧ (s.bit R.SYS_SUPCFG 30 = false → t.rideThrough = s.rideThrough)
        ∧ (∀ k, k ≠ R.SYS_SUPSTAT → t.get k = s.get k) ∧ t.mot = s.mot ∧ t.pwm = s.pwm)
    ∧ (∀ mv : Nat, s.bit R.SYS_SUPSTAT 2 = true → 16500 + 500 * min (s.fld R.SYS_SUPCFG 7 0) 228 < mv →
        ∃ t, exec (.vsupWarnRelease mv) s = .next t ∧ t.bit R.SYS_SUPSTAT 2 = false ∧ t.present 6 = false ∧ t.rideThrough = s.rideThrough
        ∧ (s.rideThrough = true → s.sys.rtEnd = none → t.sys.rtEnd = some (s.sys.cyc + s.fld R.SYS_SUPCFG 23 16 * 200000))
        ∧ t.fc = s.fc ∧ ∀ k, k ≠ R.SYS_SUPSTAT → t.get k = s.get k)
    ∧ (∃ t, exec .rideThroughEnd s = .next t ∧ t.rideThrough = (s.rideThrough && (s.bit R.SYS_SUPSTAT 2 || s.sys.rtEnd.any (s.sys.cyc < ·)))
        ∧ t.bit R.SYS_SUPSTAT 2 = s.bit R.SYS_SUPSTAT 2 ∧ ∀ k, k ≠ R.SYS_SUPSTAT → t.get k = s.get k)
    ∧ (∀ mv : Nat, 16000 + 500 * min (s.fld R.SYS_SUPCFG 7 0) 228 ≤ mv → exec (.vsupWarnAssert mv) s = .next s.quiet)
    ∧ (∀ mv : Nat, mv ≤ 16500 + 500 * min (s.fld R.SYS_SUPCFG 7 0) 228 → exec (.vsupWarnRelease mv) s = .next s.quiet)
    ∧ (∃ t, exec .vgUvRelease s = .next t ∧ t.vgOk = true ∧ t.present 7 = false ∧ t.pwm = s.pwm
        ∧ ∀ k, k ≠ R.SYS_SUPSTAT → t.get k = s.get k)
    ∧ (∃ t, exec (.vioLimit false) s = .next t ∧ t.bit R.SYS_SUPSTAT 6 = false ∧ t.present 8 = false ∧ t.fc = s.fc)
    ∧ (s.present 8 = false → (∀ d, Plain s 8 d) → ∃ t d, exec (.vioLimit true) s = .next t ∧ t.bit R.SYS_SUPSTAT 6 = true
        ∧ t.present 8 = true ∧ RaisedIn s t 8 d ∧ ∀ k, k ≠ R.SYS_SUPSTAT → t.get k = s.get k)

/-- EXECRST, LINKRST and the watchdog kick: a core reset loses its own SRAM and leaves motion, gates, safety and contexts as they were (R32, R33, R35, R72, R78, R79, R382, R383, spec/03_power_reset.md).
Outside a chip reset. (Writes: where they reach the register.) EXECRST by firmware or by a write of SYS_RSTCTL with the key and bit 1
alone (EXEC or MAINT): EXEC is in handover reset, every claim is cleared, HOVER is set, and EXEC SRAM reads as unwritten; the motion
engine, the bridges, the safety channels, the context RAM, the link and every register outside page 0x01, the mailbox pages and page 0x61
stand. LINKRST likewise (EXEC, LINK or MAINT, bit 2 alone): the LINK core does not run, LNK_TXN reads 0, its transactions are dead, its
table is lost, and the same parts stand, with every register outside page 0x01, the mailbox pages and page 0x58. The kick of EXEC with
0x6A3C restarts the watchdog and does nothing else. Where the spec leaves a point open, what is said of it is the model's choice (log
entry 16). -/
def Obligations.CoreResetsKeepTheHardware : Prop :=
  ∀ s : State, s.sys.chipReset = false →
    (∃ t, exec (.execrst .firmware) s = .next t ∧ t.sys.exec = .handover ∧ t.fld R.SYS_AXCLAIM 7 0 = 0 ∧ t.bit R.SYS_AXCLAIM 16 = true
        ∧ t.fw = { inUse := s.fw.inUse } ∧ (∀ word < 65536, spFind t.darn word = none)
        ∧ t.mot = s.mot ∧ t.pwm = s.pwm ∧ t.saf = s.saf ∧ t.ctxRam = s.ctxRam ∧ t.coil = s.coil ∧ t.lnk = s.lnk ∧ t.spool = s.spool
        ∧ ∀ k, k / 128 ≠ 0x01 → ¬(3 ≤ k / 128 ∧ k / 128 ≤ 5) → k / 128 ≠ 0x61 → t.get k = s.get k)
    ∧ (∀ (m : Master) (w : Word), m = .exec ∨ m = .maint → s.opens m 0x01 = true → fldOf w 31 16 = 0x9E37 → fldOf w 2 0 = 2 →
        exec (.execrst (.write m w)) s = exec (.execrst .firmware) (s.opened m))
    ∧ (∃ t, exec (.linkrst .firmware) s = .next t ∧ t.sys.linkRun = false ∧ t.get R.LNK_TXN = 0#32
        ∧ (∀ x ∈ t.lnk.txns, x.dead = true) ∧ t.lnk.table = [] ∧ (∀ word < 65536, spFind t.darn (65536 + word) = none)
        ∧ t.mot = s.mot ∧ t.pwm = s.pwm ∧ t.saf = s.saf ∧ t.ctxRam = s.ctxRam ∧ t.coil = s.coil ∧ t.fw = s.fw ∧ t.spool = s.spool
        ∧ t.sys.exec = s.sys.exec
        ∧ ∀ k, k / 128 ≠ 0x01 → ¬(3 ≤ k / 128 ∧ k / 128 ≤ 5) → k / 128 ≠ 0x58 → t.get k = s.get k)
    ∧ (∀ (m : Master) (w : Word), m = .exec ∨ m = .link ∨ m = .maint → s.opens m 0x01 = true → fldOf w 31 16 = 0x9E37 → fldOf w 2 0 = 4 →
        exec (.linkrst (.write m w)) s = exec (.linkrst .firmware) (s.opened m))
    ∧ (s.opens .exec 0x01 = true → exec (.watchdogKick .exec 0x6A3C#32) s = .next { s with out := {}, sys := { s.sys with wdSince := s.sys.cyc } })

/-- BLOCK_RESET returns the registers of its page to reset and leaves every other page; BLOCK_RESET_END ends it (R70, R73, R78, spec/03_power_reset.md).
A write of SYS_BRST by EXEC or MAINT with the key and an admitted page, where it reaches the register: the page is in block reset; every
register of the page reads its reset value, but for ME_EOFS, LNK_ADDR, the role in LNK_STAT and SPL_CORE; every register of another page
keeps its value, but for PWM_THR with its coil page, LO_KF with its motion page and GD_FLT (the VDS findings) with its PWM page; the gates
of the axis are off for a PWM or GD page; contexts in RAM, fault records, flash, safety channels and firmware stand. BLOCK_RESET_END takes
the page out of reset and changes nothing else. -/
def Obligations.BlockResetReturnsItsPage : Prop :=
  (∀ (s : State) (m : Master) (w : Word) (p : Nat), s.opens m 0x01 = true → m = .exec ∨ m = .maint → fldOf w 31 16 = 0x9E37 →
      fldOf w 6 0 = p → brstAdmits p = true → ∃ t, exec (.blockReset m w) s = .next t ∧ p ∈ t.sys.blockRst
        ∧ (∀ i < 128, regKey p i ≠ R.ME_EOFS (axisAt p) → regKey p i ≠ R.LNK_ADDR → regKey p i ≠ R.LNK_STAT → regKey p i ≠ R.SPL_CORE →
            t.get (regKey p i) = regReset (regKey p i))
        ∧ (∀ k, k / 128 ≠ p → k ≠ R.PWM_THR (axisAt p) → k ≠ R.LO_KF (axisAt p) → k ≠ R.GD_FLT (axisAt p) → t.get k = s.get k)
        ∧ (0x28 ≤ p → p < 0x38 → ∀ j : Leg, t.leg (axisAt p) j = {})
        ∧ t.ctxRam = s.ctxRam ∧ t.fc = s.fc ∧ t.spool = s.spool ∧ t.saf = s.saf ∧ t.fw = s.fw ∧ t.darn = s.darn)
  ∧ (∀ (s : State) (p : Page), exec (.blockResetEnd p) s
      = .next { s with out := {}, sys := { s.sys with blockRst := s.sys.blockRst.filter (· ≠ p.val) } })

/-- HANDOVER_WINDOW_CLOSE marks exactly the unclaimed axes for their halt; AXIS_CLAIM claims and clears UNCL; CLAIM_TIMEOUT follows (R33, R34, R333, spec/01_architecture.md).
With CLAIM_TIMEOUT's reaction resetting nothing. HANDOVER_WINDOW_CLOSE while HOVER is 1: HOVER reads 0; each axis whose claim bit is 0 has
its UNCL bit set and R171's row 5 noted for the next tick; each claimed axis is as it was; CLAIM stands. AXIS_CLAIM by EXEC, where the
write reaches the register: CLAIM takes the bits written to 1 and UNCL loses them. After either, CLAIM_TIMEOUT's condition is present
exactly while some UNCL bit is set. Registers other than SYS_AXCLAIM and SPL_BOOT keep their values. -/
def Obligations.HandoverWindowAndClaims : Prop :=
  ∀ s : State, (∀ d, Plain s 5 d) →
    (s.bit R.SYS_AXCLAIM 16 = true → ∃ t, exec .handoverWindowClose s = .next t ∧ t.bit R.SYS_AXCLAIM 16 = false
      ∧ t.fld R.SYS_AXCLAIM 7 0 = s.fld R.SYS_AXCLAIM 7 0
      ∧ (∀ ax : Axis, s.bit R.SYS_AXCLAIM ax = false → t.bit R.SYS_AXCLAIM (8 + ax) = true ∧ (t.me ax).evWin = true)
      ∧ (∀ ax : Axis, s.bit R.SYS_AXCLAIM ax = true → t.bit R.SYS_AXCLAIM (8 + ax) = s.bit R.SYS_AXCLAIM (8 + ax) ∧ t.me ax = s.me ax)
      ∧ t.present 5 = decide (t.fld R.SYS_AXCLAIM 15 8 ≠ 0)
      ∧ ∀ k, k ≠ R.SYS_AXCLAIM → k ≠ R.SPL_BOOT → t.get k = s.get k)
    ∧ (∀ w : Word, s.opens .exec 0x01 = true → ∃ t, exec (.axisClaim .exec w) s = .next t
        ∧ (∀ i < 8, t.bit R.SYS_AXCLAIM i = (s.bit R.SYS_AXCLAIM i || bitOf w i))
        ∧ (∀ i < 8, t.bit R.SYS_AXCLAIM (8 + i) = (s.bit R.SYS_AXCLAIM (8 + i) && !bitOf w i))
        ∧ t.present 5 = decide (t.fld R.SYS_AXCLAIM 15 8 ≠ 0) ∧ t.mot = s.mot
        ∧ ∀ k, k ≠ R.SYS_AXCLAIM → k ≠ R.SPL_BOOT → t.get k = s.get k)

/-- RUN, STANDBY and SLEEP requests, IDLE entry and exit and PLLB_RELOCK: when each is accepted or refused, and what it does (R74, R75, R76, R78, R278, R286, spec/03_power_reset.md).
A write of SYS_PWRCTL by EXEC with the key, where it reaches the register. RUN: accepted. STANDBY: refused with 1 while an axis has an
active or queued context; otherwise the device is in STANDBY, every gate off, every bridge's EN 0, no converter's sequence running. SLEEP,
before firmware runs: refused with 2 outside STANDBY, with 4 when no wake source is enabled; otherwise the device sleeps, if no comparator
already stands at its waking level and the wake timer is not 0. A write without the key, or by another master, is ignored with
WRITE_IGNORED. IDLE_ENTRY with both cores running, in RUN or IDLE, and no interrupt: both cores are gated, state IDLE; IDLE_EXIT ungates
its core. PLLB_RELOCK with no clock failing and RUN requested: state RUN, PLL-B locked. -/
def Obligations.PowerStatesFollowRequests : Prop :=
  ∀ (s : State) (w : Word), s.opens .exec 0x01 = true → fldOf w 31 16 = 0x9E37 →
    (fldOf w 1 0 = 0 → ∃ t, exec (.runRequest .exec w) s = .next t ∧ t.get R.SYS_PWRCTL = 0#32 ∧ t.fld R.SYS_PWRSTAT 18 16 = 0
        ∧ t.fld R.SYS_PWRSTAT 1 0 = s.fld R.SYS_PWRSTAT 1 0 ∧ ∀ k, k ≠ R.SYS_PWRCTL → k ≠ R.SYS_PWRSTAT → t.get k = s.get k)
    ∧ (fldOf w 1 0 = 2 → (∃ ax : Axis, s.axisBusy ax = true) → ∃ t, exec (.standbyRequest .exec w) s = .next t
        ∧ t.fld R.SYS_PWRSTAT 18 16 = 1 ∧ t.standby = s.standby ∧ t.pwm = s.pwm ∧ ∀ k, k ≠ R.SYS_PWRSTAT → t.get k = s.get k)
    ∧ (fldOf w 1 0 = 2 → (∀ ax : Axis, s.axisBusy ax = false) → s.standby = false → ∃ t, exec (.standbyRequest .exec w) s = .next t
        ∧ t.standby = true ∧ (∀ (ax : Axis) (j : Leg), t.leg ax j = {}) ∧ (∀ ax : Axis, t.bit (R.PWM_CFG ax) 31 = false)
        ∧ (∀ p : Conv, (vget t.pc p).rrun = false ∧ (vget t.pc p).iIdx = none) ∧ t.mot = s.mot ∧ t.saf = s.saf)
    ∧ (fldOf w 1 0 = 3 → s.sys.exec ≠ .firmware → s.standby = false → ∃ t, exec (.sleepRequest .exec w) s = .next t
        ∧ t.fld R.SYS_PWRSTAT 18 16 = 2 ∧ t.sys.asleep = s.sys.asleep)
    ∧ (fldOf w 1 0 = 3 → s.sys.exec ≠ .firmware → s.standby = true → (∀ k d, s.spool.wjOp ≠ .write k d) → s.get R.SYS_WAKECFG = 0#32 →
        ∃ t, exec (.sleepRequest .exec w) s = .next t ∧ t.fld R.SYS_PWRSTAT 18 16 = 4 ∧ t.sys.asleep = s.sys.asleep)
    ∧ (fldOf w 1 0 = 3 → s.sys.exec ≠ .firmware → s.standby = true → (∀ k d, s.spool.wjOp ≠ .write k d) → s.get R.SYS_WAKECFG ≠ 0#32 →
        s.cmpWakes = 0#32 → s.get R.SYS_WAKETMR ≠ 0#32 →
        ∃ t, exec (.sleepRequest .exec w) s = .next t ∧ t.sys.asleep = true ∧ t.get R.SYS_PWRCTL = 3#32)
    ∧ (∀ w' : Word, fldOf w' 31 16 ≠ 0x9E37 → (∀ d, Plain s 2 d) → ∃ t d, exec (.runRequest .exec w') s = .next t ∧ RaisedIn s t 2 d ∧ t.regs = s.regs)
    ∧ (s.sys.exec = .firmware → s.sys.linkRun = true → s.fld R.SYS_PWRSTAT 1 0 < 2 → s.execInt = false → s.linkInt = false →
        ∃ t, exec .idleEntry s = .next t ∧ t.fld R.SYS_PWRSTAT 1 0 = 1 ∧ t.bit R.SYS_PWRSTAT 8 = true ∧ t.bit R.SYS_PWRSTAT 9 = true
          ∧ ∀ k, k ≠ R.SYS_PWRSTAT → t.get k = s.get k)
    ∧ (∃ t, exec (.idleExit .exec) s = .next t ∧ t.bit R.SYS_PWRSTAT 8 = false ∧ ∀ k, k ≠ R.SYS_PWRSTAT → t.get k = s.get k)
    ∧ (∃ t, exec (.idleExit .link) s = .next t ∧ t.bit R.SYS_PWRSTAT 9 = false ∧ ∀ k, k ≠ R.SYS_PWRSTAT → t.get k = s.get k)
    ∧ (s.standby = true → s.fld R.SYS_PWRCTL 1 0 = 0 → s.sys.monFail = 0#6 → s.sys.pllLost.getLsbD 0 = false →
        ∃ t, exec .pllbRelock s = .next t ∧ t.fld R.SYS_PWRSTAT 1 0 = 0 ∧ t.bit R.CLK_STAT 2 = true ∧ t.sys.pllStop.getLsbD 1 = false
          ∧ t.mot = s.mot ∧ t.pwm = s.pwm)

/-- PRES_N_CHANGE: presence holds while the ball is low and 600 s after a low of at least 20 ms; PRESENCE_EXPIRY ends the period (R53).
A falling PRES_N gives presence at once. A rise after a low of at least 20 ms leaves presence with 600 s; a rise after a shorter low
changes no period. PRESENCE_EXPIRY with the ball high ends presence. Nothing but the presence state changes. -/
def Obligations.PresenceRunsAfterALongLow : Prop :=
  ∀ s : State,
    (∀ ms : Nat, ∃ t, exec (.presNChange false ms) s = .next t ∧ t.presence = true ∧ t.spool.presLow = true ∧ t.spool.presLeft = s.spool.presLeft)
    ∧ (∀ ms : Nat, 20 ≤ ms → s.spool.presLow = true → ∃ t, exec (.presNChange true ms) s = .next t ∧ t.presence = true
        ∧ t.spool.presLow = false ∧ t.spool.presLeft = 600000000000 ∧ t.regs = s.regs ∧ t.mot = s.mot)
    ∧ (∀ ms : Nat, ms < 20 → ∃ t, exec (.presNChange true ms) s = .next t ∧ t.spool.presLow = false
        ∧ t.spool.presLeft = s.spool.presLeft ∧ t.presence = decide (s.spool.presLeft ≠ 0))
    ∧ (∃ t, exec .presenceExpiry s = .next t ∧ t.presence = s.spool.presLow ∧ t.regs = s.regs ∧ t.mot = s.mot)

/-- TIM_TIME_WRITE by EXEC or LINK sets SYS_TIME in 5 ns and the next tick; other masters are ignored; TIMER_ALARM ungates its core (R9, R22, R23, R74, spec/01_architecture.md).
Where the write reaches TIM_TIME. By EXEC or LINK: SYS_TIME is HI and LO rounded down to 5 ns, the remainder is cleared, and the next
motion tick is due at the first multiple of 25,000 ns at or above it; registers and axes stand. By another master the write is ignored and
WRITE_IGNORED is raised (its reaction resetting nothing). TIMER_ALARM of an alarm whose time has come, with the block and the alarm
enabled, ungates EXEC (alarm 0) or LINK (alarm 1). Where the spec leaves a point open, what is said of it is the model's choice (log entry
93). -/
def Obligations.TimeIsWrittenAndAlarmsUngate : Prop :=
  ∀ s : State,
    (∀ (m : Master) (hi lo : Word), s.opens m (R.TIM_TIME / 128) = true → m = .exec ∨ m = .link → ∃ t, exec (.timTimeWrite m hi lo) s = .next t
        ∧ t.sys.time = (hi.toNat * 4294967296 + lo.toNat) / 5 * 5 ∧ t.sys.rem = 0
        ∧ t.sys.tickDue % 25000 = 0 ∧ t.sys.time ≤ t.sys.tickDue ∧ t.sys.tickDue < t.sys.time + 25000
        ∧ t.regs = s.regs ∧ t.mot = s.mot ∧ t.fc = s.fc)
    ∧ (∀ (m : Master) (hi lo : Word), s.opens m (R.TIM_TIME / 128) = true → m ≠ .exec → m ≠ .link → (∀ d, Plain s 2 d) → ∃ t, exec (.timTimeWrite m hi lo) s = .next t
        ∧ RaisedIn s t 2 (accessDetail m R.TIM_TIME) ∧ t.sys.time = s.sys.time ∧ t.sys.tickDue = s.sys.tickDue ∧ t.regs = s.regs)
    ∧ (∀ a : Fin 2, s.bit R.TIM_CFG 31 = true → s.bit R.TIM_CFG a = true →
        s.wideU (if a.val = 0 then R.TIM_ALM0 else R.TIM_ALM1) ≤ s.sys.time → ∃ t, exec (.timerAlarm a) s = .next t
        ∧ t.bit R.SYS_PWRSTAT (8 + a) = false ∧ t.bit R.SYS_PWRSTAT (9 - a) = s.bit R.SYS_PWRSTAT (9 - a)
        ∧ ∀ k, k ≠ R.SYS_PWRSTAT → t.get k = s.get k)

/-- CLOCK_MONITOR_WINDOW stores its count, fails a monitor on the second window out of range alone; PLL_LOCK_LOSS raises its source (R18, R19, R20, R93, spec/01_architecture.md).
With no monitor failing and no clock source present. A window within range: CLK_CNT holds the count, CLK_STAT's bit of the monitor reads
1, nothing is raised. A first window out of range: the count is stored, the bit stands, nothing is raised. A second in a row of monitor 3:
its bit reads 0 and CLK_PLLA is raised. PLL_LOCK_LOSS of PLL-A: its lock bit reads 0 and CLK_PLLA is raised; of PLL-B (reaction resetting
nothing): CLK_PLLB. Axes, gates and safety channels stand. -/
def Obligations.ClockMonitorsJudgeWindows : Prop :=
  ∀ s : State, s.sys.monFail = 0#6 → s.sys.pllLost = 0#2 → (∀ n, 11 ≤ n → n ≤ 15 → s.present n = false) →
    (∀ (n : Fin 6) (c : BitVec 16), (monRange n).1 ≤ c.toNat → c.toNat ≤ (monRange n).2 →
        ∃ t, exec (.clockMonitorWindow n c) s = .next t ∧ t.get (R.CLK_CNT n) = wordOfNat c.toNat ∧ t.bit R.CLK_STAT (3 + n) = true
          ∧ t.fc = s.fc ∧ t.sys.monFail = 0#6 ∧ t.mot = s.mot ∧ t.pwm = s.pwm ∧ t.saf = s.saf)
    ∧ (∀ (n : Fin 6) (c : BitVec 16), ¬ ((monRange n).1 ≤ c.toNat ∧ c.toNat ≤ (monRange n).2) → s.sys.monOut.getLsbD n = false →
        ∃ t, exec (.clockMonitorWindow n c) s = .next t ∧ t.get (R.CLK_CNT n) = wordOfNat c.toNat
          ∧ t.bit R.CLK_STAT (3 + n) = s.bit R.CLK_STAT (3 + n) ∧ t.sys.monOut.getLsbD n = true ∧ t.fc = s.fc ∧ t.sys.monFail = 0#6)
    ∧ (∀ c : BitVec 16, ¬ ((monRange 3).1 ≤ c.toNat ∧ c.toNat ≤ (monRange 3).2) → s.sys.monOut.getLsbD 3 = true → (∀ d, Plain s 14 d) →
        ∃ t d, exec (.clockMonitorWindow 3 c) s = .next t ∧ t.bit R.CLK_STAT 6 = false ∧ RaisedIn s t 14 d ∧ t.present 14 = true
          ∧ t.mot = s.mot ∧ t.pwm = s.pwm ∧ t.saf = s.saf)
    ∧ (∀ stopped : Bool, (∀ d, Plain s 14 d) → ∃ t d, exec (.pllLockLoss .pllA stopped) s = .next t ∧ t.bit R.CLK_STAT 1 = false
        ∧ RaisedIn s t 14 d ∧ t.sys.pllStop.getLsbD 0 = stopped ∧ t.mot = s.mot ∧ t.pwm = s.pwm ∧ t.saf = s.saf)
    ∧ (∀ stopped : Bool, (∀ d, Plain s 15 d) → ∃ t d, exec (.pllLockLoss .pllB stopped) s = .next t ∧ t.bit R.CLK_STAT 2 = false
        ∧ RaisedIn s t 15 d ∧ t.sys.pllStop.getLsbD 1 = stopped ∧ t.mot = s.mot ∧ t.pwm = s.pwm ∧ t.saf = s.saf)

/-- Darned memories: reads, narrow writes and scrubs correct and count a single error, and report a double one; SYS_DARNCLR clears counters (R24, R25, R26, R27, R28, R29, R30, spec/01_architecture.md).
For a word of a memory that holds no double error. A read answers its eight words, lowest first; with a single error its memory's counter
takes the word and counts up to 65,535, otherwise no register changes. A narrow write to a RAM replaces one 32-bit lane of the word and
leaves the other lanes and the other words. A scrub visit with a single error counts. A read that finds a double error (the source's
reaction resetting nothing, no SAFE core memory) raises the memory's source, and answers a serial master eight zeros and an internal one a
bus error. SYS_DARNCLR, where it reaches the register, clears exactly the counters its bits name, and corrections in the cycle of the
clear count after it. Where the spec leaves a point open, what is said of it is the model's choice (log entry 16). -/
def Obligations.DarnedMemoriesCorrectAndReport : Prop :=
  ∀ (s : State) (mem : DarnMem) (word : Nat), word < darnSize mem →
    (∀ m : Master, s.isUe mem word = false → ∃ t, exec (.darnedMemoryRead m mem word .none) s = .next t ∧ t.out.busErr = false
        ∧ t.out.words = (List.range 8).map (laneOf (s.darnGet mem word)) ∧ t.regs = s.regs ∧ t.fc = s.fc)
    ∧ (∀ m : Master, s.isUe mem word = false → ∃ t, exec (.darnedMemoryRead m mem word .single) s = .next t
        ∧ t.out.words = (List.range 8).map (laneOf (s.darnGet mem word))
        ∧ t.fld (R.SYS_DARN (darnNum mem)) 31 16 = min 65535 (s.fld (R.SYS_DARN (darnNum mem)) 31 16 + 1)
        ∧ t.fld (R.SYS_DARN (darnNum mem)) 15 0 = word ∧ t.fc = s.fc)
    ∧ (∀ m : Master, mem ≠ .safe → mem ≠ .srom → (∀ d, Plain s (16 + darnNum mem) d) → ∃ t, exec (.darnedMemoryRead m mem word .double) s = .next t
        ∧ RaisedIn s t (16 + darnNum mem) (wordOfNat word) ∧ t.isUe mem word = true
        ∧ (m.serial = true → t.out.words = List.replicate 8 0#32) ∧ (m.serial = false → t.out.busErr = true) ∧ t.regs = s.regs)
    ∧ (∀ (m : Master) (lane : Fin 8) (w : Word), mem ≠ .erom → mem ≠ .srom → s.isUe mem word = false →
        ∃ t, exec (.narrowMemoryWrite m mem word lane w .none) s = .next t
          ∧ (∀ i < 8, laneOf (t.darnGet mem word) i = if i = lane then w else laneOf (s.darnGet mem word) i)
          ∧ (∀ j, j ≠ word → j < darnSize mem → t.darnGet mem j = s.darnGet mem j) ∧ t.regs = s.regs ∧ t.mot = s.mot)
    ∧ (s.isUe mem word = false → s.sys.chipReset = false → ∃ t, exec (.scrubVisit [(mem, word, .single, false)]) s = .next t
        ∧ t.fld (R.SYS_DARN (darnNum mem)) 31 16 = min 65535 (s.fld (R.SYS_DARN (darnNum mem)) 31 16 + 1) ∧ t.fc = s.fc)
    ∧ (∀ (m : Master) (w : Word), s.opens m 0x01 = true → ∃ t, exec (.sysDarnclr m w []) s = .next t
        ∧ (∀ n < 8, t.get (R.SYS_DARN n) = if bitOf w n then 0#32 else s.get (R.SYS_DARN n))
        ∧ ∀ k, (∀ n < 8, k ≠ R.SYS_DARN n) → t.get k = s.get k)
    ∧ (∀ (m : Master) (w : Word) (same : List (DarnMem × Nat)), s.opens m 0x01 = true → ∃ t, exec (.sysDarnclr m w same) s = .next t
        ∧ (∀ n < 8, t.fld (R.SYS_DARN n) 31 16
            = min 65535 ((if bitOf w n then 0 else s.fld (R.SYS_DARN n) 31 16) + same.countP fun e => decide (darnNum e.1 = n)))
        ∧ ∀ k, (∀ n < 8, k ≠ R.SYS_DARN n) → t.get k = s.get k)

/-- BUS_TIMEOUT, an access whose clock is absent, and PARITY_SCRUB raise their sources, and leave every register as it was (R17, R90, R102, R333, spec/01_architecture.md, spec/04_host_port.md).
With reactions that reset nothing. BUS_TIMEOUT: no effect but the raised source with the master and address, and a bus error for an
internal master. A register access of a command with its own row behaves the same where its page's clock is absent, and has no effect on a
page that a strap fault closes to a serial master, on a block held in reset, or outside the time in which the port is open; where it
reaches its register it is the command's write. PARITY_SCRUB of a parity-protected register outside the collector: its block's CFG_PARITY
source is raised with page and index as its condition starts, and every register keeps its value; of a register without parity: nothing
happens. Where the spec leaves a point open, what is said of it is the model's choice (log entries 10, 91). -/
def Obligations.AccessesFailAndParityReports : Prop :=
  ∀ s : State,
    (∀ (m : Master) (p : Page) (i : Index), (∀ d, Plain s 1 d) → ∃ t, exec (.busTimeout m p i) s = .next t
        ∧ RaisedIn s t 1 (accessDetail m (regKey p i)) ∧ t.regs = s.regs ∧ t.mot = s.mot ∧ t.ctxRam = s.ctxRam
        ∧ t.out.busErr = !m.serial ∧ t.out.words = [])
    ∧ (∀ (m : Master) (k : Nat) (f : State → State), (∀ d, Plain s 1 d) → s.portOpen = true → (m.serial = true → s.pageServed (k / 128) = true) →
        s.clockGone (k / 128) = true → RaisedIn s (s.access m k f) 1 (accessDetail m k) ∧ (s.access m k f).regs = s.regs
          ∧ (s.access m k f).mot = s.mot ∧ (s.access m k f).out.busErr = !m.serial)
    ∧ (∀ (m : Master) (k : Nat) (f : State → State), s.portOpen = false ∨ (m.serial = true ∧ s.pageServed (k / 128) = false)
          ∨ (s.held (k / 128) = true ∧ s.clockGone (k / 128) = false) →
        (s.access m k f).regs = s.regs ∧ (s.access m k f).fc = s.fc ∧ (s.access m k f).mot = s.mot ∧ (s.access m k f).out = {})
    ∧ (∀ (m : Master) (k : Nat) (f : State → State), s.opens m (k / 128) = true → s.access m k f = f (s.opened m))
    ∧ (∀ (p : Page) (i : Index) (r : RegRow), regRow (regKey p i) = some r → r.parity = true → p.val ≠ 0x08 → p.val ≠ 0x09 → p.val ≠ 0x0A →
        s.present (paritySource p) = false → (∀ d, Plain s (paritySource p) d) → ∃ t, exec (.parityScrub p i) s = .next t
        ∧ RaisedIn s t (paritySource p) (wordOfNat (p.val * 256 + i.val)) ∧ t.present (paritySource p) = true ∧ t.regs = s.regs ∧ t.pwm = s.pwm)
    ∧ (∀ (p : Page) (i : Index), (∀ r, regRow (regKey p i) = some r → r.parity = false) → exec (.parityScrub p i) s = .next s.quiet)

/-- FAULT_RAISE records by its reaction, up to block and chip resets; FC_CLR, FC_ACK and FC_SWSET change exactly what their bits name (R333, R335, R337, R339, R340, R344, spec/15_fault_collector.md).
FAULT_RAISE of one source not already present, outside a chip reset: with a reaction that resets nothing, its record is latched or counted
with that reaction and FPIN, PEND set unless the reaction is NONE, and registers, axes and gates stand; with BRST, its target pages are in
block reset and the record is latched; with CRST, a chip reset starts with the source's cause. Where the writes reach their registers:
FC_CLR clears the record of each source whose bit is 1 and whose condition is absent, FC_ACK clears PEND of each latched record whose bit
is 1, every other record stands. FC_SWSET (reactions resetting nothing): the conditions of SW0 to SW3 follow its four bits, and each that
starts is recorded. Where the spec leaves a point open, what is said of it is the model's choice (log entry 14). -/
def Obligations.CollectorRecordsAndAcknowledges : Prop :=
  ∀ s : State,
    (∀ (src : Source) (d : Word), src.val < 126 → s.present src = false → s.sys.chipReset = false →
      (((s.applied src d).1 < 3 → ∃ t, exec (.faultRaise [(src, d)]) s = .next t ∧ RaisedIn s t src d
          ∧ (t.fcRec src).react = (s.applied src d).1 ∧ (t.fcRec src).fpin = (s.applied src d).2
          ∧ (t.fcRec src).pend = ((s.fcRec src).latch && (s.fcRec src).pend || (s.applied src d).1 ≠ 0) ∧ t.regs = s.regs ∧ t.mot = s.mot ∧ t.pwm = s.pwm ∧ ∀ n, n ≠ src.val → t.fcRec n = s.fcRec n)
      ∧ ((s.applied src d).1 = 3 → ∃ t, exec (.faultRaise [(src, d)]) s = .next t ∧ RaisedIn s t src d
          ∧ (∀ p ∈ brstTargets src d, p ∈ t.sys.blockRst) ∧ t.ctxRam = s.ctxRam ∧ t.spool = s.spool)
      ∧ ((s.applied src d).1 = 4 → ∃ t, exec (.faultRaise [(src, d)]) s = .next t ∧ StartsReset s t (.crst src))))
    ∧ (∀ (m : Master) (j : Fin 4) (w : Word), s.opens m (R.FC_CLR j / 128) = true → ∃ t, exec (.fcClr m j w) s = .next t ∧ t.regs = s.regs ∧ t.fcPresent = s.fcPresent
        ∧ (∀ i < 32, bitOf w i = true → s.present (32 * j + i) = false → t.fcRec (32 * j + i) = {})
        ∧ (∀ n, n / 32 ≠ j ∨ bitOf w (n % 32) = false ∨ s.present n = true → t.fcRec n = s.fcRec n))
    ∧ (∀ (m : Master) (j : Fin 4) (w : Word), s.opens m (R.FC_ACK j / 128) = true → ∃ t, exec (.fcAck m j w) s = .next t ∧ t.regs = s.regs ∧ t.fcPresent = s.fcPresent
        ∧ (∀ i < 32, bitOf w i = true → (s.fcRec (32 * j + i)).latch = true →
            t.fcRec (32 * j + i) = { s.fcRec (32 * j + i) with pend := false })
        ∧ (∀ n, n / 32 ≠ j ∨ bitOf w (n % 32) = false ∨ (s.fcRec n).latch = false → t.fcRec n = s.fcRec n))
    ∧ (∀ (m : Master) (w : Word), s.opens m (R.FC_SWSET / 128) = true → (∀ i < 4, ∀ d, Plain s (122 + i) d) → ∃ t, exec (.fcSwset m w) s = .next t
        ∧ t.get R.FC_SWSET = w &&& 0xF#32 ∧ (∀ i < 4, t.present (122 + i) = bitOf w i)
        ∧ (∀ i < 4, bitOf w i = true → s.present (122 + i) = false → (t.fcRec (122 + i)).latch = true)
        ∧ (∀ i < 4, bitOf w i = false ∨ s.present (122 + i) = true → t.fcRec (122 + i) = s.fcRec (122 + i)) ∧ t.mot = s.mot ∧ t.pwm = s.pwm)

/-- STO balls: a ball that falls ends its group's enable at both channels; qualification, discrepancy and its clearing at one channel (R314, R315, R316, R317, spec/14_safety.md).
With no source set to CRST. STO_CHANGE gives the ball its level at the channel; a fall ends the group's qualification there, and no axis
of the group is enabled afterwards; the other channel's balls stand. STO_QUALIFIED at a running channel whose balls both read 1 qualifies
the group there. STO_DISCREPANCY while the balls differ latches the discrepancy, and no axis of the group is enabled. DISCREPANCY_CLEAR
while both read 0 clears that channel's latch. The ceilings, senses and safe state stand throughout. Where the spec leaves a point open,
what is said of it is the model's choice (log entry 20). -/
def Obligations.StoDemandsAndQualification : Prop :=
  ∀ (s : State) (ch : Channel) (g : Group), NoCrst s →
    (∀ (ball : StoBall) (level : Bool), ∃ t, exec (.stoChange ch ball level) s = .next t
        ∧ (t.saf.chan ch).balls = bvPut (s.saf.chan ch).balls (ballNum ball) level
        ∧ (level = false → (t.saf.chan ch).qual.getLsbD (ballNum ball / 2) = false
            ∧ ∀ ax : Axis, ax.val / 4 = ballNum ball / 2 → t.granted ax = false)
        ∧ t.saf.safe = s.saf.safe ∧ t.saf.ceil = s.saf.ceil ∧ t.saf.sense = s.saf.sense ∧ t.saf.s.latched = s.saf.s.latched
        ∧ t.saf.h.latched = s.saf.h.latched ∧ t.fw = s.fw ∧ t.spool = s.spool)
    ∧ ((s.saf.chan ch).ready = true → (s.saf.chan ch).ballsRead g true = true → ∃ t, exec (.stoQualified ch g) s = .next t
        ∧ (t.saf.chan ch).qual.getLsbD g = true ∧ (t.saf.chan ch).dem.getLsbD g = false ∧ t.saf.safe = s.saf.safe ∧ t.saf.ceil = s.saf.ceil)
    ∧ ((s.saf.chan ch).ballsRead g true = false → (s.saf.chan ch).ballsRead g false = false → ∃ t, exec (.stoDiscrepancy ch g) s = .next t
        ∧ (t.saf.chan ch).disc.getLsbD g = true ∧ (∀ ax : Axis, ax.val / 4 = g.val → t.granted ax = false) ∧ t.saf.safe = s.saf.safe)
    ∧ ((s.saf.chan ch).ballsRead g false = true → ∃ t, exec (.discrepancyClear ch g) s = .next t
        ∧ (t.saf.chan ch).disc.getLsbD g = false ∧ t.saf.safe = s.saf.safe ∧ t.saf.ceil = s.saf.ceil)

/-- SEAL_SAMPLE latches two agreeing valid samples, and takes the channels into the safe state on an invalid or a changed code (R311, R312, R326, R331, spec/14_safety.md).
With no source set to CRST. A second agreeing sample at a channel without a latch and the other without one: a code with an even number of
1 bits is latched and no safe state is entered; another code gives the safe state with cause 1. With a latch: a sample that differs is
noted and a second in a row gives cause 2; one that agrees clears the note. SELVEDGE_READY with two equal valid samples and no latch at
either channel latches the code and sets the Selvedge logic ready. Where the spec leaves a point open, what is said of it is the model's
choice (log entry 20). -/
def Obligations.SealedCodeLatchesOrStops : Prop :=
  ∀ (s : State) (ch : Channel) (code : Byte), NoCrst s →
    (s.saf.s.latched = none → s.saf.h.latched = none → (s.saf.chan ch).sampled = true → (s.saf.chan ch).live = code →
        sealValid code = true → ∃ t, exec (.sealSample ch code) s = .next t
          ∧ (t.saf.chan ch).latched = some code ∧ t.saf.safe = s.saf.safe ∧ t.mot = s.mot ∧ t.pwm = s.pwm)
    ∧ ((s.saf.chan ch).latched = none → (s.saf.chan ch).sampled = true → (s.saf.chan ch).live = code → sealValid code = false →
        ∃ t, exec (.sealSample ch code) s = .next t ∧ (t.saf.chan ch).latched = some code ∧ EntersSafe s t 1)
    ∧ (∀ l : Byte, (s.saf.chan ch).latched = some l → code ≠ l → (s.saf.chan ch).differs = false →
        ∃ t, exec (.sealSample ch code) s = .next t ∧ (t.saf.chan ch).differs = true ∧ (t.saf.chan ch).latched = some l
          ∧ t.saf.safe = s.saf.safe ∧ t.pwm = s.pwm)
    ∧ (∀ l : Byte, (s.saf.chan ch).latched = some l → code ≠ l → (s.saf.chan ch).differs = true →
        ∃ t, exec (.sealSample ch code) s = .next t ∧ EntersSafe s t 2)
    ∧ ((s.saf.chan ch).latched = some code → ∃ t, exec (.sealSample ch code) s = .next t ∧ (t.saf.chan ch).differs = false
          ∧ t.saf.safe = s.saf.safe)
    ∧ (s.saf.s.latched = none → s.saf.h.latched = none → sealValid code = true → ∃ t, exec (.selvedgeReady code code) s = .next t
          ∧ t.saf.h.latched = some code ∧ t.saf.h.ready = true ∧ t.saf.h.qual = 0#2 ∧ t.saf.safe = s.saf.safe)

/-- SELVEDGE_SINC2_RESULT and SAFE_CURRENT_EVAL: the result that completes the count above the class ceiling trips its axis; a stopped channel evaluates none (R318, R319, R320, R321, spec/14_safety.md).
With no source set to CRST, for an axis of an enabled pair. At the running Selvedge logic, a coil A result above the class ceiling after
15 in a row trips the axis there, and the axis is not enabled. At the running SAFE core, an amplitude above the class ceiling after three
in a row trips it there. A channel that is not ready evaluates nothing: its axes' counters and its trips stand. Where the spec leaves a
point open, what is said of it is the model's choice (log entry 20). -/
def Obligations.CurrentSupervisionTripsAnAxis : Prop :=
  ∀ (s : State) (ax : Axis), NoCrst s →
    (∀ xs : List ModSample, s.saf.h.ready = true → pairOn s.saf.h.code ax = true →
        (classCeil s.saf.h.code : Int) * 125 < (s.scaled (coilOf ax .a) (sampleAt xs (coilOf ax .a)).code).natAbs →
        15 ≤ (vget s.saf.h.axes ax).sf2A → ∃ t, exec (.selvedgeSinc2Result xs) s = .next t
          ∧ t.saf.h.trip2.getLsbD ax = true ∧ t.granted ax = false ∧ t.saf.s.trip2 = s.saf.s.trip2 ∧ t.saf.safe = s.saf.safe)
    ∧ (s.saf.s.ready = true → pairOn s.saf.s.code ax = true → 3 ≤ (vget s.saf.s.axes ax).sf2A →
        ((classCeil s.saf.s.code : Int) * 1000) * ((classCeil s.saf.s.code : Int) * 1000)
          < (vget s.saf.s.axes ax).sumA * (vget s.saf.s.axes ax).sumA + (vget s.saf.s.axes ax).sumB * (vget s.saf.s.axes ax).sumB →
        ∃ t, exec .safeCurrentEval s = .next t ∧ t.saf.s.trip2.getLsbD ax = true ∧ t.granted ax = false
          ∧ t.saf.h.trip2 = s.saf.h.trip2 ∧ t.saf.safe = s.saf.safe)
    ∧ (∀ xs : List ModSample, s.saf.h.ready = false → ∃ t, exec (.selvedgeSinc2Result xs) s = .next t
          ∧ t.saf.h.axes = s.saf.h.axes ∧ t.saf.h.trip2 = s.saf.h.trip2 ∧ t.saf.h.trip3 = s.saf.h.trip3)
    ∧ (s.saf.s.ready = false → ∃ t, exec .safeCurrentEval s = .next t
          ∧ t.saf.s.axes = s.saf.s.axes ∧ t.saf.s.trip2 = s.saf.s.trip2 ∧ t.saf.s.trip3 = s.saf.s.trip3)

/-- Standstill, cross-comparison, readback, decay, ROM check, watchdog and collector faults: what each leaves in the channels (R308, R309, R322, R325, R326, R328, R331, R332, R343, R344, spec/14_safety.md).
With no source set to CRST. STANDSTILL_DECLARE of an enabled pair sets the channel's declaration, STANDSTILL_WITHDRAW clears it.
CROSS_COMPARISON of two running channels whose words agree clears the count; the third that differs, or the third without a word of a
channel whose clock stopped, gives the safe state with cause 4. An enable read back high while the channel's own is 0 gives cause 7, a
stop line high against its command cause 5, a failed ROM check cause 10, the SAFE watchdog cause 8; with the own enable or command high,
or a good check, nothing changes. ENABLE_DECAY ends the channel's readiness, and no axis is enabled. A fault of the collector in itself
puts it into its safe state, and no axis is enabled. Where the spec leaves a point open, what is said of it is the model's choice (log
entry 20). -/
def Obligations.ChannelsWatchThemselves : Prop :=
  ∀ (s : State) (ch : Channel) (ax : Axis) (g : Group), NoCrst s →
    (pairOn (s.saf.chan ch).code ax = true → ∃ t, exec (.standstillDeclare ch ax) s = .next t ∧ (t.saf.chan ch).still.getLsbD ax = true
        ∧ t.granted ax = s.granted ax ∧ t.mot = s.mot)
    ∧ (∃ t, exec (.standstillWithdraw ch ax) s = .next t ∧ (t.saf.chan ch).still.getLsbD ax = false ∧ t.sstill ax = false
        ∧ t.granted ax = s.granted ax)
    ∧ (s.saf.s.ready = true → s.saf.h.ready = true → s.saf.wordsDiffer = false → ∃ t, exec .crossComparison s = .next t
        ∧ t.saf.s.cmpBad = 0 ∧ t.saf.safe = s.saf.safe ∧ t.granted ax = s.granted ax)
    ∧ (s.saf.s.ready = true → s.saf.h.ready = true → s.saf.wordsDiffer = true → 2 ≤ s.saf.s.cmpBad →
        ∃ t, exec .crossComparison s = .next t ∧ EntersSafe s t 4)
    ∧ (s.saf.s.ready = true → s.saf.h.ready = false → s.sys.rchStop = true → 2 ≤ s.saf.s.silent → ∃ t, exec .crossComparison s = .next t ∧ EntersSafe s t 4)
    ∧ (s.saf.s.ready = false → s.saf.h.ready = true → s.sys.rcsStop = true → 2 ≤ s.saf.h.silent → ∃ t, exec .crossComparison s = .next t ∧ EntersSafe s t 4)
    ∧ ((s.saf.chan ch).en.getLsbD ax = false → ∃ t, exec (.enableReadbackFail ch ax) s = .next t ∧ EntersSafe s t 7)
    ∧ ((s.saf.chan ch).en.getLsbD ax = true → exec (.enableReadbackFail ch ax) s = .next s.quiet)
    ∧ (s.soutCmd ch g = false → ∃ t, exec (.soutReadbackFail ch g) s = .next t ∧ EntersSafe s t 5)
    ∧ (∃ t, exec (.enableDecay ch) s = .next t ∧ (t.saf.chan ch).ready = false ∧ t.granted ax = false ∧ t.saf.safe = s.saf.safe)
    ∧ (exec (.safeRomCheck true) s = .next s.quiet ∧ ∃ t, exec (.safeRomCheck false) s = .next t ∧ EntersSafe s t 10)
    ∧ (∃ t, exec .safeWatchdogExpiry s = .next t ∧ EntersSafe s t 8)
    ∧ (∀ ver : BitVec 16, s.saf.s.latched ≠ none → ∃ t, exec (.safeCoreReady true ver) s = .next t ∧ t.saf.s.ready = true
        ∧ t.saf.romVer = ver ∧ t.saf.s.qual = 0#2 ∧ t.saf.safe = s.saf.safe)
    ∧ (∀ f : CollectorFault, ∃ t, exec (.collectorFault f) s = .next t ∧ t.fcSafe = true ∧ t.granted ax = false ∧ t.saf.safe = s.saf.safe)

/-- DARK_PULSE_START runs on a line that is high alone; DARK_PULSE_END counts a pass or a discard, or gives cause 6 (R329, R330, spec/14_safety.md).
With no source set to CRST. A dark pulse starts on a stop line that is driven high and on no other. At its end a pulse that met a demand
is discarded and counted so; one that read back low counts as passed; one that did not gives the safe state with cause 6. Nothing else
changes in the first two. -/
def Obligations.StopLinesPulseDark : Prop :=
  ∀ (s : State) (g : Group), NoCrst s →
    (s.soutHigh g = true → ∃ t, exec (.darkPulseStart g) s = .next t ∧ t.saf.dark.getLsbD g = true ∧ t.saf.darkHit.getLsbD g = false
        ∧ t.saf.s = s.saf.s ∧ t.saf.h = s.saf.h ∧ t.saf.safe = s.saf.safe)
    ∧ (s.soutHigh g = false → exec (.darkPulseStart g) s = .next s.quiet)
    ∧ (∀ low : Bool, s.saf.dark.getLsbD g = true → s.saf.darkHit.getLsbD g = true → ∃ t, exec (.darkPulseEnd g low) s = .next t
        ∧ t.saf.discarded = s.saf.discarded + 1 ∧ t.saf.pass = s.saf.pass ∧ t.saf.dark.getLsbD g = false ∧ t.saf.safe = s.saf.safe)
    ∧ (s.saf.dark.getLsbD g = true → s.saf.darkHit.getLsbD g = false → ∃ t, exec (.darkPulseEnd g true) s = .next t
        ∧ t.saf.pass = s.saf.pass + 1 ∧ t.saf.discarded = s.saf.discarded ∧ t.saf.dark.getLsbD g = false ∧ t.saf.safe = s.saf.safe)
    ∧ (s.saf.dark.getLsbD g = true → s.saf.darkHit.getLsbD g = false → ∃ t, exec (.darkPulseEnd g false) s = .next t ∧ EntersSafe s t 6)

/-- STOP, CEIL, SENSE and CLEAR: the running SAFE core takes the word on WCH1, acts on it, and answers its result on WCH0 (R317, R320, R321, R324, spec/14_safety.md).
With no source set to CRST, WCH1 full, WCH0 empty, the word channels bound as after chip reset, the SAFE core ready. STOP with bit 0:
SAFE_STOP is applied to the named groups. CEIL at or below the class ceiling, where no other ceiling is configured or presence holds: the
axis's ceiling is configured. SENSE likewise. CEIL above the class ceiling is refused with result 1 and no ceiling changes. CLEAR with no
cause present: the named axes' trips are clear in both channels. In each case the word is taken, WCH0 is full, and its word repeats REQ
and SEQ with the result in [19:16]. Where the spec leaves a point open, what is said of it is the model's choice (log entry 21). -/
def Obligations.SafetyRequestsAreServed : Prop :=
  ∀ (s : State) (w : Word), NoCrst s → s.get (R.MBX_WDATA 1) = w → s.wFull 1 = true → s.wFull 0 = false →
    s.sndOf 8 = 3 → s.rcvOf 9 = 3 → s.saf.s.ready = true →
    (fldOf w 31 28 = 1 → bitOf w 0 = true → ∃ t, exec .stop s = .next t ∧ t.wFull 1 = false ∧ t.wFull 0 = true
        ∧ t.saf.stop = s.saf.stop ||| s.groupsOf (fldOf w 21 20) ∧ fldOf (t.get (R.MBX_WDATA 0)) 31 24 = fldOf w 31 24
        ∧ fldOf (t.get (R.MBX_WDATA 0)) 19 16 = 0)
    ∧ (fldOf w 31 28 = 2 → fldOf w 11 0 ≤ classCeil s.saf.s.code →
        vget s.saf.ceil (axisAt (fldOf w 22 20)) = none ∨ vget s.saf.ceil (axisAt (fldOf w 22 20)) = some (fldOf w 11 0) ∨ s.presence = true →
        ∃ t, exec .ceil s = .next t ∧ t.wFull 1 = false ∧ t.wFull 0 = true
          ∧ t.saf.ceil = vset s.saf.ceil (axisAt (fldOf w 22 20)) (some (fldOf w 11 0)) ∧ fldOf (t.get (R.MBX_WDATA 0)) 31 24 = fldOf w 31 24
          ∧ fldOf (t.get (R.MBX_WDATA 0)) 19 16 = 0 ∧ t.mot = s.mot ∧ t.pwm = s.pwm)
    ∧ (fldOf w 31 28 = 2 → classCeil s.saf.s.code < fldOf w 11 0 → ∃ t, exec .ceil s = .next t ∧ t.saf.ceil = s.saf.ceil
          ∧ t.wFull 1 = false ∧ t.wFull 0 = true ∧ fldOf (t.get (R.MBX_WDATA 0)) 19 16 = 1)
    ∧ (fldOf w 31 28 = 3 →
        vget s.saf.sense (axisAt (fldOf w 22 20)) = none ∨ vget s.saf.sense (axisAt (fldOf w 22 20)) = some (bitOf w 0) ∨ s.presence = true →
        ∃ t, exec .sense s = .next t ∧ t.wFull 1 = false ∧ t.wFull 0 = true
          ∧ t.saf.sense = vset s.saf.sense (axisAt (fldOf w 22 20)) (some (bitOf w 0)) ∧ fldOf (t.get (R.MBX_WDATA 0)) 19 16 = 0
          ∧ t.mot = s.mot ∧ t.pwm = s.pwm)
    ∧ (fldOf w 31 28 = 4 → (∀ ax : Axis, (vget s.saf.s.axes ax).causeNow = false ∧ (vget s.saf.h.axes ax).causeNow = false) →
        ∃ t, exec .clear s = .next t ∧ t.wFull 1 = false ∧ t.wFull 0 = true ∧ fldOf (t.get (R.MBX_WDATA 0)) 19 16 = 0
          ∧ ∀ ax : Axis, bitOf w ax = true → t.saf.s.trip2.getLsbD ax = false ∧ t.saf.h.trip2.getLsbD ax = false
              ∧ t.saf.s.trip3.getLsbD ax = false ∧ t.saf.h.trip3.getLsbD ax = false)

/-- Block and word channels: only the sender writes and only while empty; GO fills, counts and checks; TAKE and a word read empty them (R115, R116, R117, R118, R119, spec/05_mailboxes.md).
Where the access reaches its page. MSGk written by the channel's sender while FULL is 0 is stored and changes nothing else; while FULL is
1 it is refused with a bus error to an internal master and NAK to a serial port; by another master it is ignored with WRITE_IGNORED (its
reaction resetting nothing). GO by the sender of an empty channel, with no firmware running to serve it, sets FULL, counts SEQ modulo 256,
clears ORPHAN and sets CRCERR exactly when the check is on and fails. TAKE by the receiver of a full channel answers MSG0 and clears FULL
and ORPHAN. A word channel posts and takes likewise. -/
def Obligations.ChannelsPassMessages : Prop :=
  ∀ (s : State) (m : Master) (ch : Fin 8) (w : Word),
    (∀ k : Fin 16, s.opens m (bch ch k / 128) = true → m.id = s.sndOf ch → s.bFull ch = false → ∃ t, exec (.mailboxMsgWrite m ch k w) s = .next t ∧ t.get (bch ch k) = w
        ∧ (∀ j, j ≠ bch ch k → t.get j = s.get j) ∧ t.fc = s.fc ∧ t.mot = s.mot ∧ t.out = {})
    ∧ (∀ k : Fin 16, s.opens m (bch ch k / 128) = true → m.id = s.sndOf ch → s.bFull ch = true → ∃ t, exec (.mailboxMsgWrite m ch k w) s = .next t ∧ t.regs = s.regs
        ∧ t.out.busErr = !m.serial ∧ (m = .host → t.hostPort.nak = true) ∧ (m = .maint → t.maintPort.nak = true))
    ∧ (∀ k : Fin 16, s.opens m (bch ch k / 128) = true → m.id ≠ s.sndOf ch → (∀ d, Plain s 2 d) → ∃ t, exec (.mailboxMsgWrite m ch k w) s = .next t ∧ t.regs = s.regs
        ∧ RaisedIn s t 2 (accessDetail m (bch ch k)))
    ∧ (s.opens m (bch ch 0x10 / 128) = true → m.id = s.sndOf ch → s.bFull ch = false → bitOf w 0 = true → s.fwRuns = false → ∃ t, exec (.mailboxGo m ch w) s = .next t
        ∧ t.bFull ch = true ∧ t.fld (bch ch 0x11) 23 16 = (s.fld (bch ch 0x11) 23 16 + 1) % 256 ∧ t.bit (bch ch 0x11) 2 = s.crcBad ch
        ∧ t.bit (bch ch 0x11) 1 = false ∧ t.msg ch = s.msg ch ∧ ∀ j, j ≠ bch ch 0x11 → t.get j = s.get j)
    ∧ (s.opensRead m (bch ch 0x12 / 128) = true → m.id = s.rcvOf ch → s.bFull ch = true → s.fwRuns = false → ∃ t, exec (.mailboxTake m ch) s = .next t ∧ t.out.words = [s.get (bch ch 0)]
        ∧ t.bFull ch = false ∧ t.bit (bch ch 0x11) 1 = false ∧ ∀ j, j ≠ bch ch 0x11 → t.get j = s.get j)
    ∧ (s.opens m (R.MBX_WDATA ch / 128) = true → m.id = s.sndOf (8 + ch) → s.wFull ch = false → ∃ t, exec (.wordPost m ch w) s = .next t ∧ t.get (R.MBX_WDATA ch) = w ∧ t.wFull ch = true
        ∧ ∀ j, j ≠ R.MBX_WDATA ch → j ≠ R.MBX_WSTAT → t.get j = s.get j)
    ∧ (s.opensRead m (R.MBX_WDATA ch / 128) = true → m.id = s.rcvOf (8 + ch) → s.wFull ch = true → ∃ t, exec (.wordTake m ch) s = .next t ∧ t.out.words = [s.get (R.MBX_WDATA ch)]
        ∧ t.wFull ch = false ∧ ∀ j, j ≠ R.MBX_WSTAT → t.get j = s.get j)

/-- Bindings, LOCK, flags, ATTN, doorbell masks, HALT-ALL, READY and the maintenance mode: who may write, and what a write changes (R106, R107, R113, R114, R121, R122, R123, R124, R125, R129, spec/05_mailboxes.md).
Where the write reaches its register. Before LOCK, EXEC binds an empty channel, other than word channels 0 to 3, to two different masters;
under LOCK every binding write, by any master, changes no binding and raises LOCK_VIOLATION (its reaction resetting nothing). LOCK is set
by EXEC. A flag register takes bits 29:16 from its own master, a doorbell mask all bits from its own; ATTN takes the master's five bits
and leaves the others. A master with halt rights holds and releases its own bit of HALT-ALL: it reads held while any such bit stands.
READY by EXEC with firmware not yet running sets READY and LOCK. MAINT under presence writes the maintenance mode. -/
def Obligations.BindingsFlagsAndHaltAll : Prop :=
  ∀ (s : State) (m : Master) (w : Word),
    (∀ e : Fin 16, s.opens .exec 0x03 = true → e.val < 8 ∨ 12 ≤ e.val → s.bit R.MBX_LOCK 0 = false → (if e.val < 8 then s.bFull e else s.wFull (e - 8)) = false →
        fldOf w 2 0 ≠ fldOf w 6 4 → fldOf w 2 0 < 5 → fldOf w 6 4 < 5 → ∃ t, exec (.bindingWrite .exec e w) s = .next t
        ∧ t.sndOf e = fldOf w 2 0 ∧ t.rcvOf e = fldOf w 6 4 ∧ ∀ k, k ≠ R.MBX_BINDB e → t.get k = s.get k)
    ∧ (∀ e : Fin 16, s.opens m 0x03 = true → s.bit R.MBX_LOCK 0 = true → (∀ d, Plain s 3 d) → ∃ t, exec (.bindingWrite m e w) s = .next t ∧ t.regs = s.regs
        ∧ RaisedIn s t 3 (accessDetail m (R.MBX_BINDB e)))
    ∧ (s.opens .exec 0x03 = true → s.bit R.MBX_LOCK 0 = false → bitOf w 0 = true → ∃ t, exec (.bindingLock .exec w) s = .next t ∧ t.bit R.MBX_LOCK 0 = true
        ∧ ∀ k, k ≠ R.MBX_LOCK → t.get k = s.get k)
    ∧ (∀ sn u : Fin 5, s.opens m 0x03 = true → m.id = sn → ∃ t, exec (.flagWrite m sn u w) s = .next t ∧ t.get (R.MBX_FLAG (5 * sn + u)) = w &&& 0x3FFF0000#32
        ∧ ∀ k, k ≠ R.MBX_FLAG (5 * sn + u) → t.get k = s.get k)
    ∧ (s.opens m 0x03 = true → ∃ t, exec (.attnWrite m w) s = .next t ∧ (∀ i < 32, t.bit R.MBX_ATTN i = if i / 5 = m.id then bitOf w i else s.bit R.MBX_ATTN i)
        ∧ ∀ k, k ≠ R.MBX_ATTN → t.get k = s.get k)
    ∧ (∀ u : Fin 5, s.opens m 0x03 = true → m.id = u → ∃ t, exec (.dbmaskWrite m u w) s = .next t ∧ t.get (R.MBX_DBMASK u) = w
        ∧ ∀ k, k ≠ R.MBX_DBMASK u → t.get k = s.get k)
    ∧ (s.opens m 0x03 = true → s.bit R.MBX_HALTRT m.id = true → ∃ t, exec (.haltAllHold m) s = .next t ∧ t.haltAll = true ∧ t.bit R.MBX_HALT m.id = true
        ∧ ∀ k, k ≠ R.MBX_HALT → t.get k = s.get k)
    ∧ (s.opens m 0x03 = true → s.bit R.MBX_HALTRT m.id = true → ∃ t, exec (.haltAllRelease m) s = .next t ∧ t.bit R.MBX_HALT m.id = false
        ∧ (∀ i < 32, i ≠ m.id → t.bit R.MBX_HALT i = s.bit R.MBX_HALT i) ∧ ∀ k, k ≠ R.MBX_HALT → t.get k = s.get k)
    ∧ (s.opens .exec 0x00 = true → s.ready = false → bitOf w 0 = true → s.fwRuns = false → ∃ t, exec (.hspReadyWrite .exec w) s = .next t ∧ t.ready = true
        ∧ t.bit R.MBX_LOCK 0 = true ∧ ∀ k, k ≠ R.HSP_READY → k ≠ R.MBX_LOCK → t.get k = s.get k)
    ∧ (s.opens .maint 0x00 = true → s.presence = true → ∃ t, exec (.maintenanceModeWrite .maint w) s = .next t ∧ t.bit R.HSP_MODE 0 = bitOf w 0
        ∧ ∀ k, k ≠ R.HSP_MODE → t.get k = s.get k)

/-- HSP frames of either direction, HSP_PAGE, register writes of every width and address, and TEST_MODE_ENTRY: when each completes, and with what (R82, R84, R85, R86, R87, R90, R94, R96, R97, R106, spec/04_host_port.md).
With the port open (no chip reset, no SLEEP). WRITE_FRAME, bit 7 of its command byte 0: one of illegal length sets REJ and changes no
register; every legal one that meets no word of the test page completes, with NAK and no REJ where a word rejects it; one word that
nothing rejects is the bus write of its register. READ_FRAME, bit 7 set: every one that meets no word of the test page completes; a legal
one whose words are in time answers them, lowest index first, and the status byte; an illegal one sets REJ and reads without a side
effect. HSP_PAGE_WRITE moves its own port's page alone. REGISTER_WRITE: outside the test page every width, address and master completes; a
32-bit aligned one of an internal master, and one of a serial port that nothing rejects, is the bus write of its register; another width
or an unaligned address of an internal master gives BUS_SIZE and a bus error; an address outside the register space changes no register.
TEST_MODE_ENTRY before READY with no bridge enabled enters test mode, and otherwise changes nothing. In test mode a word of page 0x7E
stops the model, since the spec gives nothing of that page. With the port closed none of them changes anything. (Where firmware runs, it
then acts on what the access changed.) Where the spec leaves a point open, what is said of it is the model's choice (log entries 9, 13,
91). -/
def Obligations.SerialFramesAndRegisterWrites : Prop :=
  (∀ (s : State) (p : SerialPort) (cmd : Byte), s.portOpen = true →
    (∀ (ws : List Word) (edges : Nat), bitOf (cmd.setWidth 32) 7 = false → edges ≠ 0 → legalLength edges 8 1 (cmd.toNat % 128) = false →
        ∃ t, exec (.writeFrame p cmd ws edges) s = .next t ∧ (t.port p).rej = true ∧ (t.port p).page = (s.port p).page ∧ t.regs = s.regs
          ∧ t.mot = s.mot ∧ t.fc = s.fc)
    ∧ (∀ (ws : List Word) (edges : Nat), bitOf (cmd.setWidth 32) 7 = false → edges ≠ 0 → legalLength edges 8 1 (cmd.toNat % 128) = true →
        s.testAccess (s.port p).page (cmd.toNat % 128) (wordsBegun edges 8) = false →
        ∃ t, exec (.writeFrame p cmd ws edges) s = .next t
          ∧ (s.pageServed (s.port p).page = true → ∀ j < wordsBegun edges 8, frameIndex (cmd.toNat % 128) j ≠ 0x7F →
              s.wordNak (portMaster p) (regKey (s.port p).page (frameIndex (cmd.toNat % 128) j)) = true →
              (t.port p).rej = false ∧ (t.port p).nak = true))
    ∧ (∀ w : Word, bitOf (cmd.setWidth 32) 7 = false → cmd.toNat % 128 ≠ 0x7F → s.pageServed (s.port p).page = true →
        s.testAccess (s.port p).page (cmd.toNat % 128) 1 = false →
        s.wordNak (portMaster p) (regKey (s.port p).page (cmd.toNat % 128)) = false →
        exec (.writeFrame p cmd [w] 40) s = .next { ((s.quiet.busWrite (portMaster p) (regKey (s.port p).page (cmd.toNat % 128)) w).setPort p
          fun q => { page := q.page }).fwStep with out := {} })
    ∧ (∀ edges tck taken : Nat, bitOf (cmd.setWidth 32) 7 = true → edges ≠ 0 →
        s.testAccess (s.port p).page (cmd.toNat % 128) (wordsBegun edges (16 + 8 * s.padding p)) = false →
        ∃ t, exec (.readFrame p cmd edges tck taken) s = .next t
          ∧ (t.port p).rej = !legalLength edges (16 + 8 * s.padding p) 0 (cmd.toNat % 128)
          ∧ (9 ≤ edges → t.out.status = some (BitVec.ofNat 8 (s.statusByte (s.port p)))))
    ∧ (∀ n tck taken : Nat, bitOf (cmd.setWidth 32) 7 = true → n ≤ (if cmd.toNat % 128 = 0x7F then 1 else 32) →
        s.testAccess (s.port p).page (cmd.toNat % 128) n = false →
        (∀ j < n, s.late (s.port p).page (frameIndex (cmd.toNat % 128) j) j (s.padding p) tck = false) →
        ∃ t, exec (.readFrame p cmd (16 + 8 * s.padding p + 32 * n) tck taken) s = .next t
          ∧ t.out.words = (List.range n).map (fun j => s.frameWord p (s.port p).page (frameIndex (cmd.toNat % 128) j))
          ∧ (t.port p).rej = false ∧ (t.port p).undr = false)
    ∧ (∀ edges tck : Nat, bitOf (cmd.setWidth 32) 7 = true → edges ≠ 0 → legalLength edges (16 + 8 * s.padding p) 0 (cmd.toNat % 128) = false →
        s.testAccess (s.port p).page (cmd.toNat % 128) (wordsBegun edges (16 + 8 * s.padding p)) = false →
        ∃ t, exec (.readFrame p cmd edges tck 0) s = .next t ∧ (t.port p).rej = true ∧ t.regs = s.regs ∧ t.ctxRam = s.ctxRam ∧ t.fc = s.fc)
    ∧ (∀ w : Word, ∃ t, exec (.hspPageWrite p w) s = .next t ∧ (t.port p).page = w.toNat % 128 ∧ (∀ q, q ≠ p → t.port q = s.port q)
        ∧ t.regs = s.regs)
    ∧ (∀ edges tck taken : Nat, bitOf (cmd.setWidth 32) 7 = true → edges ≠ 0 →
        s.testAccess (s.port p).page (cmd.toNat % 128) (wordsBegun edges (16 + 8 * s.padding p)) = true →
        exec (.readFrame p cmd edges tck taken) s = .fault .testPage))
  ∧ (∀ (s : State) (m : Master) (addr w : Word), s.portOpen = true →
    (∀ width : Nat, s.sys.testMode = false ∨ (∀ k, keyAt addr = some k → k / 128 ≠ 0x7E ∨ k % 128 = 0x7F) →
        ∃ t, exec (.registerWrite m addr width w) s = .next t
          ∧ (s.fwRuns = false → keyAt addr = none → t.regs = s.regs ∧ t.fc = s.fc ∧ t.mot = s.mot ∧ t.out.busErr = false))
    ∧ (∀ k, s.sys.testMode = false ∨ k / 128 ≠ 0x7E → keyAt addr = some k → k % 128 ≠ 0x7F →
        (m.serial = false → fldOf addr 1 0 = 0) → (m.serial = true → s.pageServed (k / 128) = true ∧ s.wordNak m k = false) →
        exec (.registerWrite m addr 4 w) s = .next ((s.opened m).busWrite m k w).fwStep)
    ∧ (∀ (width : Nat) (k : Nat), s.sys.testMode = false ∨ k / 128 ≠ 0x7E → keyAt addr = some k → m.serial = false → s.fwRuns = false →
        width ≠ 4 ∨ fldOf addr 1 0 ≠ 0 → (∀ d, Plain s 0 d) → ∃ t, exec (.registerWrite m addr width w) s = .next t
          ∧ RaisedIn s t 0 (wordOfNat (m.id * 536870912 + fldOf addr 15 0))
          ∧ t.out.busErr = true ∧ t.regs = s.regs ∧ t.mot = s.mot))
  ∧ (∀ s : State, s.portOpen = true → s.ready = false → (∀ ax : Axis, s.bit (R.PWM_CFG ax) 31 = false) →
      exec .testModeEntry s = .next { s with out := {}, sys := { s.sys with testMode := true } })
  ∧ (∀ s : State, s.portOpen = false ∨ s.ready = true ∨ (∃ ax : Axis, s.bit (R.PWM_CFG ax) 31 = true) → exec .testModeEntry s = .next s.quiet)
  ∧ (∀ (s : State) (p : SerialPort) (cmd : Byte) (ws : List Word) (addr w : Word) (m : Master) (a b c : Nat), s.portOpen = false →
      exec (.writeFrame p cmd ws a) s = .next s.quiet ∧ exec (.readFrame p cmd a b c) s = .next s.quiet
      ∧ exec (.hspPageWrite p w) s = .next s.quiet ∧ exec (.registerWrite m addr a w) s = .next s.quiet)

/-- HALT-ALL stays 1 while any one holder with halt rights keeps its bit set, and a release by another master does not end it (R125).
In every state in which some master with halt rights has its bit of MBX_HALT set, HALT-ALL is 1. A release by any other master that
reaches MBX_HALT leaves that bit set and HALT-ALL at 1 (where the raise of WRITE_IGNORED, which a master without halt rights causes,
resets nothing). -/
def Obligations.HaltAllStandsWhileHeld : Prop :=
  ∀ (s : State) (j m : Master), s.bit R.MBX_HALTRT j.id = true → s.bit R.MBX_HALT j.id = true →
    s.haltAll = true
    ∧ (m ≠ j → s.opens m (R.MBX_HALT / 128) = true → s.bit R.MBX_HALTRT m.id = true ∨ (∀ d, Plain s 2 d) → (∃ t, exec (.haltAllRelease m) s = .next t ∧ t.haltAll = true ∧ t.bit R.MBX_HALT j.id = true)
      ∧ ∀ w : Word, (s.haltWrite m w).haltAll = true ∧ (s.haltWrite m w).bit R.MBX_HALT j.id = true)

/-- CTX_ALLOC_READ takes the lowest FREE context; words are written while LOADED alone; RELEASE frees, and keeps words 32 to 63 (R161, R162, R163, spec/07_motion_contexts.md).
Where the access reaches its page. A read of CTX_ALLOC by an internal master answers the number of the lowest FREE context, which becomes
LOADED with words 0 to 31 reading 0 and TCHANGE the present time, and leaves the words of every other context; a serial one's read reports
that in CTX_CMDSTAT as well; with none FREE it answers NONE and changes nothing. A write of CTX_Wk (k below 32, no uncorrectable error in
the word) stores while the selected context is LOADED; in any other state it is refused with WRITE_IGNORED (its reaction resetting
nothing) and changes no context. RELEASE of a DONE or ABORTED context that is no template makes it FREE, keeps its other words, keeps in
STAT [6:4] how it ended, and answers RESULT 0; a LOADED one becomes FREE with TCHANGE the present time; RELEASE of a template answers
RESULT 3 and changes no context. Where the spec leaves a point open, what is said of it is the model's choice (log entry 32). -/
def Obligations.ContextsAreAllocatedWrittenAndReleased : Prop :=
  ∀ (s : State) (m : Master) (c : Ctx),
    (s.opensRead m (R.CTX_ALLOC / 128) = true → m.serial = false → s.lowestFree = some c.val → ∃ t, exec (.ctxAllocRead m) s = .next t ∧ t.out.words = [wordOfNat c] ∧ t.ctxState c = ctxLoaded
        ∧ (∀ k < 32, t.ctxW c k = 0#32) ∧ t.ctxWide c 34 = sextN 64 (lowBits 64 s.sys.time)
        ∧ (∀ d : Ctx, d ≠ c → ∀ k < 64, t.ctxW d k = s.ctxW d k) ∧ t.regs = s.regs ∧ t.mot = s.mot)
    ∧ (s.opensRead m (R.CTX_ALLOC / 128) = true → m.serial = true → s.lowestFree = some c.val → ∃ t, exec (.ctxAllocRead m) s = .next t
        ∧ t.out.words = [wordOfNat c] ∧ t.ctxState c = ctxLoaded ∧ t.fld R.CTX_CMDSTAT 3 0 = 0 ∧ t.fld R.CTX_CMDSTAT 15 8 = c
        ∧ (∀ j, j ≠ R.CTX_CMDSTAT → t.get j = s.get j) ∧ t.mot = s.mot)
    ∧ (s.opensRead m (R.CTX_ALLOC / 128) = true → s.lowestFree = none → ∃ t, exec (.ctxAllocRead m) s = .next t ∧ t.out.words = [0x100#32] ∧ t.ctxRam = s.ctxRam ∧ t.regs = s.regs ∧ t.mot = s.mot)
    ∧ (∀ (k : Fin 64) (w : Word), s.opens m (R.CTX_W k / 128) = true → s.fld R.CTX_SEL 7 0 = c → k.val < 32 → s.ctxState c = ctxLoaded → s.isUe .ctx (8 * c + k / 8) = false →
        ∃ t, exec (.ctxWordWrite m k w) s = .next t ∧ t.ctxW c k = w ∧ (∀ n, n ≠ c.val * 64 + k → spFind t.ctxRam n = spFind s.ctxRam n)
          ∧ t.regs = s.regs ∧ t.fc = s.fc ∧ t.mot = s.mot)
    ∧ (∀ (k : Fin 64) (w : Word), s.opens m (R.CTX_W k / 128) = true → s.fld R.CTX_SEL 7 0 = c → k.val < 32 → s.ctxState c ≠ ctxLoaded → (∀ d, Plain s 2 d) →
        ∃ t, exec (.ctxWordWrite m k w) s = .next t ∧ t.ctxRam = s.ctxRam ∧ t.regs = s.regs ∧ RaisedIn s t 2 (accessDetail m (R.CTX_W k)))
    ∧ (s.opens m (R.CTX_CMD / 128) = true → s.isTemplate c = false → (s.ctxState c = ctxDone ∨ s.ctxState c = ctxAborted) → ∃ t, exec (.ctxCmdRelease m c) s = .next t
        ∧ t.ctxState c = ctxFree ∧ fldOf (t.ctxW c 32) 6 4 = s.ctxState c ∧ (∀ n, n ≠ c.val * 64 + 32 → spFind t.ctxRam n = spFind s.ctxRam n)
        ∧ t.fld R.CTX_CMDSTAT 3 0 = 0 ∧ t.fld R.CTX_CMDSTAT 15 8 = c ∧ t.fld R.CTX_CMDSTAT 23 16 = (s.fld R.CTX_CMDSTAT 23 16 + 1) % 256
        ∧ (∀ j, j ≠ R.CTX_CMDSTAT → t.get j = s.get j) ∧ t.mot = s.mot)
    ∧ (s.opens m (R.CTX_CMD / 128) = true → s.isTemplate c = false → s.ctxState c = ctxLoaded → ∃ t, exec (.ctxCmdRelease m c) s = .next t
        ∧ t.ctxState c = ctxFree ∧ t.ctxWide c 34 = sextN 64 (lowBits 64 s.sys.time) ∧ t.fld R.CTX_CMDSTAT 3 0 = 0 ∧ t.mot = s.mot)
    ∧ (s.opens m (R.CTX_CMD / 128) = true → s.isTemplate c = true → ∃ t, exec (.ctxCmdRelease m c) s = .next t ∧ t.ctxRam = s.ctxRam ∧ t.fld R.CTX_CMDSTAT 3 0 = 3 ∧ t.mot = s.mot)

/-- START appends a LOADED context to its axis's queue or reports the first cause of refusal; ABORT removes a QUEUED one at the command (R161, R162, R164, R171, spec/07_motion_contexts.md).
Where the write reaches CTX_CMD. START of a LOADED context that is no template, to an enabled axis, with no FORMAT case, a home method
within its role and no uncorrectable error: it is QUEUED at the tail of the axis's queue, STAT names the axis and no reason, RESULT is 0,
and the other axes stand. A START that R162 refuses answers that RESULT and changes neither context nor queue. ABORT of the QUEUED context
of an axis removes it at the command with reason 1 (with AUTOREL 0 it is ABORTED) and counts the abort; the position and velocity stand.
ABORT of an ACTIVE one is noted for the next tick; ABORT of a FREE, LOADED, DONE or ABORTED one answers RESULT 1. Where the spec leaves a
point open, what is said of it is the model's choice (log entry 32). -/
def Obligations.ContextsStartAndAbortByCommand : Prop :=
  ∀ (s : State) (m : Master) (c : Ctx) (ax : Axis), s.opens m (R.CTX_CMD / 128) = true →
    (s.startResult c ax = 0 → s.ctxUe c = none → ∃ t, exec (.ctxCmdStart m c ax) s = .next t ∧ t.ctxState c = ctxQueued
        ∧ (t.me ax).queue = (s.me ax).queue ++ [c] ∧ fldOf (t.ctxW c 32) 10 8 = ax ∧ fldOf (t.ctxW c 32) 23 16 = 0 ∧ t.fld R.CTX_CMDSTAT 3 0 = 0
        ∧ (∀ bx : Axis, bx ≠ ax → t.me bx = s.me bx) ∧ (∀ d : Ctx, d ≠ c → ∀ k < 64, t.ctxW d k = s.ctxW d k)
        ∧ ∀ j, j ≠ R.CTX_CMDSTAT → t.get j = s.get j)
    ∧ (s.startResult c ax ≠ 0 → ∃ t, exec (.ctxCmdStart m c ax) s = .next t ∧ t.ctxRam = s.ctxRam ∧ t.mot = s.mot
        ∧ t.fld R.CTX_CMDSTAT 3 0 = s.startResult c ax ∧ t.fld R.CTX_CMDSTAT 15 8 = c)
    ∧ (s.ctxState c = ctxQueued → fldOf (s.ctxW c 32) 10 8 = ax → bitOf (s.ctxW c 0) 8 = false → ∃ t, exec (.ctxCmdAbort m c) s = .next t
        ∧ t.ctxState c = ctxAborted ∧ fldOf (t.ctxW c 32) 23 16 = 1 ∧ c ∉ (t.me ax).queue ∧ (t.me ax).pos = (s.me ax).pos
        ∧ (t.me ax).vel = (s.me ax).vel ∧ (t.me ax).active = (s.me ax).active
        ∧ t.fld (R.ME_EVCNT ax) 15 8 = (s.fld (R.ME_EVCNT ax) 15 8 + 1) % 256 ∧ t.fld R.CTX_CMDSTAT 3 0 = 0
        ∧ ∀ bx : Axis, bx ≠ ax → t.me bx = s.me bx)
    ∧ (s.ctxState c = ctxActive → fldOf (s.ctxW c 32) 10 8 = ax → ∃ t, exec (.ctxCmdAbort m c) s = .next t
        ∧ t.me ax = { s.me ax with evAbort := true } ∧ t.ctxRam = s.ctxRam ∧ t.fld R.CTX_CMDSTAT 3 0 = 0)
    ∧ (s.ctxState c ≠ ctxQueued → s.ctxState c ≠ ctxActive → ∃ t, exec (.ctxCmdAbort m c) s = .next t ∧ t.ctxRam = s.ctxRam ∧ t.mot = s.mot
        ∧ t.fld R.CTX_CMDSTAT 3 0 = 1)

/-- MOTION_TICK: no tick before its multiple; a due tick counts and gives every disabled, idle axis current OFF and a fresh record (R9, R10, R171, spec/01_architecture.md, spec/07_motion_contexts.md).
MOTION_TICK that does not reach the due multiple only passes time. One that reaches it, outside a chip reset, with every axis's motion
engine, commutation stage and observer disabled, nothing queued, active, engaged or due, firmware not running: TIM_TICK counts, the next
tick is due at the next multiple of 25 µs, and each axis is at current level OFF with velocity 0 and its position kept, its record holding
the present time. Where the spec leaves a point open, what is said of it is the model's choice (log entry 108). -/
def Obligations.MotionTickOfRestingAxes : Prop :=
  ∀ (s : State) (n : Nat),
    ((s.quiet.pass n).tickIsDue = false → exec (.motionTick n) s = .next (s.quiet.pass n))
    ∧ (s.tickIsDue = true → s.sys.chipReset = false → s.fwRuns = false →
        (∀ ax : Axis, s.meEn ax = false ∧ s.bit (R.CR_CFG ax) 31 = false ∧ s.bit (R.LO_CFG ax) 31 = false ∧ (s.me ax).queue = []
          ∧ (s.me ax).active = none ∧ (s.me ax).engaged = false ∧ (s.me ax).due = [] ∧ (s.me ax).evEnQ = []) →
        ∃ t, exec (.motionTick 0) s = .next t ∧ t.get R.TIM_TICK = s.get R.TIM_TICK + 1#32 ∧ t.sys.tickDue = (s.sys.time / 25000 + 1) * 25000
          ∧ t.sys.sinceTick = 0 ∧ t.ctxRam = s.ctxRam ∧ t.fc = s.fc
          ∧ ∀ ax : Axis, (t.me ax).level = .off ∧ (t.me ax).vel = 0 ∧ (t.me ax).pos = (s.me ax).pos ∧ (t.me ax).record.time = s.sys.time)

/-- R171 at an axis's tick: gate removal, uncorrectable error, halt and window end the ACTIVE context with the reason of the highest row (R159, R160, R161, R171, R173, R179, R316, spec/07_motion_contexts.md).
For an axis with a context ACTIVE (AUTOREL 0, readable) when the rows of R171 are judged: gate removal ends it ABORTED with reason 12 and
stops the velocity at once with POSUNK set; otherwise a pending uncorrectable error gives 11; otherwise a halt that begins gives 3 under
HALT-ALL and 2 without; otherwise the handover window gives 13; otherwise an end of the motion at this tick is DONE; otherwise a pending
ABORT gives 1. In each case no context is then ACTIVE, the abort or DONE count of ME_EVCNT advances by one, the source ME_EVn is due, and
the QUEUED contexts are kept. Where the spec leaves a point open, what is said of it is the model's choice (log entries 34, 98, 100). -/
def Obligations.TickEventsEndTheContextInRowOrder : Prop :=
  ∀ (s : State) (ax : Axis) (c : Ctx) (rise : Bool) (nat : NatEnd) (reason : Nat), (s.me ax).active = some c → bitOf (s.ctxW c 0) 8 = false →
    s.ctxUe c = none → s.ctxState c = ctxActive →
    let halts := s.axisHalted ax && !(s.me ax).wasHalt
    let m := s.me ax
    ((m.evGate = true ∧ reason = 12) ∨ (m.evGate = false ∧ m.evUe = true ∧ reason = 11)
      ∨ (m.evGate = false ∧ m.evUe = false ∧ halts = true ∧ reason = if s.haltAll then 3 else 2)
      ∨ (m.evGate = false ∧ m.evUe = false ∧ halts = false ∧ m.evWin = true ∧ reason = 13)
      ∨ (m.evGate = false ∧ m.evUe = false ∧ halts = false ∧ m.evWin = false ∧ nat ≠ .done ∧ m.evAbort = true ∧ reason = 1)
      ∨ (m.evGate = false ∧ m.evUe = false ∧ halts = false ∧ m.evWin = false ∧ nat = .done ∧ reason = 0)) →
    let t := s.rows ax rise nat
    t.ctxState c = (if reason = 0 then ctxDone else ctxAborted) ∧ fldOf (t.ctxW c 32) 23 16 = reason ∧ (t.me ax).active = none
    ∧ (t.me ax).queue = m.queue ∧ (40 + ax.val, 0#32) ∈ (t.me ax).due
    ∧ t.fld (R.ME_EVCNT ax) 15 8 = (if reason = 0 then s.fld (R.ME_EVCNT ax) 15 8 else (s.fld (R.ME_EVCNT ax) 15 8 + 1) % 256)
    ∧ t.fld (R.ME_EVCNT ax) 7 0 = (if reason = 0 then (s.fld (R.ME_EVCNT ax) 7 0 + 1) % 256 else s.fld (R.ME_EVCNT ax) 7 0)
    ∧ (reason = 12 → (t.me ax).vel = 0 ∧ (t.me ax).posunk = true)

/-- HALT, OBSCONT, OBSABORT, FERRCLR, ME_POS, EN, start events, STEP and ENA, rest and re-close delays: what each command changes (R45, R101, R103, R165, R171, R173, R177, R178, R181, R436, spec/07_motion_contexts.md).
Where the write reaches its register. ME_CTL writes: HALT is stored; OBSCONT and OBSABORT are noted for the next tick; FERRCLR clears
FERR. A write of ME_POS at rest with no context ACTIVE sets the position and clears HOMED and POSUNK; otherwise it raises WRITE_IGNORED
(its reaction resetting nothing) and moves nothing. Clearing EN notes row 1's event. An event that the queue's head awaits is latched. A
STEP edge that counts moves the count by DIR's sign. ENA falling with INSRC step/direction gives current OFF and clears FERR. The rest
delay's expiry at rest gives REST. The re-close delay's expiry ends the wait and uses one retry. TIMED_START of a head that waits for an
event changes no axis. Where the spec leaves a point open, what is said of it is the model's choice (log entries 33, 36). -/
def Obligations.MotionRequestsAndLatchedEvents : Prop :=
  ∀ (s : State) (m : Master) (ax : Axis),
    (∀ h : Bool, s.opens m (R.ME_CTL ax / 128) = true → ∃ t, exec (.meCtlHalt m ax h) s = .next t ∧ t.bit (R.ME_CTL ax) 0 = h ∧ (h = true → t.axisHalted ax = true)
        ∧ (t.me ax).queue = (s.me ax).queue ∧ (t.me ax).active = (s.me ax).active ∧ ∀ j, j ≠ R.ME_CTL ax → t.get j = s.get j)
    ∧ (s.opens m (R.ME_CTL ax / 128) = true → ∃ t, exec (.obscont m ax) s = .next t ∧ (t.me ax).contReq = true ∧ (t.me ax).pos = (s.me ax).pos ∧ ∀ bx : Axis, bx ≠ ax → t.me bx = s.me bx)
    ∧ (s.opens m (R.ME_CTL ax / 128) = true → ∃ t, exec (.obsabort m ax) s = .next t ∧ (t.me ax).abortReq = true ∧ (t.me ax).pos = (s.me ax).pos ∧ ∀ bx : Axis, bx ≠ ax → t.me bx = s.me bx)
    ∧ (s.opens m (R.ME_CTL ax / 128) = true → ∃ t, exec (.ferrclr m ax) s = .next t ∧ (t.me ax).ferr = false ∧ (t.me ax).pos = (s.me ax).pos ∧ ∀ bx : Axis, bx ≠ ax → t.me bx = s.me bx)
    ∧ (∀ hi lo : Word, s.opens m (R.ME_POS ax / 128) = true → (s.me ax).vel = 0 → (s.me ax).acc = 0 → (s.me ax).active = none → ∃ t, exec (.mePosWrite m ax hi lo) s = .next t
        ∧ (t.me ax).rpos = sextN 48 (lowBits 48 (ofHiLo hi lo)) ∧ (t.me ax).homed = false ∧ (t.me ax).posunk = false
        ∧ (t.me ax).queue = (s.me ax).queue ∧ ∀ bx : Axis, bx ≠ ax → t.me bx = s.me bx)
    ∧ (∀ hi lo : Word, s.opens m (R.ME_POS ax / 128) = true → (s.me ax).vel ≠ 0 ∨ (s.me ax).acc ≠ 0 ∨ (s.me ax).active ≠ none → (∀ d, Plain s 2 d) →
        ∃ t, exec (.mePosWrite m ax hi lo) s = .next t ∧ t.mot = s.mot ∧ t.regs = s.regs ∧ RaisedIn s t 2 (accessDetail m (R.ME_POS ax)))
    ∧ (s.opens m (R.ME_CFG ax / 128) = true → s.meEn ax = true → ∃ t, exec (.meDisable m ax) s = .next t ∧ t.meEn ax = false ∧ (t.me ax).evEn = true
        ∧ (∀ c ∈ (s.me ax).queue, c ∈ (t.me ax).evEnQ) ∧ t.ctxRam = s.ctxRam ∧ ∀ j, j ≠ R.ME_CFG ax → t.get j = s.get j)
    ∧ (∀ (c : Ctx) (rest : List Ctx) (br : Bridge), (s.me ax).queue = c :: rest → fldOf (s.ctxW c 0) 5 4 = 2 →
        fldOf (s.ctxW c 0) 24 20 = (match br with | .a => 20 | .b => 21) → ∃ t, exec (.motionEvent (.tack ax br)) s = .next t
        ∧ t.me ax = { s.me ax with startEv := true } ∧ t.regs = s.regs ∧ t.ctxRam = s.ctxRam ∧ ∀ bx : Axis, bx ≠ ax → t.me bx = s.me bx)
    ∧ (s.insrc ax = 1 → s.meEn ax = true → s.ball ax 2 = true → (s.me ax).ferr = false → s.axisHalted ax = false → ∃ t, exec (.stepEdge ax) s = .next t
        ∧ t.me ax = { s.me ax with stepCnt := (s.me ax).stepCnt + (if s.ball ax 1 then 1 else -1) } ∧ t.regs = s.regs
        ∧ ∀ bx : Axis, bx ≠ ax → t.me bx = s.me bx)
    ∧ (s.insrc ax = 1 → ∃ t, exec (.enaFall ax) s = .next t ∧ t.me ax = { s.me ax with level := .off, ferr := false } ∧ t.ball ax 2 = false
        ∧ t.regs = s.regs ∧ ∀ bx : Axis, bx ≠ ax → t.me bx = s.me bx)
    ∧ ((s.me ax).vel = 0 → (s.me ax).acc = 0 → (s.me ax).starting = false → (s.me ax).level = .run → ∃ t, exec (.restDelayExpiry ax) s = .next t
        ∧ (t.me ax).level = .rest ∧ (t.me ax).pos = (s.me ax).pos ∧ t.regs = s.regs ∧ ∀ bx : Axis, bx ≠ ax → t.me bx = s.me bx)
    ∧ ((s.me ax).obs = .rcwait → ∃ t, exec (.recloseDelayExpiry ax) s = .next t ∧ (t.me ax).obs = .none ∧ (t.me ax).retried = (s.me ax).retried + 1
        ∧ (t.me ax).pos = (s.me ax).pos ∧ (t.me ax).active = (s.me ax).active ∧ ∀ bx : Axis, bx ≠ ax → t.me bx = s.me bx)

/-- TIMED_START: in time it starts, within LATETOL it starts LATE, later it ends with reason 9; before its time nothing changes (R164, R165, R168, R159, spec/07_motion_contexts.md).
For an axis whose queue holds one context with a timed start, a velocity context (AUTOREL 0, readable) on an axis that R164 lets start,
with no other ACTIVE and nothing due: before TSTART the command changes no axis. At its tick, or later by no more than LATETOL, it becomes
ACTIVE with STAT.LATE telling which, the queue empty. Later than that it ends ABORTED with reason 9 and the axis moves nowhere. Where the
spec leaves a point open, what is said of it is the model's choice (log entry 35). -/
def Obligations.TimedStartsAreMetLateOrTooLate : Prop :=
  ∀ (s : State) (ax : Axis) (c : Ctx), (s.me ax).queue = [c] → fldOf (s.ctxW c 0) 5 4 = 1 → fldOf (s.ctxW c 0) 2 0 = 1 → bitOf (s.ctxW c 0) 8 = false →
    s.ctxUe c = none → (s.me ax).active = none → (s.me ax).due = [] → s.mayStart ax false = true →
    (s.startCond ax c = .wait → exec (.timedStart ax) s = .next s.quiet)
    ∧ (s.startCond ax c = .met → ∃ t, exec (.timedStart ax) s = .next t ∧ (t.me ax).active = some c ∧ (t.me ax).queue = []
        ∧ t.ctxState c = ctxActive ∧ bitOf (t.ctxW c 32) 3 = false ∧ ∀ bx : Axis, bx ≠ ax → t.me bx = s.me bx)
    ∧ (s.startCond ax c = .late → ∃ t, exec (.timedStart ax) s = .next t ∧ (t.me ax).active = some c ∧ (t.me ax).queue = []
        ∧ t.ctxState c = ctxActive ∧ bitOf (t.ctxW c 32) 3 = true ∧ ∀ bx : Axis, bx ≠ ax → t.me bx = s.me bx)
    ∧ (s.startCond ax c = .tooLate → ∃ t, exec (.timedStart ax) s = .next t ∧ (t.me ax).active = none ∧ (t.me ax).queue = []
        ∧ t.ctxState c = ctxAborted ∧ fldOf (t.ctxW c 32) 23 16 = 9 ∧ (t.me ax).vel = (s.me ax).vel ∧ (t.me ax).pos = (s.me ax).pos)

/-- Fast-path, fine-path and aligned samples: the register takes the code less its offset, clamped, with OVL and its count (R183, R205, R200, R273, R274, R275, R276, spec/12_converters.md, spec/08_coil_current.md).
With nothing set to reset and the PWM clock running. A fast-path set writes every coil's CSM_FAST, and a fine-path set its CSM_FINE: CNT
advances modulo 256, OVL is the sample's, CODE its low 16 bits as delivered (after the front end of R200, the offset subtracted and the
code clamped to 30,000 either way while the modulator is on; 0 with OVL while it is off). An aligned sample of a coil whose modulator is
on does so in its CSM_ALGN alone, and with the axis's regulators disabled changes no other register; with the modulator off it is ignored.
Where the spec leaves a point open, what is said of it is the model's choice (log entries 50, 105). -/
def Obligations.CurrentSamplesReachTheirRegisters : Prop :=
  ∀ s : State, NoReset s → s.modStopped = false →
    (∀ (xs : List ModSample) (c : Coil), ∃ t, exec (.fastPathSample xs) s = .next t
        ∧ t.fld (R.CSM_FAST c) 31 24 = (s.fld (R.CSM_FAST c) 31 24 + 1) % 256
        ∧ t.fld (R.CSM_FAST c) 15 0 = lowBits 16 (s.csmSample c (sampleOf xs c) ((vget s.csm c).fastWarm ≠ 0)).code
        ∧ t.bit (R.CSM_FAST c) 16 = (s.csmSample c (sampleOf xs c) ((vget s.csm c).fastWarm ≠ 0)).ovl)
    ∧ (∀ (xs : List ModSample) (c : Coil), ∃ t, exec (.finePathSample xs) s = .next t
        ∧ t.fld (R.CSM_FINE c) 31 24 = (s.fld (R.CSM_FINE c) 31 24 + 1) % 256
        ∧ t.fld (R.CSM_FINE c) 15 0 = lowBits 16 (s.csmSample c (sampleOf xs c) ((vget s.csm c).fineWarm ≠ 0)).code
        ∧ t.bit (R.CSM_FINE c) 16 = (s.csmSample c (sampleOf xs c) ((vget s.csm c).fineWarm ≠ 0)).ovl)
    ∧ (∀ (x : ModSample) (c : Coil), s.csmOn c = true → ∃ t, exec (.alignedSample c x) s = .next t
        ∧ t.fld (R.CSM_ALGN c) 31 24 = (s.fld (R.CSM_ALGN c) 31 24 + 1) % 256
        ∧ t.fld (R.CSM_ALGN c) 15 0 = lowBits 16 (clampMag 30000 (s.frontEnd c x.code - s.sfld (R.CSM_OFS c) 15 0))
        ∧ t.bit (R.CSM_ALGN c) 16 = (x.ovl || decide ((vget s.csm c).fastWarm ≠ 0) || (vget s.csm c).ovl)
        ∧ (s.crEn (axisOf c) = false → ∀ k, k ≠ R.CSM_ALGN c → t.get k = s.get k) ∧ t.fc = s.fc ∧ t.mot = s.mot)
    ∧ (∀ (x : ModSample) (c : Coil), s.csmOn c = false → exec (.alignedSample c x) s = .next s.quiet)

/-- VALID, LOCK, collapse and the press probe: set under their conditions, with nothing else changed (R214, R215, R221, R223, R224, R225, R226, spec/09_load_observer.md).
OBSERVER_VALID sets VALID where the conditions of the estimate hold and have held for 256 updates, and changes nothing elsewhere;
OBSERVER_LOCK sets LOCK under VALID where the filtered error has stayed within LKTH for 512 updates. BACK_EMF_COLLAPSE sets STALL with
STCAUSE 3, where the conditions of cause 3 hold, with the magnitude of the back-EMF below 0.4 of the expected, and have held for COLT ms,
but a stall already held stands. PRESS_PROBE_START sets PPRUN when R221 allows it. The first clean half-window of a running probe, of
1,250 demodulated samples, is kept and the direction turns by 45 degrees; the second gives LO_PPRES its angle and PPVALID by the threshold
of LO_PP2; a spoiled one is discarded; without PPRUN, or with fewer samples, nothing changes. Where the spec leaves a point open, what is
said of it is the model's choice (log entries 5, 45, 104). -/
def Obligations.ObserverStateFollowsItsEvents : Prop :=
  ∀ (s : State) (ax : Axis),
    (s.loAble ax = true → 256 ≤ (vget s.lo ax).okN → ∃ t, exec (.observerValid ax) s = .next t ∧ t.bit (R.LO_STAT ax) 0 = true
        ∧ (∀ i, i ≠ 0 → t.bit (R.LO_STAT ax) i = s.bit (R.LO_STAT ax) i) ∧ (∀ k, k ≠ R.LO_STAT ax → t.get k = s.get k) ∧ t.lo = s.lo ∧ t.mot = s.mot)
    ∧ (s.loAble ax = false ∨ (vget s.lo ax).okN < 256 → exec (.observerValid ax) s = .next s.quiet)
    ∧ (s.bit (R.LO_STAT ax) 0 = true → 512 ≤ (vget s.lo ax).lockN → ∃ t, exec (.observerLock ax) s = .next t ∧ t.bit (R.LO_STAT ax) 1 = true
        ∧ (∀ i, i ≠ 1 → t.bit (R.LO_STAT ax) i = s.bit (R.LO_STAT ax) i) ∧ (∀ k, k ≠ R.LO_STAT ax → t.get k = s.get k) ∧ t.lo = s.lo ∧ t.mot = s.mot)
    ∧ (s.bit (R.LO_STAT ax) 0 = false ∨ (vget s.lo ax).lockN < 512 → exec (.observerLock ax) s = .next s.quiet)
    ∧ (∀ since : Nat, s.stallWatch ax = true → s.mode ax ≠ 3 → s.fld (R.CR_MOTOR2 ax) 23 0 ≠ 0 → s.fld (R.LO_COLL ax) 7 0 ≠ 0 →
        s.fld (R.LO_VMIN ax) 23 0 * 65536 ≤ (s.me ax).record.vel.natAbs →
        let emf : Int := (s.me ax).record.vel.natAbs * s.fld (R.CR_MOTOR2 ax) 23 0 * 6283185307 / 268435456000000
        s.loVs ax ≤ 50 * emf →
        5 * (isqrt ((vget s.lo ax).eA * (vget s.lo ax).eA + (vget s.lo ax).eB * (vget s.lo ax).eB).toNat : Int) < 2 * emf →
        (vget s.lo ax).colSince = some since → since + s.fld (R.LO_COLL ax) 7 0 * 200000 ≤ s.sys.cyc →
        (s.bit (R.LO_STAT ax) 5 = false → ∃ t, exec (.backEmfCollapse ax) s = .next t ∧ t.bit (R.LO_STAT ax) 5 = true
          ∧ t.fld (R.LO_STAT ax) 19 16 = 3 ∧ (∀ k, k ≠ R.LO_STAT ax → t.get k = s.get k) ∧ t.mot = s.mot)
        ∧ (s.bit (R.LO_STAT ax) 5 = true → exec (.backEmfCollapse ax) s = .next s.quiet))
    ∧ (s.bit (R.LO_CFG ax) 30 = true → s.probeAble ax = true → s.atRest ax = true → (s.me ax).active = none → s.bit (R.LO_STAT ax) 10 = false →
        ∃ t, exec (.pressProbeStart ax) s = .next t ∧ t.bit (R.LO_STAT ax) 10 = true ∧ (vget t.lo ax).ppStart = s.sys.cyc
          ∧ (vget t.lo ax).ppHalf = none ∧ (vget t.lo ax).ppN = 0 ∧ (∀ k, k ≠ R.LO_STAT ax → t.get k = s.get k) ∧ t.mot = s.mot)
    ∧ (s.bit (R.LO_STAT ax) 10 = false ∨ (vget s.lo ax).ppN < 1250 → exec (.pressProbeHalfWindow ax) s = .next s.quiet)
    ∧ (s.bit (R.LO_STAT ax) 10 = true → 1250 ≤ (vget s.lo ax).ppN → (vget s.lo ax).ppSpoil = false → (vget s.lo ax).ppHalf = none →
        ∃ t, exec (.pressProbeHalfWindow ax) s = .next t ∧ (vget t.lo ax).ppHalf = some ((vget s.lo ax).ppC / 1250)
          ∧ (vget t.lo ax).ppOdd = !(vget s.lo ax).ppOdd ∧ (vget t.lo ax).ppN = 0 ∧ t.regs = s.regs)
    ∧ (∀ other : Int, s.bit (R.LO_STAT ax) 10 = true → 1250 ≤ (vget s.lo ax).ppN → (vget s.lo ax).ppSpoil = false →
        (vget s.lo ax).ppHalf = some other → (vget s.lo ax).ppOdd = false → (vget s.lo ax).ppIp / 1250 ≠ 0 → s.fld (R.LO_PP2 ax) 15 0 = 0 →
        ∃ t, exec (.pressProbeHalfWindow ax) s = .next t
          ∧ t.fld (R.LO_PPRES ax) 15 0 = lowBits 16 (wrapMs (Config.angleOf other ((vget s.lo ax).ppC / 1250)) / 2)
          ∧ t.bit (R.LO_STAT ax) 9 = true ∧ (vget t.lo ax).ppOdd = true ∧ (∀ k, k ≠ R.LO_PPRES ax → k ≠ R.LO_STAT ax → t.get k = s.get k)
          ∧ t.mot = s.mot)
    ∧ (s.bit (R.LO_STAT ax) 10 = true → 1250 ≤ (vget s.lo ax).ppN → (vget s.lo ax).ppSpoil = true →
        ∃ t, exec (.pressProbeHalfWindow ax) s = .next t ∧ t.regs = s.regs ∧ (vget t.lo ax).ppHalf = none ∧ (vget t.lo ax).ppSpoil = false)

/-- Waveform entries: written while disabled, checked in the background; CR_OVR at rest; encoder edges count and Z captures (R102, R103, R170, R184, R185, R194, R208, spec/08_coil_current.md).
With nothing set to reset, and where the writes reach their registers. CR_WDATA while the regulators are disabled stores its low 16 bits
at CR_WADDR, which advances modulo 1,024; while enabled, another value than the stored is refused with WRITE_IGNORED. WAVE_TABLE_CHECK
leaves exactly the named axes' entry marked as mismatching, and such an entry reads as its default. CR_OVR is stored when MODE is 0 or the
axis rests with no context ACTIVE, and is refused with WRITE_IGNORED otherwise. An encoder edge counts up or down where the axis has an
encoder, else nothing; a Z edge captures the count. Where the spec leaves a point open, what is said of it is the model's choice (log
entries 36, 46). -/
def Obligations.WaveTableOverrideAndEncoder : Prop :=
  ∀ (s : State) (ax : Axis), NoReset s →
    (∀ (m : Master) (w : Word), s.opens m (R.CR_WDATA ax / 128) = true → s.crEn ax = false → ∃ t, exec (.crWdataWrite m ax w) s = .next t
        ∧ t.waveStored ax (s.fld (R.CR_WADDR ax) 9 0) = fldOf w 15 0 ∧ t.fld (R.CR_WADDR ax) 9 0 = (s.fld (R.CR_WADDR ax) 9 0 + 1) % 1024
        ∧ (∀ i, i ≠ s.fld (R.CR_WADDR ax) 9 0 → t.waveStored ax i = s.waveStored ax i) ∧ (∀ k, k ≠ R.CR_WADDR ax → t.get k = s.get k)
        ∧ ∀ bx : Axis, bx ≠ ax → vget t.coil bx = vget s.coil bx)
    ∧ (∀ (m : Master) (w : Word), s.opens m (R.CR_WDATA ax / 128) = true → s.crEn ax = true → s.waveStored ax (s.fld (R.CR_WADDR ax) 9 0) ≠ fldOf w 15 0 →
        ∃ t, exec (.crWdataWrite m ax w) s = .next t ∧ t.coil = s.coil ∧ t.regs = s.regs ∧ RaisedIn s t 2 (accessDetail m (R.CR_WDATA ax)))
    ∧ (∀ (e : Fin 1024) (bad : List Axis), ∃ t, exec (.waveTableCheck e bad) s = .next t
        ∧ ((vget t.coil ax).waveBad.contains e.val = bad.contains ax) ∧ (bad.contains ax = true → t.waveAt ax e = waveDefault e)
        ∧ (bad.contains ax = false → t.waveAt ax e = t.waveStored ax e) ∧ (vget t.coil ax).wave = (vget s.coil ax).wave ∧ t.regs = s.regs)
    ∧ (∀ (m : Master) (w : Word), s.opens m (R.CR_OVR ax / 128) = true → (fldOf w 31 30 = 0 ∨ (s.moving ax = false ∧ (s.me ax).active = none)) → ∃ t, exec (.crOvrWrite m ax w) s = .next t
        ∧ t.get (R.CR_OVR ax) = w &&& 0xC0000FFF#32 ∧ (∀ k, k ≠ R.CR_OVR ax → t.get k = s.get k) ∧ t.fc = s.fc ∧ t.mot = s.mot)
    ∧ (∀ (m : Master) (w : Word), s.opens m (R.CR_OVR ax / 128) = true → fldOf w 31 30 ≠ 0 → (s.moving ax = true ∨ (s.me ax).active ≠ none) → ∃ t, exec (.crOvrWrite m ax w) s = .next t
        ∧ t.regs = s.regs ∧ RaisedIn s t 2 (accessDetail m (R.CR_OVR ax)))
    ∧ (∀ up : Bool, (vget s.roles ax = .encoder ∨ s.cmode ax = 3) → ∃ t, exec (.encoderEdge ax up) s = .next t
        ∧ t.get (R.CR_ENCCNT ax) = (if up then s.get (R.CR_ENCCNT ax) + 1#32 else s.get (R.CR_ENCCNT ax) - 1#32)
        ∧ (∀ k, k ≠ R.CR_ENCCNT ax → t.get k = s.get k) ∧ t.mot = s.mot)
    ∧ (∀ up : Bool, vget s.roles ax ≠ .encoder → s.cmode ax ≠ 3 → exec (.encoderEdge ax up) s = .next s.quiet)
    ∧ ((vget s.roles ax = .encoder ∨ s.cmode ax = 3) → ∃ t, exec (.encoderZEdge ax) s = .next t ∧ t.get (R.CR_ENCZ ax) = s.get (R.CR_ENCCNT ax)
        ∧ (t.me ax).zEdge = true ∧ (∀ k, k ≠ R.CR_ENCZ ax → t.get k = s.get k) ∧ ∀ bx : Axis, bx ≠ ax → t.me bx = s.me bx)

/-- PWM_CFG.EN, COMMIT, period boundaries and the chopping phases: what begins, what ends and what transfers (R10, R235, R237, R238, R243, R249, R251, R252, spec/10_pwm.md).
With nothing set to reset, and where the writes reach their registers. Setting EN moves the shadows at once, turns no gate on and marks
both bridges fresh; clearing it turns every gate off (one that is stuck stays on) and keeps the latches. COMMIT is held until a period
starts. A period that starts, with the PWM clock running, adopts the axis's latest tick record and moves the trip record on; in CENTRE
with COMMIT pending it takes the shadow period and ends the pending state, in COFF and CON the period and COMMIT stand. In COFF and CON,
the maximum on-time and the on-time end the on-phase (the first sets MAXON); the off-time, the maximum period, and the minimum period
after a valley start the next period; outside those phases the commands change no bridge. Where the spec leaves a point open, what is said
of it is the model's choice (log entry 47). -/
def Obligations.PwmPeriodsTransferShadows : Prop :=
  ∀ (s : State) (m : Master) (ax : Axis) (br : Bridge), NoReset s →
    let begun (t : State) : Prop := (t.br ax br).adopted = (s.me ax).record ∧ (t.br ax br).tripNow = false
      ∧ (t.br ax br).trips = ((s.br ax br).tripNow :: (s.br ax br).trips).take 254 ∧ (t.br ax br).phase ≠ .off ∧ (t.br ax br).held = false
      ∧ t.mot = s.mot ∧ (s.bmode ax ≠ 0 → t.bit (R.PWM_STAT ax) 13 = s.bit (R.PWM_STAT ax) 13 ∧ t.per ax = s.per ax)
      ∧ (s.bmode ax = 0 → t.bit (R.PWM_STAT ax) 13 = false ∧ (s.bit (R.PWM_STAT ax) 13 = true → (vget s.pwm ax).sperNew = true → t.per ax = s.sper ax))
    (s.opens m (R.PWM_CFG ax / 128) = true → s.pwmEn ax = false → s.bit (R.GD_STAT ax) 17 = false → ∃ t, exec (.pwmEnable m ax) s = .next t ∧ t.pwmEn ax = true ∧ (t.br ax br).fresh = true
        ∧ (∀ j : Leg, t.leg ax j = s.leg ax j) ∧ ((vget s.pwm ax).sperNew = true → t.per ax = s.sper ax) ∧ (t.br ax br).shadow = none ∧ t.mot = s.mot)
    ∧ (s.opens m (R.PWM_CFG ax / 128) = true → s.pwmEn ax = true → ∃ t, exec (.pwmDisable m ax) s = .next t ∧ t.pwmEn ax = false
        ∧ (∀ j : Leg, (t.leg ax j).hiCmd = false ∧ (t.leg ax j).loCmd = false
            ∧ (s.bit (R.GD_FLT ax) (20 + j) = false → (t.leg ax j).hiOn = false ∧ (t.leg ax j).loOn = false))
        ∧ t.latchedOff ax br = s.latchedOff ax br ∧ (t.br ax br).shadow = (s.br ax br).shadow ∧ t.bit (R.PWM_STAT ax) 13 = s.bit (R.PWM_STAT ax) 13
        ∧ t.mot = s.mot)
    ∧ (s.opens m (R.PWM_CTL ax / 128) = true → ∃ t, exec (.commit m ax) s = .next t ∧ t.bit (R.PWM_STAT ax) 13 = true ∧ (∀ k, k ≠ R.PWM_STAT ax → t.get k = s.get k) ∧ t.pwm = s.pwm)
    ∧ (s.pwmEn ax = true → s.modStopped = false → (s.bmode ax = 0 ∨ (s.br ax br).phase = .idle) → ∃ t, exec (.periodBoundary ax br) s = .next t ∧ begun t)
    ∧ (s.pwmEn ax = false ∨ s.modStopped = true → exec (.periodBoundary ax br) s = .next s.quiet)
    ∧ (s.inOn ax br = true → s.bmode ax = 1 → ∃ t, exec (.maxOnTime ax br) s = .next t ∧ (t.br ax br).phase = .off
        ∧ t.bit (R.PWM_STAT ax) (10 + brIx br) = true ∧ t.mot = s.mot)
    ∧ (s.inOn ax br = true → s.bmode ax = 2 → ∃ t, exec (.onTimeEnd ax br) s = .next t ∧ (t.br ax br).phase = .off ∧ t.mot = s.mot)
    ∧ (s.inOn ax br = false → exec (.maxOnTime ax br) s = .next s.quiet ∧ exec (.onTimeEnd ax br) s = .next s.quiet)
    ∧ (s.inOff ax br 1 = true → ∃ t, exec (.offTimeEnd ax br) s = .next t ∧ begun t)
    ∧ (s.inOff ax br 2 = true → ∃ t, exec (.periodMaxEnd ax br) s = .next t ∧ begun t)
    ∧ (s.inOff ax br 2 = true → (s.br ax br).valley = true → ∃ t, exec (.conMinPeriodEnd ax br) s = .next t ∧ begun t)
    ∧ ((s.br ax br).valley = false → ∃ t, exec (.conMinPeriodEnd ax br) s = .next t ∧ (t.br ax br).minPer = true ∧ t.regs = s.regs ∧ t.mot = s.mot)

/-- A commutation commands the other side and masks the coil; its turn-on comes after the interlock; a stuck gate turns nothing on (R235, R240, R246, R256, R257, spec/10_pwm.md, spec/11_gate_drive.md).
With nothing set to reset. COMMUTATION of a running CENTRE bridge that commutes, untripped in this period, commands the leg from one side
to the other and masks the coil's trips; a high side in lockout is left out. TURN_ON_START turns on the waiting side alone, and arms its
monitor, where the drivers may turn gates on, and neither side elsewhere; with nothing waiting it changes nothing. INTERLOCK_TIMEOUT of a
leg that waits for a gate still on ends the wait, commands neither side, sets the leg's GATE_STUCK finding and ends the mask, and acts on
an ILIM still active. A tack that sends to target 2 copies CMP_OUT to CMP_SNAP; to target 1 the converter that PC names has a trigger on
its way, or all four one common trigger; target 0 changes nothing here. Where the spec leaves a point open, what is said of it is the
model's choice (log entry 47). -/
def Obligations.LegsCommuteUnderTheInterlock : Prop :=
  ∀ (s : State) (ax : Axis) (j : Leg) (high : Bool), NoReset s →
    (s.bmode ax = 0 → s.bridgeRuns ax (bridgeOfLeg j) = true → (s.br ax (bridgeOfLeg j)).tripNow = false → s.commutes ax (bridgeOfLeg j) = true →
        (if high then (s.leg ax j).loCmd else (s.leg ax j).hiCmd) = false → (high = true ∨ s.bit (R.GD_STAT ax) j = false) →
        ∃ t, exec (.commutation ax j high) s = .next t ∧ (t.leg ax j).hiCmd = !high ∧ (t.leg ax j).loCmd = high
          ∧ t.masked ax (bridgeOfLeg j) = true ∧ (∀ i : Leg, i ≠ j → t.leg ax i = s.leg ax i) ∧ t.mot = s.mot
          ∧ (s.bit (R.GD_FLT ax) (8 + j) = false → s.bit (R.GD_FLT ax) (12 + j) = false → s.bit (R.GD_FLT ax) (20 + j) = false → t.fc = s.fc))
    ∧ (∀ hi : Bool, (s.leg ax j).wait = some hi → s.legUp ax j = true → (hi = false ∨ (s.bit (R.GD_STAT ax) j = false ∧ (s.leg ax j).bstHeld = false)) →
        ∃ t, exec (.turnOnStart ax j) s = .next t ∧ (t.leg ax j).hiOn = hi ∧ (t.leg ax j).loOn = !hi ∧ (t.leg ax j).armed = true
          ∧ (t.leg ax j).wait = none ∧ (∀ i : Leg, i ≠ j → t.leg ax i = s.leg ax i) ∧ ∀ k, k ≠ R.GD_FLT ax → t.get k = s.get k)
    ∧ (∀ hi : Bool, (s.leg ax j).wait = some hi → s.legUp ax j = false → ∃ t, exec (.turnOnStart ax j) s = .next t
          ∧ (t.leg ax j).hiOn = false ∧ (t.leg ax j).loOn = false ∧ (t.leg ax j).wait = none ∧ ∀ k, k ≠ R.GD_FLT ax → t.get k = s.get k)
    ∧ ((s.leg ax j).wait = none → exec (.turnOnStart ax j) s = .next s.quiet)
    ∧ ((s.leg ax j).waits = false → exec (.interlockTimeout ax j) s = .next s.quiet)
    ∧ ((s.leg ax j).waits = true → s.bit (R.PWM_STAT ax) (4 + brIx (bridgeOfLeg j)) = true → s.pwmEn ax = true →
        s.latchedOff ax (bridgeOfLeg j) = false → s.vgOk = true → s.modStopped = false → (s.br ax (bridgeOfLeg j)).counted = false →
        ∃ t, exec (.interlockTimeout ax j) s = .next t ∧ (t.br ax (bridgeOfLeg j)).tripNow = true ∧ t.bit (R.GD_FLT ax) (20 + j) = true)
    ∧ ((s.leg ax j).waits = true → s.bit (R.PWM_STAT ax) (4 + brIx (bridgeOfLeg j)) = false → s.bit (R.PWM_STAT ax) (6 + brIx (bridgeOfLeg j)) = false →
        ∃ t, exec (.interlockTimeout ax j) s = .next t ∧ (t.leg ax j).wait = none ∧ (t.leg ax j).hiCmd = false
          ∧ (t.leg ax j).loCmd = false ∧ t.bit (R.GD_FLT ax) (20 + j) = true ∧ t.masked ax (bridgeOfLeg j) = false ∧ t.present (88 + ax) = true
          ∧ t.mot = s.mot)
    ∧ (∀ (br : Bridge) (k : Fin 4), s.tackSends ax br k = true → fldOf (vget (s.br ax br).tacks k) 30 28 = 2 →
        ∃ t, exec (.tackFire ax br k) s = .next t ∧ t.get R.CMP_SNAP = s.get R.CMP_OUT ∧ (∀ i, i ≠ R.CMP_SNAP → t.get i = s.get i)
          ∧ t.pwm = s.pwm ∧ t.mot = s.mot)
    ∧ (∀ (br : Bridge) (k : Fin 4), s.tackSends ax br k = true → fldOf (vget (s.br ax br).tacks k) 30 28 = 1 →
        ∃ t, exec (.tackFire ax br k) s = .next t ∧ t.regs = s.regs ∧ t.pwm = s.pwm ∧ t.mot = s.mot
          ∧ (fldOf (vget (s.br ax br).tacks k) 27 25 = 4 → t.sys.comTrig = true ∧ t.pc = s.pc)
          ∧ (fldOf (vget (s.br ax br).tacks k) 27 25 ≠ 4 → ∃ p : Conv, (vget t.pc p).trig = true
              ∧ p.val = (if fldOf (vget (s.br ax br).tacks k) 27 25 < 4 then fldOf (vget (s.br ax br).tacks k) 27 25 else 0)
              ∧ ∀ q : Conv, q ≠ p → vget t.pc q = vget s.pc q))
    ∧ (∀ (br : Bridge) (k : Fin 4), s.tackSends ax br k = false ∨ fldOf (vget (s.br ax br).tacks k) 30 28 = 0 → exec (.tackFire ax br k) s = .next s.quiet)

/-- REG and ILIM trips, the mask's end and the latch: masked trips are noted alone, the N-th counted ILIM trip latches the bridge off (R237, R238, R240, R242, R248, R249, R250, spec/10_pwm.md).
With nothing set to reset, and where LCLR reaches its register. A masked REG or ILIM trip sets its input bit and nothing else. An unmasked
REG trip ends a COFF on-phase. An unmasked ILIM trip of an enabled, clocked, unlatched bridge with VG in order is recorded for the period,
counted in PWM_TRIPTOT up to 65,535 when the period had none, and, with N at 1, latches the bridge off with all its gates off. An inactive
ILIM clears its input. The mask's end with neither input active clears mask and inputs; with ILIM active it is acted on. LCLR of a latched
bridge clears the latch and its record at once while ILIM is inactive, and is held while it is active; PENDING_CLEAR_APPLY then clears it.
Where the spec leaves a point open, what is said of it is the model's choice (log entry 47). -/
def Obligations.TripsEndPulsesAndLatch : Prop :=
  ∀ (s : State) (m : Master) (ax : Axis) (br : Bridge), NoReset s →
    (s.masked ax br = true → ∃ t, exec (.regTrip ax br true) s = .next t ∧ t.bit (R.PWM_STAT ax) (6 + brIx br) = true ∧ t.pwm = s.pwm
        ∧ (∀ k, k ≠ R.PWM_STAT ax → t.get k = s.get k))
    ∧ (s.masked ax br = false → s.inOn ax br = true → s.bmode ax = 1 → ∃ t, exec (.regTrip ax br true) s = .next t ∧ (t.br ax br).phase = .off ∧ t.mot = s.mot)
    ∧ (∃ t, exec (.ilimTrip ax br false) s = .next t ∧ t.bit (R.PWM_STAT ax) (4 + brIx br) = false ∧ (t.br ax br).counted = false
        ∧ (∀ j : Leg, t.leg ax j = s.leg ax j) ∧ (∀ k, k ≠ R.PWM_STAT ax → t.get k = s.get k))
    ∧ (s.masked ax br = true → ∃ t, exec (.ilimTrip ax br true) s = .next t ∧ t.bit (R.PWM_STAT ax) (4 + brIx br) = true ∧ (t.br ax br).counted = false
        ∧ (t.br ax br).trips = (s.br ax br).trips ∧ (∀ j : Leg, t.leg ax j = s.leg ax j) ∧ (∀ k, k ≠ R.PWM_STAT ax → t.get k = s.get k))
    ∧ (s.masked ax br = false → s.pwmEn ax = true → s.latchedOff ax br = false → s.vgOk = true → s.modStopped = false → ∃ t, exec (.ilimTrip ax br true) s = .next t
        ∧ (t.br ax br).tripNow = true ∧ t.bit (R.PWM_STAT ax) (4 + brIx br) = true
        ∧ (br = .a → (s.br ax br).tripNow = false → t.fld (R.PWM_TRIPTOT ax) 31 16 = min 65535 (s.fld (R.PWM_TRIPTOT ax) 31 16 + 1))
        ∧ (s.ilimN ax = 1 → t.latchedOff ax br = true ∧ t.leg ax (legsOf br).1 = {} ∧ t.leg ax (legsOf br).2 = {} ∧ t.present (56 + ax) = true))
    ∧ (∃ t, exec (.maskEnd ax br false false) s = .next t ∧ t.masked ax br = false ∧ t.bit (R.PWM_STAT ax) (4 + brIx br) = false
        ∧ t.bit (R.PWM_STAT ax) (6 + brIx br) = false ∧ (t.br ax br).trips = (s.br ax br).trips ∧ ∀ j : Leg, t.leg ax j = s.leg ax j)
    ∧ (∀ reg : Bool, s.pwmEn ax = true → s.latchedOff ax br = false → s.vgOk = true → s.modStopped = false → (s.br ax br).counted = false →
        ∃ t, exec (.maskEnd ax br reg true) s = .next t ∧ (t.br ax br).tripNow = true ∧ t.bit (R.PWM_STAT ax) (4 + brIx br) = true
          ∧ t.bit (R.PWM_STAT ax) (6 + brIx br) = reg)
    ∧ (s.opens m (R.PWM_CTL ax / 128) = true → s.latchedOff ax br = true → s.bit (R.PWM_STAT ax) (4 + brIx br) = false → ∃ t, exec (.latchClear m ax br) s = .next t
        ∧ t.latchedOff ax br = false ∧ (t.br ax br).trips = [] ∧ (t.br ax br).tripNow = false ∧ (t.br ax br).held = true
        ∧ ∀ j : Leg, t.leg ax j = s.leg ax j)
    ∧ (s.opens m (R.PWM_CTL ax / 128) = true → s.latchedOff ax br = true → s.bit (R.PWM_STAT ax) (4 + brIx br) = true → ∃ t, exec (.latchClear m ax br) s = .next t
        ∧ t.latchedOff ax br = true ∧ t.bit (R.PWM_STAT ax) (2 + brIx br) = true ∧ t.pwm = s.pwm)
    ∧ (s.opens m (R.PWM_CTL ax / 128) = true → s.latchedOff ax br = false → exec (.latchClear m ax br) s = .next (s.opened m))
    ∧ (s.bit (R.PWM_STAT ax) (2 + brIx br) = true → ∃ t, exec (.pendingClearApply ax br) s = .next t ∧ t.latchedOff ax br = false
        ∧ t.bit (R.PWM_STAT ax) (4 + brIx br) = false ∧ t.bit (R.PWM_STAT ax) (2 + brIx br) = false ∧ (t.br ax br).trips = [])
    ∧ (s.bit (R.PWM_STAT ax) (2 + brIx br) = false → ∃ t, exec (.pendingClearApply ax br) s = .next t ∧ t.latchedOff ax br = s.latchedOff ax br
        ∧ t.bit (R.PWM_STAT ax) (4 + brIx br) = false ∧ (t.br ax br).trips = (s.br ax br).trips)

/-- VG undervoltage, VDS and hard shorts, bootstrap lockout and the gate budget: which gates go off, which findings and sources stand (R64, R66, R255, R263, R265, R266, R267, spec/11_gate_drive.md, spec/03_power_reset.md).
With nothing set to reset. VG_UV_ASSERT turns every gate of every axis off and keeps what is commanded; source 7's condition holds.
VDS_SHORT sets and ends the finding of a gate that is on and armed, and is ignored elsewhere. HARD_SHORT is a finding while GD_CFG.EN is
1, outside the self-test. A bootstrap that asserts turns its high side off and no other gate; its release ends the lockout with no gate
turned on. GATE_BUDGET_WINDOW stores the mean up to 65,535 mA, and the budget's condition holds exactly above 500 mA. Where the spec
leaves a point open, what is said of it is the model's choice (log entries 19, 106). -/
def Obligations.GateMonitorsAndLockouts : Prop :=
  ∀ (s : State) (ax : Axis) (j : Leg), NoReset s →
    (∃ t, exec .vgUvAssert s = .next t ∧ t.vgOk = false ∧ t.present 7 = true ∧ (∀ (bx : Axis) (i : Leg), (t.leg bx i).hiOn = false ∧ (t.leg bx i).loOn = false
        ∧ (t.leg bx i).hiCmd = (s.leg bx i).hiCmd ∧ (t.leg bx i).loCmd = (s.leg bx i).loCmd) ∧ t.mot = s.mot)
    ∧ (∀ high active : Bool, (s.leg ax j).armed = true → (if high then (s.leg ax j).hiOn else (s.leg ax j).loOn) = true →
        ∃ t, exec (.vdsShort ax j high active) s = .next t ∧ t.bit (R.GD_FLT ax) (if high then 8 + j else 12 + j) = active
          ∧ t.present (64 + ax) = decide (t.fld (R.GD_FLT ax) 15 8 ≠ 0)
          ∧ t.pwm = s.pwm ∧ ∀ k, k ≠ R.GD_FLT ax → t.get k = s.get k)
    ∧ (∀ high active : Bool, ((s.leg ax j).armed = false ∨ (if high then (s.leg ax j).hiOn else (s.leg ax j).loOn) = false) →
        exec (.vdsShort ax j high active) s = .next s.quiet)
    ∧ (∀ (br : Bridge) (active : Bool), ∃ t, exec (.hardShort ax br active) s = .next t
        ∧ t.bit (R.GD_FLT ax) (18 + brIx br) = (active && s.bit (R.GD_CFG ax) 31 && !s.bit (R.GD_STAT ax) 19) ∧ t.pwm = s.pwm ∧ ∀ k, k ≠ R.GD_FLT ax → t.get k = s.get k)
    ∧ (s.bit (R.GD_STAT ax) j = false → ∃ t, exec (.bootstrapUvAssert ax j) s = .next t ∧ t.bit (R.GD_STAT ax) j = true ∧ (t.leg ax j).hiOn = false
        ∧ (t.leg ax j).loOn = (s.leg ax j).loOn ∧ (t.leg ax j).bstHeld = (s.leg ax j).hiCmd ∧ (∀ i : Leg, i ≠ j → t.leg ax i = s.leg ax i) ∧ t.mot = s.mot)
    ∧ (∃ t, exec (.bootstrapUvRelease ax j) s = .next t ∧ t.bit (R.GD_STAT ax) j = false ∧ t.pwm = s.pwm
        ∧ ∀ k, k ≠ R.GD_STAT ax → t.get k = s.get k)
    ∧ (∀ mA : Nat, ∃ t, exec (.gateBudgetWindow mA) s = .next t ∧ t.get R.GDG_IGATE = wordOfNat (min mA 65535) ∧ t.bit R.GDG_STAT 0 = decide (500 < mA)
        ∧ t.present 9 = decide (500 < mA) ∧ t.pwm = s.pwm ∧ ∀ k, k ≠ R.GDG_IGATE → k ≠ R.GDG_STAT → t.get k = s.get k)

/-- Precharge, off-state diagnostic and self-test run on an enabled gate drive under a disabled bridge; GD_WREP is EXEC's (R262, R268, R269, R270, R271, spec/11_gate_drive.md).
With nothing set to reset, and where the writes reach their registers. PRECH with GD_CFG.EN 1 and PWM_CFG.EN 0 commands the four low
sides, and is refused with WRITE_IGNORED otherwise; its end commands every gate off (one that is stuck stays on). DIAG and STEST, the axis
also at rest, command every gate off, set their running bit and clear their result, and are refused otherwise. DIAG_COMPLETE of a running
diagnostic reports the shorts found and an open only for a coil with no short; SELFTEST_COMPLETE reports the failed tests. With none
running both change nothing. GD_WREP is stored for EXEC and refused to others. -/
def Obligations.GateDiagnosticsRunOnIdleAxes : Prop :=
  ∀ (s : State) (m : Master) (ax : Axis), NoReset s →
    (s.opens m (R.GD_CTL ax / 128) = true → s.bit (R.GD_CFG ax) 31 = true → s.pwmEn ax = false → ∃ t, exec (.prech m ax) s = .next t ∧ t.bit (R.GD_STAT ax) 17 = true
        ∧ (∀ j : Leg, (t.leg ax j).loCmd = true ∧ (t.leg ax j).hiCmd = false) ∧ (s.fld (R.GD_FLT ax) 23 8 = 0 → t.fc = s.fc) ∧ t.mot = s.mot)
    ∧ (s.opens m (R.GD_CTL ax / 128) = true → (s.bit (R.GD_CFG ax) 31 = false ∨ s.pwmEn ax = true) → ∃ t, exec (.prech m ax) s = .next t ∧ t.regs = s.regs ∧ t.pwm = s.pwm
        ∧ RaisedIn s t 2 (accessDetail m (R.GD_CTL ax)))
    ∧ (s.bit (R.GD_STAT ax) 17 = true → ∃ t, exec (.prechargeEnd ax) s = .next t ∧ t.bit (R.GD_STAT ax) 17 = false
        ∧ (∀ j : Leg, (t.leg ax j).hiCmd = false ∧ (t.leg ax j).loCmd = false ∧ (s.bit (R.GD_FLT ax) (20 + j) = false → t.leg ax j = {}))
        ∧ (s.fld (R.GD_FLT ax) 23 8 = 0 → t.fc = s.fc) ∧ t.mot = s.mot)
    ∧ (s.bit (R.GD_STAT ax) 17 = false → exec (.prechargeEnd ax) s = .next s.quiet)
    ∧ (s.opens m (R.GD_CTL ax / 128) = true → s.diagMay ax = true → (∃ t, exec (.diag m ax) s = .next t ∧ t.bit (R.GD_STAT ax) 18 = true ∧ t.get (R.GD_DIAG ax) = 0#32
          ∧ (∀ j : Leg, s.bit (R.GD_FLT ax) (20 + j) = false → t.leg ax j = {}) ∧ t.mot = s.mot)
        ∧ ∃ t, exec (.stest m ax) s = .next t ∧ t.bit (R.GD_STAT ax) 19 = true ∧ t.get (R.GD_STRES ax) = 0#32
          ∧ (∀ j : Leg, s.bit (R.GD_FLT ax) (20 + j) = false → t.leg ax j = {}) ∧ (s.fld (R.GD_FLT ax) 23 8 = 0 → t.fc = s.fc))
    ∧ (s.opens m (R.GD_CTL ax / 128) = true → s.diagMay ax = false → (∃ t, exec (.diag m ax) s = .next t ∧ t.regs = s.regs ∧ t.pwm = s.pwm ∧ RaisedIn s t 2 (accessDetail m (R.GD_CTL ax)))
        ∧ ∃ t, exec (.stest m ax) s = .next t ∧ t.regs = s.regs ∧ t.pwm = s.pwm ∧ RaisedIn s t 2 (accessDetail m (R.GD_CTL ax)))
    ∧ (∀ (shvs shgnd : BitVec 4) (openA openB : Bool), s.bit (R.GD_STAT ax) 18 = true → ∃ t, exec (.diagComplete ax shvs shgnd openA openB) s = .next t
        ∧ t.bit (R.GD_STAT ax) 18 = false ∧ t.bit (R.GD_DIAG ax) 0 = true ∧ t.fld (R.GD_DIAG ax) 7 4 = shvs.toNat ∧ t.fld (R.GD_DIAG ax) 11 8 = shgnd.toNat
        ∧ t.bit (R.GD_DIAG ax) 16 = (openA && !(shvs ||| shgnd).getLsbD 0 && !(shvs ||| shgnd).getLsbD 1)
        ∧ t.bit (R.GD_DIAG ax) 17 = (openB && !(shvs ||| shgnd).getLsbD 2 && !(shvs ||| shgnd).getLsbD 3) ∧ t.pwm = s.pwm
        ∧ ∀ k, k ≠ R.GD_STAT ax → k ≠ R.GD_DIAG ax → t.get k = s.get k)
    ∧ (∀ failed : BitVec 30, s.bit (R.GD_STAT ax) 19 = true → ∃ t, exec (.selftestComplete ax failed) s = .next t ∧ t.bit (R.GD_STAT ax) 19 = false
        ∧ t.bit (R.GD_STRES ax) 31 = true ∧ t.fld (R.GD_STRES ax) 29 0 = failed.toNat ∧ t.pwm = s.pwm ∧ t.fc = s.fc
        ∧ ∀ k, k ≠ R.GD_STAT ax → k ≠ R.GD_STRES ax → t.get k = s.get k)
    ∧ (∀ (shvs shgnd : BitVec 4) (openA openB : Bool), s.bit (R.GD_STAT ax) 18 = false → exec (.diagComplete ax shvs shgnd openA openB) s = .next s.quiet)
    ∧ (∀ failed : BitVec 30, s.bit (R.GD_STAT ax) 19 = false → exec (.selftestComplete ax failed) s = .next s.quiet)
    ∧ (∀ w : Word, s.opens .exec (R.GD_WREP ax / 128) = true → ∃ t, exec (.gdWrepWrite .exec ax w) s = .next t ∧ t.get (R.GD_WREP ax) = w &&& 0x1F#32 ∧ t.pwm = s.pwm
        ∧ ∀ k, k ≠ R.GD_WREP ax → t.get k = s.get k)
    ∧ (∀ w : Word, s.opens m (R.GD_WREP ax / 128) = true → m ≠ .exec → ∃ t, exec (.gdWrepWrite m ax w) s = .next t ∧ t.regs = s.regs ∧ RaisedIn s t 2 (accessDetail m (R.GD_WREP ax)))

/-- CSM_CFG.EN starts the modulators that are ON, their first samples marked; a gain is fixed while its modulator runs (R274, R276, R277, spec/12_converters.md).
With nothing set to reset, and where the writes reach their registers. CSM_ENABLE sets EN; of a block that was off, the next 3 fast-path
and 36 fine-path samples of every coil with ON carry OVL, and CSM_STAT.RUN shows exactly the coils that run. CSM_CCFG of a coil that is
not both enabled and ON is stored; of one that is, a change of GAIN is refused with WRITE_IGNORED and changes no register.
MODULATOR_OVERLOAD marks the coil while its modulator runs; when it ends, the next 3 fast-path and 36 fine-path samples still carry OVL.
Where the spec leaves a point open, what is said of it is the model's choice (log entry 50). -/
def Obligations.ModulatorsAreEnabledAndGuarded : Prop :=
  ∀ (s : State) (m : Master) (c : Coil), NoReset s →
    (s.opens m (R.CSM_CFG / 128) = true → ∃ t, exec (.csmEnable m) s = .next t ∧ t.bit R.CSM_CFG 31 = true ∧ t.bit R.CSM_STAT (16 + c) = s.bit (R.CSM_CCFG c) 31
        ∧ (s.bit R.CSM_CFG 31 = false → s.bit (R.CSM_CCFG c) 31 = true → (vget t.csm c).fastWarm = 3 ∧ (vget t.csm c).fineWarm = 36)
        ∧ ∀ k, k ≠ R.CSM_CFG → k ≠ R.CSM_STAT → t.get k = s.get k)
    ∧ (∀ w : Word, s.opens m (R.CSM_CCFG c / 128) = true → s.csmOn c = false → ∃ t, exec (.csmCcfgWrite m c w) s = .next t ∧ t.get (R.CSM_CCFG c) = w &&& 0xC0000001#32
        ∧ (∀ d : Coil, d ≠ c → vget t.csm d = vget s.csm d) ∧ ∀ k, k ≠ R.CSM_CCFG c → k ≠ R.CSM_STAT → t.get k = s.get k)
    ∧ (∀ w : Word, s.opens m (R.CSM_CCFG c / 128) = true → s.csmOn c = true → bitOf w 0 ≠ s.bit (R.CSM_CCFG c) 0 → ∃ t, exec (.csmCcfgWrite m c w) s = .next t ∧ t.regs = s.regs
        ∧ t.csm = s.csm ∧ RaisedIn s t 2 (accessDetail m (R.CSM_CCFG c)))
    ∧ (∀ active : Bool, ∃ t, exec (.modulatorOverload c active) s = .next t ∧ (vget t.csm c).ovl = (active && s.csmOn c)
        ∧ (active = false → (vget s.csm c).ovl = true → (vget t.csm c).fastWarm = 3 ∧ (vget t.csm c).fineWarm = 36)
        ∧ (∀ d : Coil, d ≠ c → vget t.csm d = vget s.csm d) ∧ t.regs = s.regs)

/-- Regular and injected sequences start, stop, interrupt and settle, on an enabled converter, with no register but the miss count changed (R280, R282, R283, R284, R285, R286, R289, spec/12_converters.md).
Where the writes reach their registers. RSTART and RSYNC start the regular sequence of an enabled converter at entry 0, RSTOP ends it.
ISTART and ISYNC, and a tack's trigger that is on its way to the converter or to all four where ITEN is 1, starts the injected sequence at
its first entry and aborts a running calibration; while that sequence runs, the trigger is missed and counted modulo 256. On a converter
that is disabled, or for an outer trigger with ITEN 0, the converter stands. A settling delay that ends begins the conversion. Where the
spec leaves a point open, what is said of it is the model's choice (log entry 50). -/
def Obligations.ConverterSequencesRun : Prop :=
  ∀ (s : State) (m : Master) (p : Conv),
    (s.opens m (R.PC_CTL p / 128) = true → s.opens m (R.REF_SYNC / 128) = true → s.pcEn p = true → (∃ t, exec (.rstart m p) s = .next t ∧ (vget t.pc p).rrun = true ∧ (vget t.pc p).rIdx = 0 ∧ (vget t.pc p).iIdx = (vget s.pc p).iIdx
          ∧ t.regs = s.regs ∧ ∀ q : Conv, q ≠ p → vget t.pc q = vget s.pc q)
        ∧ ∃ t, exec (.rsync m) s = .next t ∧ (vget t.pc p).rrun = true ∧ (vget t.pc p).rIdx = 0 ∧ t.regs = s.regs)
    ∧ (s.opens m (R.PC_CTL p / 128) = true → s.opens m (R.REF_SYNC / 128) = true → s.pcEn p = false → exec (.rstart m p) s = .next (s.opened m)
        ∧ exec (.istart m p) s = .next (s.opened m) ∧ ∃ t, exec (.rsync m) s = .next t ∧ vget t.pc p = vget s.pc p ∧ t.regs = s.regs)
    ∧ (s.opens m (R.PC_CTL p / 128) = true → ∃ t, exec (.rstop m p) s = .next t ∧ (vget t.pc p).rrun = false ∧ (vget t.pc p).iIdx = (vget s.pc p).iIdx ∧ t.regs = s.regs
        ∧ ∀ q : Conv, q ≠ p → vget t.pc q = vget s.pc q)
    ∧ (s.opens m (R.PC_CTL p / 128) = true → s.pcEn p = true → (vget s.pc p).iIdx = none → ∃ t, exec (.istart m p) s = .next t ∧ (vget t.pc p).iIdx = some 0 ∧ (vget t.pc p).calRun = none
        ∧ (vget t.pc p).calAb = ((vget s.pc p).calAb || (vget s.pc p).calRun.isSome) ∧ (vget t.pc p).rrun = (vget s.pc p).rrun ∧ t.regs = s.regs
        ∧ ∀ q : Conv, q ≠ p → vget t.pc q = vget s.pc q)
    ∧ (s.opens m (R.PC_CTL p / 128) = true → s.pcEn p = true → (vget s.pc p).iIdx ≠ none → ∃ t, exec (.istart m p) s = .next t
        ∧ t.fld (R.PC_CNT p) 31 24 = (s.fld (R.PC_CNT p) 31 24 + 1) % 256 ∧ t.pc = s.pc ∧ ∀ k, k ≠ R.PC_CNT p → t.get k = s.get k)
    ∧ (s.pcEn p = true → (vget s.pc p).iIdx = none → s.bit (R.PC_CFG p) 0 = true →
        ((vget s.pc p).trig = true → ∃ t, exec (.injectedTrigger (.tack p)) s = .next t ∧ (vget t.pc p).iIdx = some 0 ∧ (vget t.pc p).trig = false
          ∧ t.regs = s.regs ∧ ∀ q : Conv, q ≠ p → vget t.pc q = vget s.pc q)
        ∧ (s.sys.comTrig = true → ∃ t, exec (.injectedTrigger .common) s = .next t ∧ (vget t.pc p).iIdx = some 0 ∧ t.sys.comTrig = false)
        ∧ (s.opens m (R.REF_SYNC / 128) = true → ∃ t, exec (.isync m) s = .next t ∧ (vget t.pc p).iIdx = some 0))
    ∧ (s.pcEn p = false ∨ s.bit (R.PC_CFG p) 0 = false → ∃ t, exec (.injectedTrigger (.tack p)) s = .next t
        ∧ vget t.pc p = { vget s.pc p with trig := false } ∧ t.regs = s.regs ∧ ∀ q : Conv, q ≠ p → vget t.pc q = vget s.pc q)
    ∧ ((vget s.pc p).trig = false → exec (.injectedTrigger (.tack p)) s = .next s.quiet)
    ∧ (s.sys.comTrig = false → exec (.injectedTrigger .common) s = .next s.quiet)
    ∧ ((vget s.pc p).settle = true → ∃ t, exec (.pcSettleEnd p) s = .next t ∧ (vget t.pc p).settle = false ∧ (vget t.pc p).rns = s.refUnsettled
        ∧ t.regs = s.regs ∧ ∀ q : Conv, q ≠ p → vget t.pc q = vget s.pc q)
    ∧ ((vget s.pc p).settle = false → exec (.pcSettleEnd p) s = .next s.quiet)

/-- A conversion writes its entry's result by offset and gain; CAL takes four results into a coefficient or reports CALERR (R279, R282, R287, R290, R291, R292, R293, spec/12_converters.md).
PC_ENTRY_RESULT in the regular sequence, outside settling and calibration, writes PC_RES of the present entry: SEQ advances modulo 16, the
value is (code - offset) × gain / 2^22 within 24 bits (where that is a whole number), OVR tells an overrange or a clamp, and the next
entry is taken. In settling, or with no sequence running, nothing changes. CAL, where the write reaches its register, of an enabled, idle
converter begins a calibration of its entry. Four good results of an offset calibration, at a settled reference, set the offset to their
mean (where whole); bad results set CALERR and no coefficient. Where the spec leaves a point open, what is said of it is the model's
choice (log entry 50). -/
def Obligations.ConversionsGiveResultsAndCalibrate : Prop :=
  ∀ (s : State) (m : Master) (p : Conv),
    (∀ (code : Int) (ovr : Bool), (vget s.pc p).settle = false → (vget s.pc p).calRun = none → (vget s.pc p).iIdx = none → s.modStopped = false →
        (vget s.pc p).rrun = true → (vget s.pc p).rIdx + 1 < s.rlen p → (vget s.pc p).rIdx < 16 →
        let e := (vget s.pc p).rIdx
        let x := (rawCode code ovr - s.sfld (R.PC_OFS p e) 23 0) * s.fld (R.PC_GAIN p e) 23 0
        x % 4194304 = 0 → ∃ t, exec (.pcEntryResult p code ovr) s = .next t
          ∧ t.sfld (R.PC_RES p e) 23 0 = clampI (-8388608) 8388607 (x / 4194304) ∧ t.fld (R.PC_RES p e) 31 28 = (s.fld (R.PC_RES p e) 31 28 + 1) % 16
          ∧ t.bit (R.PC_RES p e) 24 = (ovr || decide (clampI (-8388608) 8388607 (x / 4194304) ≠ x / 4194304)) ∧ t.bit (R.PC_RES p e) 25 = (vget s.pc p).rns
          ∧ (vget t.pc p).rIdx = e + 1 ∧ (∀ k, k ≠ R.PC_RES p e → t.get k = s.get k) ∧ ∀ q : Conv, q ≠ p → vget t.pc q = vget s.pc q)
    ∧ (∀ (code : Int) (ovr : Bool), ((vget s.pc p).settle = true ∨ ((vget s.pc p).iIdx = none ∧ (vget s.pc p).rrun = false)) →
        exec (.pcEntryResult p code ovr) s = .next s.quiet)
    ∧ (∀ e : Nat, e < 20 → s.opens m (R.PC_CTL p / 128) = true → s.pcEn p = true → (vget s.pc p).iIdx = none → (vget s.pc p).calRun = none → (vget s.pc p).calPend = none →
        ∃ t, exec (.cal m p (wordOfNat (8 + e * 256))) s = .next t ∧ (vget t.pc p).calRun = some { entry := e, full := false }
          ∧ (vget t.pc p).calErr = false ∧ (vget t.pc p).calAb = false ∧ t.regs = s.regs)
    ∧ (∀ (e : Nat) (a b c d : Int), (vget s.pc p).calRun = some { entry := e, full := false } → (vget s.pc p).settle = false → s.modStopped = false →
        (vget s.pc p).rns = false → (a + b + c + d) % 4 = 0 → a + b + c + d ≠ 4 * s.sfld (R.PC_OFS p e) 23 0 →
        ∃ t, exec (.calComplete p [a, b, c, d] false) s = .next t ∧ t.fld (R.PC_OFS p e) 23 0 = lowBits 24 ((a + b + c + d) / 4)
          ∧ (vget t.pc p).calRun = none ∧ (vget t.pc p).calErr = false ∧ ∀ k, k ≠ R.PC_OFS p e → t.get k = s.get k)
    ∧ (∀ (r : CalRun) (codes : List Int), (vget s.pc p).calRun = some r → (vget s.pc p).settle = false → s.modStopped = false →
        ∃ t, exec (.calComplete p codes true) s = .next t ∧ (vget t.pc p).calRun = none ∧ (vget t.pc p).calErr = true ∧ t.regs = s.regs)
    ∧ (∀ (codes : List Int) (bad : Bool), (vget s.pc p).calRun = none → exec (.calComplete p codes bad) s = .next s.quiet)

/-- Comparators: resolved by their band, followed by edges, held through a tie-off; the configuration of one that runs is fixed (R294, R295, R297, R298, R299, R301, R304, R305, spec/13_comparators.md).
With nothing set to reset. COMPARATOR_RESOLVE of a comparator that is on and unevaluated gives OUT the side of the band on which its input
lies, and UNRES 0; inside a band of some hysteresis it leaves OUT and UNRES. COMPARATOR_EDGE of one evaluated does likewise; inside the
band, off or unevaluated it changes nothing. Where the write reaches its register, CMP_CCFG of a comparator that does not run is stored
and OUT reads PUS with UNRES; of one that runs, a change of hysteresis, tie polarity or another fixed field is refused with WRITE_IGNORED.
TIE_RELEASE ends the hold of a comparator no longer tied. Where the spec leaves a point open, what is said of it is the model's choice
(log entry 51). -/
def Obligations.ComparatorsResolveAndFollow : Prop :=
  ∀ (s : State) (m : Master) (c : Cmp), NoReset s →
    (∀ (uV : Int) (side : Bool), s.cmpOn c = true → bandSide (s.get (R.CMP_CCFG c)) (tiedUv (s.get (R.CMP_CCFG c)) uV) = some side →
        ((vget s.cmp c).evaluated = false → ∃ t, exec (.comparatorResolve c uV) s = .next t ∧ t.bit R.CMP_OUT c = side ∧ t.bit R.CMP_OUT (16 + c) = false
            ∧ (vget t.cmp c).evaluated = true ∧ ∀ d : Cmp, d ≠ c → t.bit R.CMP_OUT d = s.bit R.CMP_OUT d)
        ∧ ((vget s.cmp c).evaluated = true → ∃ t, exec (.comparatorEdge c uV) s = .next t ∧ t.bit R.CMP_OUT c = side ∧ t.bit R.CMP_OUT (16 + c) = false
            ∧ t.cmp = s.cmp ∧ ∀ d : Cmp, d ≠ c → t.bit R.CMP_OUT d = s.bit R.CMP_OUT d))
    ∧ (∀ uV : Int, s.cmpOn c = true → bandSide (s.get (R.CMP_CCFG c)) (tiedUv (s.get (R.CMP_CCFG c)) uV) = none →
        ((vget s.cmp c).evaluated = false → s.fld (R.CMP_CCFG c) 25 24 ≠ 0 → ∃ t, exec (.comparatorResolve c uV) s = .next t ∧ t.regs = s.regs
            ∧ (vget t.cmp c).evaluated = true)
        ∧ exec (.comparatorEdge c uV) s = .next s.quiet)
    ∧ (∀ uV : Int, s.cmpOn c = false → exec (.comparatorResolve c uV) s = .next s.quiet ∧ exec (.comparatorEdge c uV) s = .next s.quiet)
    ∧ (∀ w : Word, s.opens m (R.CMP_CCFG c / 128) = true → s.bit R.CMP_CFG 31 = false → ∃ t, exec (.cmpCcfgWrite m c w) s = .next t ∧ t.get (R.CMP_CCFG c) = w &&& 0xB37333FF#32
        ∧ t.bit R.CMP_OUT c = bitOf w 12 ∧ t.bit R.CMP_OUT (16 + c) = true ∧ (vget t.cmp c).evaluated = false
        ∧ ∀ d : Cmp, d ≠ c → t.bit R.CMP_OUT d = s.bit R.CMP_OUT d)
    ∧ (∀ w : Word, s.opens m (R.CMP_CCFG c / 128) = true → s.cmpOn c = true → (s.get (R.CMP_CCFG c) ^^^ w) &&& 0x33003000#32 ≠ 0#32 → ∃ t, exec (.cmpCcfgWrite m c w) s = .next t
        ∧ t.regs = s.regs ∧ t.cmp = s.cmp ∧ RaisedIn s t 2 (accessDetail m (R.CMP_CCFG c)))
    ∧ ((vget s.cmp c).held = true → s.fld (R.CMP_CCFG c) 17 16 = 0 → ∃ t, exec (.tieRelease c) s = .next t ∧ (vget t.cmp c).held = false
        ∧ t.get R.CMP_OUT = s.get R.CMP_OUT ∧ ∀ d : Cmp, d ≠ c → vget t.cmp d = vget s.cmp d)
    ∧ ((vget s.cmp c).held = false → exec (.tieRelease c) s = .next s.quiet)

/-- A request that fails a check is answered with that result; a command for an opcode that does not wait changes nothing (R131, R134, R141, R142, R143, R147, spec/06_commands.md).
A message that HOST posts on the empty, otherwise idle BCH0, with no response owed and without CRC check: an opcode that the table does
not define is answered BADOP, a TAG of 0 BADARG, and a request for another device at a standalone device DENIED where R143 denies it and
otherwise UNREACH; each is taken, and the response repeats opcode and tag. A service command of an opcode for which no request waits, or
whose turn it is not, changes nothing. Where the spec leaves a point open, what is said of it is the model's choice (log entry 80). -/
def Obligations.RequestsAreCheckedInOrder : Prop :=
  ∀ s : State,
    (∀ ch : ReqChan, s.mayServe (chanIx ch) 0x00 = false → exec (.opGetId ch) s = .next s.quiet)
    ∧ (∀ w : Word, s.opens .host (bch 0 0x10 / 128) = true → s.fwRuns = true → s.sndOf 0 = 0 → s.rcvOf 0 = 1 → s.sndOf 1 = 1 → s.bit (R.MBX_BINDB 0) 8 = false → s.bFull 0 = false → s.bFull 1 = false →
        s.hasReq 1 = false → s.hasReq 2 = false → s.lnk.inq = [] → (∀ d, vget s.fw.outq d = []) → (∀ d, vget s.fw.owed d = []) → bitOf w 0 = true → s.baseline = false →
        (opSpec (hdrOp (s.get (bch 0 0))) = none → ∃ t, exec (.mailboxGo .host 0 w) s = .next t ∧ Answers s t .host .badop [] ∧ RegsStand s t)
        ∧ (∀ o, opSpec (hdrOp (s.get (bch 0 0))) = some o → hdrTag (s.get (bch 0 0)) = 0 →
            ∃ t, exec (.mailboxGo .host 0 w) s = .next t ∧ Answers s t .host .badarg [] ∧ RegsStand s t)
        ∧ (∀ o, opSpec (hdrOp (s.get (bch 0 0))) = some o → s.badReq (s.reqOf 0) o = false → s.isLocal (s.reqOf 0) = false → s.linkRole = 2 →
            ∃ t, exec (.mailboxGo .host 0 w) s = .next t ∧ RegsStand s t
              ∧ Answers s t .host (if s.relayDenied (s.reqOf 0) = true then .denied else .unreach) []))

/-- GET_ID, GET_STATUS, SET_POWER, RESET, GET_TIME, SET_TIME, PING and SET_EVENTS: what each answers and changes (R75, R132, R150, R152, R153, spec/06_commands.md).
A request from HOST or MAINT that passed its checks. GET_ID, GET_STATUS, GET_TIME and PING answer OK with the named words and change
nothing else. SET_POWER to RUN sets the request with no refusal; to STANDBY while an axis has an active or queued context it answers STATE
with REFUSE 1. RESET answers OK and leaves the reset to follow the response (the logbook's pair of the wear journal decoding). SET_TIME,
not at a worker, sets SYS_TIME rounded down to 5 ns. SET_EVENTS takes the three masks. Where the spec leaves a point open, what is said of
it is the model's choice (log entries 17, 80). -/
def Obligations.IdentityAndSystemRequests : Prop :=
  ∀ (s : State) (ch : ReqChan),
    let q := s.reqOf (chanIx ch)
    (Waits s ch 0x00 → ∃ t, exec (.opGetId ch) s = .next t ∧ OnlyAsked s t
        ∧ Answers s t ch .ok [s.get R.HSP_ID, s.get R.HSP_STEP, s.versionWord, s.get R.SYS_STRAP, wordOfNat s.linkAddr.toNat])
    ∧ (Waits s ch 0x01 → ∃ t, exec (.opGetStatus ch) s = .next t ∧ OnlyAsked s t
        ∧ Answers s t ch .ok [wordOfNat (s.opMode + s.fld R.SYS_PWRSTAT 1 0 * 4 + b2n s.baseline * 16 + b2n s.presence * 32)
          , wordOfNat (axisBits s.meEn + axisBits s.axisFault * 256 + axisBits s.axisHalted * 65536)
          , wordOfNat s.nlatch, hiWord s.sys.time, loWord s.sys.time, s.splPres &&& 0xFFFF#32])
    ∧ (Waits s ch 0x02 → q.n 1 = 0 → ∃ t, exec (.opSetPower ch) s = .next t ∧ Answers s t ch .ok [] ∧ t.fld R.SYS_PWRCTL 1 0 = 0
        ∧ t.fld R.SYS_PWRSTAT 18 16 = 0 ∧ t.mot = s.mot ∧ t.pwm = s.pwm)
    ∧ (Waits s ch 0x02 → q.n 1 = 2 → (∃ ax : Axis, s.axisBusy ax = true) → ∃ t, exec (.opSetPower ch) s = .next t
        ∧ Answers s t ch .state [1#32] ∧ t.standby = s.standby ∧ t.mot = s.mot ∧ t.pwm = s.pwm)
    ∧ (Waits s ch 0x03 → s.isUe .wj 16 = false → s.isUe .wj 17 = false → ∃ t, exec (.opReset ch) s = .next t ∧ Answers s t ch .ok [] ∧ t.mot = s.mot ∧ t.sys = s.sys
        ∧ t.fw.deferred = some (match q.n 1 with | 0 => .crst | 1 => .execCore | _ => .linkCore, (chanIx ch).val))
    ∧ (Waits s ch 0x04 → ∃ t, exec (.opGetTime ch) s = .next t ∧ OnlyAsked s t ∧ Answers s t ch .ok [hiWord s.sys.time, loWord s.sys.time])
    ∧ (Waits s ch 0x05 → s.isWorker = false → ∃ t, exec (.opSetTime ch) s = .next t ∧ Answers s t ch .ok []
        ∧ t.sys.time = ofHiLoU (q.w 1) (q.w 2) / 5 * 5 ∧ t.mot = s.mot ∧ RegsStand s t)
    ∧ (Waits s ch 0x05 → s.isWorker = true → ∃ t, exec (.opSetTime ch) s = .next t ∧ OnlyAsked s t ∧ Answers s t ch .denied [])
    ∧ (Waits s ch 0x06 → ∃ t, exec (.opPing ch) s = .next t ∧ OnlyAsked s t ∧ Answers s t ch .ok ((q.ws.drop 1).take (hdrNarg q.h)))
    ∧ (Waits s ch 0x07 → ∃ t, exec (.opSetEvents ch) s = .next t ∧ Answers s t ch .ok [] ∧ t.fw.masks = #v[q.w 1, q.w 2, q.w 3]
        ∧ t.fw.ax = s.fw.ax ∧ t.mot = s.mot ∧ RegsStand s t)

/-- AXIS_EN, SET_ROLE, SET_MOTOR, SET_CURRENT, SET_COMMUT, SET_DOOR, GET_AXIS, IDENTIFY, GET_IDENT, LOAD_WAVE and the axis checks (R45, R103, R149, R152, R186, R189, R209, R210, R221, R229, R271, spec/06_commands.md).
A request from HOST or MAINT that passed its checks, with the clocks running and nothing set to reset. AXIS_EN answers STATE without motor
parameters and SAFETY under safe torque off; otherwise it enables motion, regulators and bridges, and with 0 it disables an idle axis.
Parameters of motor, commutation, door and wave are taken while the axis is disabled and refused with STATE while it is enabled; currents,
within the ceiling, at any time. A register named holds the value in its implemented bits. GET_AXIS answers eight words; IDENTIFY,
WIRING_CHECK and GD_SELFTEST start their long operation, the first two with drives before them; PRESS_PROBE sets or clears the probe.
Where the spec leaves a point open, what is said of it is the model's choice (log entries 81, 82, 108, 109). -/
def Obligations.AxisAndMotorRequests : Prop :=
  ∀ (s : State) (ch : ReqChan), ClocksRun s → NoReset s → s.sys.strapStuck = false →
    let q := s.reqOf (chanIx ch)
    let ax := q.ax
    (Waits s ch 0x10 → q.n 2 = 1 → (s.fwAx ax).motor = false → ∃ t, exec (.opAxisEn ch) s = .next t ∧ OnlyAsked s t ∧ Answers s t ch .state [])
    ∧ (Waits s ch 0x10 → q.n 2 = 1 → (s.fwAx ax).motor = true → s.isetBars = false → s.torqueBarred ax = true →
        ∃ t, exec (.opAxisEn ch) s = .next t ∧ OnlyAsked s t ∧ Answers s t ch .safety [])
    ∧ (Waits s ch 0x10 → q.n 2 = 1 → (s.fwAx ax).motor = true → s.isetBars = false → s.torqueBarred ax = false →
        ∃ t, exec (.opAxisEn ch) s = .next t ∧ Answers s t ch .ok [] ∧ t.meEn ax = true ∧ t.crEn ax = true ∧ t.pwmEn ax = true
          ∧ t.bit (R.GD_CFG ax) 31 = true ∧ t.csmOn (coilOf ax .a) = true ∧ t.csmOn (coilOf ax .b) = true)
    ∧ (Waits s ch 0x10 → q.n 2 = 0 → s.axisBusy ax = false → ∃ t, exec (.opAxisEn ch) s = .next t ∧ Answers s t ch .ok [] ∧ t.meEn ax = false
        ∧ t.crEn ax = false ∧ t.pwmEn ax = false ∧ (s.pwmEn ax = true → ∀ j : Leg, s.bit (R.GD_FLT ax) (20 + j) = false → (t.leg ax j).hiOn = false ∧ (t.leg ax j).loOn = false))
    ∧ (Waits s ch 0x10 → q.n 2 = 0 → s.axisBusy ax = true → ∃ t, exec (.opAxisEn ch) s = .next t ∧ OnlyAsked s t ∧ Answers s t ch .state [])
    ∧ (Waits s ch 0x11 → s.meEn ax = false → q.n 2 ≠ 1 → (s.fwAx ax).tmpl = none → ∃ t, exec (.opSetRole ch) s = .next t ∧ Answers s t ch .ok []
        ∧ vget t.roles ax = roleOf (q.n 2) ∧ t.fld (R.ME_CFG ax) 25 24 = (if q.n 2 = 0 then 1 else 0) ∧ ∀ bx : Axis, bx ≠ ax → vget t.roles bx = vget s.roles bx)
    ∧ (Waits s ch 0x12 → s.meEn ax = false → s.crEn ax = false → ∃ t, exec (.opSetMotor ch) s = .next t ∧ Answers s t ch .ok [] ∧ (t.fwAx ax).motor = true
        ∧ (t.fwAx ax).rated = some (q.n 3) ∧ t.get (R.CR_MOTOR2 ax) &&& 0x7FFFFFFF#32 = wordOfNat (q.n 2 * 16777216 + q.n 7)
        ∧ t.get (R.CR_MOTOR1 ax) = wordOfNat (q.n 6 * 65536 + q.n 5) ∧ t.get (R.CR_SHUNT ax) &&& 0xFFFFFF#32 = q.w 4)
    ∧ (Waits s ch 0x12 → s.meEn ax = true → ∃ t, exec (.opSetMotor ch) s = .next t ∧ OnlyAsked s t ∧ Answers s t ch .state [])
    ∧ (Waits s ch 0x13 → s.early 0x13 q = none → s.ceilingBars ax (q.n 2) = false → ∃ t, exec (.opSetCurrent ch) s = .next t ∧ Answers s t ch .ok []
        ∧ t.get (R.CR_IRUN ax) &&& 0xFFFFF#32 = q.w 2 ∧ t.get (R.CR_IREST ax) &&& 0xFFFFF#32 = q.w 3 ∧ t.get (R.ME_REST ax) &&& 0xFFFF#32 = q.w 4 ∧ t.mot = s.mot)
    ∧ (Waits s ch 0x14 → s.meEn ax = false → s.crEn ax = false → q.n 2 < 2 → ∃ t, exec (.opSetCommut ch) s = .next t ∧ Answers s t ch .ok []
        ∧ t.cmode ax = q.n 2 ∧ t.get (R.CR_XUP ax) &&& 0xFFFFFF#32 = q.w 3 ∧ t.get (R.CR_XDN ax) &&& 0xFFFFFF#32 = q.w 4)
    ∧ (Waits s ch 0x15 → s.presence = true → s.meEn ax = false → ∃ t, exec (.opSetDoor ch) s = .next t ∧ Answers s t ch .ok []
        ∧ t.get (R.ME_MASS ax) = q.w 2 ∧ t.get (R.ME_KPM ax) = q.w 3 ∧ t.wide (R.ME_OPEN ax) = argWide q.ws 4 ∧ t.wide (R.ME_CLOSED ax) = argWide q.ws 6)
    ∧ (Waits s ch 0x15 → s.presence = false → ∃ t, exec (.opSetDoor ch) s = .next t ∧ OnlyAsked s t ∧ Answers s t ch .nopres [])
    ∧ (Waits s ch 0x16 → ∃ t w1 w8, exec (.opGetAxis ch) s = .next t ∧ OnlyAsked s t ∧ Answers s t ch .ok [w1, hiWord (s.me ax).rpos, loWord (s.me ax).rpos,
          hiWord (s.me ax).rvel, loWord (s.me ax).rvel, s.get (R.LO_LA ax), s.get (R.LO_FORCE ax), w8])
    ∧ (Waits s ch 0x18 → s.meEn ax = true → s.axisBusy ax = false → q.n 2 < 4 → vget s.fw.long ax = none → ∃ t, exec (.opIdentify ch) s = .next t
        ∧ Answers s t ch .ok [] ∧ vget t.fw.long ax = some { op := 0x18, args := [q.w 1, q.w 2, q.w 3] } ∧ (t.fwAx ax).ident = [] ∧ t.planDone ax = false ∧ RegsStand s t)
    ∧ (Waits s ch 0x18 → s.meEn ax = true → s.axisBusy ax = false → q.n 2 < 4 → vget s.fw.long ax ≠ none → ∃ t, exec (.opIdentify ch) s = .next t
        ∧ OnlyAsked s t ∧ Answers s t ch .busy [])
    ∧ (Waits s ch 0x19 → (s.fwAx ax).ident.length = 8 → (s.fwAx ax).ident.getD 0 0#32 ≠ 0#32 → ∃ t, exec (.opGetIdent ch) s = .next t ∧ OnlyAsked s t ∧ Answers s t ch .ok (s.fwAx ax).ident)
    ∧ (Waits s ch 0x19 → (s.fwAx ax).ident.getD 0 0#32 = 0#32 → ∃ t, exec (.opGetIdent ch) s = .next t ∧ OnlyAsked s t ∧ Answers s t ch .state [])
    ∧ (Waits s ch 0x1A → s.meEn ax = false → s.crEn ax = false → hdrNarg q.h = 3 → (vget s.coil ax).waveBad = [] → ∃ t, exec (.opLoadWave ch) s = .next t
        ∧ Answers s t ch .ok [] ∧ t.waveStored ax (q.n 2) = fldOf (q.w 3) 15 0 ∧ t.waveStored ax ((q.n 2 + 1) % 1024) = fldOf (q.w 3) 31 16)
    ∧ (Waits s ch 0x80 → s.meEn ax = true → s.axisBusy ax = false → vget s.fw.long ax = none → ∃ t, exec (.opWiringCheck ch) s = .next t
        ∧ Answers s t ch .ok [] ∧ vget t.fw.long ax = some { op := 0x80, args := [q.w 1] } ∧ t.planDone ax = false ∧ RegsStand s t)
    ∧ (Waits s ch 0x81 → s.meEn ax = false → vget s.fw.long ax = none → s.bit (R.GD_CFG ax) 31 = true → s.diagMay ax = true → ∃ t, exec (.opGdSelftest ch) s = .next t
        ∧ Answers s t ch .ok [] ∧ t.bit (R.GD_STAT ax) 19 = true ∧ vget t.fw.long ax = some { op := 0x81, args := [q.w 1, 1#32] })
    ∧ (Waits s ch 0x82 → (q.n 2 = 0 ∨ s.moving ax = false) → ∃ t, exec (.opPressProbe ch) s = .next t ∧ Answers s t ch .ok []
        ∧ t.bit (R.LO_CFG ax) 30 = decide (q.n 2 = 1) ∧ t.mot = s.mot)

/-- CTX_ALLOC to CTX_STATUS, MOVE_TO, JOG, HOME, HALT, RESUME, SET_POS, OBST_REL and DOOR: the context or axis each one touches (R149, R152, R161, R162, R163, R173, R178, R436, R437, spec/06_commands.md).
A request from HOST or MAINT that passed its checks. CTX_ALLOC takes the lowest FREE context, or answers NOCTX; CTX_LOAD writes the words
of a LOADED context; outside maintenance mode CTX_START queues one that START accepts; CTX_ABORT and CTX_RELEASE answer STATE where the
context's state does not admit them. MOVE_TO, JOG and HOME on an enabled axis take the lowest FREE context, which R162 accepts, queue it
there and answer its number; on a disabled axis and in maintenance mode (log entry 96) they answer STATE. HALT and RESUME set and clear
ME_CTL.HALT of the named axes alone; SET_POS sets the position at rest; OBST_REL notes OBSCONT or OBSABORT; DOOR checks every named axis:
one that is not in the door role or not enabled answers STATE, too few FREE contexts answer NOCTX, and otherwise the request completes,
with one preempting context towards the named end of travel on each axis; no axis named changes nothing. Where the spec leaves a point
open, what is said of it is the model's choice (log entries 81, 96). -/
def Obligations.ContextAndMoveRequests : Prop :=
  ∀ (s : State) (ch : ReqChan),
    let q := s.reqOf (chanIx ch)
    let ax := q.ax
    (∀ c : Ctx, Waits s ch 0x20 → s.lowestFree = some c.val → ∃ t, exec (.opCtxAlloc ch) s = .next t ∧ Answers s t ch .ok [wordOfNat c] ∧ t.ctxState c = ctxLoaded
        ∧ bitOf (t.ctxW c 0) 8 = decide (q.n 1 = 1) ∧ (∀ d : Ctx, d ≠ c → ∀ k < 64, t.ctxW d k = s.ctxW d k) ∧ t.mot = s.mot)
    ∧ (Waits s ch 0x20 → s.lowestFree = none → ∃ t, exec (.opCtxAlloc ch) s = .next t ∧ OnlyAsked s t ∧ Answers s t ch .noctx [])
    ∧ (Waits s ch 0x21 → s.ctxState q.ctx = ctxLoaded → hdrNarg q.h = 3 → 0 < q.n 2 → (∀ i, s.isUe .ctx i = false) → ∃ t, exec (.opCtxLoad ch) s = .next t
        ∧ Answers s t ch .ok [] ∧ t.ctxW q.ctx (q.n 2) = q.w 3 ∧ t.ctxState q.ctx = ctxLoaded ∧ (∀ d : Ctx, d ≠ q.ctx → ∀ k < 64, t.ctxW d k = s.ctxW d k)
        ∧ t.mot = s.mot)
    ∧ (Waits s ch 0x21 → s.ctxState q.ctx ≠ ctxLoaded → ∃ t, exec (.opCtxLoad ch) s = .next t ∧ OnlyAsked s t ∧ Answers s t ch .state [])
    ∧ (∀ bx : Axis, Waits s ch 0x22 → s.maint = false → q.n 2 = bx → q.n 3 = 0 → s.startResult q.ctx bx = 0 → s.ctxUe q.ctx = none → ∃ t, exec (.opCtxStart ch) s = .next t
        ∧ Answers s t ch .ok [] ∧ t.ctxState q.ctx = ctxQueued ∧ (t.me bx).queue = (s.me bx).queue ++ [q.ctx] ∧ ∀ cx : Axis, cx ≠ bx → t.me cx = s.me cx)
    ∧ (∀ bx : Axis, Waits s ch 0x22 → s.maint = false → q.n 2 = bx → q.n 3 = 0 → s.startResult q.ctx bx ≠ 0 → ∃ t, exec (.opCtxStart ch) s = .next t ∧ OnlyAsked s t
        ∧ Answers s t ch (if s.startResult q.ctx bx = 4 then .badarg else .state) [])
    ∧ (s.maint = true → (Waits s ch 0x22 → ∃ t, exec (.opCtxStart ch) s = .next t ∧ OnlyAsked s t ∧ Answers s t ch .state [])
        ∧ (Waits s ch 0x26 → ∃ t, exec (.opMoveTo ch) s = .next t ∧ OnlyAsked s t ∧ Answers s t ch .state [])
        ∧ (Waits s ch 0x27 → ∃ t, exec (.opJog ch) s = .next t ∧ OnlyAsked s t ∧ Answers s t ch .state [])
        ∧ (Waits s ch 0x28 → vget s.fw.long ax = none → ∃ t, exec (.opHome ch) s = .next t ∧ OnlyAsked s t ∧ Answers s t ch .state []))
    ∧ (∀ bx : Axis, Waits s ch 0x23 → s.ctxState q.ctx = ctxQueued → fldOf (s.ctxW q.ctx 32) 10 8 = bx → bitOf (s.ctxW q.ctx 0) 8 = false →
        ∃ t, exec (.opCtxAbort ch) s = .next t ∧ Answers s t ch .ok [] ∧ t.ctxState q.ctx = ctxAborted ∧ q.ctx ∉ (t.me bx).queue ∧ (t.me bx).pos = (s.me bx).pos)
    ∧ (Waits s ch 0x23 → s.ctxState q.ctx ≠ ctxQueued → s.ctxState q.ctx ≠ ctxActive → ∃ t, exec (.opCtxAbort ch) s = .next t ∧ OnlyAsked s t
        ∧ Answers s t ch .state [])
    ∧ (Waits s ch 0x24 → s.isTemplate q.ctx = false → s.ctxState q.ctx = ctxLoaded → ∃ t, exec (.opCtxRelease ch) s = .next t ∧ Answers s t ch .ok []
        ∧ t.ctxState q.ctx = ctxFree ∧ t.mot = s.mot)
    ∧ (Waits s ch 0x25 → ∃ t, exec (.opCtxStatus ch) s = .next t ∧ OnlyAsked s t
        ∧ Answers s t ch .ok [s.ctxW q.ctx 32 &&& 0x00FF0707#32, s.ctxW q.ctx 34, s.ctxW q.ctx 35])
    ∧ (s.meEn ax = false → (Waits s ch 0x26 → ∃ t, exec (.opMoveTo ch) s = .next t ∧ OnlyAsked s t ∧ Answers s t ch .state [])
        ∧ (Waits s ch 0x27 → ∃ t, exec (.opJog ch) s = .next t ∧ OnlyAsked s t ∧ Answers s t ch .state [])
        ∧ (Waits s ch 0x28 → ∃ t, exec (.opHome ch) s = .next t ∧ OnlyAsked s t ∧ Answers s t ch .state []))
    ∧ (∀ c : Ctx, s.maint = false → s.meEn ax = true → s.lowestFree = some c.val → s.isTemplate c = false → (s.fwAx ax).lim.ecapO ≠ 0 → (s.fwAx ax).lim.ecapC ≠ 0 →
        (s.fwAx ax).lim.ecapO < 4294967296 → (s.fwAx ax).lim.ecapC < 4294967296 → (s.fwAx ax).lim.jerk < 4294967296 → (s.fwAx ax).lim.obsact < 4 →
        (s.fwAx ax).lim.retries < 16 →
        let queued (t : State) : Prop := Answers s t ch .ok [wordOfNat c] ∧ t.ctxState c = ctxQueued ∧ (t.me ax).queue = (s.me ax).queue ++ [c]
          ∧ (∀ bx : Axis, bx ≠ ax → t.me bx = s.me bx) ∧ ∀ d : Ctx, d ≠ c → ∀ k < 64, t.ctxW d k = s.ctxW d k
        (Waits s ch 0x26 → ∃ t, exec (.opMoveTo ch) s = .next t ∧ queued t ∧ t.ctxWide c 1 = argWide q.ws 2)
        ∧ (Waits s ch 0x27 → ∃ t, exec (.opJog ch) s = .next t ∧ queued t ∧ bitOf (t.ctxW c 0) 7 = true)
        ∧ (Waits s ch 0x28 → q.n 2 < 2 → vget s.fw.long ax = none → ∃ t, exec (.opHome ch) s = .next t ∧ queued t
            ∧ vget t.fw.long ax = some { op := 0x28, args := [wordOfNat c] }))
    ∧ (Waits s ch 0x29 → ∃ t, exec (.opHalt ch) s = .next t ∧ Answers s t ch .ok [] ∧ (∀ bx : Axis, (q.n 1).testBit bx = true → t.bit (R.ME_CTL bx) 0 = true)
        ∧ (∀ bx : Axis, (q.n 1).testBit bx = false → t.get (R.ME_CTL bx) = s.get (R.ME_CTL bx) ∧ t.me bx = s.me bx) ∧ t.ctxRam = s.ctxRam)
    ∧ (Waits s ch 0x2B → ∃ t, exec (.opResume ch) s = .next t ∧ Answers s t ch .ok [] ∧ (∀ bx : Axis, (q.n 1).testBit bx = true → t.bit (R.ME_CTL bx) 0 = false)
        ∧ (∀ bx : Axis, (q.n 1).testBit bx = false → t.get (R.ME_CTL bx) = s.get (R.ME_CTL bx) ∧ t.me bx = s.me bx) ∧ t.ctxRam = s.ctxRam)
    ∧ (Waits s ch 0x2A → s.moving ax = false → (s.me ax).active = none → ∃ t, exec (.opSetPos ch) s = .next t ∧ Answers s t ch .ok []
        ∧ (t.me ax).rpos = argWide q.ws 2 ∧ (t.me ax).posunk = false ∧ ∀ bx : Axis, bx ≠ ax → t.me bx = s.me bx)
    ∧ (Waits s ch 0x2A → (s.moving ax = true ∨ (s.me ax).active ≠ none) → ∃ t, exec (.opSetPos ch) s = .next t ∧ OnlyAsked s t ∧ Answers s t ch .state [])
    ∧ (Waits s ch 0x2C → ∃ t, exec (.opObstRel ch) s = .next t ∧ Answers s t ch .ok [] ∧ ∀ bx : Axis, (t.me bx).pos = (s.me bx).pos
        ∧ ((q.n 1).testBit bx = true → (q.n 2 = 1 → (t.me bx).abortReq = true) ∧ (q.n 2 = 0 → (t.me bx).contReq = true))
        ∧ ((q.n 1).testBit bx = false → t.me bx = s.me bx))
    ∧ (Waits s ch 0x2D → q.n 1 = 0 → ∃ t, exec (.opDoor ch) s = .next t ∧ OnlyAsked s t ∧ Answers s t ch .ok [])
    ∧ (Waits s ch 0x2D → (∃ bx : Axis, (q.n 1).testBit bx = true ∧ (vget s.roles bx ≠ .door ∨ s.meEn bx = false ∨ s.maint = true)) →
        ∃ t, exec (.opDoor ch) s = .next t ∧ OnlyAsked s t ∧ Answers s t ch .state [])
    ∧ (Waits s ch 0x2D → s.maint = false → (∀ bx : Axis, (q.n 1).testBit bx = true → vget s.roles bx = .door ∧ s.meEn bx = true) →
        let axes := (List.finRange 8).filter fun bx : Axis => (q.n 1).testBit bx
        (s.ctxFrees < axes.length → ∃ t, exec (.opDoor ch) s = .next t ∧ OnlyAsked s t ∧ Answers s t ch .noctx [])
        ∧ (axes.length ≤ s.ctxFrees → ∃ t, exec (.opDoor ch) s = .next t ∧ Answers s t ch .ok []
            ∧ ∀ bx : Axis, (q.n 1).testBit bx = false → t.me bx = s.me bx)
        ∧ (∀ (bx : Axis) (c : Ctx), axes = [bx] → s.lowestFree = some c.val → s.isTemplate c = false → (s.fwAx bx).lim.ecapO ≠ 0 → (s.fwAx bx).lim.ecapC ≠ 0 →
            (s.fwAx bx).lim.ecapO < 4294967296 → (s.fwAx bx).lim.ecapC < 4294967296 → (s.fwAx bx).lim.jerk < 4294967296 → (s.fwAx bx).lim.obsact < 4 →
            (s.fwAx bx).lim.retries < 16 → ∃ t, exec (.opDoor ch) s = .next t ∧ Answers s t ch .ok [] ∧ t.ctxState c = ctxQueued
              ∧ (t.me bx).queue = (s.me bx).queue ++ [c] ∧ bitOf (t.ctxW c 0) 7 = true ∧ bitOf (t.ctxW c 0) 9 = true
              ∧ t.ctxWide c 1 = s.wide (if q.n 2 = 1 then R.ME_CLOSED bx else R.ME_OPEN bx)))

/-- SET_LIMITS, SET_ENERGY, SET_FORCE, SET_CEILING, GET_SAFETY, SAFE_STOP and SET_SUPPLY: what each stores, asks or is refused (R65, R146, R149, R152, R317, R320, R324, R332, R437, spec/06_commands.md).
A request from HOST or MAINT that passed its checks. SET_LIMITS keeps velocity, acceleration and jerk and writes ME_HDEC; SET_ENERGY and
SET_FORCE, under presence, keep their values, and without presence answer NOPRES. SET_CEILING and SAFE_STOP answer SAFETY when the SAFE
core does not run; with it running and the word channels empty and bound as after chip reset, SAFE_STOP reaches it. GET_SAFETY answers the
eight words of the safety page. SET_SUPPLY writes the warning level, ride-through and hold-up with EN set (clocks running, nothing set to
reset). Where the spec leaves a point open, what is said of it is the model's choice (log entry 21). -/
def Obligations.LimitAndSafetyRequests : Prop :=
  ∀ (s : State) (ch : ReqChan),
    let q := s.reqOf (chanIx ch)
    let ax := q.ax
    (Waits s ch 0x30 → ClocksRun s → ∃ t, exec (.opSetLimits ch) s = .next t ∧ Answers s t ch .ok []
        ∧ (t.fwAx ax).lim = { (s.fwAx ax).lim with vlim := q.n 2, acc := q.n 3, jerk := q.n 5 } ∧ t.get (R.ME_HDEC ax) = q.w 4 ∧ t.mot = s.mot)
    ∧ (s.presence = true → (Waits s ch 0x31 → ∃ t, exec (.opSetEnergy ch) s = .next t ∧ Answers s t ch .ok []
          ∧ (t.fwAx ax).lim = { (s.fwAx ax).lim with ecapO := q.n 2, ecapC := q.n 3 } ∧ t.mot = s.mot)
        ∧ (Waits s ch 0x32 → ∃ t, exec (.opSetForce ch) s = .next t ∧ Answers s t ch .ok [] ∧ t.mot = s.mot
          ∧ (t.fwAx ax).lim = { (s.fwAx ax).lim with flim := q.n 2, obsact := q.n 3, revdist := q.n 4, rcdelay := q.n 5, retries := q.n 6 })
        ∧ (Waits s ch 0x33 → s.saf.s.ready = false → ∃ t, exec (.opSetCeiling ch) s = .next t ∧ Answers s t ch .safety [] ∧ t.saf = s.saf)
        ∧ (Waits s ch 0x33 → NoCrst s → s.saf.s.ready = true → s.saf.s.latched ≠ none → s.wFull 0 = false → s.wFull 1 = false → s.sndOf 8 = 3 → s.rcvOf 8 = 1 →
            s.sndOf 9 = 1 → s.rcvOf 9 = 3 → q.n 2 * s.shunt ax / 250000 ≤ classCeil s.saf.s.code → ∃ t, exec (.opSetCeiling ch) s = .next t ∧ Answers s t ch .ok []
            ∧ fldOf (t.safCeilWord ax) 11 0 = q.n 2 * s.shunt ax / 250000))
    ∧ (s.presence = false → (Waits s ch 0x31 → ∃ t, exec (.opSetEnergy ch) s = .next t ∧ OnlyAsked s t ∧ Answers s t ch .nopres [])
        ∧ (Waits s ch 0x32 → ∃ t, exec (.opSetForce ch) s = .next t ∧ OnlyAsked s t ∧ Answers s t ch .nopres [])
        ∧ (Waits s ch 0x33 → ∃ t, exec (.opSetCeiling ch) s = .next t ∧ OnlyAsked s t ∧ Answers s t ch .nopres []))
    ∧ (Waits s ch 0x34 → ∃ t, exec (.opGetSafety ch) s = .next t ∧ OnlyAsked s t ∧ Answers s t ch .ok ((List.range 8).map fun i => (s.safReg i).getD 0#32))
    ∧ (Waits s ch 0x36 → s.saf.s.ready = false → ∃ t, exec (.opSafeStop ch) s = .next t ∧ OnlyAsked s t ∧ Answers s t ch .safety [])
    ∧ (Waits s ch 0x36 → NoCrst s → s.saf.s.ready = true → s.wFull 0 = false → s.wFull 1 = false → s.sndOf 8 = 3 → s.rcvOf 8 = 1 → s.sndOf 9 = 1 → s.rcvOf 9 = 3 →
        q.n 2 = 1 → ∃ t, exec (.opSafeStop ch) s = .next t ∧ Answers s t ch .ok [] ∧ t.saf.stop = s.saf.stop ||| s.groupsOf (q.n 1))
    ∧ (Waits s ch 0x37 → ClocksRun s → NoReset s → ∃ t, exec (.opSetSupply ch) s = .next t ∧ Answers s t ch .ok [] ∧ t.bit R.SYS_SUPCFG 31 = true
        ∧ t.fld R.SYS_SUPCFG 7 0 = q.n 1 ∧ t.bit R.SYS_SUPCFG 30 = decide (q.n 2 = 1) ∧ t.fld R.SYS_SUPCFG 23 16 = q.n 3 ∧ t.mot = s.mot)

/-- PC_ENTRY, PC_RUN, PC_READ, PC_CAL, REF_CTL, COIL_READ, CMP_SET, CMP_READ and CMP_CHECK: what each one writes or answers (R103, R149, R152, R273, R281, R282, R288, R291, R300, R302, R305, spec/06_commands.md).
A request from HOST or MAINT that passed its checks, with the clocks running and nothing set to reset. PC_ENTRY of a converter that does
not run writes its entry, and answers STATE of one that runs. PC_RUN starts or stops the named converters. PC_READ and CMP_READ answer the
registers' words. PC_CAL starts the device's long operation, or answers BUSY. REF_CTL enables or disables the reference. COIL_READ answers
one word for each coil asked. CMP_SET of a comparator that is off configures it and turns it on. CMP_CHECK with the reference settled
starts the check, and answers STATE without. Where the spec leaves a point open, what is said of it is the model's choice (log entries 50,
51, 82). -/
def Obligations.ConverterAndComparatorRequests : Prop :=
  ∀ (s : State) (ch : ReqChan), ClocksRun s → NoReset s →
    let q := s.reqOf (chanIx ch)
    let p := q.pc
    let c := q.cmp
    (Waits s ch 0x40 → s.pcRuns p = false → ∃ t, exec (.opPcEntry ch) s = .next t ∧ Answers s t ch .ok [] ∧ t.pcEn p = s.pcEn p
        ∧ t.get (R.PC_ENT p (q.n 2)) &&& 0xFFF7FF#32 = wordOfNat (q.n 6 * 65536 + q.n 5 * 4096 + q.n 4 * 256 + q.n 3) ∧ t.mot = s.mot)
    ∧ (Waits s ch 0x40 → s.pcRuns p = true → ∃ t, exec (.opPcEntry ch) s = .next t ∧ OnlyAsked s t ∧ Answers s t ch .state [])
    ∧ (∀ p : Conv, Waits s ch 0x41 → ∃ t, exec (.opPcRun ch) s = .next t ∧ Answers s t ch .ok []
        ∧ ((q.n 1).testBit p = true → (vget t.pc p).rrun = decide (q.n 2 = 1)) ∧ ((q.n 1).testBit p = false → vget t.pc p = vget s.pc p))
    ∧ (Waits s ch 0x42 → q.n 3 ≤ 14 → ∃ t, exec (.opPcRead ch) s = .next t ∧ OnlyAsked s t
        ∧ Answers s t ch .ok ((List.range (q.n 3)).map fun i => s.get (R.PC_RES p (q.n 2 + i)) &&& 0x03FFFFFF#32))
    ∧ (Waits s ch 0x43 → s.fw.longDev = none → (vget s.pc p).calRun = none → (vget s.pc p).calPend = none → (vget s.pc p).iIdx = none →
        ∃ t, exec (.opPcCal ch) s = .next t ∧ Answers s t ch .ok [] ∧ t.fw.longDev = some { op := 0x43, args := [q.w 1, q.w 2, q.w 3] }
          ∧ (vget t.pc p).calRun = some { entry := q.n 2, full := decide (q.n 3 = 1) })
    ∧ (Waits s ch 0x43 → s.fw.longDev ≠ none → ∃ t, exec (.opPcCal ch) s = .next t ∧ OnlyAsked s t ∧ Answers s t ch .busy [])
    ∧ (Waits s ch 0x44 → ∃ t, exec (.opRefCtl ch) s = .next t ∧ Answers s t ch .ok [wordOfNat t.refAge] ∧ t.bit R.REF_CFG 31 = decide (q.n 1 = 1)
        ∧ t.mot = s.mot ∧ t.pc = s.pc)
    ∧ (Waits s ch 0x48 → q.n 2 ≤ 14 → ∃ t ws, exec (.opCoilRead ch) s = .next t ∧ ws.length = q.n 2 ∧ Answers s t ch .ok ws ∧ OnlyAsked s t)
    ∧ (Waits s ch 0x45 → s.bit (R.CMP_CCFG c) 31 = false → ∃ t, exec (.opCmpSet ch) s = .next t ∧ Answers s t ch .ok [] ∧ t.cmpOn c = true
        ∧ t.fld (R.CMP_CCFG c) 9 0 = q.n 2 ∧ t.fld (R.CMP_CCFG c) 25 24 = q.n 3 ∧ t.fld (R.CMP_CCFG c) 29 28 = q.n 4
        ∧ t.fld (R.CMP_CCFG c) 22 20 = q.n 5 % 8 ∧ t.bit (R.CMP_CCFG c) 12 = decide (q.n 6 = 1) ∧ t.bit R.SYS_WAKECFG c = (q.n 5).testBit 3)
    ∧ (Waits s ch 0x45 → s.bit (R.CMP_CCFG c) 31 = true → ∃ t, exec (.opCmpSet ch) s = .next t ∧ OnlyAsked s t ∧ Answers s t ch .state [])
    ∧ (Waits s ch 0x46 → ∃ t, exec (.opCmpRead ch) s = .next t ∧ OnlyAsked s t ∧ Answers s t ch .ok [s.get R.CMP_OUT])
    ∧ (Waits s ch 0x47 → s.refAge < 5 → ∃ t, exec (.opCmpCheck ch) s = .next t ∧ OnlyAsked s t ∧ Answers s t ch .state [])
    ∧ (Waits s ch 0x47 → 5 ≤ s.refAge → s.fw.longDev = none → ∃ t, exec (.opCmpCheck ch) s = .next t ∧ Answers s t ch .ok [] ∧ (vget t.pc (3 : Conv)).rrun = false
        ∧ t.fw.longDev = some { op := 0x47, args := [q.w 1, wordOfNat (b2n (vget s.pc (3 : Conv)).rrun)] })

/-- FAULT_LIST to FAULT_REACT, LOG_INFO to LOG_MARK, ODOMETER, DARN_READ, REG_READ and REG_WRITE (R90, R146, R152, R342, R391, R393, R394, spec/06_commands.md, spec/15_fault_collector.md).
A request from HOST or MAINT that passed its checks. FAULT_LIST, FAULT_GET, LOG_INFO, LOG_READ of a held index, ODOMETER, DARN_READ and a
REG_READ of ME_MASS answer OK with the named words and change nothing else. FAULT_CLR of a single source other than the safety trips whose
cause is present answers STATE; of one whose cause is absent it clears the record and counts it. FAULT_REACT under presence (clocks
running) writes FC_SRC and leaves the collector enabled. LOG_MARK adds a record at the head. REG_WRITE by MAINT outside maintenance mode
answers STATE. Where the spec leaves a point open, what is said of it is the model's choice (log entry 81). -/
def Obligations.FaultLogAndRegisterRequests : Prop :=
  ∀ (s : State) (ch : ReqChan),
    let q := s.reqOf (chanIx ch)
    let ax := q.ax
    (Waits s ch 0x50 → ∃ t, exec (.opFaultList ch) s = .next t ∧ OnlyAsked s t ∧ Answers s t ch .ok ((List.range 4).map s.fcLatchMap))
    ∧ (Waits s ch 0x51 → ∃ t, exec (.opFaultGet ch) s = .next t ∧ OnlyAsked s t
        ∧ Answers s t ch .ok [s.fcRecWord (q.n 1), hiWord (s.fcRec (q.n 1)).time, loWord (s.fcRec (q.n 1)).time, (s.fcRec (q.n 1)).detail])
    ∧ (Waits s ch 0x52 → q.n 1 < 128 → q.n 1 ≠ 30 → s.present (q.n 1) = true → ∃ t, exec (.opFaultClr ch) s = .next t ∧ OnlyAsked s t ∧ Answers s t ch .state [])
    ∧ (Waits s ch 0x52 → q.n 1 < 128 → q.n 1 ≠ 30 → s.present (q.n 1) = false → ∃ t, exec (.opFaultClr ch) s = .next t
        ∧ Answers s t ch .ok [wordOfNat (s.nlatch - t.nlatch)] ∧ (t.fcRec (q.n 1)).latch = false ∧ (∀ n, n ≠ q.n 1 → t.fcRec n = s.fcRec n) ∧ t.mot = s.mot)
    ∧ (Waits s ch 0x53 → s.presence = true → q.n 1 < 126 → ClocksRun s → s.bit R.FC_CTL 31 = false → ∃ t, exec (.opFaultReact ch) s = .next t ∧ Answers s t ch .ok []
        ∧ t.get (R.FC_SRC (q.n 1)) &&& 0x17#32 = wordOfNat (q.n 2 + q.n 3 * 16) ∧ t.bit R.FC_CTL 31 = true ∧ t.mot = s.mot)
    ∧ (Waits s ch 0x53 → s.presence = false → ∃ t, exec (.opFaultReact ch) s = .next t ∧ OnlyAsked s t ∧ Answers s t ch .nopres [])
    ∧ (Waits s ch 0x54 → ∃ t, exec (.opLogInfo ch) s = .next t ∧ OnlyAsked s t ∧ Answers s t ch .ok [hiWord s.logHead, loWord s.logHead, hiWord s.logTail,
          loWord s.logTail, wordOfNat (min (s.logHead - s.logTail) 0xFFFFFFFF)])
    ∧ (Waits s ch 0x55 → s.logTail ≤ argWideU q.ws 1 → argWideU q.ws 1 < s.logHead → s.logHead - s.spool.gathered.length ≤ argWideU q.ws 1 →
        (∀ r ∈ s.spool.gathered, r.1.length = 8) → s.spool.gathered.length ≤ s.logHead →
        ∃ t, exec (.opLogRead ch) s = .next t ∧ OnlyAsked s t ∧ ∀ r, s.spool.gathered[argWideU q.ws 1 - (s.logHead - s.spool.gathered.length)]? = some r →
          Answers s t ch .ok ([q.w 1, q.w 2, wordOfNat r.2] ++ r.1))
    ∧ (Waits s ch 0x55 → (argWideU q.ws 1 < s.logTail ∨ s.logHead ≤ argWideU q.ws 1) → ∃ t, exec (.opLogRead ch) s = .next t ∧ OnlyAsked s t
        ∧ Answers s t ch .badarg [])
    ∧ (Waits s ch 0x56 → s.baseline = false → s.spool.gathered.length < 6 → s.logHead < 18446744073709551615 → ∃ t, exec (.opLogMark ch) s = .next t
        ∧ Answers s t ch .ok [hiWord s.logHead, loWord s.logHead] ∧ t.logHead = s.logHead + 1
        ∧ t.spool.gathered = s.spool.gathered ++ [([hiWord s.sys.time, loWord s.sys.time] ++ (q.ws.drop 4).take 6, q.n 1)] ∧ t.mot = s.mot)
    ∧ (Waits s ch 0x57 → ∃ t, exec (.opOdometer ch) s = .next t ∧ OnlyAsked s t
        ∧ Answers s t ch .ok [s.get (R.ME_CYC ax), s.get (R.ME_CYC ax + 1), s.get (R.ME_TRAV ax), s.get (R.ME_TRAV ax + 1), s.get (R.ME_OBSTOT ax)])
    ∧ (Waits s ch 0x83 → ∃ t, exec (.opDarnRead ch) s = .next t ∧ OnlyAsked s t ∧ Answers s t ch .ok ((List.range 8).map fun i => s.get (R.SYS_DARN i)))
    ∧ (∀ bx : Axis, Waits s ch 0x84 → ClocksRun s → keyOfAddr (q.n 1) = R.ME_MASS bx → q.n 2 = 1 → ∃ t, exec (.opRegRead ch) s = .next t ∧ OnlyAsked s t
        ∧ Answers s t ch .ok [s.get (R.ME_MASS bx)])
    ∧ (Waits s ch 0x85 → ch = .maint → s.sndOf 4 = 4 → s.presence = true → regWriteBars (q.n 1) = false → s.bit R.HSP_MODE 0 = false →
        ∃ t, exec (.opRegWrite ch) s = .next t ∧ Answers s t ch .state [] ∧ t.mot = s.mot ∧ t.pwm = s.pwm ∧ t.saf = s.saf)
    ∧ (∀ bx : Axis, Waits s ch 0x85 → ch = .maint → s.sndOf 4 = 4 → s.presence = true → ClocksRun s → keyOfAddr (q.n 1) = R.ME_HDEC bx → s.bit R.HSP_MODE 0 = true →
        ∃ t, exec (.opRegWrite ch) s = .next t ∧ Answers s t ch .ok [] ∧ t.get (R.ME_HDEC bx) = q.w 2 ∧ t.mot = s.mot)
    ∧ (Waits s ch 0x85 → s.sndOf (inChan (chanIx ch)) ≠ 4 → ∃ t, exec (.opRegWrite ch) s = .next t ∧ OnlyAsked s t ∧ Answers s t ch .denied [])

/-- SET_READ, SET_WRITE, SET_COMMIT, SET_CAPTURE, FW_WRITE, FW_VERIFY and FW_SWITCH: what each one stores, starts or is refused (R146, R149, R152, R376, R380, R384, R387, R388, spec/06_commands.md, spec/17_spool_memory.md).
A request from HOST or MAINT that passed its checks. SET_READ and FW_VERIFY only answer. Without presence SET_WRITE, SET_COMMIT,
SET_CAPTURE, FW_WRITE and FW_SWITCH answer NOPRES and change nothing. With presence SET_WRITE writes its words of the staging image alone;
SET_COMMIT refuses a malformed image with BADARG, answers BUSY while a device-wide operation runs, and otherwise starts one over the
staged block; SET_CAPTURE stages an image (its entries are firmware's choice: log entry 72) of at most 4,096 words; FW_WRITE writes its
words to the flash and no byte beside them, and answers STATE for an active slot; FW_SWITCH answers STATE for an invalid slot, BUSY during
a commit, and otherwise leaves the switch to follow the response. Where a page of the logbook could fill meanwhile, fewer than six records
are gathered, and for a switch the wear journal decodes. Where the spec leaves a point open, what is said of it is the model's choice (log
entries 61, 63, 72, 84). -/
def Obligations.SettingsAndFirmwareRequests : Prop :=
  ∀ (s : State) (ch : ReqChan),
    let q := s.reqOf (chanIx ch)
    let slot := q.n 1
    let n := hdrNarg q.h
    (Waits s ch 0x60 → ∃ t, exec (.opSetRead ch) s = .next t ∧ OnlyAsked s t
        ∧ Answers s t ch .ok ((List.range (q.n 2)).map fun i => (spFind s.fw.staging (q.n 1 + i)).getD 0#32))
    ∧ (Waits s ch 0x65 → ∃ t, exec (.opFwVerify ch) s = .next t ∧ OnlyAsked s t
        ∧ Answers s t ch .ok [wordOfNat (s.slotState slot), (s.slotWords slot).getD 1 0#32, (s.slotWords slot).getD 15 0#32])
    ∧ (s.presence = false → (Waits s ch 0x61 → ∃ t, exec (.opSetWrite ch) s = .next t ∧ OnlyAsked s t ∧ Answers s t ch .nopres [])
        ∧ (Waits s ch 0x62 → s.malformed = false → ∃ t, exec (.opSetCommit ch) s = .next t ∧ OnlyAsked s t ∧ Answers s t ch .nopres [])
        ∧ (Waits s ch 0x63 → ∃ t, exec (.opSetCapture ch) s = .next t ∧ OnlyAsked s t ∧ Answers s t ch .nopres [])
        ∧ (Waits s ch 0x64 → ∃ t, exec (.opFwWrite ch) s = .next t ∧ OnlyAsked s t ∧ Answers s t ch .nopres [])
        ∧ (Waits s ch 0x66 → ∃ t, exec (.opFwSwitch ch) s = .next t ∧ OnlyAsked s t ∧ Answers s t ch .nopres []))
    ∧ (Waits s ch 0x62 → s.malformed = true → ∃ t, exec (.opSetCommit ch) s = .next t ∧ OnlyAsked s t ∧ Answers s t ch .badarg [])
    ∧ (s.presence = true →
        (Waits s ch 0x61 → ∃ t, exec (.opSetWrite ch) s = .next t ∧ Answers s t ch .ok [] ∧ t.mot = s.mot ∧ t.ctxRam = s.ctxRam
          ∧ (∀ i < n - 1, (spFind t.fw.staging (q.n 1 + i)).getD 0#32 = q.w (2 + i))
          ∧ (∀ j, (j < q.n 1 ∨ q.n 1 + (n - 1) ≤ j) → (spFind t.fw.staging j).getD 0#32 = (spFind s.fw.staging j).getD 0#32))
        ∧ (Waits s ch 0x62 → s.malformed = false → s.fw.longDev = none → ∃ t, exec (.opSetCommit ch) s = .next t ∧ Answers s t ch .ok []
          ∧ t.fw.longDev = some { op := 0x62, args := s.stagedBlock.getD [] } ∧ t.fw.staging = s.fw.staging ∧ t.mot = s.mot)
        ∧ (Waits s ch 0x62 → s.malformed = false → s.fw.longDev ≠ none → ∃ t, exec (.opSetCommit ch) s = .next t ∧ Answers s t ch .busy []
          ∧ t.fw.longDev = s.fw.longDev)
        ∧ (Waits s ch 0x63 → ∃ t, exec (.opSetCapture ch) s = .next t ∧ Answers s t ch .ok [] ∧ t.mot = s.mot ∧ t.fw.longDev = s.fw.longDev
          ∧ ∀ i, 4096 ≤ i → spFind t.fw.staging i = none)
        ∧ (s.spool.gathered.length < 6 → spSorted s.spool.flash = true → Waits s ch 0x64 →
          (s.slotActive slot = true → ∃ t, exec (.opFwWrite ch) s = .next t ∧ Answers s t ch .state [] ∧ t.spool.flash = s.spool.flash)
          ∧ (s.slotActive slot = false → ∃ t, exec (.opFwWrite ch) s = .next t ∧ Answers s t ch .ok [] ∧ t.mot = s.mot ∧ t.fw.staging = s.fw.staging
            ∧ t.flashWords (slotBase slot + q.n 2) (n - 2) = (q.ws.drop 3).take (n - 2)
            ∧ ∀ b, (b < slotBase slot + q.n 2 ∨ slotBase slot + q.n 2 + 4 * (n - 2) ≤ b) → t.flashBytes b 1 = s.flashBytes b 1))
        ∧ (s.spool.gathered.length < 6 → Waits s ch 0x66 →
          (s.slotValid slot = false → ∃ t, exec (.opFwSwitch ch) s = .next t ∧ Answers s t ch .state [] ∧ t.spool.flash = s.spool.flash
            ∧ t.fw.deferred = s.fw.deferred)
          ∧ (∀ o, s.slotValid slot = true → s.fw.longDev = some o → o.op = 0x62 → ∃ t, exec (.opFwSwitch ch) s = .next t ∧ Answers s t ch .busy []
            ∧ t.spool.flash = s.spool.flash ∧ t.fw.deferred = s.fw.deferred)
          ∧ (s.slotValid slot = true → s.fw.longDev = none → (∀ i, s.isUe .wj i = false) → ∃ t, exec (.opFwSwitch ch) s = .next t ∧ Answers s t ch .ok [] ∧ t.mot = s.mot
            ∧ t.fw.deferred = some (if q.n 2 = 1 then .switchLink slot else .switchExec slot, (chanIx ch).val))))

/-- LINK_STATUS, ENUMERATE, WORKER_MAP, GROUP, SET_ORPHAN and SET_RELAY: what each one answers, starts or keeps (R141, R144, R149, R152, R358, R359, R365, R371, spec/06_commands.md, spec/16_bobbin_link.md).
A request from HOST or MAINT that passed its checks. LINK_STATUS answers role, address, port states, worker count and transactions.
ENUMERATE, WORKER_MAP, GROUP and SET_RELAY answer DENIED at a device that is no manager. At a manager ENUMERATE starts the long operation
and a new round at the lowest port (its LINK core running, port 0 UP, no enumeration in progress), and answers BUSY during a device-wide
operation; WORKER_MAP answers the table's addresses; GROUP of a present worker changes that membership alone, and of an absent one answers
UNREACH; SET_RELAY keeps its timeout. SET_ORPHAN under presence writes LNK_ORPH (clocks running), and answers NOPRES without. Where the
spec leaves a point open, what is said of it is the model's choice (log entry 75). -/
def Obligations.HierarchyRequests : Prop :=
  ∀ (s : State) (ch : ReqChan),
    let q := s.reqOf (chanIx ch)
    let e : Nat × LinkAddr := (q.n 1, BitVec.ofNat 11 (q.n 2))
    (Waits s ch 0x70 → ∃ t, exec (.opLinkStatus ch) s = .next t ∧ OnlyAsked s t
        ∧ Answers s t ch .ok [wordOfNat s.role, wordOfNat s.linkAddr.toNat,
            wordOfNat (s.fld (R.LNK_PORT 0) 7 0 + s.fld (R.LNK_PORT 1) 7 0 * 256 + s.fld (R.LNK_PORT 2) 7 0 * 65536 + s.fld (R.LNK_PORT 3) 7 0 * 16777216),
            wordOfNat (s.fld R.LNK_WCNT 10 0), wordOfNat (s.fld R.LNK_TXN 8 0)])
    ∧ (s.isManager = false → (Waits s ch 0x71 → ∃ t, exec (.opEnumerate ch) s = .next t ∧ OnlyAsked s t ∧ Answers s t ch .denied [])
        ∧ (Waits s ch 0x72 → ∃ t, exec (.opWorkerMap ch) s = .next t ∧ OnlyAsked s t ∧ Answers s t ch .denied [])
        ∧ (Waits s ch 0x73 → ∃ t, exec (.opGroup ch) s = .next t ∧ OnlyAsked s t ∧ Answers s t ch .denied [])
        ∧ (Waits s ch 0x75 → ∃ t, exec (.opSetRelay ch) s = .next t ∧ OnlyAsked s t ∧ Answers s t ch .denied []))
    ∧ (s.isManager = true →
        (Waits s ch 0x71 → s.fw.longDev ≠ none → ∃ t, exec (.opEnumerate ch) s = .next t ∧ OnlyAsked s t ∧ Answers s t ch .busy [])
        ∧ (Waits s ch 0x71 → s.fw.longDev = none → s.sys.linkRun = true → s.lnk.todo = [] → s.portUp 0 = true →
            ∃ t, exec (.opEnumerate ch) s = .next t ∧ Answers s t ch .ok [] ∧ t.fw.longDev = some { op := 0x71, args := [] }
              ∧ t.lnk.todo = [0, 1, 2, 3] ∧ t.lnk.k = 1 ∧ t.round = (s.round + 1) % 256 ∧ t.mot = s.mot)
        ∧ (Waits s ch 0x72 → ∃ t, exec (.opWorkerMap ch) s = .next t ∧ OnlyAsked s t
            ∧ Answers s t ch .ok (q.w 1 :: (List.range 12).map fun j =>
                wordOfNat (packBits 32 fun b => (s.worker (BitVec.ofNat 11 (q.n 1 + 32 * j + b))).isSome)))
        ∧ (Waits s ch 0x73 → s.worker e.2 = none → ∃ t, exec (.opGroup ch) s = .next t ∧ OnlyAsked s t ∧ Answers s t ch .unreach [])
        ∧ (Waits s ch 0x73 → s.worker e.2 ≠ none → ∃ t, exec (.opGroup ch) s = .next t ∧ Answers s t ch .ok [] ∧ t.mot = s.mot ∧ t.lnk.table = s.lnk.table
            ∧ (e ∈ t.lnk.groups ↔ q.n 3 = 1) ∧ ∀ x, x ≠ e → (x ∈ t.lnk.groups ↔ x ∈ s.lnk.groups))
        ∧ (Waits s ch 0x75 → ∃ t, exec (.opSetRelay ch) s = .next t ∧ RegsStand s t ∧ Answers s t ch .ok [] ∧ t.fw = { s.fw with relay := q.n 1 }
            ∧ t.mot = s.mot ∧ t.lnk = s.lnk))
    ∧ (Waits s ch 0x74 → s.presence = false → ∃ t, exec (.opSetOrphan ch) s = .next t ∧ OnlyAsked s t ∧ Answers s t ch .nopres [])
    ∧ (Waits s ch 0x74 → s.presence = true → ClocksRun s → ∃ t, exec (.opSetOrphan ch) s = .next t ∧ Answers s t ch .ok []
        ∧ t.get R.LNK_ORPH &&& 0x103FF#32 = wordOfNat (q.n 2 * 65536 + q.n 1) ∧ t.mot = s.mot ∧ t.lnk = s.lnk)

/-- LONG_OP_END, RELAY_TIMEOUT, EVENT_POST, DEFERRED_RESET, CMP_ALARM_NOTIFY, LOG_FLUSH_TIMEOUT, TRIAL_CONFIRM, OPEN_END_LEARNING (R129, R144, R149, R150, R151, R152, R182, R300, R379, R388, R393, spec/06_commands.md).
With firmware running, and the wear journal decoding where it is read. A long operation that still runs does not end; a self-test that
completed reports its failed comparators; one that fails ends alone and queues its event of code 1 for every destination that wants it; an
IDENTIFY whose measurements are missing or disagree applies nothing; the wiring check and a commit that succeed write their registers and
both settings blocks. A relayed request whose response is missing is answered TIMEOUT, in the order of the requests, and its transaction
ends. The oldest event of a destination is posted once its channel is empty, and stays while the channel is full. DEFERRED_RESET after
RESET starts a chip reset, and without one changes nothing. A window's flag bit follows its alarms routed to EXEC. LOG_FLUSH_TIMEOUT
programs the gathered records as one page. TRIAL_CONFIRM clears the trials in the copy of the header that did not govern, and in SPL_BOOT.
OPEN_END_LEARNING after a stall keeps the learnt open end 8,192 microsteps short, and after another end leaves the axis disabled. Where
the spec leaves a point open, what is said of it is the model's choice (log entries 8, 65, 83, 84, 95, 108, 110, 111). -/
def Obligations.LongOperationsEndAndFirmwareFollowsUp : Prop :=
  ∀ s : State, s.fwRuns = true →
    (∀ (ax : Axis) (o : LongOp) (r : Byte) (data : List Word), vget s.fw.long ax = some o → s.axisRuns ax o = false → ((vget s.fw.plan ax).map (·.fails)).getD 0 = 0 → r ≠ 0#8 → o.op ≠ 0x81 →
        ∃ t, exec (.longOpEnd (.axis ax) r data) s = .next t ∧ vget t.fw.long ax = none ∧ (∀ bx : Axis, bx ≠ ax → vget t.fw.long bx = vget s.fw.long bx)
        ∧ (∀ d, s.wants d .longEnd = true → (vget s.fw.events d).length < 32 →
            vget t.fw.events d = vget s.fw.events d ++ [s.evMsg .longEnd r.toNat o.op ax s.sys.time []])
        ∧ (∀ d, s.wants d .longEnd = false → vget t.fw.events d = vget s.fw.events d) ∧ t.regs = s.regs ∧ t.mot = s.mot ∧ t.pwm = s.pwm)
    ∧ (∀ (ax : Axis) (o : LongOp) (data : List Word), vget s.fw.long ax = some o → s.axisRuns ax o = false → ((vget s.fw.plan ax).map (·.fails)).getD 0 = 0 → o.op = 0x80 → ClocksRun s → NoReset s →
        ∃ t, exec (.longOpEnd (.axis ax) 0#8 data) s = .next t ∧ vget t.fw.long ax = none
        ∧ t.get (R.LO_WIRE ax) = ((vget s.fw.plan ax).map (·.found)).getD 0#32 ||| 1#32 ∧ t.mot = s.mot ∧ t.coil = s.coil)
    ∧ (∀ (ax : Axis) (o : LongOp) (data : List Word), vget s.fw.long ax = some o → s.axisRuns ax o = false → ((vget s.fw.plan ax).map (·.fails)).getD 0 = 0 → o.op = 0x18 → s.identFails ax (o.args.getD 1 0#32).toNat data = true →
        ∃ t, exec (.longOpEnd (.axis ax) 0#8 data) s = .next t ∧ vget t.fw.long ax = none ∧ t.fw.ax = s.fw.ax ∧ t.regs = s.regs ∧ t.mot = s.mot
        ∧ ∀ d, s.wants d .longEnd = true → (vget s.fw.events d).length < 32 →
            vget t.fw.events d = vget s.fw.events d ++ [s.evMsg .longEnd 9 0x18 ax s.sys.time []])
    ∧ (∀ (ax : Axis) (o : LongOp) (r : Byte) (data : List Word), vget s.fw.long ax = some o → s.axisRuns ax o = true → ∃ t, exec (.longOpEnd (.axis ax) r data) s = .next t ∧ OnlyAsked s t ∧ t.regs = s.regs)
    ∧ (∀ (o : LongOp) (data : List Word), s.fw.longDev = some o → o.op = 0x62 → spSorted s.spool.flash = true → 8 ≤ o.args.length → o.args.length ≤ 4096 →
        ∃ t, exec (.longOpEnd .device 0#8 data) s = .next t ∧ t.fw.longDev = none ∧ t.mot = s.mot
        ∧ ∀ mirror, t.flashWords (blockBase mirror) o.args.length = sealBlock o.args (max (blockGen (s.block false)) (blockGen (s.block true)) + 1))
    ∧ (∀ (ax : Axis) (o : LongOp) (data : List Word), vget s.fw.long ax = some o → o.op = 0x81 → s.planDone ax = true → ((vget s.fw.plan ax).map (·.fails)).getD 0 = 0 → s.bit (R.GD_STAT ax) 19 = false →
        s.bit (R.GD_STRES ax) 31 = true → o.args.getD 1 1#32 = 1#32 → ∃ t, exec (.longOpEnd (.axis ax) 0#8 data) s = .next t ∧ vget t.fw.long ax = none ∧ t.regs = s.regs ∧ t.mot = s.mot
        ∧ ∀ d, s.wants d .longEnd = true → (vget s.fw.events d).length < 32 →
            vget t.fw.events d = vget s.fw.events d ++ [s.evMsg .longEnd 0 0x81 ax s.sys.time [s.get (R.GD_STRES ax) &&& 0x3FFFFFFF#32]])
    ∧ (∀ (o : LongOp) (r : Byte) (data : List Word), s.fw.longDev = some o → s.devRuns o = true → ∃ t, exec (.longOpEnd .device r data) s = .next t ∧ OnlyAsked s t ∧ t.regs = s.regs)
    ∧ (∀ (r : Byte) (data : List Word), s.fw.longDev = none → ∃ t, exec (.longOpEnd .device r data) s = .next t ∧ OnlyAsked s t ∧ t.regs = s.regs)
    ∧ (∀ (n : Byte) (x : Txn), s.lnk.txns.find? (fun y => y.num = n.toNat) = some x → x.group = none → x.ch = 0 → s.bFull 1 = false → s.sndOf 1 = 1 →
        vget s.fw.outq 0 = [] → (∀ d, s.hasReq d = false) → s.lnk.inq = [] →
        ((vget s.fw.owed 0 = [] ∨ vget s.fw.owed 0 = [.relayed n.toNat]) → ∃ t, exec (.relayTimeout n) s = .next t ∧ t.bFull 1 = true
          ∧ (t.msg 1).take 1 = [rspHdr x.hdr 10 0] ∧ t.lnk.txns = (s.lnk.txns.filter fun y => y.num ≠ n.toNat) ∧ t.mot = s.mot)
        ∧ (∀ k, k ≠ n.toNat → vget s.fw.owed 0 = [.relayed k, .relayed n.toNat] → hdrClass x.hdr ≠ 0 → ∃ t, exec (.relayTimeout n) s = .next t
          ∧ t.bFull 1 = false ∧ vget t.fw.owed 0 = [.relayed k, .done { words := [rspHdr x.hdr 10 0] }]
          ∧ t.lnk.txns = (s.lnk.txns.filter fun y => y.num ≠ n.toNat) ∧ t.mot = s.mot))
    ∧ (∀ (ch : ReqChan) (m : List Word) (rest : List (List Word)), ch ≠ .link → s.fc = [] → vget s.fw.outq (chanIx ch) = [] →
        vget s.fw.events (chanIx ch) = m :: rest → vget s.fw.lost (chanIx ch) = 0 → m.length ≤ 15 →
        (s.bFull (outChan (chanIx ch)) = false → s.sndOf (outChan (chanIx ch)) = 1 → ∃ t, exec (.eventPost ch) s = .next t
          ∧ t.bFull (outChan (chanIx ch)) = true ∧ (t.msg (outChan (chanIx ch))).take m.length = m ∧ vget t.fw.events (chanIx ch) = rest ∧ RegsStand s t
          ∧ t.mot = s.mot)
        ∧ (s.bFull (outChan (chanIx ch)) = true → ∃ t, exec (.eventPost ch) s = .next t ∧ OnlyAsked s t ∧ t.regs = s.regs))
    ∧ (s.fw.deferred = none → ∃ t, exec .deferredReset s = .next t ∧ OnlyAsked s t ∧ t.regs = s.regs)
    ∧ (∀ d, s.fw.deferred = some (.crst, d) → ∃ t, exec .deferredReset s = .next t ∧ StartsReset s t .swrst)
    ∧ (∀ w : Fin 8, ClocksRun s → ∃ t, exec (.cmpAlarmNotify w) s = .next t
        ∧ t.bit (R.MBX_FLAG 5) (16 + w) = (s.routeAlarm ⟨2 * w, by omega⟩ 2 || s.routeAlarm ⟨2 * w + 1, by omega⟩ 2)
        ∧ (∀ i, 16 ≤ i → i < 30 → i ≠ 16 + w → t.bit (R.MBX_FLAG 5) i = s.bit (R.MBX_FLAG 5) i) ∧ (∀ k, k ≠ R.MBX_FLAG 5 → t.get k = s.get k)
        ∧ t.cmp = s.cmp ∧ t.mot = s.mot)
    ∧ (s.baseline = false → s.isUe .wj 16 = false → s.isUe .wj 17 = false → s.spool.gathered ≠ [] → s.spool.gathered.length ≤ 7 → s.logPages ≠ 0 → s.logHead < 2 ^ 63 → spSorted s.spool.flash = true →
        let g := s.spool.gathered
        let seq := (s.logHead - g.length) / 7
        ∃ t, exec .logFlushTimeout s = .next t ∧ t.spool.gathered = [] ∧ t.logHead = (seq + 1) * 7 ∧ t.mot = s.mot
        ∧ t.flashBytes (0x410000 + 256 * (seq % s.logPages)) 256 = pageBytes seq g.length (g ++ List.replicate (7 - g.length) ([], 0)))
    ∧ (∀ c ws, s.hdr = some (c, ws) → s.ready = true → s.baseline = false → ws.getD 2 0#32 &&& 0x300#32 ≠ 0#32 → spSorted s.spool.flash = true →
        s.isUe .wj 18 = false → s.isUe .wj 19 = false →
        ∃ t, exec .trialConfirm s = .next t ∧ t.bit R.SPL_BOOT 8 = false ∧ t.bit R.SPL_BOOT 9 = false ∧ t.hdrWords c = s.hdrWords c ∧ t.mot = s.mot
        ∧ (t.hdrWords (1 - c)).getD 1 0#32 = ws.getD 1 0#32 + 1#32 ∧ (t.hdrWords (1 - c)).getD 2 0#32 = ws.getD 2 0#32 &&& 0xFFFFFCFF#32
        ∧ ∀ k, k ≠ R.SPL_BOOT → k ≠ R.WJ_WCNT → t.get k = s.get k)
    ∧ (s.ready = false → ∃ t, exec .trialConfirm s = .next t ∧ OnlyAsked s t ∧ t.regs = s.regs)
    ∧ (∀ (ax : Axis) (c : Ctx), ClocksRun s → NoReset s → s.hasSettings = false → s.maint = false → s.bit R.SYS_STRAP 2 = true → (s.fwAx ax).learn = some c →
        s.ctxState c = ctxAborted →
        (fldOf (s.ctxW c 32) 23 16 = 7 → -140737488355328 ≤ s.ctxWide c 38 - 8192 → s.ctxWide c 38 - 8192 < 140737488355328 →
          ∃ t, exec (.openEndLearning ax) s = .next t ∧ (t.fwAx ax).learn = none ∧ t.meEn ax = true ∧ t.wide (R.ME_OPEN ax) = s.ctxWide c 38 - 8192
          ∧ t.fld (R.ME_CFG ax) 25 24 = 2 ∧ t.bit (R.ME_CFG ax) 14 = false ∧ t.get (R.ME_PMAX ax) = regReset (R.ME_PMAX ax)
          ∧ t.get (R.ME_PMAX ax + 1) = regReset (R.ME_PMAX ax + 1))
        ∧ (fldOf (s.ctxW c 32) 23 16 ≠ 7 → ∃ t, exec (.openEndLearning ax) s = .next t ∧ (t.fwAx ax).learn = none ∧ t.meEn ax = false
          ∧ t.bit (R.CR_CFG ax) 31 = false ∧ t.wide (R.ME_OPEN ax) = s.wide (R.ME_OPEN ax)))
    ∧ (∀ ax : Axis, (s.hasSettings = true ∨ s.maint = true) → ∃ t, exec (.openEndLearning ax) s = .next t ∧ OnlyAsked s t ∧ t.regs = s.regs)

/-- BOOT_SEQUENCE, HANDOVER_IMAGE_LOAD, LHOLD_SET, LHOLD_CLEAR and LINK_CORE_RESTART: which cores run, and what SPL_BOOT tells (R35, R48, R72, R154, R367, R375, R377, R378, R381, R382, R383, spec/17_spool_memory.md).
BOOT_SEQUENCE from the boot ROM with straps latched (clocks running, nothing set to reset) runs both cores, locks the binding table,
starts the watchdog, keeps READY, and where no settings block applies tells in SPL_BOOT: BASE with SRC 1 when no spool answers, BASE with
SRC 2 without a valid header, BASE with SRC 3 and a record of SPL_ERR when SFDP does not suit, and the slots of a header on no trial whose
slots are valid. Straps in fault keep the boot ROM. HANDOVER_IMAGE_LOAD runs the EXEC core again once the master port's queue is empty,
claims every axis, restarts the watchdog's timeout and ends a held NMI; before, it changes nothing. A keyed write of SPL_CORE by EXEC
holds the LINK core in reset or starts it (the page answering); another master's is ignored with a raise (resetting nothing).
LINK_CORE_RESTART starts the LINK core unless LHOLD holds it. An axis moves on through all but BOOT_SEQUENCE. Where the spec leaves a
point open, what is said of it is the model's choice (log entries 64, 66). -/
def Obligations.BootHandoverAndLinkCoreStart : Prop :=
  ∀ s : State,
    (∀ p : SpoolProbe, s.sys.chipReset = false → s.sys.asleep = false → s.sys.strapped = true → s.sys.exec = .bootRom →
      (s.sys.strapStuck = true → ∃ t, exec (.bootSequence p) s = .next t ∧ OnlyAsked s t ∧ t.regs = s.regs)
      ∧ (s.sys.strapStuck = false → ClocksRun s → NoReset s → (noSpool p = true ∨ s.chosenBlock = none) → ∃ t, exec (.bootSequence p) s = .next t
        ∧ t.sys.exec = .firmware ∧ t.sys.linkRun = true ∧ t.bit R.MBX_LOCK 0 = true ∧ t.bit R.SYS_WDT 31 = true ∧ t.ready = s.ready
        ∧ t.fld R.SPL_BOOT 3 2 = 0 ∧ t.spool.probe = some p
        ∧ (noSpool p = true → t.baseline = true ∧ t.fld R.SPL_BOOT 27 24 = 1 ∧ t.get R.SPL_ID = 0#32)
        ∧ (noSpool p = false → s.hdr = none → t.baseline = true ∧ t.fld R.SPL_BOOT 27 24 = 2)
        ∧ (noSpool p = false → spoolSuits p = false → t.baseline = true ∧ (t.fcRec 120).latch = true ∧ (s.hdr ≠ none → t.fld R.SPL_BOOT 27 24 = 3))
        ∧ (∀ c ws, noSpool p = false → spoolSuits p = true → s.hdr = some (c, ws) → ws.getD 2 0#32 &&& 0x300#32 = 0#32 → s.slotValid (fldOf (ws.getD 2 0#32) 0 0) = true →
            s.slotValid (fldOf (ws.getD 2 0#32) 1 1) = true → t.baseline = false ∧ t.fld R.SPL_BOOT 0 0 = c
            ∧ t.fld R.SPL_BOOT 4 4 = fldOf (ws.getD 2 0#32) 0 0 ∧ t.fld R.SPL_BOOT 5 5 = fldOf (ws.getD 2 0#32) 1 1 ∧ t.bit R.SPL_BOOT 28 = false)))
    ∧ (s.sys.chipReset = false → s.sys.exec = .handover → s.msp.cur = none → s.msp.txq = [] → ClocksRun s → ∃ t, exec .handoverImageLoad s = .next t
        ∧ t.sys.exec = .firmware ∧ t.fld R.SYS_AXCLAIM 7 0 = 255 ∧ t.fld R.SYS_AXCLAIM 15 8 = 0 ∧ t.sys.wdSince = s.sys.cyc ∧ t.sys.nmiHeld = false ∧ t.bit R.SPL_BOOT 31 = false ∧ t.mot = s.mot ∧ t.pwm = s.pwm
        ∧ t.saf = s.saf ∧ t.ctxRam = s.ctxRam ∧ (s.hdr = none → t.baseline = true))
    ∧ ((s.sys.exec ≠ .handover ∨ s.msp.cur ≠ none ∨ s.msp.txq ≠ []) → ∃ t, exec .handoverImageLoad s = .next t ∧ OnlyAsked s t ∧ t.regs = s.regs)
    ∧ (∀ w : Word, s.opens .exec (R.SPL_CORE / 128) = true → fldOf w 31 16 = 0x9E37 → bitOf w 0 = true → ∃ t, exec (.lholdSet .exec w) s = .next t ∧ t.sys.linkRun = false
        ∧ t.get R.SPL_CORE = 1#32 ∧ t.mot = s.mot ∧ t.saf = s.saf ∧ (s.sys.linkRun = true → t.lnk.table = [] ∧ ∀ x ∈ t.lnk.txns, x.dead = true))
    ∧ (∀ w : Word, s.opens .exec (R.SPL_CORE / 128) = true → fldOf w 31 16 = 0x9E37 → bitOf w 0 = false → s.bit R.SPL_CORE 0 = true → ∃ t, exec (.lholdClear .exec w) s = .next t
        ∧ t.sys.linkRun = true ∧ t.get R.SPL_CORE = 0#32 ∧ t.mot = s.mot ∧ t.saf = s.saf)
    ∧ (∀ (m : Master) (w : Word), s.opens m (R.SPL_CORE / 128) = true → (m ≠ .exec ∨ fldOf w 31 16 ≠ 0x9E37) → s.fwRuns = false → (∀ d, Plain s 2 d) →
        (∃ t, exec (.lholdSet m w) s = .next t ∧ RaisedIn s t 2 (accessDetail m R.SPL_CORE) ∧ t.regs = s.regs ∧ t.sys.linkRun = s.sys.linkRun)
        ∧ (∃ t, exec (.lholdClear m w) s = .next t ∧ RaisedIn s t 2 (accessDetail m R.SPL_CORE) ∧ t.regs = s.regs ∧ t.sys.linkRun = s.sys.linkRun))
    ∧ (s.sys.chipReset = false → s.sys.linkRun = false → s.bit R.SPL_CORE 0 = false → ∃ t, exec .linkCoreRestart s = .next t ∧ t.sys.linkRun = true
        ∧ t.lnk.reserved = s.fw.departed ∧ t.mot = s.mot ∧ t.saf = s.saf)
    ∧ (s.bit R.SPL_CORE 0 = true → s.fwRuns = false → ∃ t, exec .linkCoreRestart s = .next t ∧ OnlyAsked s t ∧ t.regs = s.regs)

/-- MSP_PUSH, its entries, MSP_RXD, REL, FLUSH and disabling; the wear journal's reads and writes: queues, select, words and errors (R395, R396, R398, R400, R401, R402, R404, R405, R410, spec/18_master_port.md, spec/17_spool_memory.md).
Of pages that answer the master (R17, R48, R70): a push by EXEC with room and a select of its mode joins the queue with MSP_TXD as it
stands; another master's, one into a full queue and one of another select are ignored with a raise (resetting nothing). An entry starts
when none runs and its received word will find room; its end keeps the received bytes alone and holds or releases the select. EXEC's read
of MSP_RXD takes the oldest word, an empty queue reads 0. REL releases an idle select at once; FLUSH empties both queues; clearing EN
empties the port. WJ_ADDR starts a read of an enabled journal; its end gives the word's eight lanes; a write takes WJ_D as they stand, is
ignored while BUSY, stores its word at its end and counts it, and a failed verify raises WJ_ERR with VFAIL (what the word then holds is a
free value: log entry 4). Where the spec leaves a point open, what is said of it is the model's choice (log entries 4, 62, 85). -/
def Obligations.MasterPortAndWearJournal : Prop :=
  ∀ (s : State) (w : Word),
    let entry : MspEntry := { txd := s.get R.MSP_TXD, txc := w }
    let bad := if s.bit R.MSP_CFG 16 then txcSel w = 15 else 3 < txcSel w
    (s.opens .exec (R.MSP_TXC / 128) = true → s.msp.txq.length < 16 → ¬bad → ∃ t, exec (.mspPush .exec w) s = .next t ∧ t.msp = { s.msp with txq := s.msp.txq ++ [entry] } ∧ t.regs = s.regs
        ∧ t.spool = s.spool ∧ t.fc = s.fc)
    ∧ (∀ m : Master, s.opens m (R.MSP_TXC / 128) = true → (m ≠ .exec ∨ 16 ≤ s.msp.txq.length ∨ bad) → (∀ d, Plain s 2 d) → ∃ t, exec (.mspPush m w) s = .next t ∧ t.msp = s.msp
        ∧ RaisedIn s t 2 (accessDetail m R.MSP_TXC) ∧ t.regs = s.regs)
    ∧ (∀ e rest, s.msp.cur = none → s.msp.txq = e :: rest → s.bit R.MSP_CFG 31 = true → (bitOf e.txc 5 = true → s.msp.rxq.length < 16) →
        ∃ t, exec .mspEntryStart s = .next t ∧ t.msp.cur = some e ∧ t.msp.txq = rest ∧ t.msp.sel = txcSel e.txc ∧ t.msp.rxq = s.msp.rxq ∧ t.regs = s.regs)
    ∧ (∀ e rest, s.msp.cur = none → s.msp.txq = e :: rest → bitOf e.txc 5 = true → 16 ≤ s.msp.rxq.length → ∃ t, exec .mspEntryStart s = .next t ∧ t.msp = s.msp)
    ∧ (∀ e, s.msp.cur = some e → ∃ t, exec (.mspEntryComplete w) s = .next t ∧ t.msp.cur = none ∧ t.msp.txq = s.msp.txq ∧ t.regs = s.regs
        ∧ t.msp.rxq = (if bitOf e.txc 5 then s.msp.rxq ++ [wordOfNat (w.toNat % 256 ^ txcBytes e.txc)] else s.msp.rxq)
        ∧ (bitOf e.txc 8 = false → t.msp.sel = 15) ∧ (bitOf e.txc 8 = true → s.msp.relReq = false → s.sys.exec = .firmware → t.msp.sel = s.msp.sel))
    ∧ (∀ m x rest, s.opensRead m (R.MSP_RXD / 128) = true → s.msp.rxq = x :: rest → ∃ t, exec (.mspRxdRead m) s = .next t ∧ t.out.words = [x]
        ∧ t.msp = (if m = .exec then { s.msp with rxq := rest } else s.msp) ∧ t.regs = s.regs)
    ∧ (∀ m, s.opensRead m (R.MSP_RXD / 128) = true → s.msp.rxq = [] → ∃ t, exec (.mspRxdRead m) s = .next t ∧ t.out.words = [0#32] ∧ t.msp = s.msp ∧ t.regs = s.regs)
    ∧ (s.opens .exec (R.MSP_CTL / 128) = true → s.msp.cur = none → ∃ t, exec (.rel .exec) s = .next t ∧ t.msp = { s.msp with sel := 15 } ∧ t.regs = s.regs)
    ∧ (s.opens .exec (R.MSP_CTL / 128) = true → s.msp.cur ≠ none → ∃ t, exec (.rel .exec) s = .next t ∧ t.msp = { s.msp with relReq := true } ∧ t.regs = s.regs)
    ∧ (s.opens .exec (R.MSP_CTL / 128) = true → ∃ t, exec (.flush .exec) s = .next t ∧ t.msp = { s.msp with txq := [], rxq := [] } ∧ t.regs = s.regs)
    ∧ (∀ m, s.opens m (R.MSP_CTL / 128) = true → m ≠ .exec → (∀ d, Plain s 2 d) → (∃ t, exec (.rel m) s = .next t ∧ t.msp = s.msp ∧ RaisedIn s t 2 (accessDetail m R.MSP_CTL))
        ∧ ∃ t, exec (.flush m) s = .next t ∧ t.msp = s.msp ∧ RaisedIn s t 2 (accessDetail m R.MSP_CTL))
    ∧ (∀ m, s.opens m (R.MSP_CFG / 128) = true → ∃ t, exec (.mspDisable m) s = .next t ∧ t.bit R.MSP_CFG 31 = false ∧ t.msp = {} ∧ (∀ k, k ≠ R.MSP_CFG → t.get k = s.get k) ∧ t.spool = s.spool)
    ∧ ((∀ word d, s.spool.wjOp ≠ .write word d) → s.wjEn = true → s.opens .exec (R.WJ_ADDR / 128) = true → ∃ t, exec (.wjAddrWrite .exec w) s = .next t ∧ t.spool.wjOp = .read (fldOf w 12 0)
        ∧ t.get R.WJ_ADDR = w &&& 0x1FFF#32 ∧ (∀ k, k ≠ R.WJ_ADDR → t.get k = s.get k) ∧ t.spool.wj = s.spool.wj)
    ∧ (∀ word, s.spool.wjOp = .read word → s.isUe .wj word = false → ∃ t, exec (.wjReadComplete .none) s = .next t ∧ t.spool.wjOp = .idle
        ∧ (∀ i < 8, t.get (R.WJ_D i) = laneOf (s.darnGet .wj word) i) ∧ (∀ k, k / 128 ≠ R.WJ_D 0 / 128 → t.get k = s.get k) ∧ t.spool.wj = s.spool.wj)
    ∧ (s.spool.wjOp = .idle → s.wjEn = true → bitOf w 0 = true → s.opens .exec (R.WJ_CTL / 128) = true → ∃ t, exec (.wjWrite .exec w) s = .next t ∧ t.regs = s.regs ∧ t.spool.wj = s.spool.wj
        ∧ t.spool.wjOp = .write (s.fld R.WJ_ADDR 12 0) (joinWords ((List.range 8).map fun i => s.get (R.WJ_D i))))
    ∧ (s.spool.wjOp ≠ .idle → s.opens .exec (R.WJ_CTL / 128) = true → (∀ d, Plain s 2 d) → ∃ t, exec (.wjWrite .exec w) s = .next t ∧ t.spool = s.spool ∧ t.regs = s.regs
        ∧ RaisedIn s t 2 (accessDetail .exec R.WJ_CTL))
    ∧ (∀ word d, s.spool.wjOp = .write word d → ∃ t, exec (.wjWriteComplete true) s = .next t ∧ t.spool.wjOp = .idle ∧ t.spool.vfail = false
        ∧ spFind t.spool.wj word = (if d = 0#256 then none else some d) ∧ (∀ j, j ≠ word → spFind t.spool.wj j = spFind s.spool.wj j)
        ∧ (t.get R.WJ_WCNT).toNat = min 4294967295 ((s.get R.WJ_WCNT).toNat + 1) ∧ t.fc = s.fc)
    ∧ (∀ word d, s.spool.wjOp = .write word d → (∀ d, Plain s 121 d) → ∃ t, exec (.wjWriteComplete false) s = .next t ∧ t.spool.wjOp = .idle
        ∧ t.spool.vfail = true ∧ RaisedIn s t 121 (wordOfNat word) ∧ ∀ j, j ≠ word → spFind t.spool.wj j = spFind s.spool.wj j)

/-- RX_SYNC_GAIN, PORT_UP, PORT_DOWN, HEM_BACK_END, BUFFERED_FRAME_SEND, SYNC_SEND, SYNC_FRAME, SYNC_LOSS (R349, R351, R353, R357, R361, R362, R364, R368, R369, spec/16_bobbin_link.md).
Where nothing is set to reset. A receiver without sync gains it; a port in sync becomes UP, LNK_DOWN ends, its delay is unmeasured, and a
worker's upstream port sends JOIN. A port that goes down keeps no frame, raises LNK_DOWN, and an addressed worker of a chain sends BREAK
by its other port; in a loop the port turns. HEM_BACK_END ends the turning with a REPAIR. A stored frame leaves in its order. The manager
sends one SYNC frame on every port UP with an empty transmitter. A worker passes a SYNC frame on with one hop more; an intact, later one
gives LNK_TSOFS from its time and delay (the mean's rounding is free: log entry 4) and steps SYS_TIME when the offset exceeds 10 µs; one
in error counts alone. Without SYNC for 3 ms TSOK ends and the missing ones are counted. Where the spec leaves a point open, what is said
of it is the model's choice (log entries 4, 70, 73, 77). -/
def Obligations.LinkPortsBuffersAndTime : Prop :=
  ∀ (s : State) (p : LinkPort), NoReset s →
    let q := otherPort p
    (s.portState p = 1 → ∃ t, exec (.rxSyncGain p) s = .next t ∧ t.portState p = 2 ∧ (∀ k, k ≠ R.LNK_PORT p → t.get k = s.get k) ∧ t.lnk = s.lnk)
    ∧ (s.portState p ≠ 1 → ∃ t, exec (.rxSyncGain p) s = .next t ∧ t.regs = s.regs ∧ t.lnk = s.lnk)
    ∧ (s.portState p = 2 → ∃ t, exec (.portUp p) s = .next t ∧ t.portUp p = true ∧ t.present (112 + p) = false ∧ (t.lp p).measured = false
        ∧ (s.isWorker = true → p = s.upPort → s.bit (R.LNK_PORT p) 4 = false → (s.lp p).buf = [] → t.out.sent = [.regular p s.joinFrame])
        ∧ ((s.isWorker = false ∨ p ≠ s.upPort) → t.out.sent = []) ∧ t.mot = s.mot)
    ∧ (∀ errs : Nat, s.portUp p = true → ∃ t, exec (.portDown p errs) s = .next t ∧ t.portState p = 1 ∧ t.present (112 + p) = true ∧ (t.lp p).buf = []
        ∧ t.fld (R.LNK_ERR p) 31 24 = (s.fld (R.LNK_ERR p) 31 24 + errs) % 256 ∧ t.mot = s.mot
        ∧ (s.isWorker = true → p.val < 2 → s.inLoop = false → Free s q → t.out.sent = [.regular q (s.notice 1 p)])
        ∧ (s.isWorker = true → p.val < 2 → s.inLoop = true → t.bit (R.LNK_PORT p) 4 = true)
        ∧ (s.isManager = true → t.out.sent = []))
    ∧ (s.portUp p = true → s.bit (R.LNK_PORT p) 4 = true → s.portUp s.upPort = true → (s.lp s.upPort).buf = [] →
        (p = s.upPort ∨ s.bit (R.LNK_PORT s.upPort) 4 = false) → ∃ t, exec (.hemBackEnd p) s = .next t ∧ t.bit (R.LNK_PORT p) 4 = false
        ∧ t.out.sent = [.regular s.upPort (s.notice 2 p)] ∧ ∀ k, k ≠ R.LNK_PORT p → t.get k = s.get k)
    ∧ (∀ e, nextStored (s.lp p).buf = some e → s.portUp p = true → ∃ t, exec (.bufferedFrameSend p) s = .next t ∧ t.out.sent = [.regular p e.2]
        ∧ (t.lp p).buf = (s.lp p).buf.erase e ∧ (∀ r : LinkPort, r ≠ p → t.lp r = s.lp r) ∧ t.regs = s.regs)
    ∧ (s.isManager = true → (∀ r, (s.lp r).buf = []) → ∃ t, exec .syncSend s = .next t ∧ t.regs = s.regs
        ∧ t.out.sent.length = ((List.finRange 4).filter fun r => s.portUp r).length
        ∧ ∀ x ∈ t.out.sent, ∃ (r : LinkPort) (c : Word), s.portUp r = true ∧ x = .regular r
            { cls := 1, kind := 3, dest := 0x7FF#11, src := 0#11, pres := s.presence, payload := [hiWord s.sys.time, loWord s.sys.time, c] })
    ∧ (∀ f : SyncFrame, s.isWorker = true → s.hears p = true → Free s q →
        let passed (c : Word) (bad : Bool) : Sent := .regular q { cls := 1, kind := 3, dest := 0x7FF#11, src := 0#11, kdata := (f.hops + 1) % 1024
                                                                  payload := [hiWord f.time, loWord f.time, c], bad := bad }
        let x : Int := (f.corr + s.fld (R.LNK_DLY p) 19 0 : Nat)
        (f.intact = true → s.bit R.LNK_STAT 7 = false → (∀ b, s.lnk.best = some b → b.time ≠ f.time) → ∃ t c, exec (.syncFrame p f) s = .next t
          ∧ t.out.sent = [passed c false] ∧ t.lnk.best = some { time := f.time, hops := f.hops, port := p } ∧ t.mot = s.mot
          ∧ ∃ d : Int, 16 * (d - 1) < x ∧ x < 16 * (d + 1) ∧ t.get R.LNK_TSOFS = wordOfInt (s.sys.time - (f.time + d))
            ∧ (s.sys.linkRun = false → t.sys.time = s.sys.time)
            ∧ (s.sys.linkRun = true → 10000 < ((s.sys.time : Int) - (f.time + d)).natAbs → t.sys.time = ((f.time : Int) + d).toNat / 5 * 5))
        ∧ (f.intact = false → ∃ t c, exec (.syncFrame p f) s = .next t ∧ t.out.sent = [passed c true] ∧ t.lnk.best = s.lnk.best
          ∧ t.fld (R.LNK_ERR p) 23 16 = (s.fld (R.LNK_ERR p) 23 16 + 1) % 256 ∧ t.get R.LNK_TSOFS = s.get R.LNK_TSOFS ∧ t.sys.time = s.sys.time))
    ∧ (s.isWorker = true → ∃ t, exec .syncLoss s = .next t ∧ t.bit R.LNK_STAT 9 = false ∧ t.lnk.since = none ∧ t.mot = s.mot
        ∧ t.fld R.LNK_TSCNT 15 0 = (s.fld R.LNK_TSCNT 15 0 + (3 - s.lnk.missed)) % 65536 ∧ t.present 118 = (s.addressed && s.lnk.settled))

/-- Regular frames of KIND 0 to 2 and stitch frames: forwarded, taken, discarded, executed once and answered (R136, R139, R144, R151, R350, R351, R352, R354, R355, R356, R358, R367).
Where nothing is set to reset. A frame from the manager for another device, and any frame of another worker, leaves by the worker's other
port as it came. One for this worker alone is taken: its request waits for BCH2 (firmware not running), or is dropped and counted while
the LINK core is in reset; one in error is discarded and counted. A response for an open transaction of the manager answers the request
that waits (firmware running, no request relayed before it) and ends it; one for none is discarded. An event reaches HOST's queue when
SET_EVENTS asks for it. The manager's STITCH_SEND sends the oldest class-0 request on every port UP, 10 µs after the last at the earliest.
A stitch frame for this worker is executed once, a repeated SSEQ within 1 ms not again, and each execution is answered by the upstream
port; one for another worker passes on. Where the spec leaves a point open, what is said of it is the model's choice (log entries 73, 74,
76). -/
def Obligations.FramesAndStitchesReachTheirDevice : Prop :=
  ∀ (s : State) (p : LinkPort), NoReset s → s.hears p = true →
    let q := otherPort p
    (∀ f : LinkFrame, f.cls ≠ 0 → f.dest ≠ 0x7FE#11 →
      (s.isWorker = true → s.addressed = true → f.dest ≠ s.linkAddr → s.forMe f.dest = false → f.intact = true → Settled s → Free s q →
        (∃ t, exec (.requestFrame p f false) s = .next t ∧ t.out.sent = [.regular q (forwarded f 0)] ∧ t.lnk.inq = s.lnk.inq ∧ t.mot = s.mot)
        ∧ (∃ t, exec (.responseFrame p f false) s = .next t ∧ t.out.sent = [.regular q (forwarded f 1)] ∧ t.lnk.txns = s.lnk.txns ∧ t.mot = s.mot)
        ∧ (∃ t, exec (.eventFrame p f false) s = .next t ∧ t.out.sent = [.regular q (forwarded f 2)] ∧ t.fw = s.fw ∧ t.mot = s.mot)
        ∧ ∃ t, exec (.requestFrame p f true) s = .next t ∧ t.out.sent = []
          ∧ (12 + 4 * f.payload.length ≤ 8192 → (t.lp q).buf = [(false, forwarded f 0)]))
      ∧ (s.isWorker = true → s.addressed = true → f.dest = s.linkAddr → f.src = 0#11 → s.bit R.LNK_STAT 7 = false → s.fwRuns = false →
        (f.intact = true → s.sys.linkRun = true → ∃ t, exec (.requestFrame p f false) s = .next t ∧ t.out.sent = [] ∧ t.mot = s.mot
          ∧ t.lnk.inq = s.lnk.inq ++ [({ src := f.src, txn := f.txn.toNat, cls := f.cls, pres := f.pres }, f.payload)])
        ∧ (f.intact = true → s.sys.linkRun = false → ∃ t, exec (.requestFrame p f false) s = .next t ∧ t.out.sent = [] ∧ t.lnk.inq = s.lnk.inq
          ∧ t.fld (R.LNK_ERR p) 15 8 = (s.fld (R.LNK_ERR p) 15 8 + 1) % 256)
        ∧ (f.intact = false → ∃ t, exec (.requestFrame p f false) s = .next t ∧ t.out.sent = [] ∧ t.lnk.inq = s.lnk.inq
          ∧ t.fld (R.LNK_ERR p) 23 16 = (s.fld (R.LNK_ERR p) 23 16 + 1) % 256))
      ∧ (s.isManager = true → f.dest = 0#11 → f.src ≠ 0#11 → f.intact = true → s.sys.linkRun = true → s.fwRuns = true → Settled s →
        (∀ (x : Txn) (h : Word) (ws : List Word), s.lnk.txns.find? (fun y => y.num = f.txn.toNat && !y.dead) = some x → x.group = none → x.dest = f.src → x.ch = 0 →
          (vget s.fw.owed 0 = [] ∨ vget s.fw.owed 0 = [.relayed x.num]) →
          f.payload = h :: ws → ws.length ≤ 14 → s.bFull 1 = false → s.sndOf 1 = 1 → ∃ t, exec (.responseFrame p f false) s = .next t ∧ t.bFull 1 = true
          ∧ (t.msg 1).take (ws.length + 1) = rspHdr x.hdr (fldOf h 23 16) ws.length :: ws ∧ (∀ y ∈ t.lnk.txns, y.num ≠ x.num) ∧ t.mot = s.mot)
        ∧ ((∀ y ∈ s.lnk.txns, y.num = f.txn.toNat → y.dead = true) → ∃ t, exec (.responseFrame p f false) s = .next t ∧ t.regs = s.regs ∧ t.lnk = s.lnk)
        ∧ (bitOf (vget s.fw.masks 0) 31 = true → (vget s.fw.events 0).length < 32 → ∃ t, exec (.eventFrame p f false) s = .next t
          ∧ vget t.fw.events 0 = vget s.fw.events 0 ++ [f.payload] ∧ t.mot = s.mot)))
    ∧ (∀ x rest, s.isManager = true → s.lnk.cls0 = x :: rest →
      ((∀ c, s.lnk.lastStitch = some c → c + 2000 ≤ s.sys.cyc) → ∃ t, exec .stitchSend s = .next t ∧ t.lnk.cls0 = rest ∧ t.lnk.sseq = (s.lnk.sseq + 1) % 256
        ∧ t.lnk.lastStitch = some s.sys.cyc ∧ t.regs = s.regs ∧ t.out.sent = ((List.finRange 4).filter fun r => s.portUp r).map fun r =>
            .stitch r x.dest x.act x.txn s.lnk.sseq x.arg true true)
      ∧ (∀ c, s.lnk.lastStitch = some c → s.sys.cyc < c + 2000 → ∃ t, exec .stitchSend s = .next t ∧ t.out.sent = [] ∧ t.lnk = s.lnk ∧ t.regs = s.regs))
    ∧ (∀ f : StitchFrame, s.isWorker = true → s.addressed = true → (f.first || f.second) = true → s.bit R.LNK_STAT 7 = false → Settled s →
      let a := f.arg.toNat
      let rsp (op : Nat) (ws : List Word) : List Sent := [.regular s.upPort
        { cls := 1, kind := 1, dest := 0#11, src := s.linkAddr, txn := f.txn.toNat, payload := wordOfNat (op * 16777216 + ws.length * 128) :: ws }]
      (f.dest = s.linkAddr → Fresh s f.sseq → Free s s.upPort →
        (∃ t, exec (.stitchHalt p f) s = .next t ∧ t.out.sent = rsp 0x29 [] ∧ (f.sseq.toNat, s.sys.cyc) ∈ t.lnk.accepted ∧ t.mot = s.mot
          ∧ ∀ ax : Axis, t.bit (R.ME_CTL ax) 0 = (s.bit (R.ME_CTL ax) 0 || a.testBit ax))
        ∧ (∃ t, exec (.stitchObstRel p f) s = .next t ∧ t.out.sent = rsp 0x2C [] ∧ ∀ ax : Axis, (a.testBit ax = false → t.me ax = s.me ax)
          ∧ (a.testBit ax = true → (a.testBit 8 = true → (t.me ax).abortReq = true) ∧ (a.testBit 8 = false → (t.me ax).contReq = true)))
        ∧ (∃ t, exec (.stitchSafeStop p f) s = .next t ∧ t.out.sent = rsp 0x36 [] ∧ (s.saf.s.ready = true → t.saf.stop = s.saf.stop ||| s.groupsOf (a % 4))
          ∧ (s.saf.s.ready = false → t.saf = s.saf))
        ∧ (∃ t, exec (.stitchPing p f) s = .next t ∧ t.out.sent = rsp 0x06 [wordOfNat a] ∧ t.mot = s.mot ∧ t.saf = s.saf))
      ∧ (f.dest = s.linkAddr → ¬Fresh s f.sseq →
        (∃ t, exec (.stitchHalt p f) s = .next t ∧ t.out.sent = [] ∧ ∀ ax : Axis, t.get (R.ME_CTL ax) = s.get (R.ME_CTL ax))
        ∧ (∃ t, exec (.stitchObstRel p f) s = .next t ∧ t.out.sent = [] ∧ t.mot = s.mot)
        ∧ (∃ t, exec (.stitchSafeStop p f) s = .next t ∧ t.out.sent = [] ∧ t.saf = s.saf)
        ∧ ∃ t, exec (.stitchPing p f) s = .next t ∧ t.out.sent = [])
      ∧ (f.dest ≠ s.linkAddr → s.forMe f.dest = false → Free s q → ∃ t, exec (.stitchHalt p f) s = .next t
        ∧ t.out.sent = [.stitch q f.dest 0 f.txn.toNat f.sseq.toNat a f.first f.second] ∧ ∀ ax : Axis, t.get (R.ME_CTL ax) = s.get (R.ME_CTL ax)))

/-- Enumeration, ASSIGN, REFUSE, link delay, GROUP, JOIN, ALIVE, BREAK, REPAIR, departure and orphans: at a worker and at the manager (R350, R356, R359, R360, R361, R362, R363, R364, R365, R366, R367, R368).
Where nothing is set to reset. At a worker: ENUM is answered once a round by the arrival port and passed on afterwards, by a port whose
delay is measured then; ASSIGN and REFUSE for its answer give or take its address; DREQ is answered; the 64th DRSP gives LNK_DLY (its
rounding is free: log entry 4); GROUP sets one membership; JOIN and ALIVE leave by the upstream port; an orphan halts every axis with ACT
1, and with ACT 0 those at rest, the others as they end. At the manager, its LINK core running: the ENUMRSP that is due records a worker
with an ASSIGN, or refuses it when the table is full; a timeout goes to the next port UP or ends the enumeration; a returning ENUM records
a loop; JOIN enumerates its port; ALIVE is noted; BREAK in a chain ends the workers beyond, and in a loop notes the segment that REPAIR
clears; a departed worker leaves the table with its address reserved. Where the spec leaves a point open, what is said of it is the
model's choice (log entries 4, 70, 74, 75, 78). -/
def Obligations.WorkersAreEnumeratedAndKept : Prop :=
  ∀ (s : State) (p : LinkPort), NoReset s → s.portUp p = true → (s.lp p).buf = [] →
    let q := otherPort p
    (s.isWorker = true →
      (∀ (k : Nat) (r : Byte), (s.lnk.answered ≠ some r.toNat → (s.lp p).measured = true → ∃ t, exec (.enum p k r) s = .next t ∧ t.round = r.toNat
          ∧ t.lnk.answered = some r.toNat ∧ t.lnk.offered = some k ∧ t.bit R.LNK_STAT 6 = false ∧ t.out.sent = [.regular p (s.enumFrame 0#11 (enumData 1 k r.toNat)
              [wordOfNat (s.linkAddr.toNat + b2n (s.portUp q) * 65536), s.get (R.LNK_DLY p)])])
        ∧ (s.lnk.answered = some r.toNat → Free s q → ∃ t, exec (.enum p k r) s = .next t ∧ t.lnk.offered = s.lnk.offered
          ∧ ((s.lp q).measured = true → t.out.sent = [.regular q { cls := 1, kind := 4, dest := 0x7FF#11, src := 0#11, kdata := enumData 0 k r.toNat }])
          ∧ ((s.lp q).measured = false → (s.lp q).busy = false → (t.lp q).busy = true ∧ t.out.sent
              = [.regular q { cls := 1, kind := 4, dest := 0x7FF#11, src := 0#11, kdata := enumData 0 k r.toNat }, .regular q (s.enumFrame 0x7FF#11 (enumData 3 0 0) [])])))
      ∧ (∀ (k : Nat) (up : Bool) (r : Byte) (a : LinkAddr) (pos : Nat), s.lnk.offered = some k → s.lnk.answered = some r.toNat →
        (∃ t, exec (.assign p k up r a pos) s = .next t ∧ t.linkAddr = a ∧ t.fld R.LNK_ADDR 25 16 = pos % 1024 ∧ t.bit R.LNK_STAT 6 = true
          ∧ t.bit R.LNK_STAT 7 = false ∧ t.inLoop = up ∧ t.upPort.val = b2n up ∧ t.present 117 = false ∧ t.out.sent = [])
        ∧ (∃ t, exec (.refuse p k r) s = .next t ∧ t.linkAddr = 0x7FF#11 ∧ t.bit R.LNK_STAT 7 = true ∧ t.present 117 = true ∧ t.out.sent = []))
      ∧ (∀ (g : Fin 64) (join : Bool), s.addressed = true → s.bit R.LNK_STAT 7 = false → ∃ t, exec (.groupFrame p s.linkAddr g join) s = .next t ∧ t.out.sent = []
        ∧ ∀ i < 32, (t.bit R.LNK_GRP0 i = if g.val = i then join else s.bit R.LNK_GRP0 i) ∧ (t.bit R.LNK_GRP1 i = if g.val = 32 + i then join else s.bit R.LNK_GRP1 i))
      ∧ (s.addressed = false → Free s s.upPort → ∃ t, exec .joinSend s = .next t ∧ t.out.sent = [.regular s.upPort s.joinFrame] ∧ t.regs = s.regs)
      ∧ (s.addressed = true → Free s s.upPort → ∃ t, exec .aliveSend s = .next t ∧ t.out.sent = [.regular s.upPort (s.notice 0 0)] ∧ t.regs = s.regs)
      ∧ (∀ src : LinkAddr, Free s q → ∃ t, exec (.join p src) s = .next t ∧ t.out.sent = [.regular q { s.joinFrame with src }] ∧ t.regs = s.regs)
      ∧ (s.bit R.LNK_STAT 8 = false → s.bit R.LNK_CFG 31 = true → ∃ t, exec .orphanTimeout s = .next t ∧ t.bit R.LNK_STAT 8 = true ∧ t.present 116 = true
        ∧ t.mot = s.mot ∧ ∀ ax : Axis, let rests := !(s.me ax).active.isSome && !(s.me ax).engaged
          t.bit (R.ME_CTL ax) 0 = (s.bit (R.ME_CTL ax) 0 || s.bit R.LNK_ORPH 16 || rests) ∧ (s.bit R.LNK_ORPH 16 = false → t.lnk.hold.getLsbD ax = !rests)))
    ∧ (∀ res : Nat, ∃ t, exec (.dreq p res) s = .next t ∧ t.regs = s.regs ∧ t.lnk = s.lnk
        ∧ t.out.sent = [.regular p (s.enumFrame 0x7FF#11 (enumData 4 0 0) [wordOfNat res])])
    ∧ (∀ trip res : Nat, (s.lp p).busy = true → (s.lp p).answer = none →
      ((s.lp p).exch < 63 → ∃ t, exec (.drsp p trip res) s = .next t ∧ (t.lp p).exch = (s.lp p).exch + 1 ∧ (t.lp p).sum = (s.lp p).sum + (trip - res : Int)
        ∧ t.out.sent = [.regular p (s.enumFrame 0x7FF#11 (enumData 3 0 0) [])] ∧ t.regs = s.regs)
      ∧ ((s.lp p).exch = 63 → ∃ t, exec (.drsp p trip res) s = .next t ∧ (t.lp p).measured = true ∧ (t.lp p).busy = false ∧ t.out.sent = []
        ∧ ∃ d : Int, 128 * (d - 1) < (s.lp p).sum + (trip - res : Int) ∧ (s.lp p).sum + (trip - res : Int) < 128 * (d + 1)
          ∧ t.get (R.LNK_DLY p) = wordOfNat (lowBits 20 d)))
    ∧ (s.isManager = true → s.sys.linkRun = true →
      (∀ (k : Nat) (r : Byte) (a : LinkAddr) (other : Bool) (dly : Nat) (rest : List Nat), s.lnk.todo = p.val :: rest → k = s.lnk.k → r.toNat = s.round →
        s.worker a = none → Settled s →
        let next := Sent.regular p (s.enumFrame 0x7FF#11 (enumData 0 (k + 1) r.toNat) [])
        (isWorkerAddr a = true → s.lnk.table.length < 1024 → k ≤ 512 → ∃ t, exec (.enumrsp p k r a other dly) s = .next t ∧ t.lnk.k = k + 1
          ∧ t.worker a = some { addr := a, entry := p, k, port := p, pos := k, alive := s.sys.cyc } ∧ t.lnk.table.length = s.lnk.table.length + 1
          ∧ t.out.sent = [.regular p (s.enumFrame 0x7FF#11 (enumData 2 k r.toNat) [wordOfNat (a.toNat + k * 65536)]), next])
        ∧ ((1024 ≤ s.lnk.table.length ∨ 512 < k) → ∃ t, exec (.enumrsp p k r a other dly) s = .next t ∧ t.lnk.k = k + 1 ∧ t.lnk.table = s.lnk.table
          ∧ t.lnk.refused = s.lnk.refused + 1
          ∧ t.out.sent = [.regular p { s.enumFrame 0x7FF#11 (enumData 1 k r.toNat) [] with kind := 5 }, next]))
      ∧ (∀ n : Nat, (∀ w ∈ s.lnk.table, w.k ≤ 256) → (s.lnk.todo = [n] → ∃ t, exec .enumTimeout s = .next t ∧ t.lnk.todo = []
          ∧ t.fld R.LNK_WCNT 10 0 = s.lnk.table.length % 2048 ∧ t.lnk.table = s.lnk.table.map fun w => { w with stale := false })
        ∧ (∀ rest, s.lnk.todo = n :: p.val :: rest → ∃ t, exec .enumTimeout s = .next t ∧ t.lnk.todo = p.val :: rest ∧ t.lnk.k = 1
          ∧ t.lnk.table = s.lnk.table))
      ∧ (∀ (m : LinkPort) (rest : List Nat), s.lnk.todo = m.val :: rest → m ≠ p → ∃ t, exec (.enumReturn p) s = .next t
        ∧ (m.val, p.val, s.lnk.k - 1) ∈ t.lnk.loops ∧ t.bit (R.LNK_PORT m) 3 = true ∧ t.bit (R.LNK_PORT p) 3 = true)
      ∧ (∀ src : LinkAddr, s.lnk.todo = [] → s.lnk.loops = [] → ∃ t, exec (.join p src) s = .next t ∧ t.lnk.todo = [p.val] ∧ t.lnk.k = 1
        ∧ t.round = (s.round + 1) % 256)
      ∧ (∀ src : LinkAddr, ∃ t, exec (.alive p src) s = .next t ∧ t.mot = s.mot
        ∧ t.lnk.table = s.lnk.table.map fun w => if w.addr = src then { w with alive := s.sys.cyc } else w)
      ∧ (∀ (src : LinkAddr) (w : WorkerRec), s.worker src = some w → s.lnk.loops = [] → ∃ t, exec (.break_ p src 1) s = .next t ∧ t.mot = s.mot
        ∧ (∀ x ∈ t.lnk.table, ¬(x.entry = w.entry ∧ w.k < x.k))
        ∧ ∀ x ∈ s.lnk.table, (∀ y ∈ s.lnk.table, y.addr = x.addr → ¬(y.entry = w.entry ∧ w.k < y.k)) → x ∈ t.lnk.table)
      ∧ (∀ (src : LinkAddr) (port : Fin 2) (w : WorkerRec) (l : Nat × Nat × Nat), s.worker src = some w → s.lnk.loops.find? (fun x => x.1 = w.entry) = some l →
        (∃ t, exec (.break_ p src port) s = .next t ∧ t.mot = s.mot ∧ (l.1, segOf w port) ∈ t.lnk.breaks)
        ∧ ∃ t, exec (.repair p src port) s = .next t ∧ t.mot = s.mot ∧ t.lnk.breaks = s.lnk.breaks.filter (· ≠ (l.1, segOf w port)))
      ∧ (∀ a : LinkAddr, s.worker a ≠ none → ∃ t, exec (.workerDepart a) s = .next t ∧ t.worker a = none ∧ a ∈ t.lnk.reserved ∧ t.mot = s.mot
        ∧ t.lnk.table = (s.lnk.table.filter fun w => w.addr ≠ a) ∧ t.fld R.LNK_WCNT 10 0 = t.lnk.table.length % 2048))

/-- Every step keeps registers, context RAM, flash, wear journal, darned memories and fault records in canonical form (R24, R77, R372, R395, spec/98_reader.md).
From every state in which the sparse stores of the model are canonical (keys strictly rising, no entry equal to what an unlisted key reads
as), every step that answers a next state leaves them so, whatever the command at the front of the queue and its operands: equal contents
stay equal data. That the state after reset meets it is stated with the reset values. Where the spec leaves a point open, what is said of
it is the model's choice (log entry 6). -/
def Obligations.EveryStepKeepsTheCanonicalForm : Prop :=
  ∀ s t : State, s.Wf → step s = .next t → t.Wf
end

