-- ==== Sys2Proof/Laws/State.lean ====
section
/-! SUPPORT. One lemma per field per update of the state: what each named update leaves as it was, and what it changes. -/

namespace Sys2Proof.Machine

variable (s : State)

/-! ### State.set -/

@[simp] theorem State.set_pending (k : Nat) (v : Word) : (s.set k v).pending = s.pending := rfl
@[simp] theorem State.set_out (k : Nat) (v : Word) : (s.set k v).out = s.out := rfl
@[simp] theorem State.set_free (k : Nat) (v : Word) : (s.set k v).free = s.free := rfl
@[simp] theorem State.set_staged (k : Nat) (v : Word) : (s.set k v).staged = s.staged := rfl
@[simp] theorem State.set_parityBad (k : Nat) (v : Word) : (s.set k v).parityBad = s.parityBad := rfl
@[simp] theorem State.set_sys (k : Nat) (v : Word) : (s.set k v).sys = s.sys := rfl
@[simp] theorem State.set_hostPort (k : Nat) (v : Word) : (s.set k v).hostPort = s.hostPort := rfl
@[simp] theorem State.set_maintPort (k : Nat) (v : Word) : (s.set k v).maintPort = s.maintPort := rfl
@[simp] theorem State.set_fc (k : Nat) (v : Word) : (s.set k v).fc = s.fc := rfl
@[simp] theorem State.set_fcPresent (k : Nat) (v : Word) : (s.set k v).fcPresent = s.fcPresent := rfl
@[simp] theorem State.set_fcSafe (k : Nat) (v : Word) : (s.set k v).fcSafe = s.fcSafe := rfl
@[simp] theorem State.set_fcLast (k : Nat) (v : Word) : (s.set k v).fcLast = s.fcLast := rfl
@[simp] theorem State.set_ctxRam (k : Nat) (v : Word) : (s.set k v).ctxRam = s.ctxRam := rfl
@[simp] theorem State.set_mot (k : Nat) (v : Word) : (s.set k v).mot = s.mot := rfl
@[simp] theorem State.set_pwm (k : Nat) (v : Word) : (s.set k v).pwm = s.pwm := rfl
@[simp] theorem State.set_csm (k : Nat) (v : Word) : (s.set k v).csm = s.csm := rfl
@[simp] theorem State.set_pc (k : Nat) (v : Word) : (s.set k v).pc = s.pc := rfl
@[simp] theorem State.set_refSince (k : Nat) (v : Word) : (s.set k v).refSince = s.refSince := rfl
@[simp] theorem State.set_cmp (k : Nat) (v : Word) : (s.set k v).cmp = s.cmp := rfl
@[simp] theorem State.set_saf (k : Nat) (v : Word) : (s.set k v).saf = s.saf := rfl
@[simp] theorem State.set_spool (k : Nat) (v : Word) : (s.set k v).spool = s.spool := rfl
@[simp] theorem State.set_msp (k : Nat) (v : Word) : (s.set k v).msp = s.msp := rfl
@[simp] theorem State.set_darn (k : Nat) (v : Word) : (s.set k v).darn = s.darn := rfl
@[simp] theorem State.set_ue (k : Nat) (v : Word) : (s.set k v).ue = s.ue := rfl
@[simp] theorem State.set_scrubLast (k : Nat) (v : Word) : (s.set k v).scrubLast = s.scrubLast := rfl
@[simp] theorem State.set_fineQ (k : Nat) (v : Word) : (s.set k v).fineQ = s.fineQ := rfl
@[simp] theorem State.set_safeQ (k : Nat) (v : Word) : (s.set k v).safeQ = s.safeQ := rfl
@[simp] theorem State.set_roles (k : Nat) (v : Word) : (s.set k v).roles = s.roles := rfl
@[simp] theorem State.set_coil (k : Nat) (v : Word) : (s.set k v).coil = s.coil := rfl
@[simp] theorem State.set_lo (k : Nat) (v : Word) : (s.set k v).lo = s.lo := rfl
@[simp] theorem State.set_lnk (k : Nat) (v : Word) : (s.set k v).lnk = s.lnk := rfl
@[simp] theorem State.set_fw (k : Nat) (v : Word) : (s.set k v).fw = s.fw := rfl
@[simp] theorem State.set_turn (k : Nat) (v : Word) : (s.set k v).turn = s.turn := rfl

/-! ### State.setBit -/

@[simp] theorem State.setBit_pending (k i : Nat) (b : Bool) : (s.setBit k i b).pending = s.pending := rfl
@[simp] theorem State.setBit_out (k i : Nat) (b : Bool) : (s.setBit k i b).out = s.out := rfl
@[simp] theorem State.setBit_free (k i : Nat) (b : Bool) : (s.setBit k i b).free = s.free := rfl
@[simp] theorem State.setBit_staged (k i : Nat) (b : Bool) : (s.setBit k i b).staged = s.staged := rfl
@[simp] theorem State.setBit_parityBad (k i : Nat) (b : Bool) : (s.setBit k i b).parityBad = s.parityBad := rfl
@[simp] theorem State.setBit_sys (k i : Nat) (b : Bool) : (s.setBit k i b).sys = s.sys := rfl
@[simp] theorem State.setBit_hostPort (k i : Nat) (b : Bool) : (s.setBit k i b).hostPort = s.hostPort := rfl
@[simp] theorem State.setBit_maintPort (k i : Nat) (b : Bool) : (s.setBit k i b).maintPort = s.maintPort := rfl
@[simp] theorem State.setBit_fc (k i : Nat) (b : Bool) : (s.setBit k i b).fc = s.fc := rfl
@[simp] theorem State.setBit_fcPresent (k i : Nat) (b : Bool) : (s.setBit k i b).fcPresent = s.fcPresent := rfl
@[simp] theorem State.setBit_fcSafe (k i : Nat) (b : Bool) : (s.setBit k i b).fcSafe = s.fcSafe := rfl
@[simp] theorem State.setBit_fcLast (k i : Nat) (b : Bool) : (s.setBit k i b).fcLast = s.fcLast := rfl
@[simp] theorem State.setBit_ctxRam (k i : Nat) (b : Bool) : (s.setBit k i b).ctxRam = s.ctxRam := rfl
@[simp] theorem State.setBit_mot (k i : Nat) (b : Bool) : (s.setBit k i b).mot = s.mot := rfl
@[simp] theorem State.setBit_pwm (k i : Nat) (b : Bool) : (s.setBit k i b).pwm = s.pwm := rfl
@[simp] theorem State.setBit_csm (k i : Nat) (b : Bool) : (s.setBit k i b).csm = s.csm := rfl
@[simp] theorem State.setBit_pc (k i : Nat) (b : Bool) : (s.setBit k i b).pc = s.pc := rfl
@[simp] theorem State.setBit_refSince (k i : Nat) (b : Bool) : (s.setBit k i b).refSince = s.refSince := rfl
@[simp] theorem State.setBit_cmp (k i : Nat) (b : Bool) : (s.setBit k i b).cmp = s.cmp := rfl
@[simp] theorem State.setBit_saf (k i : Nat) (b : Bool) : (s.setBit k i b).saf = s.saf := rfl
@[simp] theorem State.setBit_spool (k i : Nat) (b : Bool) : (s.setBit k i b).spool = s.spool := rfl
@[simp] theorem State.setBit_msp (k i : Nat) (b : Bool) : (s.setBit k i b).msp = s.msp := rfl
@[simp] theorem State.setBit_darn (k i : Nat) (b : Bool) : (s.setBit k i b).darn = s.darn := rfl
@[simp] theorem State.setBit_ue (k i : Nat) (b : Bool) : (s.setBit k i b).ue = s.ue := rfl
@[simp] theorem State.setBit_scrubLast (k i : Nat) (b : Bool) : (s.setBit k i b).scrubLast = s.scrubLast := rfl
@[simp] theorem State.setBit_fineQ (k i : Nat) (b : Bool) : (s.setBit k i b).fineQ = s.fineQ := rfl
@[simp] theorem State.setBit_safeQ (k i : Nat) (b : Bool) : (s.setBit k i b).safeQ = s.safeQ := rfl
@[simp] theorem State.setBit_roles (k i : Nat) (b : Bool) : (s.setBit k i b).roles = s.roles := rfl
@[simp] theorem State.setBit_coil (k i : Nat) (b : Bool) : (s.setBit k i b).coil = s.coil := rfl
@[simp] theorem State.setBit_lo (k i : Nat) (b : Bool) : (s.setBit k i b).lo = s.lo := rfl
@[simp] theorem State.setBit_lnk (k i : Nat) (b : Bool) : (s.setBit k i b).lnk = s.lnk := rfl
@[simp] theorem State.setBit_fw (k i : Nat) (b : Bool) : (s.setBit k i b).fw = s.fw := rfl
@[simp] theorem State.setBit_turn (k i : Nat) (b : Bool) : (s.setBit k i b).turn = s.turn := rfl

/-! ### State.setFld -/

@[simp] theorem State.setFld_pending (k hi lo v : Nat) : (s.setFld k hi lo v).pending = s.pending := rfl
@[simp] theorem State.setFld_out (k hi lo v : Nat) : (s.setFld k hi lo v).out = s.out := rfl
@[simp] theorem State.setFld_free (k hi lo v : Nat) : (s.setFld k hi lo v).free = s.free := rfl
@[simp] theorem State.setFld_staged (k hi lo v : Nat) : (s.setFld k hi lo v).staged = s.staged := rfl
@[simp] theorem State.setFld_parityBad (k hi lo v : Nat) : (s.setFld k hi lo v).parityBad = s.parityBad := rfl
@[simp] theorem State.setFld_sys (k hi lo v : Nat) : (s.setFld k hi lo v).sys = s.sys := rfl
@[simp] theorem State.setFld_hostPort (k hi lo v : Nat) : (s.setFld k hi lo v).hostPort = s.hostPort := rfl
@[simp] theorem State.setFld_maintPort (k hi lo v : Nat) : (s.setFld k hi lo v).maintPort = s.maintPort := rfl
@[simp] theorem State.setFld_fc (k hi lo v : Nat) : (s.setFld k hi lo v).fc = s.fc := rfl
@[simp] theorem State.setFld_fcPresent (k hi lo v : Nat) : (s.setFld k hi lo v).fcPresent = s.fcPresent := rfl
@[simp] theorem State.setFld_fcSafe (k hi lo v : Nat) : (s.setFld k hi lo v).fcSafe = s.fcSafe := rfl
@[simp] theorem State.setFld_fcLast (k hi lo v : Nat) : (s.setFld k hi lo v).fcLast = s.fcLast := rfl
@[simp] theorem State.setFld_ctxRam (k hi lo v : Nat) : (s.setFld k hi lo v).ctxRam = s.ctxRam := rfl
@[simp] theorem State.setFld_mot (k hi lo v : Nat) : (s.setFld k hi lo v).mot = s.mot := rfl
@[simp] theorem State.setFld_pwm (k hi lo v : Nat) : (s.setFld k hi lo v).pwm = s.pwm := rfl
@[simp] theorem State.setFld_csm (k hi lo v : Nat) : (s.setFld k hi lo v).csm = s.csm := rfl
@[simp] theorem State.setFld_pc (k hi lo v : Nat) : (s.setFld k hi lo v).pc = s.pc := rfl
@[simp] theorem State.setFld_refSince (k hi lo v : Nat) : (s.setFld k hi lo v).refSince = s.refSince := rfl
@[simp] theorem State.setFld_cmp (k hi lo v : Nat) : (s.setFld k hi lo v).cmp = s.cmp := rfl
@[simp] theorem State.setFld_saf (k hi lo v : Nat) : (s.setFld k hi lo v).saf = s.saf := rfl
@[simp] theorem State.setFld_spool (k hi lo v : Nat) : (s.setFld k hi lo v).spool = s.spool := rfl
@[simp] theorem State.setFld_msp (k hi lo v : Nat) : (s.setFld k hi lo v).msp = s.msp := rfl
@[simp] theorem State.setFld_darn (k hi lo v : Nat) : (s.setFld k hi lo v).darn = s.darn := rfl
@[simp] theorem State.setFld_ue (k hi lo v : Nat) : (s.setFld k hi lo v).ue = s.ue := rfl
@[simp] theorem State.setFld_scrubLast (k hi lo v : Nat) : (s.setFld k hi lo v).scrubLast = s.scrubLast := rfl
@[simp] theorem State.setFld_fineQ (k hi lo v : Nat) : (s.setFld k hi lo v).fineQ = s.fineQ := rfl
@[simp] theorem State.setFld_safeQ (k hi lo v : Nat) : (s.setFld k hi lo v).safeQ = s.safeQ := rfl
@[simp] theorem State.setFld_roles (k hi lo v : Nat) : (s.setFld k hi lo v).roles = s.roles := rfl
@[simp] theorem State.setFld_coil (k hi lo v : Nat) : (s.setFld k hi lo v).coil = s.coil := rfl
@[simp] theorem State.setFld_lo (k hi lo v : Nat) : (s.setFld k hi lo v).lo = s.lo := rfl
@[simp] theorem State.setFld_lnk (k hi lo v : Nat) : (s.setFld k hi lo v).lnk = s.lnk := rfl
@[simp] theorem State.setFld_fw (k hi lo v : Nat) : (s.setFld k hi lo v).fw = s.fw := rfl
@[simp] theorem State.setFld_turn (k hi lo v : Nat) : (s.setFld k hi lo v).turn = s.turn := rfl

/-! ### State.setWide -/

@[simp] theorem State.setWide_pending (k : Nat) (x : Int) : (s.setWide k x).pending = s.pending := rfl
@[simp] theorem State.setWide_out (k : Nat) (x : Int) : (s.setWide k x).out = s.out := rfl
@[simp] theorem State.setWide_free (k : Nat) (x : Int) : (s.setWide k x).free = s.free := rfl
@[simp] theorem State.setWide_staged (k : Nat) (x : Int) : (s.setWide k x).staged = s.staged := rfl
@[simp] theorem State.setWide_parityBad (k : Nat) (x : Int) : (s.setWide k x).parityBad = s.parityBad := rfl
@[simp] theorem State.setWide_sys (k : Nat) (x : Int) : (s.setWide k x).sys = s.sys := rfl
@[simp] theorem State.setWide_hostPort (k : Nat) (x : Int) : (s.setWide k x).hostPort = s.hostPort := rfl
@[simp] theorem State.setWide_maintPort (k : Nat) (x : Int) : (s.setWide k x).maintPort = s.maintPort := rfl
@[simp] theorem State.setWide_fc (k : Nat) (x : Int) : (s.setWide k x).fc = s.fc := rfl
@[simp] theorem State.setWide_fcPresent (k : Nat) (x : Int) : (s.setWide k x).fcPresent = s.fcPresent := rfl
@[simp] theorem State.setWide_fcSafe (k : Nat) (x : Int) : (s.setWide k x).fcSafe = s.fcSafe := rfl
@[simp] theorem State.setWide_fcLast (k : Nat) (x : Int) : (s.setWide k x).fcLast = s.fcLast := rfl
@[simp] theorem State.setWide_ctxRam (k : Nat) (x : Int) : (s.setWide k x).ctxRam = s.ctxRam := rfl
@[simp] theorem State.setWide_mot (k : Nat) (x : Int) : (s.setWide k x).mot = s.mot := rfl
@[simp] theorem State.setWide_pwm (k : Nat) (x : Int) : (s.setWide k x).pwm = s.pwm := rfl
@[simp] theorem State.setWide_csm (k : Nat) (x : Int) : (s.setWide k x).csm = s.csm := rfl
@[simp] theorem State.setWide_pc (k : Nat) (x : Int) : (s.setWide k x).pc = s.pc := rfl
@[simp] theorem State.setWide_refSince (k : Nat) (x : Int) : (s.setWide k x).refSince = s.refSince := rfl
@[simp] theorem State.setWide_cmp (k : Nat) (x : Int) : (s.setWide k x).cmp = s.cmp := rfl
@[simp] theorem State.setWide_saf (k : Nat) (x : Int) : (s.setWide k x).saf = s.saf := rfl
@[simp] theorem State.setWide_spool (k : Nat) (x : Int) : (s.setWide k x).spool = s.spool := rfl
@[simp] theorem State.setWide_msp (k : Nat) (x : Int) : (s.setWide k x).msp = s.msp := rfl
@[simp] theorem State.setWide_darn (k : Nat) (x : Int) : (s.setWide k x).darn = s.darn := rfl
@[simp] theorem State.setWide_ue (k : Nat) (x : Int) : (s.setWide k x).ue = s.ue := rfl
@[simp] theorem State.setWide_scrubLast (k : Nat) (x : Int) : (s.setWide k x).scrubLast = s.scrubLast := rfl
@[simp] theorem State.setWide_fineQ (k : Nat) (x : Int) : (s.setWide k x).fineQ = s.fineQ := rfl
@[simp] theorem State.setWide_safeQ (k : Nat) (x : Int) : (s.setWide k x).safeQ = s.safeQ := rfl
@[simp] theorem State.setWide_roles (k : Nat) (x : Int) : (s.setWide k x).roles = s.roles := rfl
@[simp] theorem State.setWide_coil (k : Nat) (x : Int) : (s.setWide k x).coil = s.coil := rfl
@[simp] theorem State.setWide_lo (k : Nat) (x : Int) : (s.setWide k x).lo = s.lo := rfl
@[simp] theorem State.setWide_lnk (k : Nat) (x : Int) : (s.setWide k x).lnk = s.lnk := rfl
@[simp] theorem State.setWide_fw (k : Nat) (x : Int) : (s.setWide k x).fw = s.fw := rfl
@[simp] theorem State.setWide_turn (k : Nat) (x : Int) : (s.setWide k x).turn = s.turn := rfl

/-! ### State.onMot -/

@[simp] theorem State.onMot_pending (ax : Axis) (f : MotAx → MotAx) : (s.onMot ax f).pending = s.pending := rfl
@[simp] theorem State.onMot_out (ax : Axis) (f : MotAx → MotAx) : (s.onMot ax f).out = s.out := rfl
@[simp] theorem State.onMot_free (ax : Axis) (f : MotAx → MotAx) : (s.onMot ax f).free = s.free := rfl
@[simp] theorem State.onMot_regs (ax : Axis) (f : MotAx → MotAx) : (s.onMot ax f).regs = s.regs := rfl
@[simp] theorem State.onMot_staged (ax : Axis) (f : MotAx → MotAx) : (s.onMot ax f).staged = s.staged := rfl
@[simp] theorem State.onMot_parityBad (ax : Axis) (f : MotAx → MotAx) : (s.onMot ax f).parityBad = s.parityBad := rfl
@[simp] theorem State.onMot_sys (ax : Axis) (f : MotAx → MotAx) : (s.onMot ax f).sys = s.sys := rfl
@[simp] theorem State.onMot_hostPort (ax : Axis) (f : MotAx → MotAx) : (s.onMot ax f).hostPort = s.hostPort := rfl
@[simp] theorem State.onMot_maintPort (ax : Axis) (f : MotAx → MotAx) : (s.onMot ax f).maintPort = s.maintPort := rfl
@[simp] theorem State.onMot_fc (ax : Axis) (f : MotAx → MotAx) : (s.onMot ax f).fc = s.fc := rfl
@[simp] theorem State.onMot_fcPresent (ax : Axis) (f : MotAx → MotAx) : (s.onMot ax f).fcPresent = s.fcPresent := rfl
@[simp] theorem State.onMot_fcSafe (ax : Axis) (f : MotAx → MotAx) : (s.onMot ax f).fcSafe = s.fcSafe := rfl
@[simp] theorem State.onMot_fcLast (ax : Axis) (f : MotAx → MotAx) : (s.onMot ax f).fcLast = s.fcLast := rfl
@[simp] theorem State.onMot_ctxRam (ax : Axis) (f : MotAx → MotAx) : (s.onMot ax f).ctxRam = s.ctxRam := rfl
@[simp] theorem State.onMot_pwm (ax : Axis) (f : MotAx → MotAx) : (s.onMot ax f).pwm = s.pwm := rfl
@[simp] theorem State.onMot_csm (ax : Axis) (f : MotAx → MotAx) : (s.onMot ax f).csm = s.csm := rfl
@[simp] theorem State.onMot_pc (ax : Axis) (f : MotAx → MotAx) : (s.onMot ax f).pc = s.pc := rfl
@[simp] theorem State.onMot_refSince (ax : Axis) (f : MotAx → MotAx) : (s.onMot ax f).refSince = s.refSince := rfl
@[simp] theorem State.onMot_cmp (ax : Axis) (f : MotAx → MotAx) : (s.onMot ax f).cmp = s.cmp := rfl
@[simp] theorem State.onMot_saf (ax : Axis) (f : MotAx → MotAx) : (s.onMot ax f).saf = s.saf := rfl
@[simp] theorem State.onMot_spool (ax : Axis) (f : MotAx → MotAx) : (s.onMot ax f).spool = s.spool := rfl
@[simp] theorem State.onMot_msp (ax : Axis) (f : MotAx → MotAx) : (s.onMot ax f).msp = s.msp := rfl
@[simp] theorem State.onMot_darn (ax : Axis) (f : MotAx → MotAx) : (s.onMot ax f).darn = s.darn := rfl
@[simp] theorem State.onMot_ue (ax : Axis) (f : MotAx → MotAx) : (s.onMot ax f).ue = s.ue := rfl
@[simp] theorem State.onMot_scrubLast (ax : Axis) (f : MotAx → MotAx) : (s.onMot ax f).scrubLast = s.scrubLast := rfl
@[simp] theorem State.onMot_fineQ (ax : Axis) (f : MotAx → MotAx) : (s.onMot ax f).fineQ = s.fineQ := rfl
@[simp] theorem State.onMot_safeQ (ax : Axis) (f : MotAx → MotAx) : (s.onMot ax f).safeQ = s.safeQ := rfl
@[simp] theorem State.onMot_roles (ax : Axis) (f : MotAx → MotAx) : (s.onMot ax f).roles = s.roles := rfl
@[simp] theorem State.onMot_coil (ax : Axis) (f : MotAx → MotAx) : (s.onMot ax f).coil = s.coil := rfl
@[simp] theorem State.onMot_lo (ax : Axis) (f : MotAx → MotAx) : (s.onMot ax f).lo = s.lo := rfl
@[simp] theorem State.onMot_lnk (ax : Axis) (f : MotAx → MotAx) : (s.onMot ax f).lnk = s.lnk := rfl
@[simp] theorem State.onMot_fw (ax : Axis) (f : MotAx → MotAx) : (s.onMot ax f).fw = s.fw := rfl
@[simp] theorem State.onMot_turn (ax : Axis) (f : MotAx → MotAx) : (s.onMot ax f).turn = s.turn := rfl

/-! ### State.onPwm -/

@[simp] theorem State.onPwm_pending (ax : Axis) (f : PwmAx → PwmAx) : (s.onPwm ax f).pending = s.pending := rfl
@[simp] theorem State.onPwm_out (ax : Axis) (f : PwmAx → PwmAx) : (s.onPwm ax f).out = s.out := rfl
@[simp] theorem State.onPwm_free (ax : Axis) (f : PwmAx → PwmAx) : (s.onPwm ax f).free = s.free := rfl
@[simp] theorem State.onPwm_regs (ax : Axis) (f : PwmAx → PwmAx) : (s.onPwm ax f).regs = s.regs := rfl
@[simp] theorem State.onPwm_staged (ax : Axis) (f : PwmAx → PwmAx) : (s.onPwm ax f).staged = s.staged := rfl
@[simp] theorem State.onPwm_parityBad (ax : Axis) (f : PwmAx → PwmAx) : (s.onPwm ax f).parityBad = s.parityBad := rfl
@[simp] theorem State.onPwm_sys (ax : Axis) (f : PwmAx → PwmAx) : (s.onPwm ax f).sys = s.sys := rfl
@[simp] theorem State.onPwm_hostPort (ax : Axis) (f : PwmAx → PwmAx) : (s.onPwm ax f).hostPort = s.hostPort := rfl
@[simp] theorem State.onPwm_maintPort (ax : Axis) (f : PwmAx → PwmAx) : (s.onPwm ax f).maintPort = s.maintPort := rfl
@[simp] theorem State.onPwm_fc (ax : Axis) (f : PwmAx → PwmAx) : (s.onPwm ax f).fc = s.fc := rfl
@[simp] theorem State.onPwm_fcPresent (ax : Axis) (f : PwmAx → PwmAx) : (s.onPwm ax f).fcPresent = s.fcPresent := rfl
@[simp] theorem State.onPwm_fcSafe (ax : Axis) (f : PwmAx → PwmAx) : (s.onPwm ax f).fcSafe = s.fcSafe := rfl
@[simp] theorem State.onPwm_fcLast (ax : Axis) (f : PwmAx → PwmAx) : (s.onPwm ax f).fcLast = s.fcLast := rfl
@[simp] theorem State.onPwm_ctxRam (ax : Axis) (f : PwmAx → PwmAx) : (s.onPwm ax f).ctxRam = s.ctxRam := rfl
@[simp] theorem State.onPwm_mot (ax : Axis) (f : PwmAx → PwmAx) : (s.onPwm ax f).mot = s.mot := rfl
@[simp] theorem State.onPwm_csm (ax : Axis) (f : PwmAx → PwmAx) : (s.onPwm ax f).csm = s.csm := rfl
@[simp] theorem State.onPwm_pc (ax : Axis) (f : PwmAx → PwmAx) : (s.onPwm ax f).pc = s.pc := rfl
@[simp] theorem State.onPwm_refSince (ax : Axis) (f : PwmAx → PwmAx) : (s.onPwm ax f).refSince = s.refSince := rfl
@[simp] theorem State.onPwm_cmp (ax : Axis) (f : PwmAx → PwmAx) : (s.onPwm ax f).cmp = s.cmp := rfl
@[simp] theorem State.onPwm_saf (ax : Axis) (f : PwmAx → PwmAx) : (s.onPwm ax f).saf = s.saf := rfl
@[simp] theorem State.onPwm_spool (ax : Axis) (f : PwmAx → PwmAx) : (s.onPwm ax f).spool = s.spool := rfl
@[simp] theorem State.onPwm_msp (ax : Axis) (f : PwmAx → PwmAx) : (s.onPwm ax f).msp = s.msp := rfl
@[simp] theorem State.onPwm_darn (ax : Axis) (f : PwmAx → PwmAx) : (s.onPwm ax f).darn = s.darn := rfl
@[simp] theorem State.onPwm_ue (ax : Axis) (f : PwmAx → PwmAx) : (s.onPwm ax f).ue = s.ue := rfl
@[simp] theorem State.onPwm_scrubLast (ax : Axis) (f : PwmAx → PwmAx) : (s.onPwm ax f).scrubLast = s.scrubLast := rfl
@[simp] theorem State.onPwm_fineQ (ax : Axis) (f : PwmAx → PwmAx) : (s.onPwm ax f).fineQ = s.fineQ := rfl
@[simp] theorem State.onPwm_safeQ (ax : Axis) (f : PwmAx → PwmAx) : (s.onPwm ax f).safeQ = s.safeQ := rfl
@[simp] theorem State.onPwm_roles (ax : Axis) (f : PwmAx → PwmAx) : (s.onPwm ax f).roles = s.roles := rfl
@[simp] theorem State.onPwm_coil (ax : Axis) (f : PwmAx → PwmAx) : (s.onPwm ax f).coil = s.coil := rfl
@[simp] theorem State.onPwm_lo (ax : Axis) (f : PwmAx → PwmAx) : (s.onPwm ax f).lo = s.lo := rfl
@[simp] theorem State.onPwm_lnk (ax : Axis) (f : PwmAx → PwmAx) : (s.onPwm ax f).lnk = s.lnk := rfl
@[simp] theorem State.onPwm_fw (ax : Axis) (f : PwmAx → PwmAx) : (s.onPwm ax f).fw = s.fw := rfl
@[simp] theorem State.onPwm_turn (ax : Axis) (f : PwmAx → PwmAx) : (s.onPwm ax f).turn = s.turn := rfl

/-! ### State.onBr -/

@[simp] theorem State.onBr_pending (ax : Axis) (br : Bridge) (f : Bridges → Bridges) : (s.onBr ax br f).pending = s.pending := rfl
@[simp] theorem State.onBr_out (ax : Axis) (br : Bridge) (f : Bridges → Bridges) : (s.onBr ax br f).out = s.out := rfl
@[simp] theorem State.onBr_free (ax : Axis) (br : Bridge) (f : Bridges → Bridges) : (s.onBr ax br f).free = s.free := rfl
@[simp] theorem State.onBr_regs (ax : Axis) (br : Bridge) (f : Bridges → Bridges) : (s.onBr ax br f).regs = s.regs := rfl
@[simp] theorem State.onBr_staged (ax : Axis) (br : Bridge) (f : Bridges → Bridges) : (s.onBr ax br f).staged = s.staged := rfl
@[simp] theorem State.onBr_parityBad (ax : Axis) (br : Bridge) (f : Bridges → Bridges) : (s.onBr ax br f).parityBad = s.parityBad := rfl
@[simp] theorem State.onBr_sys (ax : Axis) (br : Bridge) (f : Bridges → Bridges) : (s.onBr ax br f).sys = s.sys := rfl
@[simp] theorem State.onBr_hostPort (ax : Axis) (br : Bridge) (f : Bridges → Bridges) : (s.onBr ax br f).hostPort = s.hostPort := rfl
@[simp] theorem State.onBr_maintPort (ax : Axis) (br : Bridge) (f : Bridges → Bridges) : (s.onBr ax br f).maintPort = s.maintPort := rfl
@[simp] theorem State.onBr_fc (ax : Axis) (br : Bridge) (f : Bridges → Bridges) : (s.onBr ax br f).fc = s.fc := rfl
@[simp] theorem State.onBr_fcPresent (ax : Axis) (br : Bridge) (f : Bridges → Bridges) : (s.onBr ax br f).fcPresent = s.fcPresent := rfl
@[simp] theorem State.onBr_fcSafe (ax : Axis) (br : Bridge) (f : Bridges → Bridges) : (s.onBr ax br f).fcSafe = s.fcSafe := rfl
@[simp] theorem State.onBr_fcLast (ax : Axis) (br : Bridge) (f : Bridges → Bridges) : (s.onBr ax br f).fcLast = s.fcLast := rfl
@[simp] theorem State.onBr_ctxRam (ax : Axis) (br : Bridge) (f : Bridges → Bridges) : (s.onBr ax br f).ctxRam = s.ctxRam := rfl
@[simp] theorem State.onBr_mot (ax : Axis) (br : Bridge) (f : Bridges → Bridges) : (s.onBr ax br f).mot = s.mot := rfl
@[simp] theorem State.onBr_csm (ax : Axis) (br : Bridge) (f : Bridges → Bridges) : (s.onBr ax br f).csm = s.csm := rfl
@[simp] theorem State.onBr_pc (ax : Axis) (br : Bridge) (f : Bridges → Bridges) : (s.onBr ax br f).pc = s.pc := rfl
@[simp] theorem State.onBr_refSince (ax : Axis) (br : Bridge) (f : Bridges → Bridges) : (s.onBr ax br f).refSince = s.refSince := rfl
@[simp] theorem State.onBr_cmp (ax : Axis) (br : Bridge) (f : Bridges → Bridges) : (s.onBr ax br f).cmp = s.cmp := rfl
@[simp] theorem State.onBr_saf (ax : Axis) (br : Bridge) (f : Bridges → Bridges) : (s.onBr ax br f).saf = s.saf := rfl
@[simp] theorem State.onBr_spool (ax : Axis) (br : Bridge) (f : Bridges → Bridges) : (s.onBr ax br f).spool = s.spool := rfl
@[simp] theorem State.onBr_msp (ax : Axis) (br : Bridge) (f : Bridges → Bridges) : (s.onBr ax br f).msp = s.msp := rfl
@[simp] theorem State.onBr_darn (ax : Axis) (br : Bridge) (f : Bridges → Bridges) : (s.onBr ax br f).darn = s.darn := rfl
@[simp] theorem State.onBr_ue (ax : Axis) (br : Bridge) (f : Bridges → Bridges) : (s.onBr ax br f).ue = s.ue := rfl
@[simp] theorem State.onBr_scrubLast (ax : Axis) (br : Bridge) (f : Bridges → Bridges) : (s.onBr ax br f).scrubLast = s.scrubLast := rfl
@[simp] theorem State.onBr_fineQ (ax : Axis) (br : Bridge) (f : Bridges → Bridges) : (s.onBr ax br f).fineQ = s.fineQ := rfl
@[simp] theorem State.onBr_safeQ (ax : Axis) (br : Bridge) (f : Bridges → Bridges) : (s.onBr ax br f).safeQ = s.safeQ := rfl
@[simp] theorem State.onBr_roles (ax : Axis) (br : Bridge) (f : Bridges → Bridges) : (s.onBr ax br f).roles = s.roles := rfl
@[simp] theorem State.onBr_coil (ax : Axis) (br : Bridge) (f : Bridges → Bridges) : (s.onBr ax br f).coil = s.coil := rfl
@[simp] theorem State.onBr_lo (ax : Axis) (br : Bridge) (f : Bridges → Bridges) : (s.onBr ax br f).lo = s.lo := rfl
@[simp] theorem State.onBr_lnk (ax : Axis) (br : Bridge) (f : Bridges → Bridges) : (s.onBr ax br f).lnk = s.lnk := rfl
@[simp] theorem State.onBr_fw (ax : Axis) (br : Bridge) (f : Bridges → Bridges) : (s.onBr ax br f).fw = s.fw := rfl
@[simp] theorem State.onBr_turn (ax : Axis) (br : Bridge) (f : Bridges → Bridges) : (s.onBr ax br f).turn = s.turn := rfl

/-! ### State.onLeg -/

@[simp] theorem State.onLeg_pending (ax : Axis) (j : Leg) (f : LegSt → LegSt) : (s.onLeg ax j f).pending = s.pending := rfl
@[simp] theorem State.onLeg_out (ax : Axis) (j : Leg) (f : LegSt → LegSt) : (s.onLeg ax j f).out = s.out := rfl
@[simp] theorem State.onLeg_free (ax : Axis) (j : Leg) (f : LegSt → LegSt) : (s.onLeg ax j f).free = s.free := rfl
@[simp] theorem State.onLeg_regs (ax : Axis) (j : Leg) (f : LegSt → LegSt) : (s.onLeg ax j f).regs = s.regs := rfl
@[simp] theorem State.onLeg_staged (ax : Axis) (j : Leg) (f : LegSt → LegSt) : (s.onLeg ax j f).staged = s.staged := rfl
@[simp] theorem State.onLeg_parityBad (ax : Axis) (j : Leg) (f : LegSt → LegSt) : (s.onLeg ax j f).parityBad = s.parityBad := rfl
@[simp] theorem State.onLeg_sys (ax : Axis) (j : Leg) (f : LegSt → LegSt) : (s.onLeg ax j f).sys = s.sys := rfl
@[simp] theorem State.onLeg_hostPort (ax : Axis) (j : Leg) (f : LegSt → LegSt) : (s.onLeg ax j f).hostPort = s.hostPort := rfl
@[simp] theorem State.onLeg_maintPort (ax : Axis) (j : Leg) (f : LegSt → LegSt) : (s.onLeg ax j f).maintPort = s.maintPort := rfl
@[simp] theorem State.onLeg_fc (ax : Axis) (j : Leg) (f : LegSt → LegSt) : (s.onLeg ax j f).fc = s.fc := rfl
@[simp] theorem State.onLeg_fcPresent (ax : Axis) (j : Leg) (f : LegSt → LegSt) : (s.onLeg ax j f).fcPresent = s.fcPresent := rfl
@[simp] theorem State.onLeg_fcSafe (ax : Axis) (j : Leg) (f : LegSt → LegSt) : (s.onLeg ax j f).fcSafe = s.fcSafe := rfl
@[simp] theorem State.onLeg_fcLast (ax : Axis) (j : Leg) (f : LegSt → LegSt) : (s.onLeg ax j f).fcLast = s.fcLast := rfl
@[simp] theorem State.onLeg_ctxRam (ax : Axis) (j : Leg) (f : LegSt → LegSt) : (s.onLeg ax j f).ctxRam = s.ctxRam := rfl
@[simp] theorem State.onLeg_mot (ax : Axis) (j : Leg) (f : LegSt → LegSt) : (s.onLeg ax j f).mot = s.mot := rfl
@[simp] theorem State.onLeg_csm (ax : Axis) (j : Leg) (f : LegSt → LegSt) : (s.onLeg ax j f).csm = s.csm := rfl
@[simp] theorem State.onLeg_pc (ax : Axis) (j : Leg) (f : LegSt → LegSt) : (s.onLeg ax j f).pc = s.pc := rfl
@[simp] theorem State.onLeg_refSince (ax : Axis) (j : Leg) (f : LegSt → LegSt) : (s.onLeg ax j f).refSince = s.refSince := rfl
@[simp] theorem State.onLeg_cmp (ax : Axis) (j : Leg) (f : LegSt → LegSt) : (s.onLeg ax j f).cmp = s.cmp := rfl
@[simp] theorem State.onLeg_saf (ax : Axis) (j : Leg) (f : LegSt → LegSt) : (s.onLeg ax j f).saf = s.saf := rfl
@[simp] theorem State.onLeg_spool (ax : Axis) (j : Leg) (f : LegSt → LegSt) : (s.onLeg ax j f).spool = s.spool := rfl
@[simp] theorem State.onLeg_msp (ax : Axis) (j : Leg) (f : LegSt → LegSt) : (s.onLeg ax j f).msp = s.msp := rfl
@[simp] theorem State.onLeg_darn (ax : Axis) (j : Leg) (f : LegSt → LegSt) : (s.onLeg ax j f).darn = s.darn := rfl
@[simp] theorem State.onLeg_ue (ax : Axis) (j : Leg) (f : LegSt → LegSt) : (s.onLeg ax j f).ue = s.ue := rfl
@[simp] theorem State.onLeg_scrubLast (ax : Axis) (j : Leg) (f : LegSt → LegSt) : (s.onLeg ax j f).scrubLast = s.scrubLast := rfl
@[simp] theorem State.onLeg_fineQ (ax : Axis) (j : Leg) (f : LegSt → LegSt) : (s.onLeg ax j f).fineQ = s.fineQ := rfl
@[simp] theorem State.onLeg_safeQ (ax : Axis) (j : Leg) (f : LegSt → LegSt) : (s.onLeg ax j f).safeQ = s.safeQ := rfl
@[simp] theorem State.onLeg_roles (ax : Axis) (j : Leg) (f : LegSt → LegSt) : (s.onLeg ax j f).roles = s.roles := rfl
@[simp] theorem State.onLeg_coil (ax : Axis) (j : Leg) (f : LegSt → LegSt) : (s.onLeg ax j f).coil = s.coil := rfl
@[simp] theorem State.onLeg_lo (ax : Axis) (j : Leg) (f : LegSt → LegSt) : (s.onLeg ax j f).lo = s.lo := rfl
@[simp] theorem State.onLeg_lnk (ax : Axis) (j : Leg) (f : LegSt → LegSt) : (s.onLeg ax j f).lnk = s.lnk := rfl
@[simp] theorem State.onLeg_fw (ax : Axis) (j : Leg) (f : LegSt → LegSt) : (s.onLeg ax j f).fw = s.fw := rfl
@[simp] theorem State.onLeg_turn (ax : Axis) (j : Leg) (f : LegSt → LegSt) : (s.onLeg ax j f).turn = s.turn := rfl

/-! ### State.onCoil -/

@[simp] theorem State.onCoil_pending (ax : Axis) (f : CoilAx → CoilAx) : (s.onCoil ax f).pending = s.pending := rfl
@[simp] theorem State.onCoil_out (ax : Axis) (f : CoilAx → CoilAx) : (s.onCoil ax f).out = s.out := rfl
@[simp] theorem State.onCoil_free (ax : Axis) (f : CoilAx → CoilAx) : (s.onCoil ax f).free = s.free := rfl
@[simp] theorem State.onCoil_regs (ax : Axis) (f : CoilAx → CoilAx) : (s.onCoil ax f).regs = s.regs := rfl
@[simp] theorem State.onCoil_staged (ax : Axis) (f : CoilAx → CoilAx) : (s.onCoil ax f).staged = s.staged := rfl
@[simp] theorem State.onCoil_parityBad (ax : Axis) (f : CoilAx → CoilAx) : (s.onCoil ax f).parityBad = s.parityBad := rfl
@[simp] theorem State.onCoil_sys (ax : Axis) (f : CoilAx → CoilAx) : (s.onCoil ax f).sys = s.sys := rfl
@[simp] theorem State.onCoil_hostPort (ax : Axis) (f : CoilAx → CoilAx) : (s.onCoil ax f).hostPort = s.hostPort := rfl
@[simp] theorem State.onCoil_maintPort (ax : Axis) (f : CoilAx → CoilAx) : (s.onCoil ax f).maintPort = s.maintPort := rfl
@[simp] theorem State.onCoil_fc (ax : Axis) (f : CoilAx → CoilAx) : (s.onCoil ax f).fc = s.fc := rfl
@[simp] theorem State.onCoil_fcPresent (ax : Axis) (f : CoilAx → CoilAx) : (s.onCoil ax f).fcPresent = s.fcPresent := rfl
@[simp] theorem State.onCoil_fcSafe (ax : Axis) (f : CoilAx → CoilAx) : (s.onCoil ax f).fcSafe = s.fcSafe := rfl
@[simp] theorem State.onCoil_fcLast (ax : Axis) (f : CoilAx → CoilAx) : (s.onCoil ax f).fcLast = s.fcLast := rfl
@[simp] theorem State.onCoil_ctxRam (ax : Axis) (f : CoilAx → CoilAx) : (s.onCoil ax f).ctxRam = s.ctxRam := rfl
@[simp] theorem State.onCoil_mot (ax : Axis) (f : CoilAx → CoilAx) : (s.onCoil ax f).mot = s.mot := rfl
@[simp] theorem State.onCoil_pwm (ax : Axis) (f : CoilAx → CoilAx) : (s.onCoil ax f).pwm = s.pwm := rfl
@[simp] theorem State.onCoil_csm (ax : Axis) (f : CoilAx → CoilAx) : (s.onCoil ax f).csm = s.csm := rfl
@[simp] theorem State.onCoil_pc (ax : Axis) (f : CoilAx → CoilAx) : (s.onCoil ax f).pc = s.pc := rfl
@[simp] theorem State.onCoil_refSince (ax : Axis) (f : CoilAx → CoilAx) : (s.onCoil ax f).refSince = s.refSince := rfl
@[simp] theorem State.onCoil_cmp (ax : Axis) (f : CoilAx → CoilAx) : (s.onCoil ax f).cmp = s.cmp := rfl
@[simp] theorem State.onCoil_saf (ax : Axis) (f : CoilAx → CoilAx) : (s.onCoil ax f).saf = s.saf := rfl
@[simp] theorem State.onCoil_spool (ax : Axis) (f : CoilAx → CoilAx) : (s.onCoil ax f).spool = s.spool := rfl
@[simp] theorem State.onCoil_msp (ax : Axis) (f : CoilAx → CoilAx) : (s.onCoil ax f).msp = s.msp := rfl
@[simp] theorem State.onCoil_darn (ax : Axis) (f : CoilAx → CoilAx) : (s.onCoil ax f).darn = s.darn := rfl
@[simp] theorem State.onCoil_ue (ax : Axis) (f : CoilAx → CoilAx) : (s.onCoil ax f).ue = s.ue := rfl
@[simp] theorem State.onCoil_scrubLast (ax : Axis) (f : CoilAx → CoilAx) : (s.onCoil ax f).scrubLast = s.scrubLast := rfl
@[simp] theorem State.onCoil_fineQ (ax : Axis) (f : CoilAx → CoilAx) : (s.onCoil ax f).fineQ = s.fineQ := rfl
@[simp] theorem State.onCoil_safeQ (ax : Axis) (f : CoilAx → CoilAx) : (s.onCoil ax f).safeQ = s.safeQ := rfl
@[simp] theorem State.onCoil_roles (ax : Axis) (f : CoilAx → CoilAx) : (s.onCoil ax f).roles = s.roles := rfl
@[simp] theorem State.onCoil_lo (ax : Axis) (f : CoilAx → CoilAx) : (s.onCoil ax f).lo = s.lo := rfl
@[simp] theorem State.onCoil_lnk (ax : Axis) (f : CoilAx → CoilAx) : (s.onCoil ax f).lnk = s.lnk := rfl
@[simp] theorem State.onCoil_fw (ax : Axis) (f : CoilAx → CoilAx) : (s.onCoil ax f).fw = s.fw := rfl
@[simp] theorem State.onCoil_turn (ax : Axis) (f : CoilAx → CoilAx) : (s.onCoil ax f).turn = s.turn := rfl

/-! ### State.onLo -/

@[simp] theorem State.onLo_pending (ax : Axis) (f : LoAx → LoAx) : (s.onLo ax f).pending = s.pending := rfl
@[simp] theorem State.onLo_out (ax : Axis) (f : LoAx → LoAx) : (s.onLo ax f).out = s.out := rfl
@[simp] theorem State.onLo_free (ax : Axis) (f : LoAx → LoAx) : (s.onLo ax f).free = s.free := rfl
@[simp] theorem State.onLo_regs (ax : Axis) (f : LoAx → LoAx) : (s.onLo ax f).regs = s.regs := rfl
@[simp] theorem State.onLo_staged (ax : Axis) (f : LoAx → LoAx) : (s.onLo ax f).staged = s.staged := rfl
@[simp] theorem State.onLo_parityBad (ax : Axis) (f : LoAx → LoAx) : (s.onLo ax f).parityBad = s.parityBad := rfl
@[simp] theorem State.onLo_sys (ax : Axis) (f : LoAx → LoAx) : (s.onLo ax f).sys = s.sys := rfl
@[simp] theorem State.onLo_hostPort (ax : Axis) (f : LoAx → LoAx) : (s.onLo ax f).hostPort = s.hostPort := rfl
@[simp] theorem State.onLo_maintPort (ax : Axis) (f : LoAx → LoAx) : (s.onLo ax f).maintPort = s.maintPort := rfl
@[simp] theorem State.onLo_fc (ax : Axis) (f : LoAx → LoAx) : (s.onLo ax f).fc = s.fc := rfl
@[simp] theorem State.onLo_fcPresent (ax : Axis) (f : LoAx → LoAx) : (s.onLo ax f).fcPresent = s.fcPresent := rfl
@[simp] theorem State.onLo_fcSafe (ax : Axis) (f : LoAx → LoAx) : (s.onLo ax f).fcSafe = s.fcSafe := rfl
@[simp] theorem State.onLo_fcLast (ax : Axis) (f : LoAx → LoAx) : (s.onLo ax f).fcLast = s.fcLast := rfl
@[simp] theorem State.onLo_ctxRam (ax : Axis) (f : LoAx → LoAx) : (s.onLo ax f).ctxRam = s.ctxRam := rfl
@[simp] theorem State.onLo_mot (ax : Axis) (f : LoAx → LoAx) : (s.onLo ax f).mot = s.mot := rfl
@[simp] theorem State.onLo_pwm (ax : Axis) (f : LoAx → LoAx) : (s.onLo ax f).pwm = s.pwm := rfl
@[simp] theorem State.onLo_csm (ax : Axis) (f : LoAx → LoAx) : (s.onLo ax f).csm = s.csm := rfl
@[simp] theorem State.onLo_pc (ax : Axis) (f : LoAx → LoAx) : (s.onLo ax f).pc = s.pc := rfl
@[simp] theorem State.onLo_refSince (ax : Axis) (f : LoAx → LoAx) : (s.onLo ax f).refSince = s.refSince := rfl
@[simp] theorem State.onLo_cmp (ax : Axis) (f : LoAx → LoAx) : (s.onLo ax f).cmp = s.cmp := rfl
@[simp] theorem State.onLo_saf (ax : Axis) (f : LoAx → LoAx) : (s.onLo ax f).saf = s.saf := rfl
@[simp] theorem State.onLo_spool (ax : Axis) (f : LoAx → LoAx) : (s.onLo ax f).spool = s.spool := rfl
@[simp] theorem State.onLo_msp (ax : Axis) (f : LoAx → LoAx) : (s.onLo ax f).msp = s.msp := rfl
@[simp] theorem State.onLo_darn (ax : Axis) (f : LoAx → LoAx) : (s.onLo ax f).darn = s.darn := rfl
@[simp] theorem State.onLo_ue (ax : Axis) (f : LoAx → LoAx) : (s.onLo ax f).ue = s.ue := rfl
@[simp] theorem State.onLo_scrubLast (ax : Axis) (f : LoAx → LoAx) : (s.onLo ax f).scrubLast = s.scrubLast := rfl
@[simp] theorem State.onLo_fineQ (ax : Axis) (f : LoAx → LoAx) : (s.onLo ax f).fineQ = s.fineQ := rfl
@[simp] theorem State.onLo_safeQ (ax : Axis) (f : LoAx → LoAx) : (s.onLo ax f).safeQ = s.safeQ := rfl
@[simp] theorem State.onLo_roles (ax : Axis) (f : LoAx → LoAx) : (s.onLo ax f).roles = s.roles := rfl
@[simp] theorem State.onLo_coil (ax : Axis) (f : LoAx → LoAx) : (s.onLo ax f).coil = s.coil := rfl
@[simp] theorem State.onLo_lnk (ax : Axis) (f : LoAx → LoAx) : (s.onLo ax f).lnk = s.lnk := rfl
@[simp] theorem State.onLo_fw (ax : Axis) (f : LoAx → LoAx) : (s.onLo ax f).fw = s.fw := rfl
@[simp] theorem State.onLo_turn (ax : Axis) (f : LoAx → LoAx) : (s.onLo ax f).turn = s.turn := rfl

/-! ### State.onCsm -/

@[simp] theorem State.onCsm_pending (c : Coil) (f : CsmCoil → CsmCoil) : (s.onCsm c f).pending = s.pending := rfl
@[simp] theorem State.onCsm_out (c : Coil) (f : CsmCoil → CsmCoil) : (s.onCsm c f).out = s.out := rfl
@[simp] theorem State.onCsm_free (c : Coil) (f : CsmCoil → CsmCoil) : (s.onCsm c f).free = s.free := rfl
@[simp] theorem State.onCsm_regs (c : Coil) (f : CsmCoil → CsmCoil) : (s.onCsm c f).regs = s.regs := rfl
@[simp] theorem State.onCsm_staged (c : Coil) (f : CsmCoil → CsmCoil) : (s.onCsm c f).staged = s.staged := rfl
@[simp] theorem State.onCsm_parityBad (c : Coil) (f : CsmCoil → CsmCoil) : (s.onCsm c f).parityBad = s.parityBad := rfl
@[simp] theorem State.onCsm_sys (c : Coil) (f : CsmCoil → CsmCoil) : (s.onCsm c f).sys = s.sys := rfl
@[simp] theorem State.onCsm_hostPort (c : Coil) (f : CsmCoil → CsmCoil) : (s.onCsm c f).hostPort = s.hostPort := rfl
@[simp] theorem State.onCsm_maintPort (c : Coil) (f : CsmCoil → CsmCoil) : (s.onCsm c f).maintPort = s.maintPort := rfl
@[simp] theorem State.onCsm_fc (c : Coil) (f : CsmCoil → CsmCoil) : (s.onCsm c f).fc = s.fc := rfl
@[simp] theorem State.onCsm_fcPresent (c : Coil) (f : CsmCoil → CsmCoil) : (s.onCsm c f).fcPresent = s.fcPresent := rfl
@[simp] theorem State.onCsm_fcSafe (c : Coil) (f : CsmCoil → CsmCoil) : (s.onCsm c f).fcSafe = s.fcSafe := rfl
@[simp] theorem State.onCsm_fcLast (c : Coil) (f : CsmCoil → CsmCoil) : (s.onCsm c f).fcLast = s.fcLast := rfl
@[simp] theorem State.onCsm_ctxRam (c : Coil) (f : CsmCoil → CsmCoil) : (s.onCsm c f).ctxRam = s.ctxRam := rfl
@[simp] theorem State.onCsm_mot (c : Coil) (f : CsmCoil → CsmCoil) : (s.onCsm c f).mot = s.mot := rfl
@[simp] theorem State.onCsm_pwm (c : Coil) (f : CsmCoil → CsmCoil) : (s.onCsm c f).pwm = s.pwm := rfl
@[simp] theorem State.onCsm_pc (c : Coil) (f : CsmCoil → CsmCoil) : (s.onCsm c f).pc = s.pc := rfl
@[simp] theorem State.onCsm_refSince (c : Coil) (f : CsmCoil → CsmCoil) : (s.onCsm c f).refSince = s.refSince := rfl
@[simp] theorem State.onCsm_cmp (c : Coil) (f : CsmCoil → CsmCoil) : (s.onCsm c f).cmp = s.cmp := rfl
@[simp] theorem State.onCsm_saf (c : Coil) (f : CsmCoil → CsmCoil) : (s.onCsm c f).saf = s.saf := rfl
@[simp] theorem State.onCsm_spool (c : Coil) (f : CsmCoil → CsmCoil) : (s.onCsm c f).spool = s.spool := rfl
@[simp] theorem State.onCsm_msp (c : Coil) (f : CsmCoil → CsmCoil) : (s.onCsm c f).msp = s.msp := rfl
@[simp] theorem State.onCsm_darn (c : Coil) (f : CsmCoil → CsmCoil) : (s.onCsm c f).darn = s.darn := rfl
@[simp] theorem State.onCsm_ue (c : Coil) (f : CsmCoil → CsmCoil) : (s.onCsm c f).ue = s.ue := rfl
@[simp] theorem State.onCsm_scrubLast (c : Coil) (f : CsmCoil → CsmCoil) : (s.onCsm c f).scrubLast = s.scrubLast := rfl
@[simp] theorem State.onCsm_fineQ (c : Coil) (f : CsmCoil → CsmCoil) : (s.onCsm c f).fineQ = s.fineQ := rfl
@[simp] theorem State.onCsm_safeQ (c : Coil) (f : CsmCoil → CsmCoil) : (s.onCsm c f).safeQ = s.safeQ := rfl
@[simp] theorem State.onCsm_roles (c : Coil) (f : CsmCoil → CsmCoil) : (s.onCsm c f).roles = s.roles := rfl
@[simp] theorem State.onCsm_coil (c : Coil) (f : CsmCoil → CsmCoil) : (s.onCsm c f).coil = s.coil := rfl
@[simp] theorem State.onCsm_lo (c : Coil) (f : CsmCoil → CsmCoil) : (s.onCsm c f).lo = s.lo := rfl
@[simp] theorem State.onCsm_lnk (c : Coil) (f : CsmCoil → CsmCoil) : (s.onCsm c f).lnk = s.lnk := rfl
@[simp] theorem State.onCsm_fw (c : Coil) (f : CsmCoil → CsmCoil) : (s.onCsm c f).fw = s.fw := rfl
@[simp] theorem State.onCsm_turn (c : Coil) (f : CsmCoil → CsmCoil) : (s.onCsm c f).turn = s.turn := rfl

/-! ### State.onPc -/

@[simp] theorem State.onPc_pending (p : Conv) (f : PcConv → PcConv) : (s.onPc p f).pending = s.pending := rfl
@[simp] theorem State.onPc_out (p : Conv) (f : PcConv → PcConv) : (s.onPc p f).out = s.out := rfl
@[simp] theorem State.onPc_free (p : Conv) (f : PcConv → PcConv) : (s.onPc p f).free = s.free := rfl
@[simp] theorem State.onPc_regs (p : Conv) (f : PcConv → PcConv) : (s.onPc p f).regs = s.regs := rfl
@[simp] theorem State.onPc_staged (p : Conv) (f : PcConv → PcConv) : (s.onPc p f).staged = s.staged := rfl
@[simp] theorem State.onPc_parityBad (p : Conv) (f : PcConv → PcConv) : (s.onPc p f).parityBad = s.parityBad := rfl
@[simp] theorem State.onPc_sys (p : Conv) (f : PcConv → PcConv) : (s.onPc p f).sys = s.sys := rfl
@[simp] theorem State.onPc_hostPort (p : Conv) (f : PcConv → PcConv) : (s.onPc p f).hostPort = s.hostPort := rfl
@[simp] theorem State.onPc_maintPort (p : Conv) (f : PcConv → PcConv) : (s.onPc p f).maintPort = s.maintPort := rfl
@[simp] theorem State.onPc_fc (p : Conv) (f : PcConv → PcConv) : (s.onPc p f).fc = s.fc := rfl
@[simp] theorem State.onPc_fcPresent (p : Conv) (f : PcConv → PcConv) : (s.onPc p f).fcPresent = s.fcPresent := rfl
@[simp] theorem State.onPc_fcSafe (p : Conv) (f : PcConv → PcConv) : (s.onPc p f).fcSafe = s.fcSafe := rfl
@[simp] theorem State.onPc_fcLast (p : Conv) (f : PcConv → PcConv) : (s.onPc p f).fcLast = s.fcLast := rfl
@[simp] theorem State.onPc_ctxRam (p : Conv) (f : PcConv → PcConv) : (s.onPc p f).ctxRam = s.ctxRam := rfl
@[simp] theorem State.onPc_mot (p : Conv) (f : PcConv → PcConv) : (s.onPc p f).mot = s.mot := rfl
@[simp] theorem State.onPc_pwm (p : Conv) (f : PcConv → PcConv) : (s.onPc p f).pwm = s.pwm := rfl
@[simp] theorem State.onPc_csm (p : Conv) (f : PcConv → PcConv) : (s.onPc p f).csm = s.csm := rfl
@[simp] theorem State.onPc_refSince (p : Conv) (f : PcConv → PcConv) : (s.onPc p f).refSince = s.refSince := rfl
@[simp] theorem State.onPc_cmp (p : Conv) (f : PcConv → PcConv) : (s.onPc p f).cmp = s.cmp := rfl
@[simp] theorem State.onPc_saf (p : Conv) (f : PcConv → PcConv) : (s.onPc p f).saf = s.saf := rfl
@[simp] theorem State.onPc_spool (p : Conv) (f : PcConv → PcConv) : (s.onPc p f).spool = s.spool := rfl
@[simp] theorem State.onPc_msp (p : Conv) (f : PcConv → PcConv) : (s.onPc p f).msp = s.msp := rfl
@[simp] theorem State.onPc_darn (p : Conv) (f : PcConv → PcConv) : (s.onPc p f).darn = s.darn := rfl
@[simp] theorem State.onPc_ue (p : Conv) (f : PcConv → PcConv) : (s.onPc p f).ue = s.ue := rfl
@[simp] theorem State.onPc_scrubLast (p : Conv) (f : PcConv → PcConv) : (s.onPc p f).scrubLast = s.scrubLast := rfl
@[simp] theorem State.onPc_fineQ (p : Conv) (f : PcConv → PcConv) : (s.onPc p f).fineQ = s.fineQ := rfl
@[simp] theorem State.onPc_safeQ (p : Conv) (f : PcConv → PcConv) : (s.onPc p f).safeQ = s.safeQ := rfl
@[simp] theorem State.onPc_roles (p : Conv) (f : PcConv → PcConv) : (s.onPc p f).roles = s.roles := rfl
@[simp] theorem State.onPc_coil (p : Conv) (f : PcConv → PcConv) : (s.onPc p f).coil = s.coil := rfl
@[simp] theorem State.onPc_lo (p : Conv) (f : PcConv → PcConv) : (s.onPc p f).lo = s.lo := rfl
@[simp] theorem State.onPc_lnk (p : Conv) (f : PcConv → PcConv) : (s.onPc p f).lnk = s.lnk := rfl
@[simp] theorem State.onPc_fw (p : Conv) (f : PcConv → PcConv) : (s.onPc p f).fw = s.fw := rfl
@[simp] theorem State.onPc_turn (p : Conv) (f : PcConv → PcConv) : (s.onPc p f).turn = s.turn := rfl

/-! ### State.onCmp -/

@[simp] theorem State.onCmp_pending (c : Cmp) (f : CmpSt → CmpSt) : (s.onCmp c f).pending = s.pending := rfl
@[simp] theorem State.onCmp_out (c : Cmp) (f : CmpSt → CmpSt) : (s.onCmp c f).out = s.out := rfl
@[simp] theorem State.onCmp_free (c : Cmp) (f : CmpSt → CmpSt) : (s.onCmp c f).free = s.free := rfl
@[simp] theorem State.onCmp_regs (c : Cmp) (f : CmpSt → CmpSt) : (s.onCmp c f).regs = s.regs := rfl
@[simp] theorem State.onCmp_staged (c : Cmp) (f : CmpSt → CmpSt) : (s.onCmp c f).staged = s.staged := rfl
@[simp] theorem State.onCmp_parityBad (c : Cmp) (f : CmpSt → CmpSt) : (s.onCmp c f).parityBad = s.parityBad := rfl
@[simp] theorem State.onCmp_sys (c : Cmp) (f : CmpSt → CmpSt) : (s.onCmp c f).sys = s.sys := rfl
@[simp] theorem State.onCmp_hostPort (c : Cmp) (f : CmpSt → CmpSt) : (s.onCmp c f).hostPort = s.hostPort := rfl
@[simp] theorem State.onCmp_maintPort (c : Cmp) (f : CmpSt → CmpSt) : (s.onCmp c f).maintPort = s.maintPort := rfl
@[simp] theorem State.onCmp_fc (c : Cmp) (f : CmpSt → CmpSt) : (s.onCmp c f).fc = s.fc := rfl
@[simp] theorem State.onCmp_fcPresent (c : Cmp) (f : CmpSt → CmpSt) : (s.onCmp c f).fcPresent = s.fcPresent := rfl
@[simp] theorem State.onCmp_fcSafe (c : Cmp) (f : CmpSt → CmpSt) : (s.onCmp c f).fcSafe = s.fcSafe := rfl
@[simp] theorem State.onCmp_fcLast (c : Cmp) (f : CmpSt → CmpSt) : (s.onCmp c f).fcLast = s.fcLast := rfl
@[simp] theorem State.onCmp_ctxRam (c : Cmp) (f : CmpSt → CmpSt) : (s.onCmp c f).ctxRam = s.ctxRam := rfl
@[simp] theorem State.onCmp_mot (c : Cmp) (f : CmpSt → CmpSt) : (s.onCmp c f).mot = s.mot := rfl
@[simp] theorem State.onCmp_pwm (c : Cmp) (f : CmpSt → CmpSt) : (s.onCmp c f).pwm = s.pwm := rfl
@[simp] theorem State.onCmp_csm (c : Cmp) (f : CmpSt → CmpSt) : (s.onCmp c f).csm = s.csm := rfl
@[simp] theorem State.onCmp_pc (c : Cmp) (f : CmpSt → CmpSt) : (s.onCmp c f).pc = s.pc := rfl
@[simp] theorem State.onCmp_refSince (c : Cmp) (f : CmpSt → CmpSt) : (s.onCmp c f).refSince = s.refSince := rfl
@[simp] theorem State.onCmp_saf (c : Cmp) (f : CmpSt → CmpSt) : (s.onCmp c f).saf = s.saf := rfl
@[simp] theorem State.onCmp_spool (c : Cmp) (f : CmpSt → CmpSt) : (s.onCmp c f).spool = s.spool := rfl
@[simp] theorem State.onCmp_msp (c : Cmp) (f : CmpSt → CmpSt) : (s.onCmp c f).msp = s.msp := rfl
@[simp] theorem State.onCmp_darn (c : Cmp) (f : CmpSt → CmpSt) : (s.onCmp c f).darn = s.darn := rfl
@[simp] theorem State.onCmp_ue (c : Cmp) (f : CmpSt → CmpSt) : (s.onCmp c f).ue = s.ue := rfl
@[simp] theorem State.onCmp_scrubLast (c : Cmp) (f : CmpSt → CmpSt) : (s.onCmp c f).scrubLast = s.scrubLast := rfl
@[simp] theorem State.onCmp_fineQ (c : Cmp) (f : CmpSt → CmpSt) : (s.onCmp c f).fineQ = s.fineQ := rfl
@[simp] theorem State.onCmp_safeQ (c : Cmp) (f : CmpSt → CmpSt) : (s.onCmp c f).safeQ = s.safeQ := rfl
@[simp] theorem State.onCmp_roles (c : Cmp) (f : CmpSt → CmpSt) : (s.onCmp c f).roles = s.roles := rfl
@[simp] theorem State.onCmp_coil (c : Cmp) (f : CmpSt → CmpSt) : (s.onCmp c f).coil = s.coil := rfl
@[simp] theorem State.onCmp_lo (c : Cmp) (f : CmpSt → CmpSt) : (s.onCmp c f).lo = s.lo := rfl
@[simp] theorem State.onCmp_lnk (c : Cmp) (f : CmpSt → CmpSt) : (s.onCmp c f).lnk = s.lnk := rfl
@[simp] theorem State.onCmp_fw (c : Cmp) (f : CmpSt → CmpSt) : (s.onCmp c f).fw = s.fw := rfl
@[simp] theorem State.onCmp_turn (c : Cmp) (f : CmpSt → CmpSt) : (s.onCmp c f).turn = s.turn := rfl

/-! ### State.gatesHeld -/

@[simp] theorem State.gatesHeld_pending (ax : Axis) : (s.gatesHeld ax).pending = s.pending := rfl
@[simp] theorem State.gatesHeld_out (ax : Axis) : (s.gatesHeld ax).out = s.out := rfl
@[simp] theorem State.gatesHeld_free (ax : Axis) : (s.gatesHeld ax).free = s.free := rfl
@[simp] theorem State.gatesHeld_regs (ax : Axis) : (s.gatesHeld ax).regs = s.regs := rfl
@[simp] theorem State.gatesHeld_staged (ax : Axis) : (s.gatesHeld ax).staged = s.staged := rfl
@[simp] theorem State.gatesHeld_parityBad (ax : Axis) : (s.gatesHeld ax).parityBad = s.parityBad := rfl
@[simp] theorem State.gatesHeld_sys (ax : Axis) : (s.gatesHeld ax).sys = s.sys := rfl
@[simp] theorem State.gatesHeld_hostPort (ax : Axis) : (s.gatesHeld ax).hostPort = s.hostPort := rfl
@[simp] theorem State.gatesHeld_maintPort (ax : Axis) : (s.gatesHeld ax).maintPort = s.maintPort := rfl
@[simp] theorem State.gatesHeld_fc (ax : Axis) : (s.gatesHeld ax).fc = s.fc := rfl
@[simp] theorem State.gatesHeld_fcPresent (ax : Axis) : (s.gatesHeld ax).fcPresent = s.fcPresent := rfl
@[simp] theorem State.gatesHeld_fcSafe (ax : Axis) : (s.gatesHeld ax).fcSafe = s.fcSafe := rfl
@[simp] theorem State.gatesHeld_fcLast (ax : Axis) : (s.gatesHeld ax).fcLast = s.fcLast := rfl
@[simp] theorem State.gatesHeld_ctxRam (ax : Axis) : (s.gatesHeld ax).ctxRam = s.ctxRam := rfl
@[simp] theorem State.gatesHeld_mot (ax : Axis) : (s.gatesHeld ax).mot = s.mot := rfl
@[simp] theorem State.gatesHeld_csm (ax : Axis) : (s.gatesHeld ax).csm = s.csm := rfl
@[simp] theorem State.gatesHeld_pc (ax : Axis) : (s.gatesHeld ax).pc = s.pc := rfl
@[simp] theorem State.gatesHeld_refSince (ax : Axis) : (s.gatesHeld ax).refSince = s.refSince := rfl
@[simp] theorem State.gatesHeld_cmp (ax : Axis) : (s.gatesHeld ax).cmp = s.cmp := rfl
@[simp] theorem State.gatesHeld_saf (ax : Axis) : (s.gatesHeld ax).saf = s.saf := rfl
@[simp] theorem State.gatesHeld_spool (ax : Axis) : (s.gatesHeld ax).spool = s.spool := rfl
@[simp] theorem State.gatesHeld_msp (ax : Axis) : (s.gatesHeld ax).msp = s.msp := rfl
@[simp] theorem State.gatesHeld_darn (ax : Axis) : (s.gatesHeld ax).darn = s.darn := rfl
@[simp] theorem State.gatesHeld_ue (ax : Axis) : (s.gatesHeld ax).ue = s.ue := rfl
@[simp] theorem State.gatesHeld_scrubLast (ax : Axis) : (s.gatesHeld ax).scrubLast = s.scrubLast := rfl
@[simp] theorem State.gatesHeld_fineQ (ax : Axis) : (s.gatesHeld ax).fineQ = s.fineQ := rfl
@[simp] theorem State.gatesHeld_safeQ (ax : Axis) : (s.gatesHeld ax).safeQ = s.safeQ := rfl
@[simp] theorem State.gatesHeld_roles (ax : Axis) : (s.gatesHeld ax).roles = s.roles := rfl
@[simp] theorem State.gatesHeld_coil (ax : Axis) : (s.gatesHeld ax).coil = s.coil := rfl
@[simp] theorem State.gatesHeld_lo (ax : Axis) : (s.gatesHeld ax).lo = s.lo := rfl
@[simp] theorem State.gatesHeld_lnk (ax : Axis) : (s.gatesHeld ax).lnk = s.lnk := rfl
@[simp] theorem State.gatesHeld_fw (ax : Axis) : (s.gatesHeld ax).fw = s.fw := rfl
@[simp] theorem State.gatesHeld_turn (ax : Axis) : (s.gatesHeld ax).turn = s.turn := rfl

/-! ### State.gatesOff -/

@[simp] theorem State.gatesOff_pending (ax : Axis) : (s.gatesOff ax).pending = s.pending := rfl
@[simp] theorem State.gatesOff_out (ax : Axis) : (s.gatesOff ax).out = s.out := rfl
@[simp] theorem State.gatesOff_free (ax : Axis) : (s.gatesOff ax).free = s.free := rfl
@[simp] theorem State.gatesOff_regs (ax : Axis) : (s.gatesOff ax).regs = s.regs := rfl
@[simp] theorem State.gatesOff_staged (ax : Axis) : (s.gatesOff ax).staged = s.staged := rfl
@[simp] theorem State.gatesOff_parityBad (ax : Axis) : (s.gatesOff ax).parityBad = s.parityBad := rfl
@[simp] theorem State.gatesOff_sys (ax : Axis) : (s.gatesOff ax).sys = s.sys := rfl
@[simp] theorem State.gatesOff_hostPort (ax : Axis) : (s.gatesOff ax).hostPort = s.hostPort := rfl
@[simp] theorem State.gatesOff_maintPort (ax : Axis) : (s.gatesOff ax).maintPort = s.maintPort := rfl
@[simp] theorem State.gatesOff_fc (ax : Axis) : (s.gatesOff ax).fc = s.fc := rfl
@[simp] theorem State.gatesOff_fcPresent (ax : Axis) : (s.gatesOff ax).fcPresent = s.fcPresent := rfl
@[simp] theorem State.gatesOff_fcSafe (ax : Axis) : (s.gatesOff ax).fcSafe = s.fcSafe := rfl
@[simp] theorem State.gatesOff_fcLast (ax : Axis) : (s.gatesOff ax).fcLast = s.fcLast := rfl
@[simp] theorem State.gatesOff_ctxRam (ax : Axis) : (s.gatesOff ax).ctxRam = s.ctxRam := rfl
@[simp] theorem State.gatesOff_mot (ax : Axis) : (s.gatesOff ax).mot = s.mot := rfl
@[simp] theorem State.gatesOff_csm (ax : Axis) : (s.gatesOff ax).csm = s.csm := rfl
@[simp] theorem State.gatesOff_pc (ax : Axis) : (s.gatesOff ax).pc = s.pc := rfl
@[simp] theorem State.gatesOff_refSince (ax : Axis) : (s.gatesOff ax).refSince = s.refSince := rfl
@[simp] theorem State.gatesOff_cmp (ax : Axis) : (s.gatesOff ax).cmp = s.cmp := rfl
@[simp] theorem State.gatesOff_saf (ax : Axis) : (s.gatesOff ax).saf = s.saf := rfl
@[simp] theorem State.gatesOff_spool (ax : Axis) : (s.gatesOff ax).spool = s.spool := rfl
@[simp] theorem State.gatesOff_msp (ax : Axis) : (s.gatesOff ax).msp = s.msp := rfl
@[simp] theorem State.gatesOff_darn (ax : Axis) : (s.gatesOff ax).darn = s.darn := rfl
@[simp] theorem State.gatesOff_ue (ax : Axis) : (s.gatesOff ax).ue = s.ue := rfl
@[simp] theorem State.gatesOff_scrubLast (ax : Axis) : (s.gatesOff ax).scrubLast = s.scrubLast := rfl
@[simp] theorem State.gatesOff_fineQ (ax : Axis) : (s.gatesOff ax).fineQ = s.fineQ := rfl
@[simp] theorem State.gatesOff_safeQ (ax : Axis) : (s.gatesOff ax).safeQ = s.safeQ := rfl
@[simp] theorem State.gatesOff_roles (ax : Axis) : (s.gatesOff ax).roles = s.roles := rfl
@[simp] theorem State.gatesOff_coil (ax : Axis) : (s.gatesOff ax).coil = s.coil := rfl
@[simp] theorem State.gatesOff_lo (ax : Axis) : (s.gatesOff ax).lo = s.lo := rfl
@[simp] theorem State.gatesOff_lnk (ax : Axis) : (s.gatesOff ax).lnk = s.lnk := rfl
@[simp] theorem State.gatesOff_fw (ax : Axis) : (s.gatesOff ax).fw = s.fw := rfl
@[simp] theorem State.gatesOff_turn (ax : Axis) : (s.gatesOff ax).turn = s.turn := rfl

/-! ### State.bridgeOff -/

@[simp] theorem State.bridgeOff_pending (ax : Axis) (br : Bridge) : (s.bridgeOff ax br).pending = s.pending := rfl
@[simp] theorem State.bridgeOff_out (ax : Axis) (br : Bridge) : (s.bridgeOff ax br).out = s.out := rfl
@[simp] theorem State.bridgeOff_free (ax : Axis) (br : Bridge) : (s.bridgeOff ax br).free = s.free := rfl
@[simp] theorem State.bridgeOff_regs (ax : Axis) (br : Bridge) : (s.bridgeOff ax br).regs = s.regs := rfl
@[simp] theorem State.bridgeOff_staged (ax : Axis) (br : Bridge) : (s.bridgeOff ax br).staged = s.staged := rfl
@[simp] theorem State.bridgeOff_parityBad (ax : Axis) (br : Bridge) : (s.bridgeOff ax br).parityBad = s.parityBad := rfl
@[simp] theorem State.bridgeOff_sys (ax : Axis) (br : Bridge) : (s.bridgeOff ax br).sys = s.sys := rfl
@[simp] theorem State.bridgeOff_hostPort (ax : Axis) (br : Bridge) : (s.bridgeOff ax br).hostPort = s.hostPort := rfl
@[simp] theorem State.bridgeOff_maintPort (ax : Axis) (br : Bridge) : (s.bridgeOff ax br).maintPort = s.maintPort := rfl
@[simp] theorem State.bridgeOff_fc (ax : Axis) (br : Bridge) : (s.bridgeOff ax br).fc = s.fc := rfl
@[simp] theorem State.bridgeOff_fcPresent (ax : Axis) (br : Bridge) : (s.bridgeOff ax br).fcPresent = s.fcPresent := rfl
@[simp] theorem State.bridgeOff_fcSafe (ax : Axis) (br : Bridge) : (s.bridgeOff ax br).fcSafe = s.fcSafe := rfl
@[simp] theorem State.bridgeOff_fcLast (ax : Axis) (br : Bridge) : (s.bridgeOff ax br).fcLast = s.fcLast := rfl
@[simp] theorem State.bridgeOff_ctxRam (ax : Axis) (br : Bridge) : (s.bridgeOff ax br).ctxRam = s.ctxRam := rfl
@[simp] theorem State.bridgeOff_mot (ax : Axis) (br : Bridge) : (s.bridgeOff ax br).mot = s.mot := rfl
@[simp] theorem State.bridgeOff_csm (ax : Axis) (br : Bridge) : (s.bridgeOff ax br).csm = s.csm := rfl
@[simp] theorem State.bridgeOff_pc (ax : Axis) (br : Bridge) : (s.bridgeOff ax br).pc = s.pc := rfl
@[simp] theorem State.bridgeOff_refSince (ax : Axis) (br : Bridge) : (s.bridgeOff ax br).refSince = s.refSince := rfl
@[simp] theorem State.bridgeOff_cmp (ax : Axis) (br : Bridge) : (s.bridgeOff ax br).cmp = s.cmp := rfl
@[simp] theorem State.bridgeOff_saf (ax : Axis) (br : Bridge) : (s.bridgeOff ax br).saf = s.saf := rfl
@[simp] theorem State.bridgeOff_spool (ax : Axis) (br : Bridge) : (s.bridgeOff ax br).spool = s.spool := rfl
@[simp] theorem State.bridgeOff_msp (ax : Axis) (br : Bridge) : (s.bridgeOff ax br).msp = s.msp := rfl
@[simp] theorem State.bridgeOff_darn (ax : Axis) (br : Bridge) : (s.bridgeOff ax br).darn = s.darn := rfl
@[simp] theorem State.bridgeOff_ue (ax : Axis) (br : Bridge) : (s.bridgeOff ax br).ue = s.ue := rfl
@[simp] theorem State.bridgeOff_scrubLast (ax : Axis) (br : Bridge) : (s.bridgeOff ax br).scrubLast = s.scrubLast := rfl
@[simp] theorem State.bridgeOff_fineQ (ax : Axis) (br : Bridge) : (s.bridgeOff ax br).fineQ = s.fineQ := rfl
@[simp] theorem State.bridgeOff_safeQ (ax : Axis) (br : Bridge) : (s.bridgeOff ax br).safeQ = s.safeQ := rfl
@[simp] theorem State.bridgeOff_roles (ax : Axis) (br : Bridge) : (s.bridgeOff ax br).roles = s.roles := rfl
@[simp] theorem State.bridgeOff_coil (ax : Axis) (br : Bridge) : (s.bridgeOff ax br).coil = s.coil := rfl
@[simp] theorem State.bridgeOff_lo (ax : Axis) (br : Bridge) : (s.bridgeOff ax br).lo = s.lo := rfl
@[simp] theorem State.bridgeOff_lnk (ax : Axis) (br : Bridge) : (s.bridgeOff ax br).lnk = s.lnk := rfl
@[simp] theorem State.bridgeOff_fw (ax : Axis) (br : Bridge) : (s.bridgeOff ax br).fw = s.fw := rfl
@[simp] theorem State.bridgeOff_turn (ax : Axis) (br : Bridge) : (s.bridgeOff ax br).turn = s.turn := rfl

/-! ### State.drop -/

@[simp] theorem State.drop_pending (src : Nat) : (s.drop src).pending = s.pending := rfl
@[simp] theorem State.drop_out (src : Nat) : (s.drop src).out = s.out := rfl
@[simp] theorem State.drop_free (src : Nat) : (s.drop src).free = s.free := rfl
@[simp] theorem State.drop_regs (src : Nat) : (s.drop src).regs = s.regs := rfl
@[simp] theorem State.drop_staged (src : Nat) : (s.drop src).staged = s.staged := rfl
@[simp] theorem State.drop_parityBad (src : Nat) : (s.drop src).parityBad = s.parityBad := rfl
@[simp] theorem State.drop_sys (src : Nat) : (s.drop src).sys = s.sys := rfl
@[simp] theorem State.drop_hostPort (src : Nat) : (s.drop src).hostPort = s.hostPort := rfl
@[simp] theorem State.drop_maintPort (src : Nat) : (s.drop src).maintPort = s.maintPort := rfl
@[simp] theorem State.drop_fc (src : Nat) : (s.drop src).fc = s.fc := rfl
@[simp] theorem State.drop_fcSafe (src : Nat) : (s.drop src).fcSafe = s.fcSafe := rfl
@[simp] theorem State.drop_fcLast (src : Nat) : (s.drop src).fcLast = s.fcLast := rfl
@[simp] theorem State.drop_ctxRam (src : Nat) : (s.drop src).ctxRam = s.ctxRam := rfl
@[simp] theorem State.drop_mot (src : Nat) : (s.drop src).mot = s.mot := rfl
@[simp] theorem State.drop_pwm (src : Nat) : (s.drop src).pwm = s.pwm := rfl
@[simp] theorem State.drop_csm (src : Nat) : (s.drop src).csm = s.csm := rfl
@[simp] theorem State.drop_pc (src : Nat) : (s.drop src).pc = s.pc := rfl
@[simp] theorem State.drop_refSince (src : Nat) : (s.drop src).refSince = s.refSince := rfl
@[simp] theorem State.drop_cmp (src : Nat) : (s.drop src).cmp = s.cmp := rfl
@[simp] theorem State.drop_saf (src : Nat) : (s.drop src).saf = s.saf := rfl
@[simp] theorem State.drop_spool (src : Nat) : (s.drop src).spool = s.spool := rfl
@[simp] theorem State.drop_msp (src : Nat) : (s.drop src).msp = s.msp := rfl
@[simp] theorem State.drop_darn (src : Nat) : (s.drop src).darn = s.darn := rfl
@[simp] theorem State.drop_ue (src : Nat) : (s.drop src).ue = s.ue := rfl
@[simp] theorem State.drop_scrubLast (src : Nat) : (s.drop src).scrubLast = s.scrubLast := rfl
@[simp] theorem State.drop_fineQ (src : Nat) : (s.drop src).fineQ = s.fineQ := rfl
@[simp] theorem State.drop_safeQ (src : Nat) : (s.drop src).safeQ = s.safeQ := rfl
@[simp] theorem State.drop_roles (src : Nat) : (s.drop src).roles = s.roles := rfl
@[simp] theorem State.drop_coil (src : Nat) : (s.drop src).coil = s.coil := rfl
@[simp] theorem State.drop_lo (src : Nat) : (s.drop src).lo = s.lo := rfl
@[simp] theorem State.drop_lnk (src : Nat) : (s.drop src).lnk = s.lnk := rfl
@[simp] theorem State.drop_fw (src : Nat) : (s.drop src).fw = s.fw := rfl
@[simp] theorem State.drop_turn (src : Nat) : (s.drop src).turn = s.turn := rfl

/-! ### State.setFcRec -/

@[simp] theorem State.setFcRec_pending (src : Nat) (r : FcRec) : (s.setFcRec src r).pending = s.pending := rfl
@[simp] theorem State.setFcRec_out (src : Nat) (r : FcRec) : (s.setFcRec src r).out = s.out := rfl
@[simp] theorem State.setFcRec_free (src : Nat) (r : FcRec) : (s.setFcRec src r).free = s.free := rfl
@[simp] theorem State.setFcRec_regs (src : Nat) (r : FcRec) : (s.setFcRec src r).regs = s.regs := rfl
@[simp] theorem State.setFcRec_staged (src : Nat) (r : FcRec) : (s.setFcRec src r).staged = s.staged := rfl
@[simp] theorem State.setFcRec_parityBad (src : Nat) (r : FcRec) : (s.setFcRec src r).parityBad = s.parityBad := rfl
@[simp] theorem State.setFcRec_sys (src : Nat) (r : FcRec) : (s.setFcRec src r).sys = s.sys := rfl
@[simp] theorem State.setFcRec_hostPort (src : Nat) (r : FcRec) : (s.setFcRec src r).hostPort = s.hostPort := rfl
@[simp] theorem State.setFcRec_maintPort (src : Nat) (r : FcRec) : (s.setFcRec src r).maintPort = s.maintPort := rfl
@[simp] theorem State.setFcRec_fcPresent (src : Nat) (r : FcRec) : (s.setFcRec src r).fcPresent = s.fcPresent := rfl
@[simp] theorem State.setFcRec_fcSafe (src : Nat) (r : FcRec) : (s.setFcRec src r).fcSafe = s.fcSafe := rfl
@[simp] theorem State.setFcRec_fcLast (src : Nat) (r : FcRec) : (s.setFcRec src r).fcLast = s.fcLast := rfl
@[simp] theorem State.setFcRec_ctxRam (src : Nat) (r : FcRec) : (s.setFcRec src r).ctxRam = s.ctxRam := rfl
@[simp] theorem State.setFcRec_mot (src : Nat) (r : FcRec) : (s.setFcRec src r).mot = s.mot := rfl
@[simp] theorem State.setFcRec_pwm (src : Nat) (r : FcRec) : (s.setFcRec src r).pwm = s.pwm := rfl
@[simp] theorem State.setFcRec_csm (src : Nat) (r : FcRec) : (s.setFcRec src r).csm = s.csm := rfl
@[simp] theorem State.setFcRec_pc (src : Nat) (r : FcRec) : (s.setFcRec src r).pc = s.pc := rfl
@[simp] theorem State.setFcRec_refSince (src : Nat) (r : FcRec) : (s.setFcRec src r).refSince = s.refSince := rfl
@[simp] theorem State.setFcRec_cmp (src : Nat) (r : FcRec) : (s.setFcRec src r).cmp = s.cmp := rfl
@[simp] theorem State.setFcRec_saf (src : Nat) (r : FcRec) : (s.setFcRec src r).saf = s.saf := rfl
@[simp] theorem State.setFcRec_spool (src : Nat) (r : FcRec) : (s.setFcRec src r).spool = s.spool := rfl
@[simp] theorem State.setFcRec_msp (src : Nat) (r : FcRec) : (s.setFcRec src r).msp = s.msp := rfl
@[simp] theorem State.setFcRec_darn (src : Nat) (r : FcRec) : (s.setFcRec src r).darn = s.darn := rfl
@[simp] theorem State.setFcRec_ue (src : Nat) (r : FcRec) : (s.setFcRec src r).ue = s.ue := rfl
@[simp] theorem State.setFcRec_scrubLast (src : Nat) (r : FcRec) : (s.setFcRec src r).scrubLast = s.scrubLast := rfl
@[simp] theorem State.setFcRec_fineQ (src : Nat) (r : FcRec) : (s.setFcRec src r).fineQ = s.fineQ := rfl
@[simp] theorem State.setFcRec_safeQ (src : Nat) (r : FcRec) : (s.setFcRec src r).safeQ = s.safeQ := rfl
@[simp] theorem State.setFcRec_roles (src : Nat) (r : FcRec) : (s.setFcRec src r).roles = s.roles := rfl
@[simp] theorem State.setFcRec_coil (src : Nat) (r : FcRec) : (s.setFcRec src r).coil = s.coil := rfl
@[simp] theorem State.setFcRec_lo (src : Nat) (r : FcRec) : (s.setFcRec src r).lo = s.lo := rfl
@[simp] theorem State.setFcRec_lnk (src : Nat) (r : FcRec) : (s.setFcRec src r).lnk = s.lnk := rfl
@[simp] theorem State.setFcRec_fw (src : Nat) (r : FcRec) : (s.setFcRec src r).fw = s.fw := rfl
@[simp] theorem State.setFcRec_turn (src : Nat) (r : FcRec) : (s.setFcRec src r).turn = s.turn := rfl

/-! ### State.setCtxW -/

@[simp] theorem State.setCtxW_pending (c w : Nat) (v : Word) : (s.setCtxW c w v).pending = s.pending := rfl
@[simp] theorem State.setCtxW_out (c w : Nat) (v : Word) : (s.setCtxW c w v).out = s.out := rfl
@[simp] theorem State.setCtxW_free (c w : Nat) (v : Word) : (s.setCtxW c w v).free = s.free := rfl
@[simp] theorem State.setCtxW_regs (c w : Nat) (v : Word) : (s.setCtxW c w v).regs = s.regs := rfl
@[simp] theorem State.setCtxW_staged (c w : Nat) (v : Word) : (s.setCtxW c w v).staged = s.staged := rfl
@[simp] theorem State.setCtxW_parityBad (c w : Nat) (v : Word) : (s.setCtxW c w v).parityBad = s.parityBad := rfl
@[simp] theorem State.setCtxW_sys (c w : Nat) (v : Word) : (s.setCtxW c w v).sys = s.sys := rfl
@[simp] theorem State.setCtxW_hostPort (c w : Nat) (v : Word) : (s.setCtxW c w v).hostPort = s.hostPort := rfl
@[simp] theorem State.setCtxW_maintPort (c w : Nat) (v : Word) : (s.setCtxW c w v).maintPort = s.maintPort := rfl
@[simp] theorem State.setCtxW_fc (c w : Nat) (v : Word) : (s.setCtxW c w v).fc = s.fc := rfl
@[simp] theorem State.setCtxW_fcPresent (c w : Nat) (v : Word) : (s.setCtxW c w v).fcPresent = s.fcPresent := rfl
@[simp] theorem State.setCtxW_fcSafe (c w : Nat) (v : Word) : (s.setCtxW c w v).fcSafe = s.fcSafe := rfl
@[simp] theorem State.setCtxW_fcLast (c w : Nat) (v : Word) : (s.setCtxW c w v).fcLast = s.fcLast := rfl
@[simp] theorem State.setCtxW_mot (c w : Nat) (v : Word) : (s.setCtxW c w v).mot = s.mot := rfl
@[simp] theorem State.setCtxW_pwm (c w : Nat) (v : Word) : (s.setCtxW c w v).pwm = s.pwm := rfl
@[simp] theorem State.setCtxW_csm (c w : Nat) (v : Word) : (s.setCtxW c w v).csm = s.csm := rfl
@[simp] theorem State.setCtxW_pc (c w : Nat) (v : Word) : (s.setCtxW c w v).pc = s.pc := rfl
@[simp] theorem State.setCtxW_refSince (c w : Nat) (v : Word) : (s.setCtxW c w v).refSince = s.refSince := rfl
@[simp] theorem State.setCtxW_cmp (c w : Nat) (v : Word) : (s.setCtxW c w v).cmp = s.cmp := rfl
@[simp] theorem State.setCtxW_saf (c w : Nat) (v : Word) : (s.setCtxW c w v).saf = s.saf := rfl
@[simp] theorem State.setCtxW_spool (c w : Nat) (v : Word) : (s.setCtxW c w v).spool = s.spool := rfl
@[simp] theorem State.setCtxW_msp (c w : Nat) (v : Word) : (s.setCtxW c w v).msp = s.msp := rfl
@[simp] theorem State.setCtxW_darn (c w : Nat) (v : Word) : (s.setCtxW c w v).darn = s.darn := rfl
@[simp] theorem State.setCtxW_ue (c w : Nat) (v : Word) : (s.setCtxW c w v).ue = s.ue := rfl
@[simp] theorem State.setCtxW_scrubLast (c w : Nat) (v : Word) : (s.setCtxW c w v).scrubLast = s.scrubLast := rfl
@[simp] theorem State.setCtxW_fineQ (c w : Nat) (v : Word) : (s.setCtxW c w v).fineQ = s.fineQ := rfl
@[simp] theorem State.setCtxW_safeQ (c w : Nat) (v : Word) : (s.setCtxW c w v).safeQ = s.safeQ := rfl
@[simp] theorem State.setCtxW_roles (c w : Nat) (v : Word) : (s.setCtxW c w v).roles = s.roles := rfl
@[simp] theorem State.setCtxW_coil (c w : Nat) (v : Word) : (s.setCtxW c w v).coil = s.coil := rfl
@[simp] theorem State.setCtxW_lo (c w : Nat) (v : Word) : (s.setCtxW c w v).lo = s.lo := rfl
@[simp] theorem State.setCtxW_lnk (c w : Nat) (v : Word) : (s.setCtxW c w v).lnk = s.lnk := rfl
@[simp] theorem State.setCtxW_fw (c w : Nat) (v : Word) : (s.setCtxW c w v).fw = s.fw := rfl
@[simp] theorem State.setCtxW_turn (c w : Nat) (v : Word) : (s.setCtxW c w v).turn = s.turn := rfl

/-! ### State.quiet -/

@[simp] theorem State.quiet_pending : (s.quiet).pending = s.pending := rfl
@[simp] theorem State.quiet_free : (s.quiet).free = s.free := rfl
@[simp] theorem State.quiet_regs : (s.quiet).regs = s.regs := rfl
@[simp] theorem State.quiet_staged : (s.quiet).staged = s.staged := rfl
@[simp] theorem State.quiet_parityBad : (s.quiet).parityBad = s.parityBad := rfl
@[simp] theorem State.quiet_sys : (s.quiet).sys = s.sys := rfl
@[simp] theorem State.quiet_hostPort : (s.quiet).hostPort = s.hostPort := rfl
@[simp] theorem State.quiet_maintPort : (s.quiet).maintPort = s.maintPort := rfl
@[simp] theorem State.quiet_fc : (s.quiet).fc = s.fc := rfl
@[simp] theorem State.quiet_fcPresent : (s.quiet).fcPresent = s.fcPresent := rfl
@[simp] theorem State.quiet_fcSafe : (s.quiet).fcSafe = s.fcSafe := rfl
@[simp] theorem State.quiet_fcLast : (s.quiet).fcLast = s.fcLast := rfl
@[simp] theorem State.quiet_ctxRam : (s.quiet).ctxRam = s.ctxRam := rfl
@[simp] theorem State.quiet_mot : (s.quiet).mot = s.mot := rfl
@[simp] theorem State.quiet_pwm : (s.quiet).pwm = s.pwm := rfl
@[simp] theorem State.quiet_csm : (s.quiet).csm = s.csm := rfl
@[simp] theorem State.quiet_pc : (s.quiet).pc = s.pc := rfl
@[simp] theorem State.quiet_refSince : (s.quiet).refSince = s.refSince := rfl
@[simp] theorem State.quiet_cmp : (s.quiet).cmp = s.cmp := rfl
@[simp] theorem State.quiet_saf : (s.quiet).saf = s.saf := rfl
@[simp] theorem State.quiet_spool : (s.quiet).spool = s.spool := rfl
@[simp] theorem State.quiet_msp : (s.quiet).msp = s.msp := rfl
@[simp] theorem State.quiet_darn : (s.quiet).darn = s.darn := rfl
@[simp] theorem State.quiet_ue : (s.quiet).ue = s.ue := rfl
@[simp] theorem State.quiet_scrubLast : (s.quiet).scrubLast = s.scrubLast := rfl
@[simp] theorem State.quiet_fineQ : (s.quiet).fineQ = s.fineQ := rfl
@[simp] theorem State.quiet_safeQ : (s.quiet).safeQ = s.safeQ := rfl
@[simp] theorem State.quiet_roles : (s.quiet).roles = s.roles := rfl
@[simp] theorem State.quiet_coil : (s.quiet).coil = s.coil := rfl
@[simp] theorem State.quiet_lo : (s.quiet).lo = s.lo := rfl
@[simp] theorem State.quiet_lnk : (s.quiet).lnk = s.lnk := rfl
@[simp] theorem State.quiet_fw : (s.quiet).fw = s.fw := rfl
@[simp] theorem State.quiet_turn : (s.quiet).turn = s.turn := rfl

/-! ### State.answer -/

@[simp] theorem State.answer_pending (ws : List Word) : (s.answer ws).pending = s.pending := rfl
@[simp] theorem State.answer_free (ws : List Word) : (s.answer ws).free = s.free := rfl
@[simp] theorem State.answer_regs (ws : List Word) : (s.answer ws).regs = s.regs := rfl
@[simp] theorem State.answer_staged (ws : List Word) : (s.answer ws).staged = s.staged := rfl
@[simp] theorem State.answer_parityBad (ws : List Word) : (s.answer ws).parityBad = s.parityBad := rfl
@[simp] theorem State.answer_sys (ws : List Word) : (s.answer ws).sys = s.sys := rfl
@[simp] theorem State.answer_hostPort (ws : List Word) : (s.answer ws).hostPort = s.hostPort := rfl
@[simp] theorem State.answer_maintPort (ws : List Word) : (s.answer ws).maintPort = s.maintPort := rfl
@[simp] theorem State.answer_fc (ws : List Word) : (s.answer ws).fc = s.fc := rfl
@[simp] theorem State.answer_fcPresent (ws : List Word) : (s.answer ws).fcPresent = s.fcPresent := rfl
@[simp] theorem State.answer_fcSafe (ws : List Word) : (s.answer ws).fcSafe = s.fcSafe := rfl
@[simp] theorem State.answer_fcLast (ws : List Word) : (s.answer ws).fcLast = s.fcLast := rfl
@[simp] theorem State.answer_ctxRam (ws : List Word) : (s.answer ws).ctxRam = s.ctxRam := rfl
@[simp] theorem State.answer_mot (ws : List Word) : (s.answer ws).mot = s.mot := rfl
@[simp] theorem State.answer_pwm (ws : List Word) : (s.answer ws).pwm = s.pwm := rfl
@[simp] theorem State.answer_csm (ws : List Word) : (s.answer ws).csm = s.csm := rfl
@[simp] theorem State.answer_pc (ws : List Word) : (s.answer ws).pc = s.pc := rfl
@[simp] theorem State.answer_refSince (ws : List Word) : (s.answer ws).refSince = s.refSince := rfl
@[simp] theorem State.answer_cmp (ws : List Word) : (s.answer ws).cmp = s.cmp := rfl
@[simp] theorem State.answer_saf (ws : List Word) : (s.answer ws).saf = s.saf := rfl
@[simp] theorem State.answer_spool (ws : List Word) : (s.answer ws).spool = s.spool := rfl
@[simp] theorem State.answer_msp (ws : List Word) : (s.answer ws).msp = s.msp := rfl
@[simp] theorem State.answer_darn (ws : List Word) : (s.answer ws).darn = s.darn := rfl
@[simp] theorem State.answer_ue (ws : List Word) : (s.answer ws).ue = s.ue := rfl
@[simp] theorem State.answer_scrubLast (ws : List Word) : (s.answer ws).scrubLast = s.scrubLast := rfl
@[simp] theorem State.answer_fineQ (ws : List Word) : (s.answer ws).fineQ = s.fineQ := rfl
@[simp] theorem State.answer_safeQ (ws : List Word) : (s.answer ws).safeQ = s.safeQ := rfl
@[simp] theorem State.answer_roles (ws : List Word) : (s.answer ws).roles = s.roles := rfl
@[simp] theorem State.answer_coil (ws : List Word) : (s.answer ws).coil = s.coil := rfl
@[simp] theorem State.answer_lo (ws : List Word) : (s.answer ws).lo = s.lo := rfl
@[simp] theorem State.answer_lnk (ws : List Word) : (s.answer ws).lnk = s.lnk := rfl
@[simp] theorem State.answer_fw (ws : List Word) : (s.answer ws).fw = s.fw := rfl
@[simp] theorem State.answer_turn (ws : List Word) : (s.answer ws).turn = s.turn := rfl

/-! ### State.busError -/

@[simp] theorem State.busError_pending : (s.busError).pending = s.pending := rfl
@[simp] theorem State.busError_free : (s.busError).free = s.free := rfl
@[simp] theorem State.busError_regs : (s.busError).regs = s.regs := rfl
@[simp] theorem State.busError_staged : (s.busError).staged = s.staged := rfl
@[simp] theorem State.busError_parityBad : (s.busError).parityBad = s.parityBad := rfl
@[simp] theorem State.busError_sys : (s.busError).sys = s.sys := rfl
@[simp] theorem State.busError_hostPort : (s.busError).hostPort = s.hostPort := rfl
@[simp] theorem State.busError_maintPort : (s.busError).maintPort = s.maintPort := rfl
@[simp] theorem State.busError_fc : (s.busError).fc = s.fc := rfl
@[simp] theorem State.busError_fcPresent : (s.busError).fcPresent = s.fcPresent := rfl
@[simp] theorem State.busError_fcSafe : (s.busError).fcSafe = s.fcSafe := rfl
@[simp] theorem State.busError_fcLast : (s.busError).fcLast = s.fcLast := rfl
@[simp] theorem State.busError_ctxRam : (s.busError).ctxRam = s.ctxRam := rfl
@[simp] theorem State.busError_mot : (s.busError).mot = s.mot := rfl
@[simp] theorem State.busError_pwm : (s.busError).pwm = s.pwm := rfl
@[simp] theorem State.busError_csm : (s.busError).csm = s.csm := rfl
@[simp] theorem State.busError_pc : (s.busError).pc = s.pc := rfl
@[simp] theorem State.busError_refSince : (s.busError).refSince = s.refSince := rfl
@[simp] theorem State.busError_cmp : (s.busError).cmp = s.cmp := rfl
@[simp] theorem State.busError_saf : (s.busError).saf = s.saf := rfl
@[simp] theorem State.busError_spool : (s.busError).spool = s.spool := rfl
@[simp] theorem State.busError_msp : (s.busError).msp = s.msp := rfl
@[simp] theorem State.busError_darn : (s.busError).darn = s.darn := rfl
@[simp] theorem State.busError_ue : (s.busError).ue = s.ue := rfl
@[simp] theorem State.busError_scrubLast : (s.busError).scrubLast = s.scrubLast := rfl
@[simp] theorem State.busError_fineQ : (s.busError).fineQ = s.fineQ := rfl
@[simp] theorem State.busError_safeQ : (s.busError).safeQ = s.safeQ := rfl
@[simp] theorem State.busError_roles : (s.busError).roles = s.roles := rfl
@[simp] theorem State.busError_coil : (s.busError).coil = s.coil := rfl
@[simp] theorem State.busError_lo : (s.busError).lo = s.lo := rfl
@[simp] theorem State.busError_lnk : (s.busError).lnk = s.lnk := rfl
@[simp] theorem State.busError_fw : (s.busError).fw = s.fw := rfl
@[simp] theorem State.busError_turn : (s.busError).turn = s.turn := rfl

@[simp] theorem State.quiet_out : s.quiet.out = {} := rfl
@[simp] theorem State.answer_out (ws : List Word) : (s.answer ws).out = { words := ws } := rfl
@[simp] theorem State.busError_out : s.busError.out = { busErr := true } := rfl

end Sys2Proof.Machine
end

