-- ==== Sys2Proof/Laws/Access.lean ====
section
/-! SUPPORT. What a register access leaves alone before its register acts, and the four things it can come to. -/

namespace Sys2Proof.Machine

/-! ### The record of a one-word frame -/

@[simp] theorem opened_regs (s : State) (m : Master) : (s.opened m).regs = s.regs := by cases m <;> rfl
@[simp] theorem opened_get (s : State) (m : Master) (k : Nat) : (s.opened m).get k = s.get k := by cases m <;> rfl
@[simp] theorem opened_bit (s : State) (m : Master) (k i : Nat) : (s.opened m).bit k i = s.bit k i := by cases m <;> rfl
@[simp] theorem opened_fld (s : State) (m : Master) (k hi lo : Nat) : (s.opened m).fld k hi lo = s.fld k hi lo := by cases m <;> rfl
@[simp] theorem opened_sys (s : State) (m : Master) : (s.opened m).sys = s.sys := by cases m <;> rfl
@[simp] theorem opened_staged (s : State) (m : Master) : (s.opened m).staged = s.staged := by cases m <;> rfl
@[simp] theorem opened_parityBad (s : State) (m : Master) : (s.opened m).parityBad = s.parityBad := by cases m <;> rfl
@[simp] theorem opened_fc (s : State) (m : Master) : (s.opened m).fc = s.fc := by cases m <;> rfl
@[simp] theorem opened_fcLast (s : State) (m : Master) : (s.opened m).fcLast = s.fcLast := by cases m <;> rfl
@[simp] theorem opened_ctxRam (s : State) (m : Master) : (s.opened m).ctxRam = s.ctxRam := by cases m <;> rfl
@[simp] theorem opened_mot (s : State) (m : Master) : (s.opened m).mot = s.mot := by cases m <;> rfl
@[simp] theorem opened_pwm (s : State) (m : Master) : (s.opened m).pwm = s.pwm := by cases m <;> rfl
@[simp] theorem opened_csm (s : State) (m : Master) : (s.opened m).csm = s.csm := by cases m <;> rfl
@[simp] theorem opened_pc (s : State) (m : Master) : (s.opened m).pc = s.pc := by cases m <;> rfl
@[simp] theorem opened_coil (s : State) (m : Master) : (s.opened m).coil = s.coil := by cases m <;> rfl
@[simp] theorem opened_lo (s : State) (m : Master) : (s.opened m).lo = s.lo := by cases m <;> rfl
@[simp] theorem opened_saf (s : State) (m : Master) : (s.opened m).saf = s.saf := by cases m <;> rfl
@[simp] theorem opened_lnk (s : State) (m : Master) : (s.opened m).lnk = s.lnk := by cases m <;> rfl
@[simp] theorem opened_spool (s : State) (m : Master) : (s.opened m).spool = s.spool := by cases m <;> rfl
@[simp] theorem opened_msp (s : State) (m : Master) : (s.opened m).msp = s.msp := by cases m <;> rfl
@[simp] theorem opened_fw (s : State) (m : Master) : (s.opened m).fw = s.fw := by cases m <;> rfl

/-- An internal master's access leaves both ports alone. -/
theorem opened_internal {s : State} {m : Master} (h : m.serial = false) : s.opened m = s.quiet := by cases m <;> first | rfl | cases h

/-! ### What an access comes to -/

/-- A write that reaches its register acts there. -/
theorem access_of_opens {s : State} {m : Master} {k : Nat} (f : State → State) (h : s.opens m (k / 128) = true) :
    s.access m k f = f (s.opened m) := by simp [State.access, h]

/-- A read that reaches its register is answered there. -/
theorem accessRead_of_opensRead {s : State} {m : Master} {k : Nat} (f : State → State) (h : s.opensRead m (k / 128) = true) :
    s.accessRead m k f = f (s.opened m) := by simp [State.accessRead, h]

/-- In a chip reset and in SLEEP a write has no effect. -/
theorem access_closed {s : State} {m : Master} {k : Nat} (f : State → State) (h : s.portOpen = false) : s.access m k f = s.quiet := by
  simp [State.access, State.opens, State.opensRead, h]

/-- In a chip reset and in SLEEP a read has no effect. -/
theorem accessRead_closed {s : State} {m : Master} {k : Nat} (f : State → State) (h : s.portOpen = false) : s.accessRead m k f = s.quiet := by
  simp [State.accessRead, State.opensRead, h]

/-- A write whose page has no clock ends with BUS_TIMEOUT. -/
theorem access_timedOut {s : State} {m : Master} {k : Nat} (f : State → State) (ho : s.portOpen = true)
    (hs : m.serial = false ∨ s.pageServed (k / 128) = true) (hc : s.clockGone (k / 128) = true) :
    s.access m k f = (s.opened m).timedOut m k := by
  rcases hs with hs | hs <;> simp [State.access, State.opens, State.opensRead, ho, hs, hc]

/-- A write acts on its register, ends with BUS_TIMEOUT, or changes no more than the record of its port. -/
theorem access_cases (s : State) (m : Master) (k : Nat) (f : State → State) :
    s.access m k f = f (s.opened m) ∨ s.access m k f = (s.opened m).timedOut m k ∨ s.access m k f = s.opened m ∨ s.access m k f = s.quiet := by
  by_cases h : s.opens m (k / 128) = true
  · exact .inl (access_of_opens f h)
  by_cases ho : s.portOpen = true
  · by_cases hc : ((!m.serial || s.pageServed (k / 128)) && s.clockGone (k / 128)) = true
    · exact .inr (.inl (by simp only [State.access, if_neg h, ho, Bool.not_true, Bool.false_eq_true, if_false, if_pos hc]))
    · exact .inr (.inr (.inl (by simp only [State.access, if_neg h, ho, Bool.not_true, Bool.false_eq_true, if_false, if_neg hc])))
  · exact .inr (.inr (.inr (access_closed f (by simpa using ho))))

/-- What holds of a state where a write of it acts, ends with BUS_TIMEOUT or does nothing, holds after the write. -/
theorem access_induct {P : State → Prop} {s : State} {m : Master} {k : Nat} {f : State → State} (hf : P (f (s.opened m)))
    (ht : P ((s.opened m).timedOut m k)) (ho : P (s.opened m)) (hq : P s.quiet) : P (s.access m k f) := by
  rcases access_cases s m k f with h | h | h | h <;> rw [h] <;> assumption

end Sys2Proof.Machine
end

