-- ==== Sys2Proof/Laws/Maps.lean ====
section
/-! SUPPORT. Sparse maps: what a read after a write gives, and that every operation keeps the canonical form. -/

namespace Sys2Proof.Machine

variable {α : Type}

/-! ### Reading after a change -/

@[simp] theorem spFind_nil (k : Nat) : spFind ([] : List (Nat × α)) k = none := rfl

theorem spFind_cons (k' k : Nat) (v : α) (t : List (Nat × α)) :
    spFind ((k', v) :: t) k = if k' = k then some v else spFind t k := rfl

theorem spFind_spDel (l : List (Nat × α)) (k j : Nat) : spFind (spDel l k) j = if j = k then none else spFind l j := by
  induction l with
  | nil => simp [spDel]
  | cons e t ih =>
    obtain ⟨a, b⟩ := e
    simp only [spDel, spFind_cons]
    by_cases h : a = k
    · subst h; simp only [if_pos, ih]; by_cases hj : j = a
      · simp [hj]
      · simp [hj, Ne.symm hj]
    · simp only [if_neg h, spFind_cons, ih]
      by_cases hj : a = j
      · subst hj; simp [h]
      · simp [hj]

theorem spFind_spIns (l : List (Nat × α)) (k j : Nat) (v : α) (h : spFind l k = none) :
    spFind (spIns l k v) j = if j = k then some v else spFind l j := by
  induction l with
  | nil => simp only [spIns, spFind_cons, spFind_nil, eq_comm]
  | cons e t ih =>
    obtain ⟨a, b⟩ := e
    rw [spFind_cons] at h
    have ha : a ≠ k := by intro e; simp [e] at h
    simp only [ha, if_false] at h
    by_cases hk : k < a
    · simp only [spIns, if_pos hk, spFind_cons, eq_comm]
    · simp only [spIns, if_neg hk, spFind_cons, ih h]
      by_cases hj : a = j
      · subst hj; simp [ha]
      · simp [hj]

theorem spFind_spPut (l : List (Nat × α)) (k j : Nat) (v : α) :
    spFind (spPut l k v) j = if j = k then some v else spFind l j := by
  rw [spPut, spFind_spIns _ _ _ _ (by simp [spFind_spDel]), spFind_spDel]
  by_cases h : j = k <;> simp [h]

theorem spFind_spSet [DecidableEq α] (d : α) (l : List (Nat × α)) (k j : Nat) (v : α) :
    (spFind (spSet d l k v) j).getD d = if j = k then v else (spFind l j).getD d := by
  unfold spSet
  by_cases hv : v = d
  · rw [if_pos hv, spFind_spDel]; by_cases h : j = k <;> simp [h, hv]
  · rw [if_neg hv, spFind_spPut]; by_cases h : j = k <;> simp [h]

/-- A write at one key leaves what every other key reads, whatever that key's default is. -/
theorem spFind_spSet_ne [DecidableEq α] (d : α) (l : List (Nat × α)) {k j : Nat} (v : α) (h : j ≠ k) :
    spFind (spSet d l k v) j = spFind l j := by
  unfold spSet
  by_cases hv : v = d
  · rw [if_pos hv, spFind_spDel, if_neg h]
  · rw [if_neg hv, spFind_spPut, if_neg h]

/-- A filter on keys removes exactly the keys it does not admit. -/
theorem spFind_filter (f : Nat → Bool) (l : List (Nat × α)) (j : Nat) :
    spFind (l.filter fun e => f e.1) j = if f j then spFind l j else none := by
  induction l with
  | nil => simp
  | cons e t ih =>
    obtain ⟨a, b⟩ := e
    rw [List.filter_cons]
    by_cases ha : f a = true
    · simp only [ha, if_true, spFind_cons, ih]
      by_cases hj : a = j
      · subst hj; simp [ha]
      · simp [hj]
    · simp only [ha, spFind_cons]
      by_cases hj : a = j
      · subst hj; simp [ha, ih]
      · simp [hj, ih]

/-! ### The canonical form -/

theorem spSortedFrom_mono {l : List (Nat × α)} {a b : Nat} (hab : a ≤ b) (h : spSortedFrom (some b) l = true) :
    spSortedFrom (some a) l = true := by
  cases l with
  | nil => rfl
  | cons e t =>
    obtain ⟨k, v⟩ := e
    simp only [spSortedFrom, Bool.and_eq_true, decide_eq_true_eq] at h ⊢
    exact ⟨by omega, h.2⟩

theorem spSortedFrom_none {l : List (Nat × α)} {a : Nat} (h : spSortedFrom (some a) l = true) :
    spSortedFrom none l = true := by
  cases l with
  | nil => rfl
  | cons e t =>
    obtain ⟨k, v⟩ := e
    simp only [spSortedFrom, Bool.and_eq_true] at h ⊢
    exact h.2

theorem spSortedFrom_tail {o : Option Nat} {k : Nat} {v : α} {t : List (Nat × α)} (h : spSortedFrom o ((k, v) :: t) = true) :
    spSortedFrom (some k) t = true := by
  cases o with
  | none => exact h
  | some b => simp only [spSortedFrom, Bool.and_eq_true] at h; exact h.2

/-- Any filter keeps rising keys. -/
theorem spSortedFrom_filter (f : Nat × α → Bool) : ∀ (o : Option Nat) (l : List (Nat × α)), spSortedFrom o l = true →
    spSortedFrom o (l.filter f) = true
  | _, [], _ => rfl
  | o, (k, v) :: t, h => by
    have ht := spSortedFrom_tail h
    rw [List.filter_cons]
    split
    · cases o with
      | none => exact spSortedFrom_filter f (some k) t ht
      | some b =>
        simp only [spSortedFrom, Bool.and_eq_true, decide_eq_true_eq] at h ⊢
        exact ⟨h.1, spSortedFrom_filter f (some k) t ht⟩
    · cases o with
      | none => exact spSortedFrom_none (spSortedFrom_filter f (some k) t ht)
      | some b =>
        simp only [spSortedFrom, Bool.and_eq_true, decide_eq_true_eq] at h
        exact spSortedFrom_mono (by omega) (spSortedFrom_filter f (some k) t ht)

theorem spDel_eq_filter (l : List (Nat × α)) (k : Nat) : spDel l k = l.filter fun e => e.1 ≠ k := by
  induction l with
  | nil => rfl
  | cons e t ih =>
    obtain ⟨a, b⟩ := e
    simp only [spDel, List.filter_cons, ih]
    by_cases h : a = k <;> simp [h]

theorem spSortedFrom_spIns : ∀ (o : Option Nat) (l : List (Nat × α)) (k : Nat) (v : α), spSortedFrom o l = true →
    (∀ b, o = some b → b < k) → (∀ e ∈ l, e.1 ≠ k) → spSortedFrom o (spIns l k v) = true
  | o, [], k, v, _, ho, _ => by
    cases o with
    | none => rfl
    | some b => simp [spIns, spSortedFrom, ho b rfl]
  | o, (a, b) :: t, k, v, h, ho, hk => by
    have ht := spSortedFrom_tail h
    have hak : a ≠ k := hk (a, b) (by simp)
    by_cases hlt : k < a
    · rw [spIns, if_pos hlt]
      cases o with
      | none => simp [spSortedFrom, hlt, ht]
      | some c => simp [spSortedFrom, hlt, ht, ho c rfl]
    · rw [spIns, if_neg hlt]
      have hr := spSortedFrom_spIns (some a) t k v ht (by intro b hb; cases hb; omega) (fun e he => hk e (by simp [he]))
      cases o with
      | none => simp [spSortedFrom, hr]
      | some c =>
        simp only [spSortedFrom, Bool.and_eq_true, decide_eq_true_eq] at h ⊢
        exact ⟨h.1, hr⟩

theorem mem_spIns {l : List (Nat × α)} {k : Nat} {v : α} {e : Nat × α} (h : e ∈ spIns l k v) : e = (k, v) ∨ e ∈ l := by
  induction l with
  | nil => simpa [spIns] using h
  | cons x t ih =>
    obtain ⟨a, b⟩ := x
    simp only [spIns] at h
    split at h
    · simpa using h
    · rcases List.mem_cons.1 h with h | h
      · simp [h]
      · rcases ih h with h | h <;> simp [h]

theorem spSorted_spDel {l : List (Nat × α)} (k : Nat) (h : spSorted l = true) : spSorted (spDel l k) = true := by
  rw [spDel_eq_filter]; exact spSortedFrom_filter _ _ _ h

theorem spSorted_spPut {l : List (Nat × α)} (k : Nat) (v : α) (h : spSorted l = true) : spSorted (spPut l k v) = true := by
  refine spSortedFrom_spIns _ _ _ _ (spSorted_spDel k h) (by simp) ?_
  intro e he
  rw [spDel_eq_filter] at he
  simpa using (List.mem_filter.1 he).2

theorem spSorted_filter (f : Nat × α → Bool) {l : List (Nat × α)} (h : spSorted l = true) : spSorted (l.filter f) = true :=
  spSortedFrom_filter f _ _ h

/-- A map is canonical when its keys rise and no entry reads as an unlisted key does; a write keeps that. -/
theorem spSet_canonical [DecidableEq α] (d : Nat → α) {l : List (Nat × α)} (k : Nat) (v : α)
    (hs : spSorted l = true) (hd : ∀ e ∈ l, e.2 ≠ d e.1) :
    spSorted (spSet (d k) l k v) = true ∧ ∀ e ∈ spSet (d k) l k v, e.2 ≠ d e.1 := by
  unfold spSet
  have hdel : ∀ e ∈ spDel l k, e ∈ l := by
    intro e he; rw [spDel_eq_filter] at he; exact (List.mem_filter.1 he).1
  split
  · exact ⟨spSorted_spDel k hs, fun e he => hd e (hdel e he)⟩
  · rename_i hv
    refine ⟨spSorted_spPut k v hs, fun e he => ?_⟩
    rcases mem_spIns he with h | h
    · subst h; exact hv
    · exact hd e (hdel e h)

end Sys2Proof.Machine
end

