-- ==== Sys2Proof/Laws/Registers.lean ====
section
/-! SUPPORT. Registers and the fixed arrays: what a read after a write gives. -/

namespace Sys2Proof.Machine

variable (s : State)

/-! ### Registers -/

theorem State.get_congr {s t : State} (h : t.regs = s.regs) (k : Nat) : t.get k = s.get k := by simp [State.get, h]

theorem State.get_set (k j : Nat) (v : Word) : (s.set k v).get j = if j = k then v else s.get j := by
  unfold State.get State.set
  by_cases h : j = k
  · subst h; simp [spFind_spSet]
  · simp [spFind_spSet_ne _ _ _ h, h]

@[simp] theorem State.get_set_same (k : Nat) (v : Word) : (s.set k v).get k = v := by simp [State.get_set]

theorem State.get_set_ne {k j : Nat} (v : Word) (h : j ≠ k) : (s.set k v).get j = s.get j := by simp [State.get_set, h]

theorem State.get_setBit (k i j : Nat) (b : Bool) :
    (s.setBit k i b).get j = if j = k then putBit (s.get k) i b else s.get j := s.get_set _ _ _

theorem State.get_setFld (k hi lo v j : Nat) :
    (s.setFld k hi lo v).get j = if j = k then putFld (s.get k) hi lo v else s.get j := s.get_set _ _ _

theorem State.get_setWide (k j : Nat) (x : Int) :
    (s.setWide k x).get j = if j = k + 1 then loWord x else if j = k then hiWord x else s.get j := by
  simp only [State.setWide, State.get_set]

@[simp] theorem State.get_onMot (ax : Axis) (f : MotAx → MotAx) (k : Nat) : (s.onMot ax f).get k = s.get k := rfl
@[simp] theorem State.get_onPwm (ax : Axis) (f : PwmAx → PwmAx) (k : Nat) : (s.onPwm ax f).get k = s.get k := rfl
@[simp] theorem State.get_onBr (ax : Axis) (br : Bridge) (f : Bridges → Bridges) (k : Nat) : (s.onBr ax br f).get k = s.get k := rfl
@[simp] theorem State.get_onLeg (ax : Axis) (j : Leg) (f : LegSt → LegSt) (k : Nat) : (s.onLeg ax j f).get k = s.get k := rfl
@[simp] theorem State.get_onCoil (ax : Axis) (f : CoilAx → CoilAx) (k : Nat) : (s.onCoil ax f).get k = s.get k := rfl
@[simp] theorem State.get_onLo (ax : Axis) (f : LoAx → LoAx) (k : Nat) : (s.onLo ax f).get k = s.get k := rfl
@[simp] theorem State.get_onCsm (c : Coil) (f : CsmCoil → CsmCoil) (k : Nat) : (s.onCsm c f).get k = s.get k := rfl
@[simp] theorem State.get_onPc (p : Conv) (f : PcConv → PcConv) (k : Nat) : (s.onPc p f).get k = s.get k := rfl
@[simp] theorem State.get_onCmp (c : Cmp) (f : CmpSt → CmpSt) (k : Nat) : (s.onCmp c f).get k = s.get k := rfl
@[simp] theorem State.get_gatesHeld (ax : Axis) (k : Nat) : (s.gatesHeld ax).get k = s.get k := rfl
@[simp] theorem State.get_gatesOff (ax : Axis) (k : Nat) : (s.gatesOff ax).get k = s.get k := rfl
@[simp] theorem State.get_drop (src k : Nat) : (s.drop src).get k = s.get k := rfl
@[simp] theorem State.get_quiet (k : Nat) : s.quiet.get k = s.get k := rfl
@[simp] theorem State.get_answer (ws : List Word) (k : Nat) : (s.answer ws).get k = s.get k := rfl
@[simp] theorem State.get_busError (k : Nat) : s.busError.get k = s.get k := rfl

@[simp] theorem State.bit_quiet (k i : Nat) : s.quiet.bit k i = s.bit k i := rfl
@[simp] theorem State.fld_quiet (k hi lo : Nat) : s.quiet.fld k hi lo = s.fld k hi lo := rfl

/-! ### Bits and fields of a word -/

theorem bitOf_putBit_same (w : Word) (i : Nat) (b : Bool) (h : i < 32) : bitOf (putBit w i b) i = b := by
  have h1 : (BitVec.ofNat 32 (1 <<< i)).getLsbD i = true := by
    rw [BitVec.getLsbD_ofNat]; simp [h, Nat.one_shiftLeft]
  cases b <;> simp [putBit, bitOf, h, h1]

theorem bitOf_putBit_ne (w : Word) (i j : Nat) (b : Bool) (h : j ≠ i) : bitOf (putBit w i b) j = bitOf w j := by
  by_cases hj : j < 32
  · have h1 : (BitVec.ofNat 32 (1 <<< i)).getLsbD j = false := by
      rw [BitVec.getLsbD_ofNat, Nat.one_shiftLeft, Nat.testBit_two_pow_of_ne (Ne.symm h)]; simp
    cases b <;>
      simp only [putBit, bitOf, if_true, BitVec.getLsbD_or, BitVec.getLsbD_and, BitVec.getLsbD_not, h1, hj, Bool.or_false,
        decide_true, Bool.not_false, Bool.and_true, reduceCtorEq, if_false]
  · have : ∀ x : Word, x.getLsbD j = false := fun x => BitVec.getLsbD_of_ge x j (by omega)
    simp only [bitOf, this]

theorem bitOf_putBit (w : Word) (i j : Nat) (b : Bool) (h : i < 32) :
    bitOf (putBit w i b) j = if j = i then b else bitOf w j := by
  by_cases hj : j = i
  · subst hj; simp [bitOf_putBit_same, h]
  · simp [bitOf_putBit_ne, hj]

theorem State.bit_setBit (k i k' i' : Nat) (b : Bool) (h : i < 32) :
    (s.setBit k i b).bit k' i' = if k' = k ∧ i' = i then b else s.bit k' i' := by
  unfold State.bit
  rw [State.get_setBit]
  by_cases hk : k' = k
  · subst hk; simp [bitOf_putBit _ _ _ _ h]
  · simp [hk]

/-! ### Fixed arrays -/

@[simp] theorem vget_vset_same {α : Type} {n : Nat} (v : Vector α n) (i : Fin n) (x : α) : vget (vset v i x) i = x := by
  simp [vget, vset]

theorem vget_vset_ne {α : Type} {n : Nat} (v : Vector α n) {i j : Fin n} (x : α) (h : j ≠ i) :
    vget (vset v i x) j = vget v j := by
  have : i.val ≠ j.val := fun e => h (Fin.ext e.symm)
  simp [vget, vset, this]

theorem vget_vset {α : Type} {n : Nat} (v : Vector α n) (i j : Fin n) (x : α) :
    vget (vset v i x) j = if j = i then x else vget v j := by
  by_cases h : j = i
  · subst h; simp
  · simp [vget_vset_ne _ _ h, h]

@[simp] theorem vget_replicate {α : Type} (n : Nat) (a : α) (i : Fin n) : vget (Vector.replicate n a) i = a := by
  simp [vget]

theorem State.me_onMot (ax ax' : Axis) (f : MotAx → MotAx) :
    (s.onMot ax f).me ax' = if ax' = ax then f (s.me ax) else s.me ax' := by
  simp only [State.me, State.onMot, vget_vset]

@[simp] theorem State.me_onMot_same (ax : Axis) (f : MotAx → MotAx) : (s.onMot ax f).me ax = f (s.me ax) := by
  simp [State.me_onMot]

@[simp] theorem State.me_set (k : Nat) (v : Word) (ax : Axis) : (s.set k v).me ax = s.me ax := rfl

end Sys2Proof.Machine
end

