-- ==== Sys2Proof/Laws/Fields.lean ====
section
/-! SUPPORT. Bits and fields of a word: what a read after a write of a bit or a field gives. -/

namespace Sys2Proof.Machine

theorem testBit_fldOf (w : Word) (hi lo i : Nat) : (fldOf w hi lo).testBit i = (decide (i < hi + 1 - lo) && bitOf w (lo + i)) := by
  unfold fldOf bitOf
  rw [Nat.testBit_mod_two_pow, Nat.testBit_shiftRight]; rfl

theorem bitOf_maskOf (hi lo i : Nat) (h : hi < 32) (hl : lo ≤ hi) : bitOf (maskOf hi lo) i = (decide (lo ≤ i) && decide (i ≤ hi)) := by
  unfold bitOf maskOf
  rw [BitVec.getLsbD_ofNat, Nat.testBit_shiftLeft, Nat.testBit_two_pow_sub_one]
  by_cases h1 : i < 32 <;> by_cases h2 : lo ≤ i <;> simp [h1, h2] <;> omega

theorem bitOf_putFld (w : Word) (hi lo v i : Nat) (h : hi < 32) (hl : lo ≤ hi) :
    bitOf (putFld w hi lo v) i = if lo ≤ i ∧ i ≤ hi then v.testBit (i - lo) else bitOf w i := by
  have hm := bitOf_maskOf hi lo i h hl
  unfold bitOf at hm
  unfold putFld bitOf
  rw [BitVec.getLsbD_or, BitVec.getLsbD_and, BitVec.getLsbD_not, hm, BitVec.getLsbD_ofNat, Nat.testBit_shiftLeft,
    Nat.testBit_mod_two_pow]
  by_cases h1 : i < 32
  · by_cases h2 : lo ≤ i
    · by_cases h3 : i ≤ hi
      · simp [h1, h2, h3, show i - lo < hi + 1 - lo by omega]
      · simp [h1, h2, h3, show ¬ i - lo < hi + 1 - lo by omega]
    · simp [h1, h2]
  · rw [BitVec.getLsbD_of_ge w i (by omega)]
    simp [h1, show ¬ i ≤ hi by omega]

theorem fldOf_putFld_same (w : Word) (hi lo v : Nat) (h : hi < 32) (hl : lo ≤ hi) :
    fldOf (putFld w hi lo v) hi lo = v % 2 ^ (hi + 1 - lo) := by
  apply Nat.eq_of_testBit_eq
  intro i
  rw [testBit_fldOf, bitOf_putFld _ _ _ _ _ h hl, Nat.testBit_mod_two_pow]
  by_cases hi' : i < hi + 1 - lo
  · simp [hi', show lo ≤ lo + i ∧ lo + i ≤ hi by omega]
  · simp [hi']

theorem fldOf_putFld_other (w : Word) (hi lo v a b : Nat) (h : hi < 32) (hl : lo ≤ hi) (hab : a < lo ∨ hi < b) :
    fldOf (putFld w hi lo v) a b = fldOf w a b := by
  apply Nat.eq_of_testBit_eq
  intro i
  rw [testBit_fldOf, testBit_fldOf, bitOf_putFld _ _ _ _ _ h hl]
  by_cases hi' : i < a + 1 - b
  · rw [if_neg (by omega)]
  · simp [hi']

theorem fldOf_putBit_other (w : Word) (i a b : Nat) (v : Bool) (hab : a < i ∨ i < b) :
    fldOf (putBit w i v) a b = fldOf w a b := by
  apply Nat.eq_of_testBit_eq
  intro j
  rw [testBit_fldOf, testBit_fldOf]
  by_cases hj : j < a + 1 - b
  · rw [bitOf_putBit_ne _ _ _ _ (by omega)]
  · simp [hj]

theorem fldOf_lt (w : Word) (hi lo : Nat) : fldOf w hi lo < 2 ^ (hi + 1 - lo) := Nat.mod_lt _ (by positivity)

variable (s : State)

theorem State.fld_set (k j hi lo : Nat) (v : Word) : (s.set k v).fld j hi lo = if j = k then fldOf v hi lo else s.fld j hi lo := by
  unfold State.fld; rw [State.get_set]; split <;> rfl

theorem State.bit_set (k j i : Nat) (v : Word) : (s.set k v).bit j i = if j = k then bitOf v i else s.bit j i := by
  unfold State.bit; rw [State.get_set]; split <;> rfl

theorem State.fld_setFld_same (k hi lo v : Nat) (h : hi < 32) (hl : lo ≤ hi) :
    (s.setFld k hi lo v).fld k hi lo = v % 2 ^ (hi + 1 - lo) := by
  unfold State.fld; rw [State.get_setFld, if_pos rfl, fldOf_putFld_same _ _ _ _ h hl]

theorem State.fld_setFld_other (k hi lo v j a b : Nat) (h : hi < 32) (hl : lo ≤ hi) (hab : j ≠ k ∨ a < lo ∨ hi < b) :
    (s.setFld k hi lo v).fld j a b = s.fld j a b := by
  unfold State.fld; rw [State.get_setFld]
  by_cases hj : j = k
  · subst hj; rw [if_pos rfl, fldOf_putFld_other _ _ _ _ _ _ h hl (by simpa using hab)]
  · rw [if_neg hj]

theorem State.bit_setFld (k hi lo v j i : Nat) (h : hi < 32) (hl : lo ≤ hi) :
    (s.setFld k hi lo v).bit j i = if j = k ∧ lo ≤ i ∧ i ≤ hi then v.testBit (i - lo) else s.bit j i := by
  unfold State.bit; rw [State.get_setFld]
  by_cases hj : j = k
  · subst hj; simp [bitOf_putFld _ _ _ _ _ h hl]
  · simp [hj]

theorem State.fld_setBit_other (k i j a b : Nat) (v : Bool) (hab : j ≠ k ∨ a < i ∨ i < b) :
    (s.setBit k i v).fld j a b = s.fld j a b := by
  unfold State.fld; rw [State.get_setBit]
  by_cases hj : j = k
  · subst hj; rw [if_pos rfl, fldOf_putBit_other _ _ _ _ _ (by simpa using hab)]
  · rw [if_neg hj]

/-- A bit of a register read as a bit of a field. -/
theorem State.testBit_fld (k hi lo i : Nat) : (s.fld k hi lo).testBit i = (decide (i < hi + 1 - lo) && s.bit k (lo + i)) :=
  testBit_fldOf _ _ _ _

end Sys2Proof.Machine
end

