-- ==== Sys2Proof/Laws/Resets.lean ====
section
/-! SUPPORT. What a block reset and a raise of the collector can do, said once. -/

namespace Sys2Proof.Machine

/-- `t` differs from `s` at most where a block reset acts: registers, the condition bits, the blocks with a page of their own, and the list
of block resets in progress. -/
def WithinBlocks (s t : State) : Prop :=
  t = { s with
    regs := t.regs, staged := t.staged, parityBad := t.parityBad, fcPresent := t.fcPresent
    sys := { s.sys with blockRst := t.sys.blockRst }
    mot := t.mot, pwm := t.pwm, csm := t.csm, pc := t.pc, cmp := t.cmp, coil := t.coil, lo := t.lo, msp := t.msp, lnk := t.lnk }

theorem WithinBlocks.refl (s : State) : WithinBlocks s s := rfl

theorem WithinBlocks.trans {s t u : State} (h : WithinBlocks s t) (g : WithinBlocks t u) : WithinBlocks s u := by
  unfold WithinBlocks at *
  rw [g, h]

theorem WithinBlocks.foldl {α : Type} {f : State → α → State} (hf : ∀ s a, WithinBlocks s (f s a)) (l : List α) :
    ∀ s, WithinBlocks s (l.foldl f s) := by
  induction l with
  | nil => intro s; exact .refl s
  | cons a t ih => intro s; exact (hf s a).trans (ih _)

theorem settleParity_within (s : State) (p : Nat) : WithinBlocks s (s.settleParity p) := by
  unfold State.settleParity; split <;> rfl

theorem dropGate_within (s : State) (ax : Axis) : WithinBlocks s (s.dropGate ax) := rfl

theorem set_within (s : State) (k : Nat) (v : Word) : WithinBlocks s (s.set k v) := rfl
theorem onMot_within (s : State) (ax : Axis) (f : MotAx → MotAx) : WithinBlocks s (s.onMot ax f) := rfl
theorem resetPage_within (s : State) (p : Nat) (keep : Nat → Bool) : WithinBlocks s (s.resetPage p keep) := rfl
theorem drop_within (s : State) (n : Nat) : WithinBlocks s (s.drop n) := rfl

theorem movePos_within (s : State) (ax : Axis) (x : Int) : WithinBlocks s (s.movePos ax x) := by
  unfold State.movePos State.setFld
  exact (set_within _ _ _).trans (onMot_within _ _ _)

theorem resetMe_within (s : State) (ax : Axis) : WithinBlocks s (s.resetMe ax) := by
  unfold State.resetMe
  exact ((((movePos_within s ax 0).trans (resetPage_within _ _ _)).trans (set_within _ _ _)).trans (set_within _ _ _)).trans (onMot_within _ _ _)

theorem resetPwm_within (s : State) (ax : Axis) : WithinBlocks s (s.resetPwm ax) := rfl
theorem resetGd_within (s : State) (ax : Axis) : WithinBlocks s (s.resetGd ax) := rfl
theorem resetCoil_within (s : State) (ax : Axis) : WithinBlocks s (s.resetCoil ax) := rfl
theorem resetCsm_within (s : State) : WithinBlocks s s.resetCsm := rfl
theorem resetPc_within (s : State) (p : Conv) : WithinBlocks s (s.resetPc p) := rfl
theorem resetMsp_within (s : State) : WithinBlocks s s.resetMsp := rfl
theorem resetSpl_within (s : State) : WithinBlocks s s.resetSpl := rfl

theorem resetCmp_within (s : State) : WithinBlocks s s.resetCmp := by
  unfold State.resetCmp forAll
  exact WithinBlocks.trans (t := { (s.resetPage 0x48 fun _ => false) with cmp := Vector.replicate 16 {} }) rfl
    (WithinBlocks.foldl (fun s _ => drop_within s _) _ _)

theorem resetLink_within (s : State) : WithinBlocks s s.resetLink := by
  unfold State.resetLink
  refine WithinBlocks.trans ?_ (WithinBlocks.foldl (fun s i => drop_within s (112 + i)) _ _)
  rfl

/-- A block reset changes nothing outside the blocks. -/
theorem blockReset_within (s : State) (p : Nat) : WithinBlocks s (s.blockReset p) := by
  unfold State.blockReset
  split
  · exact .refl s
  · refine WithinBlocks.trans (t := { s with sys := { s.sys with blockRst := p :: s.sys.blockRst.filter (· ≠ p) } }) rfl ?_
    refine WithinBlocks.trans ?_ (settleParity_within _ _)
    generalize ({ s with sys := { s.sys with blockRst := p :: s.sys.blockRst.filter (· ≠ p) } } : State) = u
    split_ifs
    · exact resetMe_within _ _
    · exact resetCoil_within _ _
    · exact resetPwm_within _ _
    · exact resetGd_within _ _
    · exact resetCsm_within _
    · exact resetPc_within _ _
    · exact resetCmp_within _
    · exact resetLink_within _
    · exact resetMsp_within _
    · exact resetSpl_within _

/-! ### Registers under a block reset -/

theorem get_resetPage (s : State) (p : Nat) (keep : Nat → Bool) (k : Nat) :
    (s.resetPage p keep).get k = if k / 128 ≠ p ∨ keep (k % 128) = true then s.get k else regReset k := by
  unfold State.get State.resetPage
  have h := spFind_filter (fun k => decide (k / 128 ≠ p) || keep (k % 128)) s.regs k
  simp only [h]
  by_cases h1 : k / 128 = p
  · by_cases h2 : keep (k % 128) = true <;> simp [h1, h2]
  · simp [h1]

/-- A page that no block reset acts on. -/
def untouchedPage (k : Nat) : Prop := k / 128 < 0x10 ∨ k / 128 = 0x18 ∨ k / 128 = 0x38 ∨ k / 128 = 0x45 ∨ k / 128 = 0x50 ∨ 0x62 ≤ k / 128

theorem get_foldl_drop (l : List Nat) (f : Nat → Nat) (k : Nat) : ∀ s : State,
    (l.foldl (fun s i => s.drop (f i)) s).get k = s.get k := by
  induction l with
  | nil => intro s; rfl
  | cons a t ih => intro s; simp only [List.foldl_cons, ih]; rfl

theorem get_settleParity (s : State) (p k : Nat) : (s.settleParity p).get k = s.get k := by
  unfold State.settleParity; split <;> rfl

theorem get_set_far (s : State) {k j : Nat} (v : Word) (h : j / 128 ≠ k / 128) : (s.set k v).get j = s.get j :=
  s.get_set_ne v fun e => h (by rw [e])

theorem get_resetPage_far (s : State) {p : Nat} (keep : Nat → Bool) {k : Nat} (h : k / 128 ≠ p) :
    (s.resetPage p keep).get k = s.get k := by simp [get_resetPage, h]

/-- A block reset leaves the registers of every page that SYS_BRST does not admit. -/
theorem get_blockReset (s : State) (p k : Nat) (h : untouchedPage k) : (s.blockReset p).get k = s.get k := by
  unfold State.blockReset
  split
  · rfl
  · rw [get_settleParity]
    rename_i hp
    have hp : brstAdmits p = true := by
      by_contra hc
      exact hp (Or.inr (by simpa using hc))
    simp only [brstAdmits, Bool.or_eq_true, Bool.and_eq_true, decide_eq_true_eq] at hp
    unfold untouchedPage at h
    generalize hu : ({ s with sys := { s.sys with blockRst := p :: s.sys.blockRst.filter (· ≠ p) } } : State) = u
    have hus : s.get k = u.get k := by rw [← hu]; rfl
    rw [hus]
    have hax := (axisAt p).isLt
    split_ifs
    · unfold State.resetMe State.movePos
      simp only [State.get_onMot]
      rw [get_set_far _ _ (by unfold R.LO_KF regKey; omega), get_set_far _ _ (by unfold R.ME_EOFS regKey; omega), get_resetPage_far _ _ (by omega)]
      simp only [State.get_onMot]
      exact get_set_far _ _ (by unfold R.ME_EOFS regKey; omega)
    · unfold State.resetCoil
      simp only [State.get_drop, State.get_onLo, State.get_onCoil]
      rw [get_set_far _ _ (by unfold R.PWM_THR regKey; omega), get_resetPage_far _ _ (by omega)]
    · unfold State.resetPwm State.dropVds State.setFld
      simp only [State.get_drop, State.get_onPwm]
      rw [get_set_far _ _ (by unfold R.GD_FLT regKey; omega)]
      simp only [State.get_drop, State.get_onPwm]
      rw [get_resetPage_far _ _ (by omega), State.get_gatesOff]
    · unfold State.resetGd State.dropGate
      simp only [State.get_drop]
      rw [get_resetPage_far _ _ (by omega), State.get_gatesOff]
    · exact Eq.trans (b := (u.resetPage 0x40 fun _ => false).get k) rfl (get_resetPage_far _ _ (by omega))
    · exact Eq.trans (b := (u.resetPage (0x41 + (p - 0x41) % 4) fun _ => false).get k) rfl (get_resetPage_far _ _ (by omega))
    · unfold State.resetCmp forAll
      have : ∀ (l : List (Fin 8)) (x : State), (l.foldl (fun s w => s.drop (104 + w)) x).get k = x.get k := by
        intro l; induction l with
        | nil => intro x; rfl
        | cons a t ih => intro x; rw [List.foldl_cons, ih]; rfl
      rw [this]
      exact Eq.trans (b := (u.resetPage 0x48 fun _ => false).get k) rfl (get_resetPage_far _ _ (by omega))
    · unfold State.resetLink
      simp only []
      rw [get_foldl_drop]
      refine Eq.trans (get_set_far _ _ (by unfold R.LNK_STAT regKey; omega)) ?_
      exact get_resetPage_far _ _ (by omega)
    · exact Eq.trans (b := (u.resetPage 0x60 fun _ => false).get k) rfl (get_resetPage_far _ _ (by omega))
    · exact get_resetPage_far _ _ (by omega)

theorem get_foldl_blockReset (l : List Nat) (k : Nat) (h : untouchedPage k) : ∀ s : State,
    (l.foldl State.blockReset s).get k = s.get k := by
  induction l with
  | nil => intro s; rfl
  | cons a t ih => intro s; rw [List.foldl_cons, ih, get_blockReset _ _ _ h]

end Sys2Proof.Machine
end

