-- ==== Sys2Proof/Laws/Raises.lean ====
section
/-! SUPPORT. What a raise of the collector does, said once: the record it latches, and that a raise whose reaction resets nothing changes
only the collector. -/

namespace Sys2Proof.Machine

/-- `t` differs from `s` at most in the collector's records, its last source and a held NMI. -/
def OnlyRecords (s t : State) : Prop :=
  t = { s with fc := t.fc, fcLast := t.fcLast, sys := { s.sys with nmiHeld := t.sys.nmiHeld } }

theorem OnlyRecords.refl (s : State) : OnlyRecords s s := rfl

theorem OnlyRecords.trans {s t u : State} (h : OnlyRecords s t) (g : OnlyRecords t u) : OnlyRecords s u := by
  unfold OnlyRecords at *
  rw [g, h]

theorem record_only (s : State) (src : Nat) (d : Word) : OnlyRecords s (s.record src d) := by
  unfold State.record
  split <;> rfl

theorem OnlyRecords.regs {s t : State} (h : OnlyRecords s t) : t.regs = s.regs := by rw [h]

theorem OnlyRecords.get {s t : State} (h : OnlyRecords s t) (k : Nat) : t.get k = s.get k := State.get_congr h.regs k

theorem applied_congr {s t : State} (hr : t.regs = s.regs) (hf : t.fcSafe = s.fcSafe) (src : Nat) (d : Word) :
    t.applied src d = s.applied src d := by
  unfold State.applied State.reaction State.bit
  simp only [hf, State.get_congr hr]

/-- A raise whose reaction resets nothing latches its record and does nothing else. -/
theorem raise_plain {s : State} {src : Nat} {d : Word} (h : Plain s src d) : s.raise src d = s.record src d := by
  obtain ⟨h1, h2⟩ := h
  unfold State.raise State.raises
  simp only [h1, Bool.false_eq_true, if_false]
  by_cases hs : src < 126
  · have h3 : (s.applied src d).1 ≠ 3 := by omega
    have h4 : (s.applied src d).1 ≠ 4 := by omega
    simp [hs, h3, h4]
  · simp [hs, State.record, Nat.le_of_not_lt hs]

/-- The record a raise latches (R339). -/
theorem record_raised {s : State} {src : Nat} (d : Word) (h : src < 126) : RaisedIn s (s.record src d) src d := by
  have hl : ¬126 ≤ src := by omega
  have hrec : (s.record src d).fcRec src
      = raisedRec (s.fcRec src) (s.applied src d).1 (s.applied src d).2 s.sys.time d := by
    unfold State.record
    simp only [hl, if_false, State.fcRec, State.setFcRec, spFind_spSet, if_true]
  have hlast : (s.record src d).fcLast = src := by
    unfold State.record; simp only [hl, if_false]
  refine ⟨?_, hlast, ?_, ?_⟩
  · rw [hrec]; unfold raisedRec; split <;> simp_all
  · intro hn; rw [hrec]; simp [raisedRec, hn]
  · intro hn; rw [hrec]; simp only [raisedRec, hn, if_true, and_true]; split <;> omega

theorem raise_raised {s : State} {src : Nat} {d : Word} (hp : Plain s src d) (h : src < 126) : RaisedIn s (s.raise src d) src d := by
  rw [raise_plain hp]; exact record_raised d h

theorem raise_only {s : State} {src : Nat} {d : Word} (hp : Plain s src d) : OnlyRecords s (s.raise src d) := by
  rw [raise_plain hp]; exact record_only s src d

/-- `t` differs from `s` at most where raises without a chip reset act: the collector's records, and the blocks that BRST resets. -/
def WithinRaises (s t : State) : Prop :=
  t = { s with
    fc := t.fc, fcLast := t.fcLast
    regs := t.regs, staged := t.staged, parityBad := t.parityBad, fcPresent := t.fcPresent
    sys := { s.sys with nmiHeld := t.sys.nmiHeld, blockRst := t.sys.blockRst }
    mot := t.mot, pwm := t.pwm, csm := t.csm, pc := t.pc, cmp := t.cmp, coil := t.coil, lo := t.lo, msp := t.msp, lnk := t.lnk }

theorem foldl_record_only (l : List (Nat × Word)) : ∀ s : State, OnlyRecords s (l.foldl (fun s e => s.record e.1 e.2) s) := by
  induction l with
  | nil => intro s; exact .refl s
  | cons a t ih => intro s; exact (record_only s a.1 a.2).trans (ih _)

/-- Raises of which none has the reaction CRST change the records and the blocks they reset, and nothing else. -/
theorem raises_within {s : State} {rs : List (Nat × Word)} (h : ∀ e ∈ rs, (s.applied e.1 e.2).1 ≠ 4) :
    WithinRaises s (s.raises rs) ∧ ∀ k, untouchedPage k → (s.raises rs).get k = s.get k := by
  unfold State.raises
  by_cases hc : s.sys.chipReset = true
  · rw [if_pos hc]; exact ⟨rfl, fun _ _ => rfl⟩
  · have hn : ((rs.filter fun e => decide (e.1 < 126)).filter fun e => decide ((s.applied e.1 e.2).1 = 4)) = [] := by
      rw [List.filter_eq_nil_iff]
      intro e he
      simpa using h e (List.mem_filter.1 he).1
    simp only [hc, Bool.false_eq_true, if_false, hn, List.map_nil]
    have h1 := foldl_record_only (rs.filter fun e => decide (e.1 < 126)) s
    have h2 := WithinBlocks.foldl (f := State.blockReset) blockReset_within
      (((rs.filter fun e => decide (e.1 < 126)).filter fun e => decide ((s.applied e.1 e.2).1 = 3)).flatMap
        fun e => brstTargets e.1 e.2).eraseDups
      ((rs.filter fun e => decide (e.1 < 126)).foldl (fun s e => s.record e.1 e.2) s)
    refine ⟨?_, fun k hk => ?_⟩
    · unfold WithinRaises
      unfold WithinBlocks at h2
      unfold OnlyRecords at h1
      rw [h2, h1]
    · rw [get_foldl_blockReset _ _ hk]
      exact h1.get k

/-- A condition that starts is raised; one already present is not (R333). -/
theorem raiseLevel_absent {s : State} {src : Nat} (d : Word) (h : s.present src = false) :
    s.raiseLevel src d = State.raise { s with fcPresent := bvPut s.fcPresent src true } src d := by
  simp [State.raiseLevel, h]

theorem raiseLevel_present {s : State} {src : Nat} (d : Word) (h : s.present src = true) : s.raiseLevel src d = s := by
  simp [State.raiseLevel, h]

theorem getLsbD_bvPut {w : Nat} (v : BitVec w) (i j : Nat) (b : Bool) (h : i < w) :
    (bvPut v i b).getLsbD j = if j = i then b else v.getLsbD j := by
  by_cases hj : j < w
  · have h1 : ∀ n, (BitVec.ofNat w (1 <<< n)).getLsbD j = decide (n = j) := by
      intro n
      rw [BitVec.getLsbD_ofNat, Nat.one_shiftLeft, Nat.testBit_two_pow]; simp [hj]
    unfold bvPut
    cases b <;>
      simp only [if_true, if_false, BitVec.getLsbD_or, BitVec.getLsbD_and, BitVec.getLsbD_not, h1, hj, Bool.false_eq_true,
        decide_true, Bool.true_and] <;>
      by_cases hji : i = j <;> simp [hji, eq_comm (a := j) (b := i)]
  · have hne : j ≠ i := by omega
    simp [BitVec.getLsbD_of_ge _ j (by omega : w ≤ j), hne]

/-- `t` differs from `s` at most in the collector: its records, its last source, a held NMI and the condition bits. -/
def OnlyCollector (s t : State) : Prop :=
  t = { s with fc := t.fc, fcLast := t.fcLast, fcPresent := t.fcPresent, sys := { s.sys with nmiHeld := t.sys.nmiHeld } }

theorem OnlyCollector.refl (s : State) : OnlyCollector s s := rfl

theorem OnlyCollector.trans {s t u : State} (h : OnlyCollector s t) (g : OnlyCollector t u) : OnlyCollector s u := by
  unfold OnlyCollector at *
  rw [g, h]

theorem OnlyRecords.collector {s t : State} (h : OnlyRecords s t) : OnlyCollector s t := by
  unfold OnlyRecords at h; unfold OnlyCollector; rw [h]

theorem OnlyCollector.regs {s t : State} (h : OnlyCollector s t) : t.regs = s.regs := by rw [h]
theorem OnlyCollector.get {s t : State} (h : OnlyCollector s t) (k : Nat) : t.get k = s.get k := State.get_congr h.regs k
theorem OnlyCollector.bit {s t : State} (h : OnlyCollector s t) (k i : Nat) : t.bit k i = s.bit k i := by
  unfold State.bit; rw [h.get]
theorem OnlyCollector.fld {s t : State} (h : OnlyCollector s t) (k i j : Nat) : t.fld k i j = s.fld k i j := by
  unfold State.fld; rw [h.get]

theorem drop_only (s : State) (src : Nat) : OnlyCollector s (s.drop src) := rfl

/-- A condition that starts, with a reaction that resets nothing: raised, present, and nothing else changed. -/
theorem raiseLevel_spec {s : State} {src : Nat} {d : Word} (ha : s.present src = false) (hp : Plain s src d) (h : src < 126) :
    RaisedIn s (s.raiseLevel src d) src d ∧ (s.raiseLevel src d).present src = true ∧ OnlyCollector s (s.raiseLevel src d) := by
  rw [raiseLevel_absent d ha]
  have hp' : Plain ({ s with fcPresent := bvPut s.fcPresent src true } : State) src d := hp
  have ho := raise_only hp'
  refine ⟨raise_raised hp' h, ?_, OnlyCollector.trans (t := { s with fcPresent := bvPut s.fcPresent src true }) rfl ho.collector⟩
  unfold State.present
  rw [ho]
  show (bvPut s.fcPresent src true).getLsbD src = true
  rw [getLsbD_bvPut _ _ _ _ (by omega)]; simp

@[simp] theorem present_drop (s : State) (src : Nat) (h : src < 128) : (s.drop src).present src = false := by
  show (bvPut s.fcPresent src false).getLsbD src = false
  rw [getLsbD_bvPut _ _ _ _ h]; simp

/-- Whether a raise is plain depends on the reset in progress, the collector's safe state and two registers alone. -/
theorem plain_congr {s t : State} {src : Nat} {d : Word} (hc : t.sys.chipReset = s.sys.chipReset) (hf : t.fcSafe = s.fcSafe)
    (h1 : t.get R.FC_CTL = s.get R.FC_CTL) (h2 : t.get (R.FC_SRC src) = s.get (R.FC_SRC src)) (h : Plain s src d) : Plain t src d := by
  unfold Plain State.applied State.reaction State.bit at *
  rw [hc, hf, h1, h2]; exact h

theorem raisedIn_congr {s t u : State} {src : Nat} {d : Word} (h1 : t.fc = s.fc) (h2 : t.sys.time = s.sys.time) (h : RaisedIn t u src d) :
    RaisedIn s u src d := by
  unfold RaisedIn State.fcRec at *
  rw [h1, h2] at h; exact h

end Sys2Proof.Machine
end

