-- ==== Sys2Proof/Machine/Pins.lean ====
section
/-! DEFINITION. What the output balls of the axes show (R45, R46, R180 to R182). FAULT_N, IRQ_N and SOUT are given beside the blocks that drive
them. -/

namespace Sys2Proof.Machine

/-- RESET_N is driven low by the device: during POR and BOR (R42, R63). -/
def State.resetNLow (s : State) : Bool := s.sys.chipReset && s.sys.cold

/-- The level at which MSCK idles: low from any chip reset on, high in SPI mode 3 (R44, R399). -/
def State.msckIdle (s : State) : Bool := !s.sys.chipReset && s.bit R.MSP_CFG 8

/-- MCS0 to MCS3: all high with no select asserted, one low in direct mode, the code in decoded mode (R44, R403, R405). -/
def State.mcs (s : State) : BitVec 4 :=
  if s.sys.chipReset || s.msp.sel = 15 then 15#4
  else if s.bit R.MSP_CFG 16 then BitVec.ofNat 4 s.msp.sel
  else ~~~(1#4 <<< s.msp.sel)

/-- The first bit that the entry in progress places on MMOSI: the top bit of its TXD, or 1 of the 0xFF sent with TXEN 0 (R399, R400); none
without an entry, for which the spec gives no level. -/
def State.mmosi (s : State) : Option Bool := s.msp.cur.map fun e => ((entryBytes e).getD 0 0#8).getLsbD 7

/-- STAT of an axis in the door role: 1 while at rest at its goal, with no obstacle hold and no latched fault on the axis; 0 while it is
disabled (R45, R180, R182). -/
def State.statDoor (s : State) (ax : Axis) : Bool :=
  let m := s.me ax
  s.meEn ax && m.vel = 0 && m.acc = 0 && m.goal = some m.rpos && m.obs ≠ .hold && !s.axisFault ax

/-- The output ball AXIO4n+3 of an axis by its role: STALL, or STAT; none before READY, while the ball is an input (R45, R46). -/
def State.axioOut (s : State) (ax : Axis) : Option Bool :=
  if !s.ready then none
  else some (match vget s.roles ax with
    | .stepDir => bitOf (s.meStat ax) 6
    | .door => s.statDoor ax
    | .encoder => s.meEn ax && !s.axisFault ax)

end Sys2Proof.Machine
end

