-- ==== Sys2Proof/WellFormed.lean ====
section
/-! DEFINITION. Which commands the spec's environment can bring: operands of commands within the ranges that the spec gives them. The
meanings are total and do not rely on it. -/

namespace Sys2Proof

/-- Words of 256 bits in a darned memory (R24). -/
def darnWords : DarnMem → Nat
  | .exec => 32768 | .link => 8192 | .srom => 4096 | .wj => 8192
  | .ctx | .safe | .ret | .erom => 2048

/-- A delta-sigma code is a signed 16-bit number (R273). -/
def wfSample (x : ModSample) : Bool := -32768 ≤ x.code && x.code < 32768

/-- Strap sets hold eight samples each; at most four sets are taken (R47). -/
def wfSets (sets : List (List StrapSample)) : Bool := 0 < sets.length && sets.length ≤ 4 && sets.all fun l => l.length = 8

/-- A spool device of 8 MB to 4 GB (R372). -/
def wfProbe (p : SpoolProbe) : Bool := !p.sfdp || (0 < p.capUnits && p.capUnits ≤ 65536)

/-- The payload of a regular frame: LEN runs from 0 to 15 (R350). -/
def wfFrame (f : LinkFrame) : Bool := f.payload.length ≤ 15

/-- The checks on a command's operands. -/
def Instr.wf (i : Instr) : Bool :=
  match i with
  | .powerOn => true
  | .brownOut _ => true
  | .reverseConnection => true
  | .pinReset => true
  | .chipResetEnd => true
  | .strapLatch sets isetMv => wfSets sets && isetMv < 4096
  | .bootSequence probe => wfProbe probe
  | .trialConfirm => true
  | .openEndLearning _ => true
  | .vsupWarnAssert _ => true
  | .vsupWarnRelease _ => true
  | .rideThroughEnd => true
  | .vgUvAssert => true
  | .vgUvRelease => true
  | .vioLimit _ => true
  | .crst _ _ => true
  | .execrst _ => true
  | .linkrst _ => true
  | .blockReset _ _ => true
  | .blockResetEnd _ => true
  | .watchdogKick _ _ => true
  | .watchdogExpiry => true
  | .handoverWindowClose => true
  | .axisClaim _ _ => true
  | .runRequest _ _ => true
  | .pllbRelock => true
  | .standbyRequest _ _ => true
  | .sleepRequest _ _ => true
  | .idleEntry => true
  | .idleExit _ => true
  | .wake src _ => src &&& 0xFFC00000#32 = 0#32
  | .wakeTimerExpiry _ => true
  | .presNChange _ _ => true
  | .presenceExpiry => true
  | .motionTick cycles => 0 < cycles && cycles ≤ 10000
  | .timedStart _ => true
  | .restDelayExpiry _ => true
  | .recloseDelayExpiry _ => true
  | .motionEvent _ => true
  | .stepEdge _ => true
  | .enaFall _ => true
  | .encoderEdge _ _ => true
  | .encoderZEdge _ => true
  | .ctxAllocRead _ => true
  | .ctxWordWrite _ _ _ => true
  | .ctxCmdStart _ _ _ => true
  | .ctxCmdAbort _ _ => true
  | .ctxCmdRelease _ _ => true
  | .meCtlHalt _ _ _ => true
  | .obscont _ _ => true
  | .obsabort _ _ => true
  | .ferrclr _ _ => true
  | .mePosWrite _ _ _ _ => true
  | .meDisable _ _ => true
  | .haltAllHold _ => true
  | .haltAllRelease _ => true
  | .fastPathSample xs => xs.length = 16 && xs.all wfSample
  | .alignedSample _ x => wfSample x
  | .finePathSample xs => xs.length = 16 && xs.all wfSample
  | .observerValid _ => true
  | .observerLock _ => true
  | .backEmfCollapse _ => true
  | .pressProbeStart _ => true
  | .pressProbeHalfWindow _ => true
  | .waveTableCheck _ _ => true
  | .crWdataWrite _ _ _ => true
  | .crOvrWrite _ _ _ => true
  | .periodBoundary _ _ => true
  | .commutation _ _ _ => true
  | .turnOnStart _ _ => true
  | .interlockTimeout _ _ => true
  | .maskEnd _ _ _ _ => true
  | .regTrip _ _ _ => true
  | .ilimTrip _ _ _ => true
  | .maxOnTime _ _ => true
  | .offTimeEnd _ _ => true
  | .onTimeEnd _ _ => true
  | .periodMaxEnd _ _ => true
  | .tackFire _ _ _ => true
  | .commit _ _ => true
  | .latchClear _ _ _ => true
  | .pendingClearApply _ _ => true
  | .pwmEnable _ _ => true
  | .pwmDisable _ _ => true
  | .vdsShort _ _ _ _ => true
  | .hardShort _ _ _ => true
  | .bootstrapUvAssert _ _ => true
  | .bootstrapUvRelease _ _ => true
  | .gateBudgetWindow _ => true
  | .prech _ _ => true
  | .prechargeEnd _ => true
  | .diag _ _ => true
  | .diagComplete _ _ _ _ _ => true
  | .stest _ _ => true
  | .selftestComplete _ _ => true
  | .gdWrepWrite _ _ _ => true
  | .csmEnable _ => true
  | .csmCcfgWrite _ _ _ => true
  | .modulatorOverload _ _ => true
  | .rstart _ _ => true
  | .rstop _ _ => true
  | .istart _ _ => true
  | .injectedTrigger _ => true
  | .rsync _ => true
  | .isync _ => true
  | .pcSettleEnd _ => true
  | .pcEntryResult _ code _ => -8388608 ≤ code && code < 8388608
  | .cal _ _ _ => true
  | .calComplete _ codes _ => codes.length = 4 && codes.all fun c => -8388608 ≤ c && c < 8388608
  | .comparatorResolve _ _ => true
  | .comparatorEdge _ _ => true
  | .cmpAlarmNotify _ => true
  | .cmpCcfgWrite _ _ _ => true
  | .tieRelease _ => true
  | .stoChange _ _ _ => true
  | .stoDiscrepancy _ _ => true
  | .discrepancyClear _ _ => true
  | .stoQualified _ _ => true
  | .sealSample _ _ => true
  | .selvedgeSinc2Result xs => xs.length = 16 && xs.all wfSample
  | .safeCurrentEval => true
  | .standstillDeclare _ _ => true
  | .standstillWithdraw _ _ => true
  | .crossComparison => true
  | .enableReadbackFail _ _ => true
  | .enableDecay _ => true
  | .soutReadbackFail _ _ => true
  | .darkPulseStart _ => true
  | .darkPulseEnd _ _ => true
  | .stop => true
  | .ceil => true
  | .sense => true
  | .clear => true
  | .safeCoreReady _ _ => true
  | .selvedgeReady _ _ => true
  | .safeRomCheck _ => true
  | .safeWatchdogExpiry => true
  | .clockMonitorWindow _ _ => true
  | .pllLockLoss _ _ => true
  | .busTimeout _ _ _ => true
  | .timTimeWrite _ _ _ => true
  | .timerAlarm _ => true
  | .darnedMemoryRead _ mem word _ => word < darnWords mem
  | .narrowMemoryWrite _ mem word _ _ _ => word < darnWords mem && mem ≠ .erom && mem ≠ .srom
  | .scrubVisit visits => visits.all fun v => v.2.1 < darnWords v.1
  | .parityScrub _ _ => true
  | .sysDarnclr _ _ same => same.all fun e => e.2 < darnWords e.1
  | .registerWrite _ _ width _ => width = 1 || width = 2 || width = 4
  | .writeFrame _ cmd _ _ => cmd &&& 0x80#8 = 0#8
  | .readFrame _ cmd _ _ _ => cmd &&& 0x80#8 ≠ 0#8
  | .hspPageWrite _ _ => true
  | .hspReadyWrite _ _ => true
  | .maintenanceModeWrite _ _ => true
  | .testModeEntry => true
  | .mailboxMsgWrite _ _ _ _ => true
  | .mailboxGo _ _ _ => true
  | .mailboxTake _ _ => true
  | .wordPost _ _ _ => true
  | .wordTake _ _ => true
  | .bindingWrite _ _ _ => true
  | .bindingLock _ _ => true
  | .flagWrite _ _ _ _ => true
  | .attnWrite _ _ => true
  | .dbmaskWrite _ _ _ => true
  | .eventPost _ => true
  | .longOpEnd _ _ _ => true
  | .relayTimeout _ => true
  | .deferredReset => true
  | .opGetId _ => true
  | .opGetStatus _ => true
  | .opSetPower _ => true
  | .opReset _ => true
  | .opGetTime _ => true
  | .opSetTime _ => true
  | .opPing _ => true
  | .opSetEvents _ => true
  | .opAxisEn _ => true
  | .opSetRole _ => true
  | .opSetMotor _ => true
  | .opSetCurrent _ => true
  | .opSetCommut _ => true
  | .opSetDoor _ => true
  | .opGetAxis _ => true
  | .opIdentify _ => true
  | .opGetIdent _ => true
  | .opLoadWave _ => true
  | .opCtxAlloc _ => true
  | .opCtxLoad _ => true
  | .opCtxStart _ => true
  | .opCtxAbort _ => true
  | .opCtxRelease _ => true
  | .opCtxStatus _ => true
  | .opMoveTo _ => true
  | .opJog _ => true
  | .opHome _ => true
  | .opHalt _ => true
  | .opSetPos _ => true
  | .opResume _ => true
  | .opObstRel _ => true
  | .opDoor _ => true
  | .opSetLimits _ => true
  | .opSetEnergy _ => true
  | .opSetForce _ => true
  | .opSetCeiling _ => true
  | .opGetSafety _ => true
  | .opSafeStop _ => true
  | .opSetSupply _ => true
  | .opPcEntry _ => true
  | .opPcRun _ => true
  | .opPcRead _ => true
  | .opPcCal _ => true
  | .opRefCtl _ => true
  | .opCmpSet _ => true
  | .opCmpRead _ => true
  | .opCmpCheck _ => true
  | .opCoilRead _ => true
  | .opFaultList _ => true
  | .opFaultGet _ => true
  | .opFaultClr _ => true
  | .opFaultReact _ => true
  | .opLogInfo _ => true
  | .opLogRead _ => true
  | .opLogMark _ => true
  | .opOdometer _ => true
  | .opSetRead _ => true
  | .opSetWrite _ => true
  | .opSetCommit _ => true
  | .opSetCapture _ => true
  | .opFwWrite _ => true
  | .opFwVerify _ => true
  | .opFwSwitch _ => true
  | .opLinkStatus _ => true
  | .opEnumerate _ => true
  | .opWorkerMap _ => true
  | .opGroup _ => true
  | .opSetOrphan _ => true
  | .opSetRelay _ => true
  | .opWiringCheck _ => true
  | .opGdSelftest _ => true
  | .opPressProbe _ => true
  | .opDarnRead _ => true
  | .opRegRead _ => true
  | .opRegWrite _ => true
  | .faultRaise raises => raises.all fun e => e.1 < 126
  | .fcClr _ _ _ => true
  | .fcAck _ _ _ => true
  | .fcSwset _ _ => true
  | .collectorFault _ => true
  | .rxSyncGain _ => true
  | .portUp _ => true
  | .portDown _ _ => true
  | .hemBackEnd _ => true
  | .requestFrame _ f _ => wfFrame f
  | .responseFrame _ f _ => wfFrame f
  | .eventFrame _ f _ => wfFrame f
  | .bufferedFrameSend _ => true
  | .stitchSend => true
  | .stitchHalt _ _ => true
  | .stitchObstRel _ _ => true
  | .stitchSafeStop _ _ => true
  | .stitchPing _ _ => true
  | .syncSend => true
  | .syncFrame _ f => f.time < 18446744073709551616
  | .syncLoss => true
  | .enum _ _ _ => true
  | .enumrsp _ _ _ _ _ _ => true
  | .enumTimeout => true
  | .assign _ _ _ _ _ _ => true
  | .dreq _ _ => true
  | .groupFrame _ _ _ _ => true
  | .joinSend => true
  | .join _ _ => true
  | .refuse _ _ _ => true
  | .aliveSend => true
  | .alive _ _ => true
  | .break_ _ _ _ => true
  | .repair _ _ _ => true
  | .workerDepart _ => true
  | .orphanTimeout => true
  | .lholdSet _ _ => true
  | .lholdClear _ _ => true
  | .handoverImageLoad => true
  | .logFlushTimeout => true
  | .wjAddrWrite _ _ => true
  | .wjReadComplete _ => true
  | .wjWrite _ _ => true
  | .wjWriteComplete _ => true
  | .mspPush _ _ => true
  | .mspEntryStart => true
  | .mspEntryComplete _ => true
  | .mspRxdRead _ => true
  | .rel _ => true
  | .flush _ => true
  | .mspDisable _ => true
  | .conMinPeriodEnd _ _ => true
  | .drsp _ _ _ => true
  | .enumReturn _ => true
  | .linkCoreRestart => true

end Sys2Proof
end

