-- ==== Sys2Proof/Tests/Slice0.lean ====
section
/-! SUPPORT. Small tests of the model against values the spec states, ill-formed operands that the check refuses, and, for every statement
that has hypotheses, states and operands that meet them (named witness_<statement>, a conjunct or more for each of its clauses). -/

namespace Sys2Proof.Tests

open Sys2Proof Sys2Proof.Machine

set_option Elab.async false

/-! ### What a state must satisfy for the hypotheses over every detail of a raise -/

theorem applied_lt {s : State} {n : Nat} (h : (s.reaction n).1 < 3) (d : Word) : (s.applied n d).1 < 3 := by
  unfold State.applied
  split
  simp_all
  split <;> omega

theorem plain_of {s : State} {n : Nat} (h : (!s.sys.chipReset && decide ((s.reaction n).1 < 3)) = true) (d : Word) : Plain s n d := by
  simp only [Bool.and_eq_true, Bool.not_eq_true', decide_eq_true_eq] at h
  exact ⟨h.1, applied_lt h.2 d⟩

theorem noReset_of {s : State} (h : (!s.sys.chipReset && (List.range 126).all fun n => decide ((s.reaction n).1 < 3)) = true) : NoReset s := by
  simp only [Bool.and_eq_true, Bool.not_eq_true', List.all_eq_true, List.mem_range, decide_eq_true_eq] at h
  exact ⟨h.1, fun n hn d => applied_lt (h.2 n hn) d⟩

theorem noCrst_of {s : State} (h : NoReset s) : NoCrst s := fun n hn d => Nat.ne_of_lt (Nat.lt_trans (h.2 n hn d) (by decide))

/-! ### States from which the witnesses start -/

/-- The device out of its chip reset, straps latched, its firmware running. -/
def fw0 : State :=
  let s := State.reset
  let s := { s with sys := { s.sys with exec := .firmware, strapped := true } }
  let s := (s.set R.SYS_STRAP 2#32).setFld R.LNK_STAT 1 0 2
  ((s.set R.HSP_READY 1#32).set R.MBX_LOCK 1#32).set R.LNK_ADDR 0x7FF#32

/-- Every source that resets a block by default is set to INT instead. -/
def ints (s : State) : State :=
  (List.range 18).foldl (fun s i => s.set (R.FC_SRC (if i = 16 then 11 else if i = 17 then 15 else 64 + i)) 1#32) (s.setBit R.FC_CTL 31 true)

def run : State := ints fw0

theorem run_noReset : NoReset run := noReset_of (by decide)

/-- A raise of any source resets nothing in the state at hand: as in `run`, whose registers of the collector it has. -/
theorem noReset_as {s : State} (h : (!s.sys.chipReset && s.bit R.FC_CTL 31 && (List.range 126).all fun n => s.get (R.FC_SRC n) == run.get (R.FC_SRC n)) = true) :
    NoReset s := by
  simp only [Bool.and_eq_true, Bool.not_eq_true', List.all_eq_true, List.mem_range, beq_iff_eq] at h
  refine ⟨h.1.1, fun n hn d => applied_lt ?_ d⟩
  have hr : (run.reaction n).1 < 3 := by
    have := (by decide : (List.range 126).all fun n => decide ((run.reaction n).1 < 3)) 
    simp only [List.all_eq_true, List.mem_range, decide_eq_true_eq] at this
    exact this n hn
  have hb : run.bit R.FC_CTL 31 = true := by decide
  have hf : run.fcSafe = false := by decide
  unfold State.reaction at hr ⊢
  simp only [hb, hf, if_true, Bool.false_eq_true, if_false, h.1.2, h.2 n hn] at hr ⊢
  by_cases hs : s.fcSafe = true
  · simp [hs]
  · simpa [hs] using hr

/-! ### Witnesses: the device, its supply, clocks and resets -/

def asleep : State := { run with sys := { run.sys with asleep := true } }
def booting : State := { ints State.reset with sys := { (ints State.reset).sys with strapped := false } }
def inReset : State := { State.reset with sys := { State.reset.sys with chipReset := true } }

theorem witness_StepRunsFrontCommand : ({ run with pending := [.pinReset, .powerOn] } : State).pending = .pinReset :: [.powerOn] := by decide

theorem witness_IdleStepPassesOneCycle :
    run.pending = [] ∧ inReset.sys.chipReset = true ∧ asleep.sys.asleep = true
    ∧ run.sys.chipReset = false ∧ run.sys.asleep = false ∧ run.sys.rem.natAbs < 1000000000
    ∧ ({ run with sys := { run.sys with rem := -999999999 } } : State).sys.rem.natAbs < 1000000000 := by decide

theorem witness_ChipResetStarts :
    (run.opens .exec 0x01 = true ∧ run.opens .maint 0x01 = true ∧ fldOf 0x9E370001#32 31 16 = 0x9E37 ∧ bitOf 0x9E370001#32 0 = true ∧ 0#32 ≠ 0x6A3C#32)
    ∧ (let s : State := { run.setBit R.SYS_WDT 31 true with sys := { run.sys with cyc := 2000000 } }
       s.portOpen = true ∧ s.bit R.SYS_WDT 31 = true ∧ s.sys.exec ≠ .handover ∧ s.sys.wdSince + max 1 (s.fld R.SYS_WDT 7 0) * 2000000 ≤ s.sys.cyc)
    ∧ run.sys.cyc < run.sys.wdSince + max 1 (run.fld R.SYS_WDT 7 0) * 2000000
    ∧ (let s := asleep.setBit R.SYS_WAKECFG 21 true
       s.sys.asleep = true ∧ 0x200000#32 &&& s.get R.SYS_WAKECFG &&& s.wakeable ≠ 0#32 ∧ s.bit R.SYS_WAKECFG 21 = true)
    ∧ run.sys.asleep = false := by decide

theorem witness_ChipResetEndsAndStrapsLatch :
    inReset.sys.chipReset = true ∧ inReset.sys.reversed = false ∧ inReset.bit R.FC_CTL 31 = false
    ∧ booting.sys.chipReset = false ∧ booting.sys.strapped = false ∧ booting.sys.exec = .bootRom
    ∧ (100 * (0 + 1) ≤ 60 + 40 ∧ 60 ≤ 100 * (0 + 1) + 40) ∧ (100 * (15 + 1) ≤ 1640 + 40 ∧ 1640 ≤ 100 * (15 + 1) + 40)
    ∧ (let sets := List.replicate 4 [({ role := 1, defmode := true } : StrapSample), { role := 2, defmode := true }]
       (4 ≤ sets.length ∧ ∀ xs ∈ sets.take 4, ∃ a ∈ xs, ∃ b ∈ xs, a ≠ b) ∧ (sets.take 3).length < 4 ∧ ∀ xs ∈ sets.take 3, ∃ a ∈ xs, ∃ b ∈ xs, a ≠ b) := by decide

def supOn : State := (({ run with sys := { run.sys with exec := .handover } } : State).set R.SYS_SUPCFG 0x80000000#32)

theorem witness_SupplySupervisionActs :
    (supOn.bit R.SYS_SUPCFG 31 = true ∧ 15999 < 16000 + 500 * min (supOn.fld R.SYS_SUPCFG 7 0) 228 ∧ supOn.sys.exec ≠ .firmware ∧ supOn.present 6 = false ∧ supOn.bit R.SYS_SUPCFG 30 = false)
    ∧ (supOn.setBit R.SYS_SUPCFG 30 true).bit R.SYS_SUPCFG 30 = true
    ∧ (let s := (supOn.set R.SYS_SUPSTAT 0xC#32).setFld R.SYS_SUPCFG 7 0 255
       s.bit R.SYS_SUPSTAT 2 = true ∧ 16500 + 500 * min (s.fld R.SYS_SUPCFG 7 0) 228 < 130501 ∧ ¬(16500 + 500 * min (s.fld R.SYS_SUPCFG 7 0) 228 < 130500)
       ∧ 16000 + 500 * min (s.fld R.SYS_SUPCFG 7 0) 228 ≤ 130000)
    ∧ (∀ d, Plain supOn 6 d) ∧ run.present 8 = false ∧ (∀ d, Plain run 8 d) :=
  ⟨by decide, by decide, by decide, fun _ => plain_of (by decide) _, by decide, fun _ => plain_of (by decide) _⟩

theorem witness_CoreResetsKeepTheHardware :
    run.sys.chipReset = false ∧ run.opens .exec 0x01 = true ∧ run.opens .link 0x01 = true ∧ run.opens .maint 0x01 = true ∧ fldOf 0x9E370002#32 31 16 = 0x9E37 ∧ fldOf 0x9E370002#32 2 0 = 2 ∧ fldOf 0x9E370004#32 2 0 = 4 := by decide

theorem witness_BlockResetReturnsItsPage :
    run.opens .exec 0x01 = true ∧ run.opens .maint 0x01 = true ∧ fldOf 0x9E370030#32 31 16 = 0x9E37 ∧ fldOf 0x9E370030#32 6 0 = 0x30 ∧ brstAdmits 0x30 = true
    ∧ brstAdmits 0x28 = true ∧ brstAdmits 0x37 = true ∧ brstAdmits 0x10 = true ∧ brstAdmits 0x7F = false
    ∧ regKey 0x30 1 ≠ R.ME_EOFS (axisAt 0x30) ∧ (regKey 0x10 1) / 128 ≠ 0x30 ∧ regKey 0x10 1 ≠ R.PWM_THR (axisAt 0x30)
    ∧ (regKey 0x10 1) ≠ R.LO_KF (axisAt 0x30) ∧ (regKey 0x10 1) ≠ R.GD_FLT (axisAt 0x30) := by decide

def window : State := run.set R.SYS_AXCLAIM 0x10080#32

theorem witness_HandoverWindowAndClaims :
    (∀ d, Plain window 5 d) ∧ window.bit R.SYS_AXCLAIM 16 = true ∧ window.bit R.SYS_AXCLAIM 0 = false ∧ window.bit R.SYS_AXCLAIM 7 = true
    ∧ window.opens .exec 0x01 = true :=
  ⟨fun _ => plain_of (by decide) _, by decide⟩

def moving1 : State := run.onMot 1 fun m => { m with active := some 3 }
def still : State := run.setFld R.SYS_PWRSTAT 1 0 2
def stillBoot : State := { still.set R.SYS_WAKECFG 0#32 with sys := { still.sys with exec := .bootRom } }
def timed : State := (stillBoot.setBit R.SYS_WAKECFG 21 true).set R.SYS_WAKETMR 5#32

theorem no_wj_write {s : State} (h : s.spool.wjOp = .idle) (k : Nat) (d : BitVec 256) : s.spool.wjOp ≠ .write k d := by
  rw [h]; simp

theorem witness_PowerStatesFollowRequests :
    (run.opens .exec 0x01 = true ∧ moving1.opens .exec 0x01 = true ∧ fldOf 0x9E370000#32 31 16 = 0x9E37 ∧ fldOf 0x9E370000#32 1 0 = 0 ∧ fldOf 0x9E370002#32 1 0 = 2 ∧ fldOf 0x9E370003#32 1 0 = 3)
    ∧ moving1.axisBusy 1 = true ∧ ((∀ ax : Axis, run.axisBusy ax = false) ∧ run.standby = false)
    ∧ (booting.opens .exec 0x01 = true ∧ booting.sys.exec ≠ .firmware ∧ booting.standby = false) ∧ (∀ k d, stillBoot.spool.wjOp ≠ .write k d)
    ∧ (stillBoot.opens .exec 0x01 = true ∧ stillBoot.sys.exec ≠ .firmware ∧ stillBoot.standby = true ∧ stillBoot.get R.SYS_WAKECFG = 0#32)
    ∧ (∀ k d, timed.spool.wjOp ≠ .write k d) ∧ (timed.opens .exec 0x01 = true ∧ timed.sys.exec ≠ .firmware ∧ timed.standby = true ∧ timed.get R.SYS_WAKECFG ≠ 0#32
        ∧ timed.cmpWakes = 0#32 ∧ timed.get R.SYS_WAKETMR ≠ 0#32)
    ∧ (fldOf 0#32 31 16 ≠ 0x9E37 ∧ ∀ d, Plain run 2 d) := by
  refine ⟨by decide, by decide, by decide, by decide, no_wj_write (by decide), by decide, no_wj_write (by decide), by decide, by decide,
    fun _ => plain_of (by decide) _⟩

theorem witness_PowerStatesFollowRequests_idle :
    (let s : State := { run with sys := { run.sys with linkRun := true } }
     s.sys.exec = .firmware ∧ s.sys.linkRun = true ∧ s.fld R.SYS_PWRSTAT 1 0 < 2 ∧ s.execInt = false ∧ s.linkInt = false)
    ∧ (still.standby = true ∧ still.fld R.SYS_PWRCTL 1 0 = 0 ∧ still.sys.monFail = 0#6 ∧ still.sys.pllLost.getLsbD 0 = false) := by decide

def present : State := { run with spool := { run.spool with presLow := true } }

theorem witness_PresenceRunsAfterALongLow : (20 ≤ 20 ∧ present.spool.presLow = true) ∧ 19 < 20 := by decide

theorem witness_TimeIsWrittenAndAlarmsUngate :
    (run.opens .exec (R.TIM_TIME / 128) = true ∧ run.opens .link (R.TIM_TIME / 128) = true)
    ∧ (run.opens .host (R.TIM_TIME / 128) = true ∧ Master.host ≠ .exec ∧ Master.host ≠ .link ∧ ∀ d, Plain run 2 d)
    ∧ (let s := (run.setBit R.TIM_CFG 31 true).set R.TIM_CFG 0x80000003#32
       s.bit R.TIM_CFG 31 = true ∧ s.bit R.TIM_CFG 0 = true ∧ s.bit R.TIM_CFG 1 = true ∧ s.wideU R.TIM_ALM0 ≤ s.sys.time ∧ s.wideU R.TIM_ALM1 ≤ s.sys.time) :=
  ⟨by decide, ⟨by decide, by decide, by decide, fun _ => plain_of (by decide) _⟩, by decide⟩

theorem witness_ClockMonitorsJudgeWindows :
    (run.sys.monFail = 0#6 ∧ run.sys.pllLost = 0#2 ∧ run.fcPresent = 0#128 ∧ ∀ n < 16, run.present n = false)
    ∧ ((monRange 0).1 ≤ (1472#16).toNat ∧ (1472#16).toNat ≤ (monRange 0).2) ∧ ((monRange 5).1 ≤ (1029#16).toNat ∧ (1029#16).toNat ≤ (monRange 5).2)
    ∧ ¬((monRange 3).1 ≤ (1989#16).toNat ∧ (1989#16).toNat ≤ (monRange 3).2) ∧ run.sys.monOut.getLsbD 3 = false
    ∧ ({ run with sys := { run.sys with monOut := 8#6 } } : State).sys.monOut.getLsbD 3 = true
    ∧ (∀ d, Plain run 14 d) ∧ (∀ d, Plain run 15 d) :=
  ⟨by decide, by decide, by decide, by decide, by decide, by decide, fun _ => plain_of (by decide) _, fun _ => plain_of (by decide) _⟩

theorem witness_DarnedMemoriesCorrectAndReport :
    (0 < darnSize .ctx ∧ 32767 < darnSize .exec ∧ run.isUe .ctx 0 = false ∧ DarnMem.ctx ≠ .safe ∧ DarnMem.ctx ≠ .srom ∧ DarnMem.ctx ≠ .erom
      ∧ run.sys.chipReset = false ∧ run.opens .maint 0x01 = true) ∧ (∀ d, Plain run (16 + darnNum .ctx) d) :=
  ⟨by decide, fun _ => plain_of (by decide) _⟩

theorem witness_AccessesFailAndParityReports :
    (∀ d, Plain run 1 d)
    ∧ (let s : State := { run with sys := { run.sys with pllStop := 2#2 } }
       (∀ d, Plain s 1 d) ∧ s.portOpen = true ∧ s.pageServed 0x28 = true ∧ s.clockGone 0x28 = true)
    ∧ (asleep.portOpen = false ∧ (let s : State := { run with sys := { run.sys with strapStuck := true } }; s.pageServed 0x02 = false)
        ∧ (let s : State := { run with sys := { run.sys with blockRst := [0x30] } }; s.held 0x30 = true ∧ s.clockGone 0x30 = false) ∧ run.opens .host 0x30 = true)
    ∧ ((∃ r, regRow (regKey 0x10 0) = some r ∧ r.parity = true) ∧ run.present (paritySource 0x10) = false ∧ 0x10 ≠ 0x08 ∧ 0x10 ≠ 0x09 ∧ 0x10 ≠ 0x0A)
    ∧ (∀ d, Plain run (paritySource 0x10) d) ∧ (regRow (regKey 0x7F 0) = none) :=
  ⟨fun _ => plain_of (by decide) _, ⟨fun _ => plain_of (by decide) _, by decide⟩, by decide, by decide, fun _ => plain_of (by decide) _, by decide⟩

theorem witness_CollectorRecordsAndAcknowledges :
    (run.present 125 = false ∧ run.sys.chipReset = false ∧ (run.applied 125 0#32).1 < 3)
    ∧ (fw0.applied 11 0#32).1 = 3 ∧ ((run.set (R.FC_SRC 125) 4#32).applied 125 0#32).1 = 4
    ∧ (bitOf 1#32 0 = true ∧ (run.record 0 5#32).present 0 = false ∧ ((run.record 0 5#32).fcRec 0).latch = true)
    ∧ (∀ i < 4, ∀ d, Plain run (122 + i) d) ∧ run.present 122 = false
    ∧ (run.opens .host (R.FC_CLR 0 / 128) = true ∧ run.opens .exec (R.FC_ACK 3 / 128) = true ∧ run.opens .exec (R.FC_SWSET / 128) = true) :=
  ⟨by decide, by decide, by decide, by decide, fun i hi d => ⟨by decide, run_noReset.2 _ (by omega) d⟩, by decide, by decide⟩

/-! ### Witnesses: safety channels, mailboxes and the host port -/

/-- A ready channel that has latched code 9 (one pair supervised, class ceiling 520), its balls high and its groups qualified. -/
def chanOk (c : Chan) : Chan := { c with latched := some 9#8, qual := 3#2, ready := true, sampled := true, live := 9#8, balls := 15#4, en := 0xFF#8 }
def safeOk (s : State) : State := { s with saf := { s.saf with s := chanOk s.saf.s, h := chanOk s.saf.h } }
def saf1 : State := safeOk run

theorem run_noCrst : NoCrst run := noCrst_of run_noReset
theorem saf1_noCrst : NoCrst saf1 := noCrst_of (noReset_as (by decide))

theorem witness_StoDemandsAndQualification :
    NoCrst saf1 ∧ ((saf1.saf.chan .selvedge).ready = true ∧ (saf1.saf.chan .selvedge).ballsRead 1 true = true)
    ∧ (let s := saf1.onChan .safeCore fun c => { c with balls := 1#4 }
       (s.saf.chan .safeCore).ballsRead 0 true = false ∧ (s.saf.chan .safeCore).ballsRead 0 false = false ∧ (s.saf.chan .safeCore).ballsRead 1 false = true) :=
  ⟨saf1_noCrst, by decide, by decide⟩

theorem witness_SealedCodeLatchesOrStops :
    NoCrst run
    ∧ (let s := run.onChan .safeCore fun c => { c with sampled := true, live := 9#8 }
       s.saf.s.latched = none ∧ s.saf.h.latched = none ∧ (s.saf.chan .safeCore).sampled = true ∧ (s.saf.chan .safeCore).live = 9#8 ∧ sealValid 9#8 = true)
    ∧ (let s := run.onChan .selvedge fun c => { c with sampled := true, live := 1#8 }
       (s.saf.chan .selvedge).latched = none ∧ (s.saf.chan .selvedge).sampled = true ∧ (s.saf.chan .selvedge).live = 1#8 ∧ sealValid 1#8 = false)
    ∧ ((saf1.saf.chan .safeCore).latched = some 9#8 ∧ 10#8 ≠ 9#8 ∧ (saf1.saf.chan .safeCore).differs = false)
    ∧ (let s := saf1.onChan .safeCore fun c => { c with differs := true }
       (s.saf.chan .safeCore).latched = some 9#8 ∧ (s.saf.chan .safeCore).differs = true) :=
  ⟨run_noCrst, by decide, by decide, by decide, by decide⟩

def nearTrip : State := (saf1.onChan .selvedge fun c => { c with axes := vset c.axes 0 { sf2A := 15 } }).onChan .safeCore fun c =>
  { c with axes := vset c.axes 1 { sf2A := 3, sumA := 520001 } }

theorem witness_CurrentSupervisionTripsAnAxis :
    NoCrst nearTrip
    ∧ (nearTrip.saf.h.ready = true ∧ pairOn nearTrip.saf.h.code 0 = true
      ∧ (classCeil nearTrip.saf.h.code : Int) * 125 < (nearTrip.scaled (coilOf 0 .a) (sampleAt [⟨16251, false⟩] (coilOf 0 .a)).code).natAbs
      ∧ 15 ≤ (vget nearTrip.saf.h.axes 0).sf2A)
    ∧ (nearTrip.saf.s.ready = true ∧ pairOn nearTrip.saf.s.code 1 = true ∧ 3 ≤ (vget nearTrip.saf.s.axes 1).sf2A
      ∧ ((classCeil nearTrip.saf.s.code : Int) * 1000) * ((classCeil nearTrip.saf.s.code : Int) * 1000)
        < (vget nearTrip.saf.s.axes 1).sumA * (vget nearTrip.saf.s.axes 1).sumA + (vget nearTrip.saf.s.axes 1).sumB * (vget nearTrip.saf.s.axes 1).sumB)
    ∧ (run.saf.h.ready = false ∧ run.saf.s.ready = false) :=
  ⟨noCrst_of (noReset_as (by decide)), by decide, by decide, by decide⟩

theorem witness_ChannelsWatchThemselves :
    NoCrst saf1 ∧ pairOn (saf1.saf.chan .safeCore).code 1 = true
    ∧ (saf1.saf.s.ready = true ∧ saf1.saf.h.ready = true ∧ saf1.saf.wordsDiffer = false)
    ∧ (let s := (saf1.onChan .selvedge fun c => { c with balls := 14#4 }).onChan .safeCore fun c => { c with cmpBad := 2 }
       s.saf.s.ready = true ∧ s.saf.h.ready = true ∧ s.saf.wordsDiffer = true ∧ 2 ≤ s.saf.s.cmpBad)
    ∧ (let s : State := { saf1 with sys := { saf1.sys with rchStop := true } }
       let s := (s.onChan .selvedge fun c => { c with ready := false }).onChan .safeCore fun c => { c with silent := 2 }
       s.saf.s.ready = true ∧ s.saf.h.ready = false ∧ s.sys.rchStop = true ∧ 2 ≤ s.saf.s.silent)
    ∧ (let s : State := { saf1 with sys := { saf1.sys with rcsStop := true } }
       let s := (s.onChan .safeCore fun c => { c with ready := false }).onChan .selvedge fun c => { c with silent := 2 }
       s.saf.s.ready = false ∧ s.saf.h.ready = true ∧ s.sys.rcsStop = true ∧ 2 ≤ s.saf.h.silent)
    ∧ (run.saf.chan .safeCore).en.getLsbD 7 = false ∧ (saf1.saf.chan .safeCore).en.getLsbD 7 = true
    ∧ run.soutCmd .selvedge 1 = false ∧ saf1.saf.s.latched ≠ none :=
  ⟨saf1_noCrst, by decide, by decide, by decide, by decide, by decide, by decide, by decide, by decide, by decide⟩

theorem witness_StopLinesPulseDark :
    NoCrst saf1 ∧ ({ saf1 with sys := { saf1.sys with bridged := true } } : State).soutHigh 0 = true ∧ saf1.soutHigh 1 = false
    ∧ (let s : State := { saf1 with saf := { saf1.saf with dark := 3#2, darkHit := 1#2 } }
       s.saf.dark.getLsbD 0 = true ∧ s.saf.darkHit.getLsbD 0 = true ∧ s.saf.dark.getLsbD 1 = true ∧ s.saf.darkHit.getLsbD 1 = false) :=
  ⟨saf1_noCrst, by decide, by decide, by decide⟩

/-- A request word waits on WCH1. -/
def asks (w : Word) (s : State) : State := (s.set (R.MBX_WDATA 1) w).setBit R.MBX_WSTAT 1 true

theorem witness_SafetyRequestsAreServed :
    NoCrst (asks 0x10100001#32 saf1)
    ∧ (let s := asks 0x10100001#32 saf1
       s.get (R.MBX_WDATA 1) = 0x10100001#32 ∧ s.wFull 1 = true ∧ s.wFull 0 = false ∧ s.sndOf 8 = 3 ∧ s.rcvOf 9 = 3 ∧ s.saf.s.ready = true
       ∧ fldOf 0x10100001#32 31 28 = 1 ∧ bitOf 0x10100001#32 0 = true)
    ∧ (fldOf 0x20700208#32 31 28 = 2 ∧ fldOf 0x20700208#32 11 0 = classCeil saf1.saf.s.code ∧ vget saf1.saf.ceil (axisAt (fldOf 0x20700208#32 22 20)) = none)
    ∧ (fldOf 0x20700209#32 31 28 = 2 ∧ classCeil saf1.saf.s.code < fldOf 0x20700209#32 11 0)
    ∧ (fldOf 0x30700001#32 31 28 = 3 ∧ vget saf1.saf.sense (axisAt (fldOf 0x30700001#32 22 20)) = none)
    ∧ (fldOf 0x400000FF#32 31 28 = 4 ∧ ∀ ax : Axis, (vget saf1.saf.s.axes ax).causeNow = false ∧ (vget saf1.saf.h.axes ax).causeNow = false) :=
  ⟨noCrst_of (noReset_as (by decide)), by decide, by decide, by decide, by decide, by decide⟩

/-- As `run`, with firmware not running. -/
def bare : State := { run with sys := { run.sys with exec := .bootRom } }

theorem witness_ChannelsPassMessages :
    (bare.opens .host (bch 0 15 / 128) = true ∧ bare.opens .host (bch 0 0x10 / 128) = true ∧ Master.host.id = bare.sndOf 0 ∧ bare.bFull 0 = false
      ∧ bitOf 1#32 0 = true ∧ bare.fwRuns = false)
    ∧ (let s := bare.setBit (bch 0 0x11) 0 true
       s.opens .host (bch 0 0 / 128) = true ∧ Master.host.id = s.sndOf 0 ∧ s.bFull 0 = true
       ∧ s.opensRead .exec (bch 0 0x12 / 128) = true ∧ Master.exec.id = s.rcvOf 0 ∧ s.fwRuns = false)
    ∧ (run.opens .exec (bch 7 15 / 128) = true ∧ Master.exec.id ≠ run.sndOf 7 ∧ ∀ d, Plain run 2 d)
    ∧ (run.opens .safe (R.MBX_WDATA 0 / 128) = true ∧ Master.safe.id = run.sndOf (8 + 0) ∧ run.wFull 0 = false)
    ∧ (let s := run.setBit R.MBX_WSTAT 0 true
       s.opensRead .exec (R.MBX_WDATA 0 / 128) = true ∧ Master.exec.id = s.rcvOf (8 + 0) ∧ s.wFull 0 = true) :=
  ⟨by decide, by decide, ⟨by decide, by decide, fun _ => plain_of (by decide) _⟩, by decide, by decide⟩

theorem witness_BindingsFlagsAndHaltAll :
    (let s := run.set R.MBX_LOCK 0#32
     (s.opens .exec 0x03 = true ∧ 6 < 8 ∧ s.bit R.MBX_LOCK 0 = false ∧ s.bFull 6 = false ∧ 12 ≤ 15 ∧ s.wFull (15 - 8) = false)
     ∧ (fldOf 0x40#32 2 0 ≠ fldOf 0x40#32 6 4 ∧ fldOf 0x40#32 2 0 < 5 ∧ fldOf 0x40#32 6 4 < 5) ∧ bitOf 1#32 0 = true)
    ∧ (run.opens .host 0x03 = true ∧ run.bit R.MBX_LOCK 0 = true ∧ ∀ d, Plain run 3 d)
    ∧ (Master.maint.id = 4 ∧ (run.set R.MBX_HALTRT 0x1F#32).opens .maint 0x03 = true
        ∧ (run.set R.MBX_HALTRT 0x1F#32).bit R.MBX_HALTRT Master.maint.id = true)
    ∧ (bare.opens .exec 0x00 = true ∧ (bare.set R.HSP_READY 0#32).ready = false ∧ bare.fwRuns = false)
    ∧ (present.opens .maint 0x00 = true ∧ present.presence = true) :=
  ⟨by decide, ⟨by decide, by decide, fun _ => plain_of (by decide) _⟩, by decide, by decide, by decide⟩

theorem witness_SerialFramesAndRegisterWrites :
    (run.portOpen = true ∧ bitOf ((0x10#8).setWidth 32) 7 = false ∧ bitOf ((0x90#8).setWidth 32) 7 = true)
    ∧ (39 ≠ 0 ∧ legalLength 39 8 1 ((0x10#8).toNat % 128) = false) ∧ legalLength (8 + 32 * 33) 8 1 ((0x10#8).toNat % 128) = false
    ∧ (legalLength 40 8 1 ((0x7F#8).toNat % 128) = true ∧ run.testAccess (run.port .host).page ((0x7F#8).toNat % 128) (wordsBegun 40 8) = false)
    ∧ (let s := (run.setBit (bch 0 0x11) 0 true).setPort .host fun q => { q with page := bch 0 0 / 128 }
       s.pageServed (s.port .host).page = true ∧ frameIndex ((0x00#8).toNat % 128) 0 ≠ 0x7F
       ∧ s.wordNak (portMaster .host) (regKey (s.port .host).page (frameIndex (bch 0 0 % 128) 0)) = true)
    ∧ ((0x10#8).toNat % 128 ≠ 0x7F ∧ run.pageServed (run.port .maint).page = true
        ∧ run.testAccess (run.port .maint).page ((0x10#8).toNat % 128) 1 = false
        ∧ run.wordNak (portMaster .maint) (regKey (run.port .maint).page ((0x10#8).toNat % 128)) = false)
    ∧ (legalLength (16 + 8 * run.padding .maint) (16 + 8 * run.padding .maint) 0 ((0xFF#8).toNat % 128) = true
        ∧ run.late (run.port .maint).page (frameIndex ((0xFF#8).toNat % 128) 0) 0 (run.padding .maint) 100000 = false
        ∧ legalLength 17 (16 + 8 * run.padding .maint) 0 ((0x90#8).toNat % 128) = false)
    ∧ (let s : State := { run with hostPort := { run.hostPort with page := 0x7E }, sys := { run.sys with testMode := true } }
       s.portOpen = true ∧ s.testAccess (s.port .host).page ((0x80#8).toNat % 128) (wordsBegun 48 16) = true)
    ∧ (run.sys.testMode = false ∧ keyAt 0x40000004#32 = some 1 ∧ 1 % 128 ≠ 0x7F ∧ fldOf 0x40000004#32 1 0 = 0 ∧ run.wordNak .host 1 = false
        ∧ run.pageServed (1 / 128) = true ∧ Master.exec.serial = false ∧ bare.fwRuns = false ∧ keyAt 0x50000000#32 = none
        ∧ fldOf 0x40000006#32 1 0 ≠ 0 ∧ ∀ d, Plain bare 0 d)
    ∧ (State.reset.portOpen = true ∧ State.reset.ready = false ∧ ∀ ax : Axis, State.reset.bit (R.PWM_CFG ax) 31 = false)
    ∧ ({ run with sys := { run.sys with asleep := true } } : State).portOpen = false :=
  ⟨by decide, by decide, by decide, by decide, by decide, by decide, by decide, by decide,
    ⟨by decide, by decide, by decide, by decide, by decide, by decide, by decide, by decide, by decide, by decide, fun _ => plain_of (by decide) _⟩,
    by decide, by decide⟩

theorem witness_HaltAllStandsWhileHeld :
    let s := (run.set R.MBX_HALTRT 0x1F#32).set R.MBX_HALT 0x10#32
    s.bit R.MBX_HALTRT Master.maint.id = true ∧ s.bit R.MBX_HALT Master.maint.id = true ∧ Master.host ≠ .maint
    ∧ s.opens .host (R.MBX_HALT / 128) = true ∧ s.bit R.MBX_HALTRT Master.host.id = true ∧ ∀ d, Plain run 2 d :=
  ⟨by decide, by decide, by decide, by decide, by decide, fun _ => plain_of (by decide) _⟩

/-! ### Witnesses: contexts, motion, coils and the observer -/

/-- Context `c` LOADED with a deceleration and an acceleration. -/
def ld (c : Nat) (s : State) : State := ((s.ctxLoad c).setCtxW c 8 5#32).setCtxW c 9 6#32
def meon (s : State) : State := s.setBit (R.ME_CFG 1) 31 true
/-- Context 255 QUEUED at axis 1, which is enabled. -/
def qd : State := (meon (ld 255 run)).ctxStart 255 1
def act3 : State := ((ld 3 run).ctxGo 3 ctxActive).setCtxW 3 32 0x103#32
def tmpl : State := run.set (R.ME_CFG 1) 0x02FF0000#32

theorem witness_ContextsAreAllocatedWrittenAndReleased :
    ((ld 0 run).opensRead .exec (R.CTX_ALLOC / 128) = true ∧ (ld 0 run).opensRead .maint (R.CTX_ALLOC / 128) = true
      ∧ Master.exec.serial = false ∧ Master.maint.serial = true ∧ (ld 0 run).lowestFree = some 1)
    ∧ ({ run with ctxRam := (List.range 256).map fun c => (c * 64 + 32, 1#32) } : State).lowestFree = none
    ∧ (let s := (ld 255 run).set R.CTX_SEL 255#32
       s.opens .host (R.CTX_W 31 / 128) = true ∧ s.fld R.CTX_SEL 7 0 = 255 ∧ 31 < 32 ∧ s.ctxState 255 = ctxLoaded ∧ s.isUe .ctx (8 * 255 + 31 / 8) = false)
    ∧ (run.opens .host (R.CTX_W 0 / 128) = true ∧ run.fld R.CTX_SEL 7 0 = 0 ∧ run.ctxState 0 ≠ ctxLoaded ∧ ∀ d, Plain run 2 d)
    ∧ (let s := (ld 3 run).ctxGo 3 ctxDone; s.opens .exec (R.CTX_CMD / 128) = true ∧ s.isTemplate 3 = false ∧ s.ctxState 3 = ctxDone)
    ∧ ((ld 3 run).isTemplate 3 = false ∧ (ld 3 run).ctxState 3 = ctxLoaded)
    ∧ ((ld 3 run).ctxGo 3 ctxAborted).ctxState 3 = ctxAborted ∧ tmpl.isTemplate 255 = true :=
  ⟨by decide, by decide +kernel, by decide, ⟨by decide, by decide, by decide, fun _ => plain_of (by decide) _⟩, by decide, by decide, by decide, by decide⟩

theorem witness_ContextsStartAndAbortByCommand :
    (∀ x ∈ [meon (ld 3 run), ld 3 run, run, qd, act3], x.opens .maint (R.CTX_CMD / 128) = true)
    ∧ ((meon (ld 3 run)).startResult 3 1 = 0 ∧ (meon (ld 3 run)).ctxUe 3 = none) ∧ (ld 3 run).startResult 3 1 = 2 ∧ run.startResult 0 7 = 1
    ∧ (qd.ctxState 255 = ctxQueued ∧ fldOf (qd.ctxW 255 32) 10 8 = 1 ∧ bitOf (qd.ctxW 255 0) 8 = false)
    ∧ (act3.ctxState 3 = ctxActive ∧ fldOf (act3.ctxW 3 32) 10 8 = 1) ∧ (run.ctxState 255 ≠ ctxQueued ∧ run.ctxState 255 ≠ ctxActive) := by decide

def due0 : State := { run with sys := { run.sys with time := 25000, tickDue := 25000, exec := .bootRom } }

theorem witness_MotionTickOfRestingAxes :
    ((run.quiet.pass 1).tickIsDue = false) ∧ (due0.tickIsDue = true ∧ due0.sys.chipReset = false ∧ due0.fwRuns = false)
    ∧ (∀ ax : Axis, due0.meEn ax = false ∧ due0.bit (R.CR_CFG ax) 31 = false ∧ due0.bit (R.LO_CFG ax) 31 = false ∧ (due0.me ax).queue = []
        ∧ (due0.me ax).active = none ∧ (due0.me ax).engaged = false ∧ (due0.me ax).due = [] ∧ (due0.me ax).evEnQ = []) := by decide

/-- Context 3 ACTIVE at axis 1, with the events of the tick set as `f` says. -/
def rowed (f : MotAx → MotAx) : State := act3.onMot 1 fun m => f { m with active := some 3 }

theorem witness_TickEventsEndTheContextInRowOrder :
    (let s := rowed fun m => { m with evGate := true }
     (s.me 1).active = some 3 ∧ bitOf (s.ctxW 3 0) 8 = false ∧ s.ctxUe 3 = none ∧ s.ctxState 3 = ctxActive ∧ (s.me 1).evGate = true)
    ∧ (let s := rowed fun m => { m with evUe := true }; (s.me 1).evGate = false ∧ (s.me 1).evUe = true)
    ∧ (let s := (rowed id).setBit (R.ME_CTL 1) 0 true
       (s.me 1).evGate = false ∧ (s.me 1).evUe = false ∧ (s.axisHalted 1 && !(s.me 1).wasHalt) = true ∧ s.haltAll = false)
    ∧ (let s := ((rowed id).set R.MBX_HALTRT 0x1F#32).set R.MBX_HALT 2#32; (s.axisHalted 1 && !(s.me 1).wasHalt) = true ∧ s.haltAll = true)
    ∧ (let s := rowed fun m => { m with evWin := true }
       (s.me 1).evGate = false ∧ (s.me 1).evUe = false ∧ (s.axisHalted 1 && !(s.me 1).wasHalt) = false ∧ (s.me 1).evWin = true)
    ∧ (let s := rowed fun m => { m with evAbort := true }
       (s.axisHalted 1 && !(s.me 1).wasHalt) = false ∧ (s.me 1).evWin = false ∧ NatEnd.none ≠ .done ∧ (s.me 1).evAbort = true)
    ∧ ((rowed id).me 1).evGate = false ∧ ((rowed id).me 1).evWin = false := by decide

def trigd : State := qd.setCtxW 255 0 0x01400020#32
def stepper : State := { meon (run.setFld (R.ME_CFG 1) 25 24 1) with sys := { run.sys with axio := 0x40#32 } }

theorem witness_MotionRequestsAndLatchedEvents :
    (run.opens .host (R.ME_CTL 1 / 128) = true ∧ run.opens .host (R.ME_POS 1 / 128) = true ∧ (run.me 1).vel = 0 ∧ (run.me 1).acc = 0
      ∧ (run.me 1).active = none) ∧ (moving1.opens .host (R.ME_POS 1 / 128) = true ∧ (moving1.me 1).active ≠ none ∧ ∀ d, Plain moving1 2 d)
    ∧ ((meon run).opens .exec (R.ME_CFG 1 / 128) = true ∧ (meon run).meEn 1 = true) ∧ ((trigd.me 1).queue = [255] ∧ fldOf (trigd.ctxW 255 0) 5 4 = 2 ∧ fldOf (trigd.ctxW 255 0) 24 20 = 20)
    ∧ fldOf ((qd.setCtxW 255 0 0x01500020#32).ctxW 255 0) 24 20 = 21
    ∧ (let s : State := { (run.setFld (R.ME_CFG 1) 25 24 1).setBit (R.ME_CFG 1) 31 true with sys := { run.sys with axio := 0x40#32 } }
       s.insrc 1 = 1 ∧ s.meEn 1 = true ∧ s.ball 1 2 = true ∧ (s.me 1).ferr = false ∧ s.axisHalted 1 = false)
    ∧ (let s := run.onMot 1 fun m => { m with level := .run }
       (s.me 1).vel = 0 ∧ (s.me 1).acc = 0 ∧ (s.me 1).starting = false ∧ (s.me 1).level = .run)
    ∧ ((run.onMot 1 fun m => { m with obs := .rcwait }).me 1).obs = .rcwait :=
  ⟨by decide, ⟨by decide, by decide, fun _ => plain_of (by decide) _⟩, by decide, by decide, by decide, by decide, by decide, by decide⟩

/-- Context 255 alone in the queue of axis 1, to start at 1 ms with a LATETOL of 1 ms; the SYS_TIME is `t`. -/
def timedAt (t : Nat) : State :=
  let s := ((((safeOk qd).setCtxW 255 0 0x11#32).setCtxW 255 13 0x10000#32).setCtxW 255 14 0#32).setCtxW 255 15 1000000#32
  { s with sys := { s.sys with time := t, lastTick := t - 25000 } }

theorem witness_TimedStartsAreMetLateOrTooLate :
    (let s := timedAt 999999
     (s.me 1).queue = [255] ∧ fldOf (s.ctxW 255 0) 5 4 = 1 ∧ fldOf (s.ctxW 255 0) 2 0 = 1 ∧ bitOf (s.ctxW 255 0) 8 = false ∧ s.ctxUe 255 = none
     ∧ (s.me 1).active = none ∧ (s.me 1).due = [] ∧ s.mayStart 1 false = true ∧ s.startCond 1 255 = .wait)
    ∧ ((timedAt 1000000).mayStart 1 false = true ∧ (timedAt 1000000).startCond 1 255 = .met)
    ∧ ((timedAt 2000000).mayStart 1 false = true ∧ (timedAt 2000000).startCond 1 255 = .late)
    ∧ ((timedAt 2025000).mayStart 1 false = true ∧ (timedAt 2025000).startCond 1 255 = .tooLate)
    ∧ (let s := timedAt 5000000; ({ s with sys := { s.sys with lastTick := 0 } } : State).startCond 1 255 = .met) := by decide

def sampling : State := (run.setBit R.CSM_CFG 31 true).setBit (R.CSM_CCFG 15) 31 true

theorem witness_CurrentSamplesReachTheirRegisters :
    NoReset sampling ∧ sampling.modStopped = false ∧ sampling.csmOn 15 = true ∧ sampling.csmOn 14 = false :=
  ⟨noReset_as (by decide), by decide⟩

/-- Axis 1 turning at 100,000 microsteps/s, its regulators and its observer enabled, under both channels' enables. -/
def turning : State :=
  let run := run.setBit R.SYS_SUPSTAT 3 true
  let s := ((safeOk run).setBit (R.LO_CFG 1) 31 true).setBit (R.CR_CFG 1) 31 true
  let s := ((s.set (R.CR_MOTOR2 1) 5000#32).set (R.LO_COLL 1) 0x80#32).set (R.CR_VNOM 1) 2400#32
  let rec1 : TickRec := { vel := 6553600000, level := .run }
  (s.onMot 1 fun m => { m with record := rec1, vel := 1 }).onPwm 1 fun p => { p with a := { p.a with adopted := rec1 }, b := { p.b with adopted := rec1 } }

/-- The same axis at rest, its press probe enabled. -/
def probing : State := ((turning.onMot 1 fun m => { m with record := { m.record with vel := 0 }, vel := 0 }).setBit (R.LO_CFG 1) 30 true).setFld (R.PWM_PER 1) 13 0 5000

theorem witness_ObserverStateFollowsItsEvents :
    (turning.loAble 1 = true ∧ (vget (turning.onLo 1 fun l => { l with okN := 256 }).lo 1).okN = 256)
    ∧ run.loAble 7 = false ∧ (vget turning.lo 1).okN < 256
    ∧ (let s := (turning.setBit (R.LO_STAT 1) 0 true).onLo 1 fun l => { l with lockN := 512 }
       s.bit (R.LO_STAT 1) 0 = true ∧ 512 ≤ (vget s.lo 1).lockN)
    ∧ run.bit (R.LO_STAT 7) 0 = false ∧ (vget turning.lo 1).lockN < 512
    ∧ (let s := turning.onLo 1 fun l => { l with colSince := some 0 }
       let s : State := { s with sys := { s.sys with cyc := 0x80 * 200000 } }
       s.stallWatch 1 = true ∧ s.mode 1 ≠ 3 ∧ s.fld (R.CR_MOTOR2 1) 23 0 ≠ 0 ∧ s.fld (R.LO_COLL 1) 7 0 ≠ 0
        ∧ s.fld (R.LO_VMIN 1) 23 0 * 65536 ≤ (s.me 1).record.vel.natAbs
        ∧ s.loVs 1 ≤ 50 * (((s.me 1).record.vel.natAbs * s.fld (R.CR_MOTOR2 1) 23 0 * 6283185307 / 268435456000000 : Nat) : Int)
        ∧ 5 * (isqrt ((vget s.lo 1).eA * (vget s.lo 1).eA + (vget s.lo 1).eB * (vget s.lo 1).eB).toNat : Int)
            < 2 * (((s.me 1).record.vel.natAbs * s.fld (R.CR_MOTOR2 1) 23 0 * 6283185307 / 268435456000000 : Nat) : Int)
        ∧ (vget s.lo 1).colSince = some 0 ∧ 0 + s.fld (R.LO_COLL 1) 7 0 * 200000 ≤ s.sys.cyc
        ∧ s.bit (R.LO_STAT 1) 5 = false ∧ (s.setBit (R.LO_STAT 1) 5 true).bit (R.LO_STAT 1) 5 = true)
    ∧ (probing.bit (R.LO_CFG 1) 30 = true ∧ probing.probeAble 1 = true ∧ probing.atRest 1 = true ∧ (probing.me 1).active = none
        ∧ probing.bit (R.LO_STAT 1) 10 = false) := by decide +kernel

/-- The same axis in a half-window of 1,250 samples of its probe, a direct part of 2 and a cross part of 3 in each. -/
def halving (f : LoAx → LoAx) : State :=
  ((probing.set (R.LO_PP2 1) 0#32).setBit (R.LO_STAT 1) 10 true).onLo 1 fun l => f { l with ppN := 1250, ppIp := 2500, ppC := 3750 }

theorem witness_ObserverStateFollowsItsEvents_halves :
    (let s := halving id
     s.bit (R.LO_STAT 1) 10 = true ∧ 1250 ≤ (vget s.lo 1).ppN ∧ (vget s.lo 1).ppSpoil = false ∧ (vget s.lo 1).ppHalf = none)
    ∧ (let s := halving fun l => { l with ppHalf := some 7 }
       s.bit (R.LO_STAT 1) 10 = true ∧ 1250 ≤ (vget s.lo 1).ppN ∧ (vget s.lo 1).ppSpoil = false ∧ (vget s.lo 1).ppHalf = some 7
       ∧ (vget s.lo 1).ppOdd = false ∧ (vget s.lo 1).ppIp / 1250 ≠ 0 ∧ s.fld (R.LO_PP2 1) 15 0 = 0)
    ∧ (let s := halving fun l => { l with ppSpoil := true }
       s.bit (R.LO_STAT 1) 10 = true ∧ 1250 ≤ (vget s.lo 1).ppN ∧ (vget s.lo 1).ppSpoil = true)
    ∧ (vget probing.lo 1).ppN < 1250 := by decide +kernel

def cron : State := run.setBit (R.CR_CFG 1) 31 true

theorem witness_WaveTableOverrideAndEncoder :
    NoReset run ∧ NoReset cron ∧ (run.opens .host (R.CR_WDATA 7 / 128) = true ∧ cron.opens .host (R.CR_WDATA 1 / 128) = true
        ∧ run.opens .host (R.CR_OVR 1 / 128) = true ∧ moving1.opens .host (R.CR_OVR 1 / 128) = true)
    ∧ run.crEn 7 = false ∧ (cron.crEn 1 = true ∧ cron.waveStored 1 (cron.fld (R.CR_WADDR 1) 9 0) ≠ fldOf 0xFFFF#32 15 0)
    ∧ [(1 : Axis)].contains 1 = true ∧ ([] : List Axis).contains 1 = false
    ∧ fldOf 0xFFF#32 31 30 = 0 ∧ (run.moving 1 = false ∧ (run.me 1).active = none) ∧ (fldOf 0x40000000#32 31 30 ≠ 0 ∧ (moving1.me 1).active ≠ none ∧ NoReset moving1)
    ∧ (let s : State := { run with roles := vset run.roles 1 .encoder }; vget s.roles 1 = .encoder ∧ NoReset s)
    ∧ (vget run.roles 1 ≠ .encoder ∧ run.cmode 1 ≠ 3) :=
  ⟨run_noReset, noReset_as (by decide), by decide, by decide, by decide, by decide, by decide, by decide, by decide, ⟨by decide, by decide, noReset_as (by decide)⟩,
    ⟨by decide, noReset_as (by decide)⟩, by decide⟩

/-! ### Witnesses: bridges, gates and converters -/

/-- Axis 1's bridges enabled, granted and driven, CENTRE unless CR_CFG says otherwise. -/
def bridged : State := turning.set (R.PWM_CFG 1) 0x80000000#32
def chop (mode : Nat) (f : Bridges → Bridges) : State := (bridged.setFld (R.CR_CFG 1) 21 20 mode).onBr 1 .b f

theorem witness_PwmPeriodsTransferShadows :
    NoReset bridged ∧ (run.opens .host (R.PWM_CFG 1 / 128) = true ∧ run.pwmEn 1 = false ∧ run.bit (R.GD_STAT 1) 17 = false)
    ∧ (bridged.opens .host (R.PWM_CFG 1 / 128) = true ∧ bridged.opens .host (R.PWM_CTL 1 / 128) = true ∧ bridged.pwmEn 1 = true
        ∧ bridged.modStopped = false ∧ bridged.bmode 1 = 0)
    ∧ (let s := chop 1 fun b => { b with phase := .on }; s.inOn 1 .b = true ∧ s.bmode 1 = 1)
    ∧ (let s := chop 2 fun b => { b with phase := .on }; s.inOn 1 .b = true ∧ s.bmode 1 = 2)
    ∧ run.inOn 1 .b = false ∧ (chop 1 fun b => { b with phase := .off }).inOff 1 .b 1 = true
    ∧ (let s := chop 2 fun b => { b with phase := .off, valley := true }; s.inOff 1 .b 2 = true ∧ (s.br 1 .b).valley = true)
    ∧ (run.br 1 .b).valley = false :=
  ⟨noReset_as (by decide +kernel), by decide, by decide +kernel, by decide +kernel, by decide +kernel, by decide, by decide +kernel, by decide +kernel,
    by decide⟩

def driven : State := (bridged.setBit (R.GD_CFG 1) 31 true).set (R.PWM_DUTYA 1) 40000#32

theorem witness_LegsCommuteUnderTheInterlock :
    NoReset driven
    ∧ (let s := driven.setFld (R.PWM_PER 1) 13 0 5000
       s.bmode 1 = 0 ∧ s.bridgeRuns 1 (bridgeOfLeg 0) = true ∧ (s.br 1 (bridgeOfLeg 0)).tripNow = false ∧ s.commutes 1 (bridgeOfLeg 0) = true
       ∧ (s.leg 1 0).loCmd = false ∧ (s.leg 1 0).hiCmd = false ∧ s.bit (R.GD_STAT 1) 0 = false)
    ∧ (let s := driven.onLeg 1 3 fun l => { l with wait := some true }
       (s.leg 1 3).wait = some true ∧ s.legUp 1 3 = true ∧ s.bit (R.GD_STAT 1) 3 = false ∧ (s.leg 1 3).bstHeld = false ∧ (s.leg 1 3).wait ≠ none)
    ∧ (let s := run.onLeg 1 3 fun l => { l with wait := some false }; (s.leg 1 3).wait = some false ∧ s.legUp 1 3 = false)
    ∧ (run.leg 1 3).wait = none
    ∧ (let s := driven.onBr 1 .a fun b => { b with tacks := vset b.tacks 3 0xA0000000#32 }
       s.tackSends 1 .a 3 = true ∧ fldOf (vget (s.br 1 .a).tacks 3) 30 28 = 2)
    ∧ (let s := driven.onBr 1 .a fun b => { b with tacks := vset b.tacks 3 0x98000000#32 }
       s.tackSends 1 .a 3 = true ∧ fldOf (vget (s.br 1 .a).tacks 3) 30 28 = 1 ∧ fldOf (vget (s.br 1 .a).tacks 3) 27 25 = 4)
    ∧ (let s := driven.onBr 1 .a fun b => { b with tacks := vset b.tacks 3 0x9E000000#32 }
       s.tackSends 1 .a 3 = true ∧ fldOf (vget (s.br 1 .a).tacks 3) 30 28 = 1 ∧ fldOf (vget (s.br 1 .a).tacks 3) 27 25 = 7)
    ∧ (let s := (driven.onLeg 1 3 fun l => { l with wait := some true, loOn := true }).setBit (R.PWM_STAT 1) 5 true
       (s.leg 1 3).waits = true ∧ s.bit (R.PWM_STAT 1) (4 + brIx (bridgeOfLeg 3)) = true ∧ s.pwmEn 1 = true
       ∧ s.latchedOff 1 (bridgeOfLeg 3) = false ∧ s.vgOk = true ∧ s.modStopped = false ∧ (s.br 1 (bridgeOfLeg 3)).counted = false)
    ∧ (let s := driven.onLeg 1 3 fun l => { l with wait := some true, loOn := true }
       (s.leg 1 3).waits = true ∧ s.bit (R.PWM_STAT 1) (4 + brIx (bridgeOfLeg 3)) = false
       ∧ s.bit (R.PWM_STAT 1) (6 + brIx (bridgeOfLeg 3)) = false)
    ∧ (run.leg 1 3).waits = false ∧ (run.tackSends 1 .b 0 = false) :=
  ⟨noReset_as (by decide +kernel), by decide +kernel, by decide +kernel, by decide, by decide, by decide +kernel, by decide +kernel,
    by decide +kernel, by decide +kernel, by decide +kernel, by decide, by decide⟩

theorem witness_TripsEndPulsesAndLatch :
    NoReset bridged ∧ (bridged.setBit (R.PWM_STAT 1) 8 true).masked 1 .a = true
    ∧ (let s := chop 1 fun b => { b with phase := .on }; s.masked 1 .b = false ∧ s.inOn 1 .b = true ∧ s.bmode 1 = 1)
    ∧ (bridged.masked 1 .a = false ∧ bridged.pwmEn 1 = true ∧ bridged.latchedOff 1 .a = false ∧ bridged.vgOk = true ∧ bridged.modStopped = false ∧ (bridged.br 1 .a).counted = false ∧ bridged.ilimN 1 = 1
        ∧ (bridged.br 1 .a).tripNow = false)
    ∧ (let s := bridged.set (R.PWM_STAT 1) 1#32; s.opens .host (R.PWM_CTL 1 / 128) = true ∧ s.latchedOff 1 .a = true ∧ s.bit (R.PWM_STAT 1) (4 + brIx .a) = false)
    ∧ (let s := bridged.set (R.PWM_STAT 1) 0x22#32; s.latchedOff 1 .b = true ∧ s.bit (R.PWM_STAT 1) (4 + brIx .b) = true)
    ∧ (bridged.set (R.PWM_STAT 1) 8#32).bit (R.PWM_STAT 1) (2 + brIx .b) = true ∧ bridged.bit (R.PWM_STAT 1) (2 + brIx .b) = false :=
  ⟨noReset_as (by decide +kernel), by decide +kernel, by decide +kernel, by decide +kernel, by decide +kernel, by decide +kernel, by decide +kernel⟩

theorem witness_GateMonitorsAndLockouts :
    NoReset driven
    ∧ (let s := driven.onLeg 1 0 fun l => { l with armed := true, hiOn := true }; (s.leg 1 0).armed = true ∧ (s.leg 1 0).hiOn = true ∧ (s.leg 1 0).loOn = false)
    ∧ (let s := driven.onLeg 1 0 fun l => { l with armed := true, loOn := true }; (s.leg 1 0).armed = true ∧ (s.leg 1 0).loOn = true)
    ∧ (driven.leg 1 0).armed = false ∧ driven.bit (R.GD_STAT 1) 0 = false :=
  ⟨noReset_as (by decide +kernel), by decide +kernel, by decide +kernel, by decide +kernel, by decide +kernel⟩

def gated : State := run.setBit (R.GD_CFG 1) 31 true

theorem witness_GateDiagnosticsRunOnIdleAxes :
    (∀ x ∈ [gated, run, bridged], x.opens .host (R.GD_CTL 1 / 128) = true) ∧ (run.opens .exec (R.GD_WREP 1 / 128) = true ∧ run.opens .maint (R.GD_WREP 1 / 128) = true)
    ∧ (NoReset gated ∧ gated.bit (R.GD_CFG 1) 31 = true ∧ gated.pwmEn 1 = false ∧ gated.diagMay 1 = true) ∧ (NoReset run ∧ run.bit (R.GD_CFG 1) 31 = false ∧ run.diagMay 1 = false)
    ∧ bridged.pwmEn 1 = true ∧ (gated.setBit (R.GD_STAT 1) 17 true).bit (R.GD_STAT 1) 17 = true ∧ gated.bit (R.GD_STAT 1) 17 = false
    ∧ (gated.setBit (R.GD_STAT 1) 18 true).bit (R.GD_STAT 1) 18 = true ∧ (gated.setBit (R.GD_STAT 1) 19 true).bit (R.GD_STAT 1) 19 = true
    ∧ (gated.bit (R.GD_STAT 1) 18 = false ∧ gated.bit (R.GD_STAT 1) 19 = false) ∧ Master.maint ≠ .exec :=
  ⟨by decide +kernel, by decide, ⟨noReset_as (by decide), by decide⟩, ⟨run_noReset, by decide⟩, by decide +kernel, by decide, by decide, by decide, by decide,
    by decide, by decide⟩

theorem witness_ModulatorsAreEnabledAndGuarded :
    (let s := run.setBit (R.CSM_CCFG 15) 31 true; NoReset s ∧ s.opens .host (R.CSM_CFG / 128) = true ∧ s.opens .host (R.CSM_CCFG 15 / 128) = true ∧ s.bit R.CSM_CFG 31 = false ∧ s.bit (R.CSM_CCFG 15) 31 = true ∧ s.csmOn 15 = false)
    ∧ (NoReset sampling ∧ sampling.opens .host (R.CSM_CCFG 15 / 128) = true ∧ sampling.csmOn 15 = true ∧ bitOf (~~~(sampling.get (R.CSM_CCFG 15))) 0 ≠ sampling.bit (R.CSM_CCFG 15) 0) :=
  ⟨⟨noReset_as (by decide), by decide⟩, noReset_as (by decide), by decide⟩

def pcon : State := run.set (R.PC_CFG 3) 0x80020001#32

theorem witness_ConverterSequencesRun :
    (pcon.opens .host (R.PC_CTL 3 / 128) = true ∧ pcon.opens .host (R.REF_SYNC / 128) = true ∧ run.opens .host (R.PC_CTL 3 / 128) = true
      ∧ run.opens .host (R.REF_SYNC / 128) = true)
    ∧ (let s := (pcon.onPc 3 fun c => { c with trig := true }); let s : State := { s with sys := { s.sys with comTrig := true } }
       s.pcEn 3 = true ∧ (vget s.pc 3).iIdx = none ∧ s.bit (R.PC_CFG 3) 0 = true ∧ (vget s.pc 3).trig = true ∧ s.sys.comTrig = true)
    ∧ ((vget run.pc 3).trig = false ∧ run.sys.comTrig = false)
    ∧ (pcon.pcEn 3 = true ∧ (vget pcon.pc 3).iIdx = none ∧ pcon.bit (R.PC_CFG 3) 0 = true) ∧ (run.pcEn 3 = false ∧ run.bit (R.PC_CFG 3) 0 = false)
    ∧ (let s := pcon.onPc 3 fun c => { c with iIdx := some 1 }; s.pcEn 3 = true ∧ (vget s.pc 3).iIdx ≠ none)
    ∧ (vget (pcon.onPc 3 fun c => { c with settle := true }).pc 3).settle = true ∧ (vget pcon.pc 3).settle = false := by decide

def caling : State := pcon.onPc 3 fun c => { c with calRun := some { entry := 19, full := false } }

theorem witness_ConversionsGiveResultsAndCalibrate :
    (let s := (pcon.onPc 3 fun c => { c with rrun := true }).set (R.PC_GAIN 3 0) 4194304#32
     (vget s.pc 3).settle = false ∧ (vget s.pc 3).calRun = none ∧ (vget s.pc 3).iIdx = none ∧ s.modStopped = false ∧ (vget s.pc 3).rrun = true
     ∧ (vget s.pc 3).rIdx + 1 < s.rlen 3 ∧ (vget s.pc 3).rIdx < 16
     ∧ ((rawCode (-8388608) false - s.sfld (R.PC_OFS 3 0) 23 0) * s.fld (R.PC_GAIN 3 0) 23 0) % 4194304 = 0)
    ∧ (vget (pcon.onPc 3 fun c => { c with settle := true }).pc 3).settle = true ∧ ((vget pcon.pc 3).iIdx = none ∧ (vget pcon.pc 3).rrun = false)
    ∧ (19 < 20 ∧ pcon.opens .host (R.PC_CTL 3 / 128) = true ∧ pcon.pcEn 3 = true ∧ (vget pcon.pc 3).iIdx = none ∧ (vget pcon.pc 3).calRun = none ∧ (vget pcon.pc 3).calPend = none)
    ∧ ((vget caling.pc 3).calRun = some { entry := 19, full := false } ∧ (vget caling.pc 3).settle = false ∧ caling.modStopped = false ∧ (vget caling.pc 3).rns = false
        ∧ ((1 : Int) + 2 + 3 + 6) % 4 = 0 ∧ (1 : Int) + 2 + 3 + 6 ≠ 4 * caling.sfld (R.PC_OFS 3 19) 23 0) := by decide

/-- Comparator 15 on, at half of its range with 20 mV of hysteresis. -/
def cmpd : State := (run.setBit R.CMP_CFG 31 true).set (R.CMP_CCFG 15) 0x82000200#32

theorem witness_ComparatorsResolveAndFollow :
    (NoReset cmpd ∧ cmpd.cmpOn 15 = true ∧ (vget cmpd.cmp 15).evaluated = false)
    ∧ bandSide (cmpd.get (R.CMP_CCFG 15)) (tiedUv (cmpd.get (R.CMP_CCFG 15)) 1260001) = some true
    ∧ bandSide (cmpd.get (R.CMP_CCFG 15)) (tiedUv (cmpd.get (R.CMP_CCFG 15)) 1239999) = some false
    ∧ (vget (cmpd.onCmp 15 fun c => { c with evaluated := true }).cmp 15).evaluated = true
    ∧ (bandSide (cmpd.get (R.CMP_CCFG 15)) (tiedUv (cmpd.get (R.CMP_CCFG 15)) 1260000) = none ∧ cmpd.fld (R.CMP_CCFG 15) 25 24 ≠ 0)
    ∧ (NoReset run ∧ run.opens .host (R.CMP_CCFG 15 / 128) = true ∧ cmpd.opens .host (R.CMP_CCFG 15 / 128) = true ∧ run.cmpOn 15 = false ∧ run.bit R.CMP_CFG 31 = false) ∧ (cmpd.get (R.CMP_CCFG 15) ^^^ 0#32) &&& 0x33003000#32 ≠ 0#32
    ∧ (let s := cmpd.onCmp 15 fun c => { c with held := true }; (vget s.cmp 15).held = true ∧ s.fld (R.CMP_CCFG 15) 17 16 = 0) ∧ (vget cmpd.cmp 15).held = false :=
  ⟨⟨noReset_as (by decide), by decide⟩, by decide, by decide, by decide, by decide, ⟨run_noReset, by decide⟩, by decide, by decide, by decide⟩

/-! ### Witnesses: firmware and its requests -/

/-- A request's header (R131): opcode, RSP, the device itself, the count of arguments, the tag 5. -/
def hdrW (op narg : Nat) : Word := wordOfNat (op * 2 ^ 24 + 2 ^ 22 + 0x7FE * 2 ^ 11 + narg * 128 + 5)

/-- A request waits on the channel of requester `d`. -/
def req (d op : Nat) (args : List Nat) (s : State) : State :=
  let ws := hdrW op args.length :: args.map wordOfNat
  ((List.range ws.length).foldl (fun s i => s.set (bch (2 * d) i) (ws.getD i 0#32)) s).setBit (bch (2 * d) 0x11) 0 true

def waitsB (s : State) (ch : ReqChan) (op : Nat) : Bool :=
  s.mayServe (chanIx ch) op && decide (ch ≠ .link) && decide (∀ d, d ≠ chanIx ch → s.hasReq d = false) && decide (s.lnk.inq = [])
  && decide (∀ d, vget s.fw.outq d = []) && decide (∀ d, vget s.fw.owed d = []) && !s.bFull (outChan (chanIx ch)) && decide (s.sndOf (outChan (chanIx ch)) = 1)

theorem waits_of {s : State} {ch : ReqChan} {op : Nat} (h : waitsB s ch op = true) : Waits s ch op := by
  simp only [waitsB, Bool.and_eq_true, decide_eq_true_eq, Bool.not_eq_true'] at h
  obtain ⟨⟨⟨⟨⟨⟨⟨a, b⟩, c⟩, d⟩, e⟩, f⟩, g⟩, i⟩ := h
  exact ⟨a, b, c, d, e, f, g, i⟩

theorem clocks_of {s : State} (h : (decide (s.sys.pllStop = 0#2) && !s.sys.rcsStop && !s.sys.rchStop && decide (s.sys.blockRst = []) && !s.sys.strapStuck
    && s.portOpen) = true) : ClocksRun s := by
  simp only [Bool.and_eq_true, decide_eq_true_eq, Bool.not_eq_true'] at h
  obtain ⟨⟨⟨⟨⟨a, b⟩, c⟩, d⟩, e⟩, f⟩ := h
  exact ⟨a, b, c, d, e, f⟩

theorem no_wjUe {s : State} (h : s.ue = []) (i : Nat) : s.isUe .wj i = false := by simp [State.isUe, h]

theorem noReset_set {s : State} {k : Nat} (v : Word) (h : NoReset s) (hk : k / 128 < 8 ∨ 10 < k / 128) : NoReset (s.set k v) := by
  refine ⟨h.1, fun n hn d => ?_⟩
  have hc : (s.set k v).get R.FC_CTL = s.get R.FC_CTL := State.get_set_ne s v (by unfold R.FC_CTL regKey; omega)
  have hs : (s.set k v).get (R.FC_SRC n) = s.get (R.FC_SRC n) := State.get_set_ne s v (by unfold R.FC_SRC regKey; omega)
  have hf : (s.set k v).fcSafe = s.fcSafe := rfl
  have := h.2 n hn d
  unfold State.applied State.reaction State.bit at this ⊢
  rw [hc, hs, hf]
  exact this

theorem bch_page {d i : Nat} (hd : d < 3) (hi : i < 18) : bch (2 * d) i / 128 < 8 := by
  unfold bch regKey
  omega

theorem req_noReset {d op : Nat} {args : List Nat} {s : State} (h : NoReset s) (hd : (decide (d < 3) && decide (args.length < 17)) = true) :
    NoReset (req d op args s) := by
  simp only [Bool.and_eq_true, decide_eq_true_eq] at hd
  have hl : ∀ (l : List Nat) (f : Nat → Word) (s : State), NoReset s → (∀ i ∈ l, i < 18) →
      NoReset (l.foldl (fun s i => s.set (bch (2 * d) i) (f i)) s) := by
    intro l f
    induction l with
    | nil => intro s h _; exact h
    | cons i l ih =>
      intro s h hi
      exact ih _ (noReset_set _ h (.inl (bch_page hd.1 (hi i (by simp))))) fun j hj => hi j (by simp [hj])
  refine noReset_set _ (hl _ _ s h ?_) (.inl (bch_page hd.1 (by decide)))
  intro i hi
  simp at hi
  omega

theorem no_ue {s : State} (h : s.ue = []) (i : Nat) : s.isUe .ctx i = false := by simp [State.isUe, h]

def motored : State := run.onFw 1 fun f => { f with motor := true }
def longOn (ax : Axis) (s : State) : State := { s with fw := { s.fw with long := vset s.fw.long ax (some { op := 0x80, args := [] }) } }
/-- Axis 1 in the door role. -/
def doors : State := { run with roles := vset run.roles 1 .door }
def limited : State := (meon run).onFw 1 fun f => { f with lim := { f.lim with vlim := 10000, acc := 5000, jerk := 77, ecapO := 5, ecapC := 6 } }
def busyDev : State := { run with fw := { run.fw with longDev := some { op := 0x43, args := [] } } }
def refUp : State := let s := run.setBit R.REF_CFG 31 true; { s with sys := { s.sys with cyc := 2000000 } }
def logged : State := { run.setWide R.SPL_LOGHEAD 1 with spool := { run.spool with gathered := [(List.replicate 8 7#32, 5)] } }
def pres (s : State) : State := { s with spool := { s.spool with presLow := true } }
def staged : State := { run with fw := { run.fw with staging := [(2, 0x01000008#32), (4, 0xF0000000#32), (9, 7#32)] } }

/-- The header of a firmware image with one word for each core (R376). -/
def image : List Word :=
  let h := [0x48594653#32, 7#32, 256#32, 4#32, 0#32, 512#32, 4#32, 0#32, crc32Words [1#32], crc32Words [2#32]] ++ List.replicate 5 0#32
  h ++ [crc32Words h]
def flashed (s : State) : State :=
  ((s.flashPutWords (slotBase 0) image).flashPutWords (slotBase 0 + 256) [1#32]).flashPutWords (slotBase 0 + 512) [2#32]

/-- Ports 0 and 1 UP. -/
def up2 (s : State) : State := ((s.setBit R.LNK_CFG 31 true).setFld (R.LNK_PORT 0) 1 0 3).setFld (R.LNK_PORT 1) 1 0 3
def worker5 : State := let s := up2 (run.setFld R.LNK_STAT 1 0 0); { s.set R.LNK_ADDR 0x00030005#32 with sys := { s.sys with linkRun := true } }
def rec5 : WorkerRec := { addr := 5#11, entry := 0, k := 1, port := 0, pos := 1, alive := 0 }
def rec6 : WorkerRec := { addr := 6#11, entry := 0, k := 2, port := 0, pos := 2, alive := 0 }
def manager : State :=
  let s := up2 (run.setFld R.LNK_STAT 1 0 1)
  { s.set R.LNK_ADDR 0#32 with sys := { s.sys with linkRun := true }, lnk := { s.lnk with table := [rec5, rec6] } }

theorem witness_RequestsAreCheckedInOrder :
    run.mayServe (chanIx .host) 0x00 = false
    ∧ (let s := run.set (bch 0 0) (hdrW 0xFF 0)
       (s.opens .host (bch 0 0x10 / 128) = true ∧ s.fwRuns = true ∧ s.sndOf 0 = 0 ∧ s.rcvOf 0 = 1 ∧ s.sndOf 1 = 1 ∧ s.bit (R.MBX_BINDB 0) 8 = false
        ∧ s.bFull 0 = false ∧ s.bFull 1 = false ∧ s.hasReq 1 = false ∧ s.hasReq 2 = false ∧ s.lnk.inq = [] ∧ (∀ d, vget s.fw.outq d = [])
        ∧ (∀ d, vget s.fw.owed d = []) ∧ bitOf 1#32 0 = true ∧ s.baseline = false)
       ∧ opSpec (hdrOp (s.get (bch 0 0))) = none)
    ∧ (let s := run.set (bch 0 0) (hdrW 0x04 0 - 5#32); (opSpec (hdrOp (s.get (bch 0 0)))).isSome = true ∧ hdrTag (s.get (bch 0 0)) = 0)
    ∧ (let s := run.set (bch 0 0) 0x04402805#32
       (∃ o, opSpec (hdrOp (s.get (bch 0 0))) = some o ∧ s.badReq (s.reqOf 0) o = false) ∧ s.isLocal (s.reqOf 0) = false ∧ s.linkRole = 2
       ∧ s.relayDenied (s.reqOf 0) = false)
    ∧ (let s := ((run.set (bch 0 0) 0x85402905#32).set (bch 0 1) 0x40000008#32)
       (∃ o, opSpec (hdrOp (s.get (bch 0 0))) = some o ∧ s.badReq (s.reqOf 0) o = false) ∧ s.isLocal (s.reqOf 0) = false ∧ s.linkRole = 2
       ∧ s.relayDenied (s.reqOf 0) = true) := by
  refine ⟨by decide, by decide, by decide, ⟨⟨_, rfl, by decide⟩, by decide, by decide, by decide⟩, ⟨_, rfl, by decide⟩, by decide, by decide, by decide⟩

theorem witness_IdentityAndSystemRequests :
    (let s := req 0 0x00 [] run
     Waits s .host 0x00)
    ∧ (let s := req 2 0x01 [] run
     Waits s .maint 0x01)
    ∧ (let s := req 0 0x02 [0] run
     Waits s .host 0x02
       ∧ (s.reqOf 0).n 1 = 0)
    ∧ (let s := req 0 0x02 [2] moving1
     Waits s .host 0x02
       ∧ (s.reqOf 0).n 1 = 2 ∧ s.axisBusy 1 = true)
    ∧ (let s := req 2 0x03 [1, 0x9E37] run
     Waits s .maint 0x03
       ∧ s.isUe .wj 16 = false ∧ s.isUe .wj 17 = false)
    ∧ (let s := req 0 0x04 [] run
     Waits s .host 0x04)
    ∧ (let s := req 0 0x05 [1, 7] run
     Waits s .host 0x05
       ∧ s.isWorker = false)
    ∧ (let s := req 0 0x05 [1, 7] (run.setFld R.LNK_STAT 1 0 0)
     Waits s .host 0x05
       ∧ s.isWorker = true)
    ∧ (let s := req 0 0x06 [1, 2, 3, 4, 5, 6, 7, 8] run
     Waits s .host 0x06)
    ∧ (let s := req 2 0x07 [1, 7, 3] run
     Waits s .maint 0x07) :=
  ⟨waits_of (by decide +kernel),
    waits_of (by decide +kernel),
    ⟨waits_of (by decide +kernel), by decide +kernel⟩,
    ⟨waits_of (by decide +kernel), by decide +kernel⟩,
    ⟨waits_of (by decide +kernel), by decide +kernel⟩,
    waits_of (by decide +kernel),
    ⟨waits_of (by decide +kernel), by decide +kernel⟩,
    ⟨waits_of (by decide +kernel), by decide +kernel⟩,
    waits_of (by decide +kernel),
    waits_of (by decide +kernel)⟩

theorem witness_AxisAndMotorRequests :
    (let s := req 0 0x10 [1, 1] run
     Waits s .host 0x10
       ∧ NoReset s
       ∧ ClocksRun s
       ∧ s.sys.strapStuck = false ∧ (s.reqOf 0).n 2 = 1 ∧ (s.fwAx (s.reqOf 0).ax).motor = false)
    ∧ (let s := req 0 0x10 [1, 1] motored
     Waits s .host 0x10
       ∧ NoReset s
       ∧ (s.reqOf 0).n 2 = 1 ∧ (s.fwAx (s.reqOf 0).ax).motor = true ∧ s.isetBars = false ∧ s.torqueBarred (s.reqOf 0).ax = true)
    ∧ (let s := req 0 0x10 [1, 1] (safeOk motored)
     Waits s .host 0x10
       ∧ NoReset s
       ∧ (s.reqOf 0).n 2 = 1 ∧ (s.fwAx (s.reqOf 0).ax).motor = true ∧ s.isetBars = false ∧ s.torqueBarred (s.reqOf 0).ax = false)
    ∧ (let s := req 0 0x10 [1, 0] run
     Waits s .host 0x10
       ∧ NoReset s
       ∧ (s.reqOf 0).n 2 = 0 ∧ s.axisBusy (s.reqOf 0).ax = false)
    ∧ (let s := req 0 0x10 [1, 0] moving1
     Waits s .host 0x10
       ∧ NoReset s
       ∧ (s.reqOf 0).n 2 = 0 ∧ s.axisBusy (s.reqOf 0).ax = true)
    ∧ (let s := req 0 0x11 [7, 2] run
     Waits s .host 0x11
       ∧ NoReset s
       ∧ s.meEn (s.reqOf 0).ax = false ∧ (s.reqOf 0).n 2 ≠ 1 ∧ (s.fwAx (s.reqOf 0).ax).tmpl = none)
    ∧ (let s := req 0 0x12 [1, 50, 2000, 1000, 5, 6, 7] run
     Waits s .host 0x12
       ∧ NoReset s
       ∧ s.meEn (s.reqOf 0).ax = false ∧ s.crEn (s.reqOf 0).ax = false)
    ∧ (let s := req 0 0x12 [1, 50, 2000, 1000, 5, 6, 7] (meon run)
     Waits s .host 0x12
       ∧ NoReset s
       ∧ s.meEn (s.reqOf 0).ax = true)
    ∧ (let s := req 0 0x13 [1, 1000, 2000, 65535] run
     Waits s .host 0x13
       ∧ NoReset s
       ∧ s.early 0x13 (s.reqOf 0) = none ∧ s.ceilingBars (s.reqOf 0).ax ((s.reqOf 0).n 2) = false)
    ∧ (let s := req 0 0x14 [1, 1, 16777215, 16777214, 16777215] run
     Waits s .host 0x14
       ∧ NoReset s
       ∧ s.meEn (s.reqOf 0).ax = false ∧ s.crEn (s.reqOf 0).ax = false ∧ (s.reqOf 0).n 2 < 2) :=
  ⟨⟨waits_of (by decide +kernel), req_noReset run_noReset (by decide), clocks_of (by decide +kernel), by decide +kernel⟩,
    ⟨waits_of (by decide +kernel), req_noReset (noReset_as (by decide +kernel)) (by decide), by decide +kernel⟩,
    ⟨waits_of (by decide +kernel), req_noReset (noReset_as (by decide +kernel)) (by decide), by decide +kernel⟩,
    ⟨waits_of (by decide +kernel), req_noReset run_noReset (by decide), by decide +kernel⟩,
    ⟨waits_of (by decide +kernel), req_noReset (noReset_as (by decide +kernel)) (by decide), by decide +kernel⟩,
    ⟨waits_of (by decide +kernel), req_noReset run_noReset (by decide), by decide +kernel⟩,
    ⟨waits_of (by decide +kernel), req_noReset run_noReset (by decide), by decide +kernel⟩,
    ⟨waits_of (by decide +kernel), req_noReset (noReset_as (by decide +kernel)) (by decide), by decide +kernel⟩,
    ⟨waits_of (by decide +kernel), req_noReset run_noReset (by decide), by decide +kernel⟩,
    ⟨waits_of (by decide +kernel), req_noReset run_noReset (by decide), by decide +kernel⟩⟩

theorem witness_AxisAndMotorRequests_2 :
    (let s := req 0 0x15 [1, 0xFFFFFFFF, 0xFFFFFFFF, 0xFFFF8000, 0, 0x7FFF, 0xFFFFFFFF] present
     Waits s .host 0x15
       ∧ NoReset s
       ∧ s.presence = true ∧ s.meEn (s.reqOf 0).ax = false)
    ∧ (let s := req 0 0x15 [1, 0xFFFFFFFF, 0xFFFFFFFF, 0xFFFF8000, 0, 0x7FFF, 0xFFFFFFFF] run
     Waits s .host 0x15
       ∧ NoReset s
       ∧ s.presence = false)
    ∧ (let s := req 0 0x16 [1] run
     Waits s .host 0x16
       ∧ NoReset s)
    ∧ (let s := req 0 0x18 [1, 3, 102400] (meon run)
     Waits s .host 0x18
       ∧ NoReset s
       ∧ s.meEn (s.reqOf 0).ax = true ∧ s.axisBusy (s.reqOf 0).ax = false ∧ (s.reqOf 0).n 2 < 4 ∧ vget s.fw.long (s.reqOf 0).ax = none)
    ∧ (let s := req 0 0x18 [1, 3, 102400] (longOn 1 (meon run))
     Waits s .host 0x18
       ∧ NoReset s
       ∧ s.meEn (s.reqOf 0).ax = true ∧ s.axisBusy (s.reqOf 0).ax = false ∧ (s.reqOf 0).n 2 < 4 ∧ vget s.fw.long (s.reqOf 0).ax ≠ none)
    ∧ (let s := req 0 0x19 [1] (run.onFw 1 fun f => { f with ident := [1, 2, 3, 4, 5, 6, 7, 8] })
     Waits s .host 0x19
       ∧ NoReset s
       ∧ (s.fwAx (s.reqOf 0).ax).ident.length = 8 ∧ (s.fwAx (s.reqOf 0).ax).ident.getD 0 0#32 ≠ 0#32)
    ∧ (let s := req 0 0x19 [1] run
     Waits s .host 0x19
       ∧ NoReset s
       ∧ (s.fwAx (s.reqOf 0).ax).ident.getD 0 0#32 = 0#32)
    ∧ (let s := req 0 0x1A [1, 1022, 0x50006] run
     Waits s .host 0x1A
       ∧ NoReset s
       ∧ s.meEn (s.reqOf 0).ax = false ∧ s.crEn (s.reqOf 0).ax = false ∧ hdrNarg (s.reqOf 0).h = 3 ∧ (vget s.coil (s.reqOf 0).ax).waveBad = [])
    ∧ (let s := req 0 0x80 [1] (meon run)
     Waits s .host 0x80
       ∧ NoReset s
       ∧ s.meEn (s.reqOf 0).ax = true ∧ s.axisBusy (s.reqOf 0).ax = false ∧ vget s.fw.long (s.reqOf 0).ax = none)
    ∧ (let s := req 0 0x81 [1] gated
     Waits s .host 0x81
       ∧ NoReset s
       ∧ s.meEn (s.reqOf 0).ax = false ∧ vget s.fw.long (s.reqOf 0).ax = none ∧ s.bit (R.GD_CFG (s.reqOf 0).ax) 31 = true ∧ s.diagMay (s.reqOf 0).ax = true) :=
  ⟨⟨waits_of (by decide +kernel), req_noReset (noReset_as (by decide +kernel)) (by decide), by decide +kernel⟩,
    ⟨waits_of (by decide +kernel), req_noReset run_noReset (by decide), by decide +kernel⟩,
    ⟨waits_of (by decide +kernel), req_noReset run_noReset (by decide)⟩,
    ⟨waits_of (by decide +kernel), req_noReset (noReset_as (by decide +kernel)) (by decide), by decide +kernel⟩,
    ⟨waits_of (by decide +kernel), req_noReset (noReset_as (by decide +kernel)) (by decide), by decide +kernel⟩,
    ⟨waits_of (by decide +kernel), req_noReset (noReset_as (by decide +kernel)) (by decide), by decide +kernel⟩,
    ⟨waits_of (by decide +kernel), req_noReset run_noReset (by decide), by decide +kernel⟩,
    ⟨waits_of (by decide +kernel), req_noReset run_noReset (by decide), by decide +kernel⟩,
    ⟨waits_of (by decide +kernel), req_noReset (noReset_as (by decide +kernel)) (by decide), by decide +kernel⟩,
    ⟨waits_of (by decide +kernel), req_noReset (noReset_as (by decide +kernel)) (by decide), by decide +kernel⟩⟩

theorem witness_AxisAndMotorRequests_3 :
    (let s := req 0 0x82 [1, 0] run
     Waits s .host 0x82
       ∧ NoReset s
       ∧ (s.reqOf 0).n 2 = 0)
    ∧ (let s := req 0 0x82 [1, 1] gated
     Waits s .host 0x82
       ∧ NoReset s
       ∧ (s.reqOf 0).n 2 = 1 ∧ s.moving (s.reqOf 0).ax = false) :=
  ⟨⟨waits_of (by decide +kernel), req_noReset run_noReset (by decide), by decide +kernel⟩,
    ⟨waits_of (by decide +kernel), req_noReset (noReset_as (by decide +kernel)) (by decide), by decide +kernel⟩⟩

theorem witness_ContextAndMoveRequests :
    (let s := req 0 0x20 [1] (ld 0 run)
     Waits s .host 0x20
       ∧ s.lowestFree = some 1)
    ∧ (let s := req 0 0x20 [1] ({ run with ctxRam := (List.range 256).map fun c => (c * 64 + 32, 1#32) })
     Waits s .host 0x20
       ∧ s.lowestFree = none)
    ∧ (let s := req 0 0x21 [3, 31, 99] (ld 3 run)
     Waits s .host 0x21
       ∧ (∀ i, s.isUe .ctx i = false)
       ∧ s.ctxState (s.reqOf 0).ctx = ctxLoaded ∧ hdrNarg (s.reqOf 0).h = 3 ∧ 0 < (s.reqOf 0).n 2)
    ∧ (let s := req 0 0x21 [4, 31, 99] (ld 3 run)
     Waits s .host 0x21
       ∧ s.ctxState (s.reqOf 0).ctx ≠ ctxLoaded)
    ∧ (let s := req 0 0x22 [3, 1, 0] (meon (ld 3 (run.setBit R.HSP_MODE 0 true)))
     Waits s .host 0x22
       ∧ s.maint = true)
    ∧ (let s := req 0 0x26 [1, 0xFFFFFFFF, 5, 0] (meon (run.setBit R.HSP_MODE 0 true))
     Waits s .host 0x26
       ∧ s.maint = true)
    ∧ (let s := req 0 0x27 [1, 0xFFFFFFFF, 5] (meon (run.setBit R.HSP_MODE 0 true))
     Waits s .host 0x27
       ∧ s.maint = true)
    ∧ (let s := req 0 0x28 [1, 0, 0, 0, 5] (meon (run.setBit R.HSP_MODE 0 true))
     Waits s .host 0x28
       ∧ s.maint = true ∧ vget s.fw.long (s.reqOf 0).ax = none)
    ∧ (let s := req 0 0x22 [3, 1, 0] (meon (ld 3 run))
     Waits s .host 0x22
       ∧ s.maint = false ∧ (s.reqOf 0).n 2 = 1 ∧ (s.reqOf 0).n 3 = 0 ∧ s.startResult (s.reqOf 0).ctx 1 = 0 ∧ s.ctxUe (s.reqOf 0).ctx = none)
    ∧ (let s := req 0 0x22 [3, 1, 0] (meon (run.ctxLoad 3))
     Waits s .host 0x22
       ∧ s.maint = false ∧ (s.reqOf 0).n 2 = 1 ∧ (s.reqOf 0).n 3 = 0 ∧ s.startResult (s.reqOf 0).ctx 1 = 4) :=
  ⟨⟨waits_of (by decide +kernel), by decide +kernel⟩,
    ⟨waits_of (by decide +kernel), by decide +kernel⟩,
    ⟨waits_of (by decide +kernel), no_ue (by decide +kernel), by decide +kernel⟩,
    ⟨waits_of (by decide +kernel), by decide +kernel⟩,
    ⟨waits_of (by decide +kernel), by decide +kernel⟩,
    ⟨waits_of (by decide +kernel), by decide +kernel⟩,
    ⟨waits_of (by decide +kernel), by decide +kernel⟩,
    ⟨waits_of (by decide +kernel), by decide +kernel⟩,
    ⟨waits_of (by decide +kernel), by decide +kernel⟩,
    ⟨waits_of (by decide +kernel), by decide +kernel⟩⟩

theorem witness_ContextAndMoveRequests_2 :
    (let s := req 0 0x23 [255] qd
     Waits s .host 0x23
       ∧ s.ctxState (s.reqOf 0).ctx = ctxQueued ∧ fldOf (s.ctxW (s.reqOf 0).ctx 32) 10 8 = 1 ∧ bitOf (s.ctxW (s.reqOf 0).ctx 0) 8 = false)
    ∧ (let s := req 0 0x23 [4] qd
     Waits s .host 0x23
       ∧ s.ctxState (s.reqOf 0).ctx ≠ ctxQueued ∧ s.ctxState (s.reqOf 0).ctx ≠ ctxActive)
    ∧ (let s := req 0 0x24 [3] (ld 3 run)
     Waits s .host 0x24
       ∧ s.isTemplate (s.reqOf 0).ctx = false ∧ s.ctxState (s.reqOf 0).ctx = ctxLoaded)
    ∧ (let s := req 0 0x25 [255] qd
     Waits s .host 0x25)
    ∧ (let s := req 0 0x26 [1, 0xFFFFFFFF, 5, 0] run
     Waits s .host 0x26
       ∧ s.meEn (s.reqOf 0).ax = false)
    ∧ (let s := req 0 0x27 [1, 0xFFFFFFFF, 5] run
     Waits s .host 0x27)
    ∧ (let s := req 0 0x28 [1, 0, 0, 0, 5] run
     Waits s .host 0x28)
    ∧ (let s := req 0 0x26 [1, 0xFFFFFFFF, 5, 1, 9, 9] limited
     Waits s .host 0x26
       ∧ s.maint = false ∧ s.meEn (s.reqOf 0).ax = true ∧ s.lowestFree = some 0 ∧ s.isTemplate 0 = false ∧ (s.fwAx (s.reqOf 0).ax).lim.ecapO ≠ 0 ∧ (s.fwAx (s.reqOf 0).ax).lim.ecapC ≠ 0
        ∧ (s.fwAx (s.reqOf 0).ax).lim.ecapO < 4294967296 ∧ (s.fwAx (s.reqOf 0).ax).lim.ecapC < 4294967296 ∧ (s.fwAx (s.reqOf 0).ax).lim.jerk < 4294967296 ∧ (s.fwAx (s.reqOf 0).ax).lim.obsact < 4
        ∧ (s.fwAx (s.reqOf 0).ax).lim.retries < 16)
    ∧ (let s := req 0 0x27 [1, 0xFFFFFFFF, 5] limited
     Waits s .host 0x27)
    ∧ (let s := req 0 0x28 [1, 1, 0, 0, 5] limited
     Waits s .host 0x28
       ∧ (s.reqOf 0).n 2 < 2 ∧ vget s.fw.long (s.reqOf 0).ax = none) :=
  ⟨⟨waits_of (by decide +kernel), by decide +kernel⟩,
    ⟨waits_of (by decide +kernel), by decide +kernel⟩,
    ⟨waits_of (by decide +kernel), by decide +kernel⟩,
    waits_of (by decide +kernel),
    ⟨waits_of (by decide +kernel), by decide +kernel⟩,
    waits_of (by decide +kernel),
    waits_of (by decide +kernel),
    ⟨waits_of (by decide +kernel), by decide +kernel⟩,
    waits_of (by decide +kernel),
    ⟨waits_of (by decide +kernel), by decide +kernel⟩⟩

theorem witness_ContextAndMoveRequests_3 :
    (let s := req 0 0x29 [0x81] run
     Waits s .host 0x29
       ∧ ((s.reqOf 0).n 1).testBit 7 = true ∧ ((s.reqOf 0).n 1).testBit 6 = false)
    ∧ (let s := req 0 0x2B [0x81] run
     Waits s .host 0x2B
       ∧ ((s.reqOf 0).n 1).testBit 0 = true)
    ∧ (let s := req 0 0x2A [1, 0, 5] run
     Waits s .host 0x2A
       ∧ s.moving (s.reqOf 0).ax = false ∧ (s.me (s.reqOf 0).ax).active = none)
    ∧ (let s := req 0 0x2A [1, 0, 5] moving1
     Waits s .host 0x2A
       ∧ (s.me (s.reqOf 0).ax).active ≠ none)
    ∧ (let s := req 0 0x2C [0x80, 1] run
     Waits s .host 0x2C
       ∧ ((s.reqOf 0).n 1).testBit 7 = true ∧ (s.reqOf 0).n 2 = 1)
    ∧ (let s := req 0 0x2C [0x80, 0] run
     Waits s .host 0x2C
       ∧ (s.reqOf 0).n 2 = 0)
    ∧ (let s := req 0 0x2D [0, 0, 0] run
     Waits s .host 0x2D
       ∧ (s.reqOf 0).n 1 = 0)
    ∧ (let s := req 0 0x2D [2, 0, 0] run
     Waits s .host 0x2D
       ∧ ((s.reqOf 0).n 1).testBit 1 = true ∧ vget s.roles 1 ≠ .door)
    ∧ (let s := req 0 0x2D [3, 0, 0] (meon doors)
     Waits s .host 0x2D
       ∧ ((s.reqOf 0).n 1).testBit 0 = true ∧ s.meEn 0 = false)
    ∧ (let s := req 0 0x2D [2, 0, 0] (meon (doors.setBit R.HSP_MODE 0 true))
     Waits s .host 0x2D
       ∧ ((s.reqOf 0).n 1).testBit 1 = true ∧ s.maint = true) :=
  ⟨⟨waits_of (by decide +kernel), by decide +kernel⟩,
    ⟨waits_of (by decide +kernel), by decide +kernel⟩,
    ⟨waits_of (by decide +kernel), by decide +kernel⟩,
    ⟨waits_of (by decide +kernel), by decide +kernel⟩,
    ⟨waits_of (by decide +kernel), by decide +kernel⟩,
    ⟨waits_of (by decide +kernel), by decide +kernel⟩,
    ⟨waits_of (by decide +kernel), by decide +kernel⟩,
    ⟨waits_of (by decide +kernel), by decide +kernel⟩,
    ⟨waits_of (by decide +kernel), by decide +kernel⟩,
    ⟨waits_of (by decide +kernel), by decide +kernel⟩⟩

theorem witness_ContextAndMoveRequests_4 :
    (let s := req 0 0x2D [2, 0, 0] (meon { doors with ctxRam := (List.range 256).map fun c => (c * 64 + 32, 1#32) })
     Waits s .host 0x2D
       ∧ (∀ bx : Axis, ((s.reqOf 0).n 1).testBit bx = true → vget s.roles bx = .door ∧ s.meEn bx = true) ∧ s.maint = false ∧ s.ctxFrees < ((List.finRange 8).filter fun bx : Axis => ((s.reqOf 0).n 1).testBit bx).length)
    ∧ (let s := req 0 0x2D [2, 1, 0] (meon doors)
     Waits s .host 0x2D
       ∧ (∀ bx : Axis, ((s.reqOf 0).n 1).testBit bx = true → vget s.roles bx = .door ∧ s.meEn bx = true) ∧ s.maint = false ∧ ((List.finRange 8).filter fun bx : Axis => ((s.reqOf 0).n 1).testBit bx).length ≤ s.ctxFrees)
    ∧ (let s := req 0 0x2D [2, 1, 0] (meon (doors.onFw 1 fun f => { f with lim := { f.lim with vlim := 10000, acc := 5000, ecapO := 5, ecapC := 6 } }))
     Waits s .host 0x2D
       ∧ (∀ bx : Axis, ((s.reqOf 0).n 1).testBit bx = true → vget s.roles bx = .door ∧ s.meEn bx = true) ∧ s.maint = false ∧ ((List.finRange 8).filter fun bx : Axis => ((s.reqOf 0).n 1).testBit bx) = [1] ∧ s.lowestFree = some 0 ∧ s.isTemplate 0 = false
        ∧ (s.fwAx 1).lim.ecapO ≠ 0 ∧ (s.fwAx 1).lim.ecapC ≠ 0 ∧ (s.fwAx 1).lim.ecapO < 4294967296 ∧ (s.fwAx 1).lim.ecapC < 4294967296
        ∧ (s.fwAx 1).lim.jerk < 4294967296 ∧ (s.fwAx 1).lim.obsact < 4 ∧ (s.fwAx 1).lim.retries < 16) :=
  ⟨⟨waits_of (by decide +kernel), by decide +kernel⟩,
    ⟨waits_of (by decide +kernel), by decide +kernel⟩,
    ⟨waits_of (by decide +kernel), by decide +kernel⟩⟩

theorem witness_LimitAndSafetyRequests :
    (let s := req 0 0x30 [1, 10000, 5000, 6000, 77] run
     Waits s .host 0x30
       ∧ ClocksRun s)
    ∧ (let s := req 0 0x31 [1, 5, 6] present
     Waits s .host 0x31
       ∧ s.presence = true)
    ∧ (let s := req 0 0x32 [1, 100, 1, 5, 500, 3] present
     Waits s .host 0x32)
    ∧ (let s := req 0 0x33 [1, 1000] present
     Waits s .host 0x33
       ∧ s.presence = true ∧ s.saf.s.ready = false)
    ∧ (let s := req 0 0x33 [1, 1000] (safeOk present)
     Waits s .host 0x33
       ∧ NoCrst s
       ∧ s.presence = true ∧ s.saf.s.ready = true ∧ s.saf.s.latched ≠ none ∧ s.wFull 0 = false ∧ s.wFull 1 = false ∧ s.sndOf 8 = 3 ∧ s.rcvOf 8 = 1 ∧ s.sndOf 9 = 1 ∧ s.rcvOf 9 = 3 ∧ (s.reqOf 0).n 2 * s.shunt (s.reqOf 0).ax / 250000 ≤ classCeil s.saf.s.code)
    ∧ (let s := req 0 0x31 [1, 5, 6] run
     Waits s .host 0x31
       ∧ s.presence = false)
    ∧ (let s := req 0 0x32 [1, 100, 1, 5, 500, 3] run
     Waits s .host 0x32)
    ∧ (let s := req 0 0x33 [1, 1000] run
     Waits s .host 0x33)
    ∧ (let s := req 0 0x34 [] run
     Waits s .host 0x34)
    ∧ (let s := req 0 0x36 [3, 1] run
     Waits s .host 0x36
       ∧ s.saf.s.ready = false) :=
  ⟨⟨waits_of (by decide +kernel), clocks_of (by decide +kernel)⟩,
    ⟨waits_of (by decide +kernel), by decide +kernel⟩,
    waits_of (by decide +kernel),
    ⟨waits_of (by decide +kernel), by decide +kernel⟩,
    ⟨waits_of (by decide +kernel), noCrst_of (req_noReset (noReset_as (by decide +kernel)) (by decide)), by decide +kernel⟩,
    ⟨waits_of (by decide +kernel), by decide +kernel⟩,
    waits_of (by decide +kernel),
    waits_of (by decide +kernel),
    waits_of (by decide +kernel),
    ⟨waits_of (by decide +kernel), by decide +kernel⟩⟩

theorem witness_LimitAndSafetyRequests_2 :
    (let s := req 0 0x36 [2, 1] saf1
     Waits s .host 0x36
       ∧ NoCrst s
       ∧ s.saf.s.ready = true ∧ s.wFull 0 = false ∧ s.wFull 1 = false ∧ s.sndOf 8 = 3 ∧ s.rcvOf 8 = 1 ∧ s.sndOf 9 = 1 ∧ s.rcvOf 9 = 3 ∧ (s.reqOf 0).n 2 = 1)
    ∧ (let s := req 0 0x37 [255, 1, 255] run
     Waits s .host 0x37
       ∧ NoReset s
       ∧ ClocksRun s) :=
  ⟨⟨waits_of (by decide +kernel), noCrst_of (req_noReset (noReset_as (by decide +kernel)) (by decide)), by decide +kernel⟩,
    ⟨waits_of (by decide +kernel), req_noReset run_noReset (by decide), clocks_of (by decide +kernel)⟩⟩

theorem witness_ConverterAndComparatorRequests :
    (let s := req 0 0x40 [3, 19, 0x4F, 7, 15, 255] pcon
     Waits s .host 0x40
       ∧ NoReset s
       ∧ ClocksRun s
       ∧ s.pcRuns (s.reqOf 0).pc = false)
    ∧ (let s := req 0 0x40 [3, 19, 0x4F, 7, 15, 255] (pcon.onPc 3 fun c => { c with rrun := true })
     Waits s .host 0x40
       ∧ NoReset s
       ∧ s.pcRuns (s.reqOf 0).pc = true)
    ∧ (let s := req 0 0x41 [8, 1] run
     Waits s .host 0x41
       ∧ NoReset s
       ∧ ((s.reqOf 0).n 1).testBit 3 = true ∧ ((s.reqOf 0).n 1).testBit 0 = false)
    ∧ (let s := req 0 0x42 [3, 6, 14] run
     Waits s .host 0x42
       ∧ NoReset s
       ∧ (s.reqOf 0).n 3 ≤ 14)
    ∧ (let s := req 0 0x43 [1, 19, 1] run
     Waits s .host 0x43
       ∧ NoReset s
       ∧ s.fw.longDev = none ∧ (vget s.pc (s.reqOf 0).pc).calRun = none ∧ (vget s.pc (s.reqOf 0).pc).calPend = none ∧ (vget s.pc (s.reqOf 0).pc).iIdx = none)
    ∧ (let s := req 0 0x43 [1, 19, 1] busyDev
     Waits s .host 0x43
       ∧ NoReset s
       ∧ s.fw.longDev ≠ none)
    ∧ (let s := req 0 0x44 [1] run
     Waits s .host 0x44
       ∧ NoReset s)
    ∧ (let s := req 0 0x48 [2, 14] run
     Waits s .host 0x48
       ∧ NoReset s
       ∧ (s.reqOf 0).n 2 ≤ 14)
    ∧ (let s := req 0 0x45 [3, 1023, 3, 3, 15, 1] run
     Waits s .host 0x45
       ∧ NoReset s
       ∧ s.bit (R.CMP_CCFG (s.reqOf 0).cmp) 31 = false)
    ∧ (let s := req 0 0x45 [15, 1023, 3, 3, 15, 1] cmpd
     Waits s .host 0x45
       ∧ NoReset s
       ∧ s.bit (R.CMP_CCFG (s.reqOf 0).cmp) 31 = true) :=
  ⟨⟨waits_of (by decide +kernel), req_noReset (noReset_as (by decide +kernel)) (by decide), clocks_of (by decide +kernel), by decide +kernel⟩,
    ⟨waits_of (by decide +kernel), req_noReset (noReset_as (by decide +kernel)) (by decide), by decide +kernel⟩,
    ⟨waits_of (by decide +kernel), req_noReset run_noReset (by decide), by decide +kernel⟩,
    ⟨waits_of (by decide +kernel), req_noReset run_noReset (by decide), by decide +kernel⟩,
    ⟨waits_of (by decide +kernel), req_noReset run_noReset (by decide), by decide +kernel⟩,
    ⟨waits_of (by decide +kernel), req_noReset (noReset_as (by decide +kernel)) (by decide), by decide +kernel⟩,
    ⟨waits_of (by decide +kernel), req_noReset run_noReset (by decide)⟩,
    ⟨waits_of (by decide +kernel), req_noReset run_noReset (by decide), by decide +kernel⟩,
    ⟨waits_of (by decide +kernel), req_noReset run_noReset (by decide), by decide +kernel⟩,
    ⟨waits_of (by decide +kernel), req_noReset (noReset_as (by decide +kernel)) (by decide), by decide +kernel⟩⟩

theorem witness_ConverterAndComparatorRequests_2 :
    (let s := req 0 0x46 [] run
     Waits s .host 0x46
       ∧ NoReset s)
    ∧ (let s := req 0 0x47 [5] run
     Waits s .host 0x47
       ∧ NoReset s
       ∧ s.refAge < 5)
    ∧ (let s := req 0 0x47 [5] refUp
     Waits s .host 0x47
       ∧ NoReset s
       ∧ 5 ≤ s.refAge ∧ s.fw.longDev = none) :=
  ⟨⟨waits_of (by decide +kernel), req_noReset run_noReset (by decide)⟩,
    ⟨waits_of (by decide +kernel), req_noReset run_noReset (by decide), by decide +kernel⟩,
    ⟨waits_of (by decide +kernel), req_noReset (noReset_as (by decide +kernel)) (by decide), by decide +kernel⟩⟩

theorem witness_FaultLogAndRegisterRequests :
    (let s := req 0 0x50 [] run
     Waits s .host 0x50)
    ∧ (let s := req 0 0x51 [125] run
     Waits s .host 0x51)
    ∧ (let s := req 0 0x52 [6] (run.raiseLevel 6 5#32)
     Waits s .host 0x52
       ∧ (s.reqOf 0).n 1 < 128 ∧ (s.reqOf 0).n 1 ≠ 30 ∧ s.present ((s.reqOf 0).n 1) = true)
    ∧ (let s := req 0 0x52 [125] run
     Waits s .host 0x52
       ∧ (s.reqOf 0).n 1 < 128 ∧ (s.reqOf 0).n 1 ≠ 30 ∧ s.present ((s.reqOf 0).n 1) = false)
    ∧ (let s := req 0 0x53 [125, 4, 1] ({ fw0 with spool := { fw0.spool with presLow := true } })
     Waits s .host 0x53
       ∧ ClocksRun s
       ∧ s.presence = true ∧ (s.reqOf 0).n 1 < 126 ∧ s.bit R.FC_CTL 31 = false)
    ∧ (let s := req 0 0x53 [125, 4, 1] run
     Waits s .host 0x53
       ∧ s.presence = false)
    ∧ (let s := req 0 0x54 [] run
     Waits s .host 0x54)
    ∧ (let s := req 0 0x55 [0, 0] logged
     Waits s .host 0x55
       ∧ s.logTail ≤ argWideU (s.reqOf 0).ws 1 ∧ argWideU (s.reqOf 0).ws 1 < s.logHead ∧ s.logHead - s.spool.gathered.length ≤ argWideU (s.reqOf 0).ws 1
        ∧ (∀ r ∈ s.spool.gathered, r.1.length = 8) ∧ s.spool.gathered.length ≤ s.logHead)
    ∧ (let s := req 0 0x55 [0, 1] logged
     Waits s .host 0x55
       ∧ s.logHead ≤ argWideU (s.reqOf 0).ws 1)
    ∧ (let s := req 0 0x56 [0x30, 1, 2, 3, 4, 5, 6, 7, 8] run
     Waits s .host 0x56
       ∧ s.baseline = false ∧ s.spool.gathered.length < 6 ∧ s.logHead < 18446744073709551615) :=
  ⟨waits_of (by decide +kernel),
    waits_of (by decide +kernel),
    ⟨waits_of (by decide +kernel), by decide +kernel⟩,
    ⟨waits_of (by decide +kernel), by decide +kernel⟩,
    ⟨waits_of (by decide +kernel), clocks_of (by decide +kernel), by decide +kernel⟩,
    ⟨waits_of (by decide +kernel), by decide +kernel⟩,
    waits_of (by decide +kernel),
    ⟨waits_of (by decide +kernel), by decide +kernel⟩,
    ⟨waits_of (by decide +kernel), by decide +kernel⟩,
    ⟨waits_of (by decide +kernel), by decide +kernel⟩⟩

theorem witness_FaultLogAndRegisterRequests_2 :
    (let s := req 0 0x57 [1] run
     Waits s .host 0x57)
    ∧ (let s := req 0 0x83 [] run
     Waits s .host 0x83)
    ∧ (let s := req 0 0x84 [0x40000000 + 4 * R.ME_MASS 1, 1] run
     Waits s .host 0x84
       ∧ ClocksRun s
       ∧ keyOfAddr ((s.reqOf 0).n 1) = R.ME_MASS 1 ∧ (s.reqOf 0).n 2 = 1)
    ∧ (let s := req 2 0x85 [0x40000000 + 4 * R.ME_HDEC 1, 1] present
     Waits s .maint 0x85
       ∧ s.sndOf 4 = 4 ∧ s.presence = true ∧ regWriteBars ((s.reqOf 2).n 1) = false ∧ s.bit R.HSP_MODE 0 = false)
    ∧ (let s := req 2 0x85 [0x40000000 + 4 * R.ME_HDEC 1, 99] (present.setBit R.HSP_MODE 0 true)
     Waits s .maint 0x85
       ∧ ClocksRun s
       ∧ s.sndOf 4 = 4 ∧ s.presence = true ∧ keyOfAddr ((s.reqOf 2).n 1) = R.ME_HDEC 1 ∧ s.bit R.HSP_MODE 0 = true)
    ∧ (let s := req 0 0x85 [0x40000000 + 4 * R.ME_HDEC 1, 99] present
     Waits s .host 0x85
       ∧ s.sndOf (inChan (chanIx .host)) ≠ 4) :=
  ⟨waits_of (by decide +kernel),
    waits_of (by decide +kernel),
    ⟨waits_of (by decide +kernel), clocks_of (by decide +kernel), by decide +kernel⟩,
    ⟨waits_of (by decide +kernel), by decide +kernel⟩,
    ⟨waits_of (by decide +kernel), clocks_of (by decide +kernel), by decide +kernel⟩,
    ⟨waits_of (by decide +kernel), by decide +kernel⟩⟩

theorem witness_SettingsAndFirmwareRequests :
    (let s := req 0 0x60 [1, 2] staged
     Waits s .host 0x60)
    ∧ (let s := req 0 0x65 [1] staged
     Waits s .host 0x65)
    ∧ (let s := req 0 0x61 [1, 2] staged
     Waits s .host 0x61
       ∧ s.presence = false)
    ∧ (let s := req 0 0x62 [] staged
     Waits s .host 0x62
       ∧ s.presence = false ∧ s.malformed = false)
    ∧ (let s := req 0 0x63 [] staged
     Waits s .host 0x63)
    ∧ (let s := req 0 0x64 [1, 4, 5] staged
     Waits s .host 0x64)
    ∧ (let s := req 0 0x66 [1, 1] staged
     Waits s .host 0x66)
    ∧ (let s := req 0 0x62 [] run
     Waits s .host 0x62
       ∧ s.malformed = true)
    ∧ (let s := req 0 0x61 [4095, 2] (pres staged)
     Waits s .host 0x61
       ∧ s.presence = true)
    ∧ (let s := req 0 0x62 [] (pres staged)
     Waits s .host 0x62
       ∧ s.malformed = false ∧ s.fw.longDev = none) :=
  ⟨waits_of (by decide +kernel),
    waits_of (by decide +kernel),
    ⟨waits_of (by decide +kernel), by decide +kernel⟩,
    ⟨waits_of (by decide +kernel), by decide +kernel⟩,
    waits_of (by decide +kernel),
    waits_of (by decide +kernel),
    waits_of (by decide +kernel),
    ⟨waits_of (by decide +kernel), by decide +kernel⟩,
    ⟨waits_of (by decide +kernel), by decide +kernel⟩,
    ⟨waits_of (by decide +kernel), by decide +kernel⟩⟩

theorem witness_SettingsAndFirmwareRequests_2 :
    (let s := req 0 0x62 [] (pres { staged with fw := { staged.fw with longDev := some { op := 0x43, args := [] } } })
     Waits s .host 0x62
       ∧ s.presence = true ∧ s.malformed = false ∧ s.fw.longDev ≠ none)
    ∧ (let s := req 0 0x63 [] (pres staged)
     Waits s .host 0x63)
    ∧ (let s := req 0 0x64 [1, 2097144, 0xFFFFFFFF, 5] (pres staged)
     Waits s .host 0x64
       ∧ s.spool.gathered.length < 6 ∧ spSorted s.spool.flash = true ∧ s.slotActive ((s.reqOf 0).n 1) = false)
    ∧ (let s := req 0 0x64 [0, 4, 5] (pres staged)
     Waits s .host 0x64
       ∧ s.slotActive ((s.reqOf 0).n 1) = true)
    ∧ (let s := req 0 0x66 [1, 1] (pres staged)
     Waits s .host 0x66
       ∧ s.spool.gathered.length < 6 ∧ s.slotValid ((s.reqOf 0).n 1) = false)
    ∧ (let s := req 0 0x66 [0, 1] (pres { flashed run with fw := { run.fw with longDev := some { op := 0x62, args := [] } } })
     Waits s .host 0x66
       ∧ s.slotValid ((s.reqOf 0).n 1) = true ∧ s.fw.longDev = some { op := 0x62, args := [] })
    ∧ (let s := req 0 0x66 [0, 1] (pres (flashed run))
     Waits s .host 0x66
       ∧ (∀ i, s.isUe .wj i = false)
       ∧ s.slotValid ((s.reqOf 0).n 1) = true ∧ s.fw.longDev = none) :=
  ⟨⟨waits_of (by decide +kernel), by decide +kernel⟩,
    waits_of (by decide +kernel),
    ⟨waits_of (by decide +kernel), by decide +kernel⟩,
    ⟨waits_of (by decide +kernel), by decide +kernel⟩,
    ⟨waits_of (by decide +kernel), by decide +kernel⟩,
    ⟨waits_of (by decide +kernel), by decide +kernel⟩,
    ⟨waits_of (by decide +kernel), no_wjUe (by decide +kernel), by decide +kernel⟩⟩

theorem witness_HierarchyRequests :
    (let s := req 0 0x70 [] run
     Waits s .host 0x70)
    ∧ (let s := req 0 0x71 [] run
     Waits s .host 0x71
       ∧ s.isManager = false)
    ∧ (let s := req 0 0x72 [1] run
     Waits s .host 0x72)
    ∧ (let s := req 0 0x73 [63, 5, 1] run
     Waits s .host 0x73)
    ∧ (let s := req 0 0x75 [1000] run
     Waits s .host 0x75)
    ∧ (let s := req 0 0x71 [] ({ manager with fw := { run.fw with longDev := some { op := 0x43, args := [] } } })
     Waits s .host 0x71
       ∧ s.isManager = true ∧ s.fw.longDev ≠ none)
    ∧ (let s := req 0 0x71 [] manager
     Waits s .host 0x71
       ∧ s.isManager = true ∧ s.fw.longDev = none ∧ s.sys.linkRun = true ∧ s.lnk.todo = [] ∧ s.portUp 0 = true)
    ∧ (let s := req 0 0x72 [1] manager
     Waits s .host 0x72)
    ∧ (let s := req 0 0x73 [63, 9, 1] manager
     Waits s .host 0x73
       ∧ s.worker (BitVec.ofNat 11 ((s.reqOf 0).n 2)) = none)
    ∧ (let s := req 0 0x73 [63, 5, 1] manager
     Waits s .host 0x73
       ∧ s.worker (BitVec.ofNat 11 ((s.reqOf 0).n 2)) ≠ none ∧ (s.reqOf 0).n 3 = 1) :=
  ⟨waits_of (by decide +kernel),
    ⟨waits_of (by decide +kernel), by decide +kernel⟩,
    waits_of (by decide +kernel),
    waits_of (by decide +kernel),
    waits_of (by decide +kernel),
    ⟨waits_of (by decide +kernel), by decide +kernel⟩,
    ⟨waits_of (by decide +kernel), by decide +kernel⟩,
    waits_of (by decide +kernel),
    ⟨waits_of (by decide +kernel), by decide +kernel⟩,
    ⟨waits_of (by decide +kernel), by decide +kernel⟩⟩

theorem witness_HierarchyRequests_2 :
    (let s := req 0 0x75 [1000] manager
     Waits s .host 0x75)
    ∧ (let s := req 0 0x74 [1000, 1] run
     Waits s .host 0x74
       ∧ s.presence = false)
    ∧ (let s := req 0 0x74 [1000, 1] present
     Waits s .host 0x74
       ∧ ClocksRun s
       ∧ s.presence = true) :=
  ⟨waits_of (by decide +kernel),
    ⟨waits_of (by decide +kernel), by decide +kernel⟩,
    ⟨waits_of (by decide +kernel), clocks_of (by decide +kernel), by decide +kernel⟩⟩

def eventful : State := { run with fw := { run.fw with events := vset run.fw.events 0 [[1#32, 2#32], [3#32]] } }
def relayed : State := { run with lnk := { run.lnk with txns := [{ num := 4, ch := 0, hdr := hdrW 6 0, dest := 5, group := none }] } }
def committing : State :=
  { run with fw := { run.fw with longDev := some { op := 0x62, args := [0x53544731#32, 9#32, 0x01000008#32, 0#32, 0xF0000000#32, 0#32, 0#32, 0#32] } } }
def gathering : State :=
  { (run.set R.SPL_LOGPAGES 100#32).setWide R.SPL_LOGHEAD 703 with spool := { run.spool with gathered := [([1#32], 5), ([], 3), ([], 1)] } }
/-- An image in slot 0, and a header chosen with the trial bits `tr`. -/
def headed (tr : Nat) (s : State) : State := (flashed s).hdrWrite fun w => w ||| BitVec.ofNat 32 tr
def trial : State := headed 0x300 ((run.set R.SPL_BOOT 0x300#32).setFld R.SPL_BOOT 27 24 0)
/-- Axis 1 learns its open end by context 3, which has ended by an obstacle 100,000 microsteps along. -/
def learning (reason : Nat) : State :=
  let s := (run.ctxLoad 3).onFw 1 fun f => { f with learn := some 3 }
  ((s.set R.SYS_STRAP 6#32).setCtxW 3 32 (wordOfNat (reason * 65536 + 5))).setCtxW 3 39 100000#32

theorem witness_LongOperationsEndAndFirmwareFollowsUp :
    (let s := longOn 7 run
     s.fwRuns = true ∧ vget s.fw.long 7 = some { op := 0x80, args := [] } ∧ s.axisRuns 7 { op := 0x80, args := [] } = false ∧ 1#8 ≠ 0#8 ∧ s.wants 0 .longEnd = false)
    ∧ (let s : State := { longOn 7 run with fw := { (longOn 7 run).fw with masks := vset run.fw.masks 0 2#32 } }
       s.wants 0 .longEnd = true ∧ (vget s.fw.events 0).length < 32)
    ∧ (ClocksRun (longOn 7 run) ∧ NoReset (longOn 7 run))
    ∧ (committing.fwRuns = true ∧ spSorted committing.spool.flash = true ∧ committing.fw.longDev.any (fun o => o.op = 0x62 ∧ 8 ≤ o.args.length ∧ o.args.length ≤ 4096) = true)
    ∧ run.fw.longDev = none
    ∧ (let s := longOn 1 run
       let s : State := { s with fw := { s.fw with long := vset s.fw.long 1 (some { op := 0x18, args := [1#32, 4#32, 7#32] }) } }
       s.fwRuns = true ∧ vget s.fw.long 1 = some { op := 0x18, args := [1#32, 4#32, 7#32] } ∧ s.identFails 1 4 [] = true)
    ∧ (vget relayed.fw.owed 0 = [] ∧ (let s : State := { relayed with fw := { relayed.fw with owed := vset relayed.fw.owed 0 [.relayed 3, .relayed 4] } }
        3 ≠ (4#8).toNat ∧ vget s.fw.owed 0 = [.relayed 3, .relayed (4#8).toNat] ∧ hdrClass (hdrW 6 0) ≠ 0 ∧ s.bFull 1 = false))
    ∧ (relayed.lnk.txns.find? (fun y => y.num = (4#8).toNat) = some { num := 4, ch := 0, hdr := hdrW 6 0, dest := 5, group := none } ∧ relayed.bFull 1 = false
        ∧ relayed.sndOf 1 = 1 ∧ vget relayed.fw.outq 0 = [] ∧ (∀ d, relayed.hasReq d = false) ∧ relayed.lnk.inq = [])
    ∧ (eventful.fc = [] ∧ vget eventful.fw.outq (chanIx .host) = [] ∧ vget eventful.fw.events (chanIx .host) = [1#32, 2#32] :: [[3#32]]
        ∧ vget eventful.fw.lost (chanIx .host) = 0 ∧ eventful.bFull (outChan (chanIx .host)) = false ∧ eventful.sndOf (outChan (chanIx .host)) = 1)
    ∧ (eventful.setBit (bch 1 0x11) 0 true).bFull (outChan (chanIx .host)) = true ∧ run.fw.deferred = none
    ∧ ({ run with fw := { run.fw with deferred := some (.crst, 0) } } : State).fw.deferred = some (.crst, 0) :=
  ⟨by decide +kernel, by decide +kernel, ⟨clocks_of (by decide), noReset_as (by decide +kernel)⟩, by decide +kernel, by decide, by decide +kernel,
    by decide +kernel, by decide +kernel, by decide +kernel, by decide, by decide, by decide⟩

/-- The driver self-test of axis 1 runs, or has completed with comparator 3 failed; the drivers were enabled before. -/
def selfTested (done : Bool) : State :=
  let s : State := { run with fw := { run.fw with long := vset run.fw.long 1 (some { op := 0x81, args := [1#32, 1#32] }), masks := vset run.fw.masks 0 2#32 } }
  if done then s.set (R.GD_STRES 1) 0x80000008#32 else s.setBit (R.GD_STAT 1) 19 true
def enumRuns : State :=
  { run with fw := { run.fw with longDev := some { op := 0x71, args := [] } }, lnk := { run.lnk with todo := [2] } }

theorem witness_LongOperationsEndAndFirmwareFollowsUp_runs :
    (let s := selfTested false
     vget s.fw.long 1 = some { op := 0x81, args := [1#32, 1#32] } ∧ s.axisRuns 1 { op := 0x81, args := [1#32, 1#32] } = true ∧ s.fwRuns = true)
    ∧ (let s := selfTested true
       s.fwRuns = true ∧ vget s.fw.long 1 = some { op := 0x81, args := [1#32, 1#32] } ∧ s.planDone 1 = true ∧ s.bit (R.GD_STAT 1) 19 = false
       ∧ s.bit (R.GD_STRES 1) 31 = true ∧ s.wants 0 .longEnd = true ∧ (vget s.fw.events 0).length < 32)
    ∧ (enumRuns.fwRuns = true ∧ enumRuns.devRuns { op := 0x71, args := [] } = true) := by decide +kernel

/-- R271: gates stay off at their drivers while the self-test runs. -/
theorem test_selftest_holds_gates :
    let s := (selfTested false).setBit (R.GD_CFG 1) 31 true
    s.legUp 1 0 = false := by decide +kernel

theorem witness_LongOperationsEndAndFirmwareFollowsUp_log :
    (gathering.baseline = false ∧ gathering.spool.gathered ≠ [] ∧ gathering.spool.gathered.length ≤ 7 ∧ gathering.logPages ≠ 0 ∧ gathering.logHead < 2 ^ 63
        ∧ spSorted gathering.spool.flash = true ∧ gathering.isUe .wj 16 = false ∧ gathering.isUe .wj 17 = false)
    ∧ (trial.hdr = some (0, trial.hdrWords 0) ∧ trial.fwRuns = true ∧ trial.ready = true ∧ trial.baseline = false
        ∧ (trial.hdrWords 0).getD 2 0#32 &&& 0x300#32 ≠ 0#32 ∧ spSorted trial.spool.flash = true
        ∧ trial.isUe .wj 18 = false ∧ trial.isUe .wj 19 = false)
    ∧ (run.set R.HSP_READY 0#32).ready = false
    ∧ (ClocksRun (learning 7) ∧ NoReset (learning 7) ∧ (learning 7).maint = false ∧ (learning 7).fwRuns = true ∧ (learning 7).hasSettings = false ∧ (learning 7).bit R.SYS_STRAP 2 = true
        ∧ ((learning 7).fwAx 1).learn = some 3 ∧ (learning 7).ctxState 3 = ctxAborted ∧ fldOf ((learning 7).ctxW 3 32) 23 16 = 7
        ∧ -140737488355328 ≤ (learning 7).ctxWide 3 38 - 8192 ∧ (learning 7).ctxWide 3 38 - 8192 < 140737488355328)
    ∧ ((learning 6).ctxState 3 = ctxAborted ∧ fldOf ((learning 6).ctxW 3 32) 23 16 ≠ 7) ∧ (run.setFld R.SPL_BOOT 3 2 1).hasSettings = true :=
  ⟨by decide +kernel, by decide +kernel, by decide, ⟨clocks_of (by decide +kernel), noReset_as (by decide +kernel), by decide +kernel⟩,
    by decide +kernel, by decide⟩

def probe0 : SpoolProbe := { jedec := 0#24, sfdp := false, capUnits := 0, addr4 := false, b7 := false, erase4k := true, dummy8 := true }
def probe1 : SpoolProbe := { jedec := 5#24, sfdp := true, capUnits := 300, addr4 := true, b7 := false, erase4k := true, dummy8 := true }
def probe2 : SpoolProbe := { probe1 with erase4k := false }
def handing : State := { run with sys := { run.sys with exec := .handover } }

theorem witness_BootHandoverAndLinkCoreStart :
    (bare.sys.chipReset = false ∧ bare.sys.asleep = false ∧ bare.sys.strapped = true ∧ bare.sys.exec = .bootRom ∧ bare.sys.strapStuck = false)
    ∧ ({ bare with sys := { bare.sys with strapStuck := true } } : State).sys.strapStuck = true
    ∧ (ClocksRun bare ∧ NoReset bare ∧ noSpool probe0 = true ∧ noSpool probe1 = false ∧ spoolSuits probe1 = true ∧ noSpool probe2 = false ∧ spoolSuits probe2 = false ∧ bare.chosenBlock = none ∧ bare.hdr = none)
    ∧ (let s := headed 0 bare
       s.sys.exec = .bootRom ∧ s.chosenBlock = none ∧ s.hdr = some (0, s.hdrWords 0) ∧ (s.hdrWords 0).getD 2 0#32 &&& 0x300#32 = 0#32
       ∧ s.slotValid (fldOf ((s.hdrWords 0).getD 2 0#32) 0 0) = true ∧ s.slotValid (fldOf ((s.hdrWords 0).getD 2 0#32) 1 1) = true)
    ∧ (handing.sys.exec = .handover ∧ handing.msp.cur = none ∧ handing.msp.txq = [] ∧ handing.hdr = none) ∧ run.sys.exec ≠ .handover
    ∧ (run.opens .exec (R.SPL_CORE / 128) = true ∧ bare.opens .link (R.SPL_CORE / 128) = true ∧ ClocksRun handing)
    ∧ (fldOf 0x9E370001#32 31 16 = 0x9E37 ∧ bitOf 0x9E370001#32 0 = true ∧ manager.sys.linkRun = true)
    ∧ (bitOf 0x9E370000#32 0 = false ∧ (run.setBit R.SPL_CORE 0 true).bit R.SPL_CORE 0 = true)
    ∧ (Master.link ≠ .exec ∧ bare.fwRuns = false ∧ ∀ d, Plain bare 2 d)
    ∧ (run.sys.linkRun = false ∧ run.bit R.SPL_CORE 0 = false) ∧ (bare.setBit R.SPL_CORE 0 true).bit R.SPL_CORE 0 = true :=
  ⟨by decide, by decide, ⟨clocks_of (by decide), noReset_as (by decide), by decide +kernel⟩, by decide +kernel, by decide +kernel, by decide,
    ⟨by decide, by decide, clocks_of (by decide)⟩, by decide +kernel, by decide,
    ⟨by decide, by decide, fun _ => plain_of (by decide) _⟩, by decide, by decide⟩

def ent (txc : Word) : MspEntry := { txd := 0#32, txc }
def mspSt (q : List MspEntry) (cur : Option MspEntry) (rx : List Word) : State :=
  { run.setBit R.MSP_CFG 31 true with msp := { run.msp with txq := q, cur, rxq := rx } }
def wjOn (op : WjOp) : State := { run.setBit R.WJ_CFG 31 true with spool := { run.spool with wjOp := op } }

theorem witness_MasterPortAndWearJournal :
    ((∀ k ∈ [R.MSP_TXC, R.MSP_CTL, R.MSP_CFG, R.WJ_ADDR, R.WJ_CTL], run.opens .exec (k / 128) = true ∧ run.opens .host (k / 128) = true)
      ∧ run.opensRead .exec (R.MSP_RXD / 128) = true ∧ (wjOn .idle).opens .exec (R.WJ_CTL / 128) = true
      ∧ (wjOn (.write 8191 5#256)).opens .exec (R.WJ_CTL / 128) = true)
    ∧ (run.msp.txq.length < 16 ∧ ¬(if run.bit R.MSP_CFG 16 then txcSel 0#32 = 15 else 3 < txcSel 0#32)) ∧ (Master.host ≠ .exec ∧ ∀ d, Plain run 2 d)
    ∧ 16 ≤ (mspSt (List.replicate 16 (ent 0#32)) none []).msp.txq.length
    ∧ (let s := mspSt [ent 0x20#32] none (List.replicate 15 1#32)
       s.msp.cur = none ∧ s.msp.txq = ent 0x20#32 :: [] ∧ s.bit R.MSP_CFG 31 = true ∧ bitOf (ent 0x20#32).txc 5 = true ∧ s.msp.rxq.length < 16)
    ∧ 16 ≤ (mspSt [ent 0x20#32] none (List.replicate 16 1#32)).msp.rxq.length
    ∧ (let s := mspSt [] (some (ent 0x100#32)) []
       s.msp.cur = some (ent 0x100#32) ∧ bitOf (ent 0x100#32).txc 8 = true ∧ s.msp.relReq = false ∧ s.sys.exec = .firmware ∧ s.msp.cur ≠ none)
    ∧ bitOf (ent 0x20#32).txc 8 = false ∧ (mspSt [] none [7#32]).msp.rxq = 7#32 :: [] ∧ (run.msp.rxq = [] ∧ run.msp.cur = none)
    ∧ (∀ k d, (wjOn .idle).spool.wjOp ≠ .write k d) ∧ ((wjOn .idle).wjEn = true ∧ (wjOn .idle).spool.wjOp = .idle ∧ bitOf 1#32 0 = true)
    ∧ ((wjOn (.read 8191)).spool.wjOp = .read 8191 ∧ (wjOn (.read 8191)).isUe .wj 8191 = false)
    ∧ (let s := wjOn (.write 8191 5#256); s.spool.wjOp = .write 8191 5#256 ∧ s.spool.wjOp ≠ .idle ∧ (∀ d, Plain s 2 d) ∧ ∀ d, Plain s 121 d) :=
  ⟨by decide, by decide, ⟨by decide, fun _ => plain_of (by decide) _⟩, by decide, by decide, by decide, by decide, by decide, by decide, by decide,
    no_wj_write (by decide), by decide, by decide, by decide, by decide, fun _ => plain_of (by decide) _, fun _ => plain_of (by decide) _⟩

/-! ### Witnesses: the link -/

theorem free_of {s : State} {p : LinkPort} (h : (s.portUp p && !s.bit (R.LNK_PORT p) 4 && decide ((s.lp p).buf = [])) = true) : Free s p := by
  simp only [Bool.and_eq_true, Bool.not_eq_true', decide_eq_true_eq] at h
  exact ⟨h.1.1, h.1.2, h.2⟩

theorem settled_of {s : State} (h : (decide (∀ d, s.hasReq d = false) && decide (s.lnk.inq = []) && decide (∀ d, vget s.fw.outq d = [])) = true) : Settled s := by
  simp only [Bool.and_eq_true, decide_eq_true_eq] at h
  exact ⟨h.1.1, h.1.2, h.2⟩

def regularF : TxFrame := { cls := 2, kind := 0, dest := 5#11, src := 0#11 }

theorem witness_LinkPortsBuffersAndTime :
    (NoReset worker5 ∧ worker5.isWorker = true ∧ worker5.portUp 1 = true ∧ worker5.addressed = true ∧ worker5.inLoop = false ∧ Free worker5 (otherPort 1)
        ∧ Free worker5 0 ∧ worker5.hears 0 = true ∧ worker5.bit R.LNK_STAT 7 = false ∧ worker5.lnk.best = none)
    ∧ (worker5.setFld (R.LNK_PORT 0) 1 0 1).portState 0 = 1 ∧ worker5.portState 0 ≠ 1
    ∧ (let s := worker5.setFld (R.LNK_PORT 0) 1 0 2; s.portState 0 = 2 ∧ 0 = s.upPort ∧ s.bit (R.LNK_PORT 0) 4 = false ∧ (s.lp 0).buf = [])
    ∧ (1 : LinkPort) ≠ worker5.upPort ∧ ((1 : LinkPort).val < 2 ∧ (worker5.setBit R.LNK_STAT 5 true).inLoop = true)
    ∧ (let s := worker5.setBit (R.LNK_PORT 1) 4 true
       s.portUp 1 = true ∧ s.bit (R.LNK_PORT 1) 4 = true ∧ s.portUp s.upPort = true ∧ (s.lp s.upPort).buf = [] ∧ s.bit (R.LNK_PORT s.upPort) 4 = false)
    ∧ (let s := worker5.onLp 1 fun l => { l with buf := [(false, regularF)] }; nextStored (s.lp 1).buf = some (false, regularF) ∧ s.portUp 1 = true)
    ∧ (NoReset manager ∧ manager.isManager = true ∧ ∀ r, (manager.lp r).buf = [])
    ∧ (let s : State := { worker5 with sys := { worker5.sys with time := 50000 } }
       s.sys.linkRun = true ∧ 10000 < ((s.sys.time : Int) - ((100003 : Nat) + 3)).natAbs ∧ (run.sys.linkRun = false)) :=
  ⟨⟨noReset_as (by decide +kernel), by decide +kernel, by decide +kernel, by decide +kernel, by decide +kernel, free_of (by decide +kernel), free_of (by decide +kernel),
    by decide +kernel⟩, by decide +kernel, by decide +kernel, by decide +kernel, by decide +kernel, by decide +kernel, by decide +kernel, by decide +kernel,
    ⟨noReset_as (by decide +kernel), by decide +kernel⟩, by decide +kernel⟩

def frame (d s : LinkAddr) (pl : List Word) : LinkFrame := { cls := 2, dest := d, src := s, pres := true, txn := 9, payload := pl, intact := true }
def stitch5 : StitchFrame := { dest := 5, txn := 4, sseq := 8, arg := 0x105, first := false, second := true }
def txn9 : Txn := { num := 9, ch := 0, hdr := hdrW 6 0, dest := 5, group := none }

theorem witness_FramesAndStitchesReachTheirDevice :
    (NoReset worker5 ∧ Settled worker5 ∧ Free worker5 (otherPort 0) ∧ Fresh worker5 8#8 ∧ Free worker5 worker5.upPort)
    ∧ (worker5.hears 0 = true ∧ (frame 7 0 [1#32]).cls ≠ 0 ∧ (frame 7 0 [1#32]).dest ≠ 0x7FE#11 ∧ worker5.isWorker = true ∧ worker5.addressed = true
        ∧ (frame 7 0 [1#32]).dest ≠ worker5.linkAddr ∧ worker5.forMe (frame 7 0 [1#32]).dest = false ∧ 12 + 4 * (frame 7 0 [1#32]).payload.length ≤ 8192)
    ∧ (let s : State := { worker5 with sys := { worker5.sys with exec := .handover } }
       (frame 5 0 [1#32]).dest = s.linkAddr ∧ (frame 5 0 [1#32]).src = 0#11 ∧ s.bit R.LNK_STAT 7 = false ∧ s.fwRuns = false ∧ s.sys.linkRun = true)
    ∧ ({ worker5 with sys := { worker5.sys with linkRun := false } } : State).sys.linkRun = false
    ∧ (let s : State := { manager with lnk := { manager.lnk with txns := [txn9] } }
       (NoReset s ∧ Settled s) ∧ s.hears 0 = true ∧ s.isManager = true ∧ (frame 0 5 [0x06030080#32, 77#32]).dest = 0#11 ∧ s.sys.linkRun = true ∧ s.fwRuns = true
       ∧ s.lnk.txns.find? (fun y => y.num = (frame 0 5 [0x06030080#32, 77#32]).txn.toNat && !y.dead) = some txn9 ∧ vget s.fw.owed 0 = [] ∧ s.bFull 1 = false ∧ s.sndOf 1 = 1)
    ∧ (∀ y ∈ manager.lnk.txns, y.num = 9 → y.dead = true)
    ∧ (let s : State := { manager with fw := { manager.fw with masks := #v[0x80000000#32, 0#32, 0#32] } }
       bitOf (vget s.fw.masks 0) 31 = true ∧ (vget s.fw.events 0).length < 32)
    ∧ (let s : State := { manager with lnk := { manager.lnk with cls0 := [{ dest := 5, act := 2, txn := 3, arg := 1 }], lastStitch := some 0 }, sys := { manager.sys with cyc := 2000 } }
       s.lnk.cls0 = { dest := 5, act := 2, txn := 3, arg := 1 } :: [] ∧ s.lnk.lastStitch = some 0 ∧ 0 + 2000 ≤ s.sys.cyc)
    ∧ (stitch5.first || stitch5.second) = true ∧ stitch5.dest = worker5.linkAddr ∧ ¬Fresh { worker5 with lnk := { worker5.lnk with accepted := [(8, 0)] } } 8#8 := by
  refine ⟨⟨noReset_as (by decide +kernel), settled_of (by decide +kernel), free_of (by decide +kernel), by unfold Fresh; decide +kernel, free_of (by decide +kernel)⟩, by decide +kernel,
    by decide +kernel, by decide +kernel, ⟨⟨noReset_as (by decide +kernel), settled_of (by decide +kernel)⟩, by decide +kernel⟩, by decide +kernel, by decide +kernel, by decide +kernel,
    by decide, by decide +kernel, by unfold Fresh; decide +kernel⟩

def offered : State := { worker5 with lnk := { worker5.lnk with answered := some 200, offered := some 3 } }
def enumerating : State := { manager.setFld R.LNK_STAT 23 16 7 with lnk := { manager.lnk with todo := [0, 1], k := 3 } }

theorem witness_WorkersAreEnumeratedAndKept :
    (NoReset worker5 ∧ worker5.portUp 0 = true ∧ (worker5.lp 0).buf = [] ∧ worker5.isWorker = true ∧ worker5.lnk.answered ≠ some (200#8).toNat
        ∧ worker5.bit R.LNK_STAT 8 = false ∧ worker5.bit R.LNK_CFG 31 = true ∧ worker5.addressed = true ∧ worker5.bit R.LNK_STAT 7 = false)
    ∧ ((worker5.onLp 0 fun l => { l with measured := true }).lp 0).measured = true
    ∧ (NoReset offered ∧ offered.lnk.answered = some (200#8).toNat ∧ offered.lnk.offered = some 3 ∧ Free offered (otherPort 0))
    ∧ (let s := worker5.set R.LNK_ADDR 0x7FF#32; s.addressed = false ∧ Free s s.upPort)
    ∧ (let s := manager.onLp 0 fun l => { l with busy := true, exch := 62, sum := -300 }; (s.lp 0).busy = true ∧ (s.lp 0).answer = none ∧ (s.lp 0).exch < 63)
    ∧ ((manager.onLp 0 fun l => { l with exch := 63 }).lp 0).exch = 63
    ∧ (NoReset enumerating ∧ Settled enumerating ∧ enumerating.isManager = true ∧ enumerating.sys.linkRun = true ∧ enumerating.lnk.todo = (0 : LinkPort).val :: [1]
        ∧ 3 = enumerating.lnk.k ∧ (7#8).toNat = enumerating.round ∧ enumerating.worker 9#11 = none ∧ isWorkerAddr 9#11 = true
        ∧ enumerating.lnk.table.length < 1024 ∧ 3 ≤ 512 ∧ 512 < 513 ∧ ∀ w ∈ enumerating.lnk.table, w.k ≤ 256)
    ∧ ({ enumerating with lnk := { enumerating.lnk with todo := [0] } } : State).lnk.todo = [0] ∧ (0 : LinkPort) ≠ 1
    ∧ (manager.lnk.todo = [] ∧ manager.lnk.loops = [] ∧ manager.worker 5#11 = some rec5 ∧ manager.worker 5#11 ≠ none)
    ∧ ({ manager with lnk := { manager.lnk with loops := [(0, 1, 2)] } } : State).lnk.loops.find? (fun x => x.1 = rec5.entry) = some (0, 1, 2) := by
  refine ⟨⟨noReset_as (by decide +kernel), by decide +kernel⟩, by decide +kernel, ⟨noReset_as (by decide +kernel), by decide +kernel, by decide +kernel, free_of (by decide +kernel)⟩,
    ⟨by decide +kernel, free_of (by decide +kernel)⟩, by decide +kernel, by decide +kernel, ⟨noReset_as (by decide +kernel), settled_of (by decide +kernel), by decide +kernel⟩,
    by decide +kernel, by decide +kernel, by decide +kernel, by decide +kernel⟩

theorem reset_wf : State.reset.Wf := by
  constructor <;> exact ⟨rfl, by simp [State.reset]⟩

theorem witness_EveryStepKeepsTheCanonicalForm : State.reset.Wf ∧ ∃ t, step State.reset = .next t := ⟨reset_wf, _, rfl⟩

/-! ### Operands that the check refuses -/

def strap (r : Fin 4) : StrapSample := { role := r, defmode := true }

/-- The eight samples of a set, every strap at role `r`. -/
def strapSet (r : Fin 4) : List StrapSample := List.replicate 8 (strap r)

theorem smoke_strap_sets : Instr.wf (.strapLatch [] 600) = false ∧ Instr.wf (.strapLatch [[strap 0, strap 0, strap 0]] 600) = false
    ∧ Instr.wf (.strapLatch (List.replicate 5 (strapSet 0)) 600) = false ∧ Instr.wf (.strapLatch [strapSet 0] 4096) = false := by decide
theorem smoke_probe : Instr.wf (.bootSequence { probe1 with capUnits := 0 }) = false ∧ Instr.wf (.bootSequence { probe1 with capUnits := 65537 }) = false := by decide
theorem smoke_wake : Instr.wf (.wake 0x00400000#32 0) = false := by decide
theorem smoke_motion_tick : Instr.wf (.motionTick 0) = false ∧ Instr.wf (.motionTick 10001) = false := by decide
theorem smoke_fast_path : Instr.wf (.fastPathSample [⟨0, false⟩]) = false ∧ Instr.wf (.fastPathSample (List.replicate 16 ⟨32768, false⟩)) = false := by decide
theorem smoke_aligned : Instr.wf (.alignedSample 3 ⟨-32769, false⟩) = false := by decide
theorem smoke_fine_path : Instr.wf (.finePathSample []) = false := by decide
theorem smoke_entry_result : Instr.wf (.pcEntryResult 0 8388608 false) = false ∧ Instr.wf (.pcEntryResult 0 (-8388609) false) = false := by decide
theorem smoke_cal_complete : Instr.wf (.calComplete 0 [1, 2, 3] false) = false ∧ Instr.wf (.calComplete 0 [1, 2, 3, 8388608] false) = false := by decide
theorem smoke_sinc2 : Instr.wf (.selvedgeSinc2Result (List.replicate 15 ⟨0, false⟩)) = false := by decide
theorem smoke_darn_read : Instr.wf (.darnedMemoryRead .exec .ctx 2048 .none) = false := by decide
theorem smoke_narrow_write : Instr.wf (.narrowMemoryWrite .exec .erom 0 0 0#32 .none) = false ∧ Instr.wf (.narrowMemoryWrite .exec .link 8192 0 0#32 .none) = false := by decide
theorem smoke_scrub : Instr.wf (.scrubVisit [(.ret, 2048, .none, false)]) = false := by decide
theorem smoke_register_write : Instr.wf (.registerWrite .exec 0x40002014#32 3 0#32) = false := by decide
theorem smoke_fault_raise : Instr.wf (.faultRaise [(126, 0#32)]) = false := by decide
theorem smoke_frames : Instr.wf (.requestFrame 0 (frame 5 0 (List.replicate 16 0#32)) false) = false
    ∧ Instr.wf (.responseFrame 0 (frame 0 5 (List.replicate 16 0#32)) false) = false ∧ Instr.wf (.eventFrame 0 (frame 0 5 (List.replicate 16 0#32)) false) = false := by decide
theorem smoke_direction : Instr.wf (.writeFrame .host 0x80#8 [0#32] 40) = false ∧ Instr.wf (.readFrame .host 0x00#8 56 100000 0) = false := by decide
theorem smoke_sync : Instr.wf (.syncFrame 0 { time := 18446744073709551616, corr := 0, hops := 0, intact := true }) = false := by decide
theorem smoke_accepts : Instr.wf (.motionTick 10000) = true ∧ Instr.wf (.strapLatch [strapSet 3] 4095) = true := by decide

/-- No row of the table gives bits. -/
theorem test_no_words : decodeTableWord 32 0x9E370001 = none := by decide

/-! ### Values that the spec states -/

/-- The state after a command. -/
def after (o : Host.Outcome State Fault Refusal) : State := match o with | .next t => t | _ => State.reset

/-- R119: the CRC of the nine bytes 0x31 to 0x39. -/
theorem test_crc_of_the_digits : crc32 [0x31#8, 0x32#8, 0x33#8, 0x34#8, 0x35#8, 0x36#8, 0x37#8, 0x38#8, 0x39#8] = 0xCBF43926#32 := by decide +kernel

/-- Example of R5 in spec/00_scope.md, and of BCH1's TAKE in spec/05_mailboxes.md. -/
theorem test_internal_addresses : keyOfAddr 0x40002014 = regKey 0x10 0x05 ∧ keyOfAddr 0x400008C8 = bch 1 0x12 := by decide

/-- Example after R49: 30 kΩ gives 600 mV and code 5. -/
theorem test_iset_of_30k :
    (after (execStrapLatch [strapSet 2] 600 booting)).fld R.SYS_STRAP 23 12 = 600
    ∧ (after (execStrapLatch [strapSet 2] 600 booting)).fld R.SYS_STRAP 7 4 = 5 := by decide +kernel

/-- Example of spec/05_mailboxes.md: a frame of 552 edges posts GET_ID with tag 0x15 on BCH0. -/
theorem test_host_posts_a_request :
    let s : State := { bare with hostPort := { bare.hostPort with page := 0x04 } }
    let t := after (execWriteFrame .host 0x00#8 (0x00BFF015#32 :: List.replicate 15 0#32 ++ [1#32]) 552 s)
    t.bFull 0 = true ∧ t.get (bch 0 0) = 0x00BFF015#32 ∧ hdrTag 0x00BFF015#32 = 0x15 ∧ hdrOp 0x00BFF015#32 = 0 ∧ hdrNarg 0x00BFF015#32 = 0 := by decide +kernel

/-- Example of spec/07_motion_contexts.md: the closing and the opening ceiling of the 60 kg leaf. -/
theorem test_energy_ceilings : energyCeiling 2000000 60000 500000 = 516397 ∧ energyCeiling 12000000 60000 500000 = 1264911 := by decide +kernel

/-- Example of spec/13_comparators.md: the band of CMP4 runs from 0.79078 V to 0.81078 V. -/
theorem test_band_of_cmp4 : bandSide 0x92300148#32 805000 = none ∧ bandSide 0x92300148#32 810790 = some true ∧ bandSide 0x92300148#32 790770 = some false := by decide

/-- Example of spec/14_safety.md: SEAL code 0x3A. -/
theorem test_seal_code : sealValid 0x3A#8 = true ∧ classCeil 0x3A#8 = 360 ∧ (List.finRange 8).map (pairOn 0x3A#8) = [true, true, true, true, true, true, false, false] := by decide

/-- The same example, step 3: STOA0 falls at the Selvedge logic; AX0 to AX3 lose torque, AX4 to AX7 keep it. -/
theorem test_sto_falls :
    let t := after (execStoChange .selvedge .stoa0 false saf1)
    (List.finRange 8).map t.granted = [false, false, false, false, true, true, true, true] := by decide +kernel

/-- Example of spec/15_fault_collector.md: two sources in one collector cycle. -/
theorem test_two_sources_in_one_cycle :
    let s := ((fw0.setBit R.FC_CTL 31 true).set (R.GD_CFG 2) 0x80000000#32).set (R.GD_CFG 5) 0x80000000#32
    let t := after (execFaultRaise [(66, 0x200#32), (77, 0x80000#32)] s)
    t.fcLatchMap 2 = 0x2004#32 ∧ t.fcRecWord 66 = 0xC0010342#32 ∧ t.fcRecWord 77 = 0xC0010B4D#32 ∧ t.bit (R.GD_CFG 2) 31 = false ∧ t.bit (R.GD_CFG 5) 31 = false
    ∧ t.nlatch = 2 := by decide +kernel

/-- Example of spec/12_converters.md: VSUP at 110 V reads CODE 0x58_0000, and converts back to 110 V. -/
theorem test_vsup_of_110_volts :
    let s := ((pcon.set (R.LO_VSRC 1) 0x300#32).onPc 3 fun c => { c with rrun := true }).set (R.PC_GAIN 3 0) 4194304#32
    let t := after (execPcEntryResult 3 5767168 false s)
    t.fld (R.PC_RES 3 0) 23 0 = 0x580000 ∧ t.vsup 1 = some 110000000000 := by decide +kernel

/-- Example of spec/10_pwm.md, step 7: the third trip within 8 periods latches the bridge off. -/
theorem test_third_trip_latches :
    let s := (bridged.set (R.PWM_CFG 1) 0x80030800#32).onBr 1 .a fun b => { b with trips := [true, true] }
    let t := after (execIlimTrip 1 .a true s)
    t.latchedOff 1 .a = true ∧ (after (execIlimTrip 1 .a true (s.onBr 1 .a fun b => { b with trips := [true] }))).latchedOff 1 .a = false := by decide +kernel

/-- R112: the bindings after chip reset. -/
theorem test_bindings_at_reset : (List.range 16).map (fun i => State.reset.get (regKey 0x03 i)) =
    [0x10#32, 0x01#32, 0x12#32, 0x21#32, 0x14#32, 0x41#32, 0x77#32, 0x77#32, 0x13#32, 0x31#32, 0x32#32, 0x23#32, 0x77#32, 0x77#32, 0x77#32, 0x77#32] := by decide

/-! ### The drives of IDENTIFY, WIRING_CHECK and the encoder's alignment -/

/-- Axis 1 with a motor rated 2,000 mA and drives before it. -/
def planned (p : DrivePlan) : State :=
  let s := (longOn 1 run).onFw 1 fun f => { f with motor := true, rated := some 2000 }
  let s : State := { s with saf := { s.saf with s := { s.saf.s with en := 0xFF#8 }, h := { s.saf.h with en := 0xFF#8 } } }
  { s with fw := { s.fw with plan := vset s.fw.plan 1 (some p) } }

/-- The drives of axis 1. -/
def plan1 (s : State) : DrivePlan := (vget s.fw.plan 1).getD {}

/-- R209, step 2: three quarters of the rated current at angle 1,024. -/
theorem test_ident_holds :
    let t := (planned { steps := [.hold 1024 3] }).planTick 1
    t.get (R.CR_OVR 1) = 0x40000400#32 ∧ t.get (R.CR_OVRI 1) = 1500#32 ∧ (plan1 t).ticks = 1 := by decide +kernel

/-- R209, step 3: a trial whose current stays small is followed by one at twice the voltage. -/
theorem test_ident_doubles :
    let t := ((planned { steps := [.square .a false], ticks := 400, lo := -40, hi := 40 }).set (R.CR_OVR 1) 0x80000000#32).planTick 1
    (plan1 t).amp = 1310 ∧ (plan1 t).last = false ∧ t.get (R.CR_OVRU 1) = 1310#32 := by decide +kernel

/-- The same with a large current: the run at the final U begins. -/
theorem test_ident_reaches :
    let t := ((planned { steps := [.square .a false], ticks := 400, lo := -100, hi := 100 }).set (R.CR_OVR 1) 0x80000000#32).planTick 1
    (plan1 t).amp = 655 ∧ (plan1 t).last = true := by decide +kernel

/-- R209, step 5: no resistance ends the operation with STATE. -/
theorem test_ident_needs :
    let t := (planned { steps := [.needRL false true, .restore] }).planTick 1
    (plan1 t).steps = [.restore] ∧ (plan1 t).fails = 9 := by decide +kernel

/-- R229, step 2: coil A carries nothing, and coil 5 does. -/
theorem test_wiring_finds :
    (planned {}).wireFound 1 .a { lo := 0, hi := 100, dn := 1, di := [0, 0, 0, 0, 0, 20000000], dq := [] } = 0x0005000A#32 := by decide +kernel

/-- R229, step 4 does not run after a finding. -/
theorem test_wiring_no_turn :
    let t := (planned { steps := [.turn, .restore], found := 2#32 }).planTick 1
    (plan1 t).steps = [.restore] ∧ (plan1 t).found = 0x202#32 := by decide +kernel

/-- R194: a count of 1,000 at angle 0, 50 pole pairs and 2,000 counts per revolution. -/
theorem test_align_records :
    let s := ((planned { steps := [.align], ticks := 4000 }).set (R.CR_OVR 1) 0x40000000#32).set (R.CR_ENC 1) 2000#32
    let t := (s.set (R.CR_ENCCNT 1) 1013#32).planTick 1
    t.get (R.CR_ENC 1) = 0x800007D0#32 ∧ t.get (R.CR_ENCOFS 1) = 2765#32 ∧ t.get (R.CR_OVR 1) = 0#32 := by decide +kernel

/-- A HALT drops the drives that are left. -/
theorem test_halt_drops_drives :
    let t := (planned { steps := [.hold 0 1, .pass 65536] }).haltLong 2
    vget t.fw.long 1 = none ∧ (plan1 t).steps = [.restore] := by decide +kernel


/-- R339: a raise under NONE of a pending record counts, shows reaction 0 and leaves PEND. -/
theorem test_raise_none_keeps_pend :
    let r := raisedRec { latch := true, pend := true, cnt := 255, react := 1, fpin := true, time := 3, detail := 4#32 } 0 false 9 5#32
    r = { latch := true, pend := true, cnt := 255, react := 0, fpin := false, time := 3, detail := 4#32 } := by decide

/-- R297: ON set together with PUS reads OUT = PUS and UNRES = 1 until the first evaluation. -/
theorem test_cmp_on_with_pus :
    let s := (run.setBit R.CMP_CFG 31 true).cmpCcfgWrite .exec 5 0x80001000#32
    s.bit R.CMP_OUT 5 = true ∧ s.bit R.CMP_OUT 21 = true := by decide +kernel

/-- R359, step 3, and R361: ENUM passes a worker that has answered, and the delay of the port it leaves by is measured once. -/
theorem test_enum_passes_and_measures :
    let t := offered.enumArrives 0 4 200
    let u := (offered.onLp 1 fun l => { l with measured := true }).enumArrives 0 4 200
    t.out.sent.length = 2 ∧ (t.lp 1).busy = true ∧ u.out.sent.length = 1 ∧ (offered.lp 1).measured = false := by decide +kernel

/-- R400: an entry of two bytes sends the top bytes of its TXD, or 0xFF with TXEN 0. -/
theorem test_entry_bytes :
    entryBytes { txd := 0xA1B2C3D4#32, txc := 0x12#32 } = [0xA1#8, 0xB2#8] ∧ entryBytes { txd := 0#32, txc := 2#32 } = [0xFF#8, 0xFF#8] := by decide +kernel
end Sys2Proof.Tests
end

section
/-! PROOFS. The state after reset: what its registers read, that its blocks are idle and that its stores are canonical. -/

namespace Sys2Proof.Machine

/-! ### Registers that nothing has written -/

/-- No register of State.reset is written, so that each reads the reset value of its row (R7). -/
@[simp] theorem State.get_reset (k : Nat) : State.reset.get k = regReset k := rfl

/-- The first 16 registers of the mailbox page hold the bindings of R112. -/
theorem regReset_binding {i : Nat} (h : i < 16) : regReset (regKey 0x03 i) = bindReset i := by
  have hpage : regKey 0x03 i / 128 = 0x03 := by unfold regKey; omega
  have hindex : regKey 0x03 i % 128 = i := by unfold regKey; omega
  simp [regReset, hpage, hindex, h]

theorem regReset_ME_PMIN : ∀ ax : Axis, regReset (R.ME_PMIN ax) = 0xFFFF8000#32 ∧ regReset (R.ME_PMIN ax + 1) = 0#32 := by
  decide

theorem regReset_ME_PMAX : ∀ ax : Axis, regReset (R.ME_PMAX ax) = 0x00007FFF#32 ∧ regReset (R.ME_PMAX ax + 1) = 0xFFFFFFFF#32 := by
  decide

/-- The lower position limit starts at the least value of 48 bits (R99). -/
theorem State.wide_reset_ME_PMIN (ax : Axis) : State.reset.wide (R.ME_PMIN ax) = -140737488355328 := by
  obtain ⟨hhi, hlo⟩ := regReset_ME_PMIN ax
  simp only [State.wide, State.get_reset, hhi, hlo]
  decide

/-- The upper position limit starts at the greatest value of 48 bits (R99). -/
theorem State.wide_reset_ME_PMAX (ax : Axis) : State.reset.wide (R.ME_PMAX ax) = 140737488355327 := by
  obtain ⟨hhi, hlo⟩ := regReset_ME_PMAX ax
  simp only [State.wide, State.get_reset, hhi, hlo]
  decide

/-- The motion engine, the bridges and the gate driver of every axis start disabled (R103). -/
theorem regReset_axis_disabled : ∀ ax : Axis, bitOf (regReset (R.ME_CFG ax)) 31 = false
    ∧ bitOf (regReset (R.PWM_CFG ax)) 31 = false ∧ bitOf (regReset (R.GD_CFG ax)) 31 = false := by
  decide

/-! ### Idle blocks -/

@[simp] theorem State.leg_reset (ax : Axis) (j : Leg) : State.reset.leg ax j = {} := by
  simp only [State.leg, State.reset, vget_replicate]

@[simp] theorem State.me_reset (ax : Axis) : State.reset.me ax = {} := by
  simp only [State.me, State.reset, vget_replicate]

@[simp] theorem State.fcRec_reset (src : Nat) : State.reset.fcRec src = {} := rfl

/-! ### Canonical form -/

/-- A memory that lists no entry is canonical, whatever an unlisted key reads as. -/
theorem Memory.wf_nil {α : Type} [DecidableEq α] (d : Nat → α) : Memory.wf d [] := ⟨rfl, by simp⟩

/-- Every sparse store of State.reset is empty. -/
theorem State.wf_reset : State.reset.Wf where
  regs  := Memory.wf_nil _
  ctx   := Memory.wf_nil _
  flash := Memory.wf_nil _
  wj    := Memory.wf_nil _
  darn  := Memory.wf_nil _
  fc    := Memory.wf_nil _

/-- Settles O3: no register is written and no block has run, so that the registers read the rows of R7 and the bindings of R112. -/
theorem resetValuesOfTheDevice : Obligations.ResetValuesOfTheDevice := by
  unfold Obligations.ResetValuesOfTheDevice
  have hbind {i : Nat} (h : i < 16) : State.reset.get (regKey 0x03 i) = bindReset i := regReset_binding h
  have hready : State.reset.ready = false := by decide
  have hidle (ax : Axis) : (State.reset.me ax).active = none ∧ (State.reset.me ax).queue = [] := by simp
  exact ⟨State.get_reset, hbind (by decide), hbind (by decide), hbind (by decide), hbind (by decide),
    fun ax => ⟨State.wide_reset_ME_PMIN ax, State.wide_reset_ME_PMAX ax⟩, regReset_axis_disabled, hready, rfl,
    State.leg_reset, hidle, fun src => by simp, rfl, State.wf_reset⟩

end Sys2Proof.Machine
end

section
/-! PROOFS. Every operation of the machine keeps the six sparse stores canonical (R24, R77, R372, R395). -/

namespace Sys2Proof.Machine

set_option Elab.async false

/-- What the canonical form is about: the six sparse stores of a state. -/
def State.stores (s : State) :=
  (s.regs, s.ctxRam, s.spool.flash, s.spool.wj, s.darn, s.fc)

/-- A state with the stores of a canonical one is canonical. -/
theorem State.Wf.of_stores {s t : State} (h : s.Wf) (e : t.stores = s.stores := by rfl) : t.Wf := by
  simp only [State.stores, Prod.mk.injEq] at e
  obtain ⟨hregs, hctx, hflash, hwj, hdarn, hfc⟩ := e
  exact ⟨hregs ▸ h.regs, hctx ▸ h.ctx, hflash ▸ h.flash, hwj ▸ h.wj, hdarn ▸ h.darn, hfc ▸ h.fc⟩

theorem Memory.wf.filter {α : Type} [DecidableEq α] {d : Nat → α} {l : List (Nat × α)}
    (h : Memory.wf d l) (f : Nat × α → Bool) : Memory.wf d (l.filter f) :=
  ⟨spSorted_filter f h.1, fun e he => h.2 e (List.mem_filter.1 he).1⟩

theorem Memory.wf.del {α : Type} [DecidableEq α] {d : Nat → α} {l : List (Nat × α)} {k} (h : Memory.wf d l) :
    Memory.wf d (spDel l k) := by
  rw [spDel_eq_filter]; exact Memory.wf.filter h _

theorem wf_foldl_spSet {α β : Type} [DecidableEq α] {d : α} {k : β → Nat} {v : β → α} {bs : List β} {l : List (Nat × α)}
    (h : Memory.wf (fun _ => d) l) : Memory.wf (fun _ => d) (bs.foldl (fun l b => spSet d l (k b) (v b)) l) := by
  induction bs generalizing l with
  | nil => exact h
  | cons b bs ih => exact ih (spSet_canonical (fun _ => d) (k b) (v b) h.1 h.2)

/-- The keys of a sorted store rise strictly: the first entry is above its bound, and entries rise pairwise. -/
theorem spSortedFrom_iff {α : Type} {l : List (Nat × α)} : ∀ {o : Option Nat},
    spSortedFrom o l = true ↔ (∀ b ∈ o, ∀ e ∈ l, b < e.1) ∧ l.Pairwise (·.1 < ·.1) := by
  induction l with
  | nil => simp [spSortedFrom]
  | cons e l ih =>
    intro o
    obtain ⟨k, v⟩ := e
    cases o with
    | none => simp [spSortedFrom, ih]
    | some b =>
      simp only [spSortedFrom, Bool.and_eq_true, decide_eq_true_eq, ih, Option.mem_some_iff, forall_eq', List.mem_cons,
        forall_eq_or_imp, List.pairwise_cons]
      exact ⟨fun ⟨hb, hk, hl⟩ => ⟨⟨hb, fun e he => hb.trans (hk e he)⟩, hk, hl⟩,
        fun ⟨⟨hb, _⟩, hk, hl⟩ => ⟨hb, hk, hl⟩⟩

theorem spSorted_iff {α : Type} {l : List (Nat × α)} : spSorted l = true ↔ l.Pairwise (·.1 < ·.1) := by
  simp [spSorted, spSortedFrom_iff]

/-- Bytes spliced into the flash at `a`: what stands below, the bytes that are not erased ones, what stands above. -/
theorem wf_splice {l : List (Nat × Byte)} {a} {bs : List Byte} (h : Memory.wf (fun _ => 0xFF#8) l) :
    Memory.wf (fun _ => 0xFF#8) (l.filter (fun e => e.1 < a)
      ++ ((List.range bs.length).map fun i => (a + i, bs.getD i 0#8)).filter (fun e => e.2 ≠ 0xFF#8)
      ++ l.filter fun e => a + bs.length ≤ e.1) := by
  obtain ⟨hs, hv⟩ := h
  rw [spSorted_iff] at hs
  have hmid : ((List.range bs.length).map fun i => (a + i, bs.getD i 0#8)).Pairwise (·.1 < ·.1) :=
    List.pairwise_map.2 (List.pairwise_lt_range.imp fun h => by simpa using h)
  refine ⟨spSorted_iff.2 ?_, fun e he => ?_⟩
  · simp only [List.pairwise_append, List.mem_append, List.mem_filter, List.mem_map, List.mem_range, decide_eq_true_eq]
    refine ⟨⟨hs.filter _, hmid.filter _, ?_⟩, hs.filter _, ?_⟩
    · rintro x ⟨_, hx⟩ _ ⟨⟨i, _, rfl⟩, _⟩
      exact Nat.lt_add_right i hx
    · rintro x (⟨_, hx⟩ | ⟨⟨i, hi, rfl⟩, _⟩) y ⟨_, hy⟩
      · omega
      · exact Nat.lt_of_lt_of_le (Nat.add_lt_add_left hi a) hy
  · simp only [List.mem_append, List.mem_filter, decide_eq_true_eq] at he
    obtain (⟨he, _⟩ | ⟨_, he⟩) | ⟨he, _⟩ := he
    · exact hv e he
    · exact he
    · exact hv e he

/-! ### Branches and folds of states -/

variable {s t : State}

theorem wf_ite {c : Prop} {_ : Decidable c} (hs : s.Wf) (ht : t.Wf) : (if c then s else t).Wf := by
  split <;> assumption

theorem wf_fst_ite {α : Type} {c : Prop} {_ : Decidable c} {p q : State × α} (hp : p.1.Wf) (hq : q.1.Wf) :
    (if c then p else q).1.Wf := by
  split <;> assumption

theorem wf_snd_ite {α : Type} {c : Prop} {_ : Decidable c} {p q : α × State} (hp : p.2.Wf) (hq : q.2.Wf) :
    (if c then p else q).2.Wf := by
  split <;> assumption

theorem wf_mid_ite {α β : Type} {c : Prop} {_ : Decidable c} {p q : α × State × β} (hp : p.2.1.Wf) (hq : q.2.1.Wf) :
    (if c then p else q).2.1.Wf := by
  split <;> assumption

theorem wf_fst_foldl {α β : Type} {f : State × α → β → State × α} {l : List β} {p : State × α} (h : p.1.Wf)
    (hf : ∀ {p b}, p.1.Wf → (f p b).1.Wf) : (l.foldl f p).1.Wf := by
  induction l generalizing p with
  | nil => exact h
  | cons b l ih => exact ih (hf h)

theorem wf_snd_foldl {α β : Type} {f : α × State → β → α × State} {l : List β} {p : α × State} (h : p.2.Wf)
    (hf : ∀ {p b}, p.2.Wf → (f p b).2.Wf) : (l.foldl f p).2.Wf := by
  induction l generalizing p with
  | nil => exact h
  | cons b l ih => exact ih (hf h)

theorem wf_dite {c : Prop} {_ : Decidable c} {s : c → State} {t : ¬c → State} (hs : ∀ h, (s h).Wf) (ht : ∀ h, (t h).Wf) :
    (if h : c then s h else t h).Wf := by
  split
  · exact hs _
  · exact ht _

theorem State.Wf.foldl {α : Type} {f : State → α → State} {l : List α} (h : s.Wf) (hf : ∀ {t a}, t.Wf → (f t a).Wf) :
    (l.foldl f s).Wf := by
  induction l generalizing s with
  | nil => exact h
  | cons a l ih => exact ih (hf h)

theorem State.Wf.forAll {n : Nat} {f : State → Fin n → State} (h : s.Wf) (hf : ∀ {t i}, t.Wf → (f t i).Wf) :
    (forAll n s f).Wf := h.foldl hf

/-- An outcome that, where it is a next state, is a canonical one. -/
def NextWf (o : Host.Outcome State Fault Refusal) : Prop := ∀ t, o = .next t → t.Wf

theorem NextWf.of (h : s.Wf) : NextWf (.next s) := by rintro _ ⟨⟩; exact h

theorem NextWf.fault {f : Fault} : NextWf (.fault f) := by rintro _ ⟨⟩

theorem NextWf.ite {c : Prop} {_ : Decidable c} {o p : Host.Outcome State Fault Refusal} (ho : NextWf o) (hp : NextWf p) :
    NextWf (if c then o else p) := by
  split <;> assumption

/-! ### Updates of whole parts of the state -/

theorem State.Wf.putSaf {x} (h : s.Wf) : ({ s with saf := x } : State).Wf := h.of_stores
theorem State.Wf.putLnk {x} (h : s.Wf) : ({ s with lnk := x } : State).Wf := h.of_stores
theorem State.Wf.putFw {x} (h : s.Wf) : ({ s with fw := x } : State).Wf := h.of_stores
theorem State.Wf.putSys {x} (h : s.Wf) : ({ s with sys := x } : State).Wf := h.of_stores
theorem State.Wf.putCsm {x} (h : s.Wf) : ({ s with csm := x } : State).Wf := h.of_stores
theorem State.Wf.putCmp {x} (h : s.Wf) : ({ s with cmp := x } : State).Wf := h.of_stores
theorem State.Wf.putMsp {x} (h : s.Wf) : ({ s with msp := x } : State).Wf := h.of_stores
theorem State.Wf.putFcPresent {x} (h : s.Wf) : ({ s with fcPresent := x } : State).Wf := h.of_stores
theorem State.Wf.putGathered {x} (h : s.Wf) : ({ s with spool := { s.spool with gathered := x } } : State).Wf := h.of_stores
theorem State.Wf.putProbe {x} (h : s.Wf) : ({ s with spool := { s.spool with probe := x } } : State).Wf := h.of_stores
theorem State.Wf.putWjOp {x v} (h : s.Wf) : ({ s with spool := { s.spool with wjOp := x, vfail := v } } : State).Wf := h.of_stores

theorem State.Wf.lostSram {f sys msp fw turn} (h : s.Wf) :
    ({ s with sys := sys, msp := msp, fw := fw, turn := turn, darn := s.darn.filter f } : State).Wf :=
  { h with darn := h.darn.filter _ }

theorem State.Wf.pair {α : Type} {a : α} (h : s.Wf) : (s, a).1.Wf := h

theorem State.Wf.putFineQ {x} (h : s.Wf) : ({ s with fineQ := x } : State).Wf := h.of_stores
theorem State.Wf.putOut {x} (h : s.Wf) : ({ s with out := x } : State).Wf := h.of_stores

/-! ### Shared operations on the state -/

theorem State.Wf.set {k v} (h : s.Wf) : (s.set k v).Wf :=
  { h with regs := spSet_canonical regReset k v h.regs.1 h.regs.2 }

theorem State.Wf.setBit {k i b} (h : s.Wf) : (s.setBit k i b).Wf := h.set
theorem State.Wf.setFld {k hi lo v} (h : s.Wf) : (s.setFld k hi lo v).Wf := h.set
theorem State.Wf.incFld {k hi lo} (h : s.Wf) : (s.incFld k hi lo).Wf := h.setFld
theorem State.Wf.incSat {k hi lo} (h : s.Wf) : (s.incSat k hi lo).Wf := wf_ite h.incFld h
theorem State.Wf.setWide {k x} (h : s.Wf) : (s.setWide k x).Wf := h.set.set

theorem State.Wf.resetPage {p keep} (h : s.Wf) : (s.resetPage p keep).Wf :=
  { h with regs := h.regs.filter _ }

theorem State.Wf.onMot {ax f} (h : s.Wf) : (s.onMot ax f).Wf := h.of_stores
theorem State.Wf.onPwm {ax f} (h : s.Wf) : (s.onPwm ax f).Wf := h.of_stores
theorem State.Wf.onBr {ax br f} (h : s.Wf) : (s.onBr ax br f).Wf := h.onPwm
theorem State.Wf.onLeg {ax j f} (h : s.Wf) : (s.onLeg ax j f).Wf := h.onPwm
theorem State.Wf.onCoil {ax f} (h : s.Wf) : (s.onCoil ax f).Wf := h.of_stores
theorem State.Wf.onLo {ax f} (h : s.Wf) : (s.onLo ax f).Wf := h.of_stores
theorem State.Wf.onCsm {c f} (h : s.Wf) : (s.onCsm c f).Wf := h.of_stores
theorem State.Wf.onPc {p f} (h : s.Wf) : (s.onPc p f).Wf := h.of_stores
theorem State.Wf.onCmp {c f} (h : s.Wf) : (s.onCmp c f).Wf := h.of_stores
theorem State.Wf.drawBit (h : s.Wf) : (s.drawBit).2.Wf := h.of_stores
theorem State.Wf.drawWord (h : s.Wf) : (s.drawWord).2.Wf := h.of_stores
theorem State.Wf.drawInt {lo hi} (h : s.Wf) : (s.drawInt lo hi).2.Wf := h.of_stores
theorem State.Wf.quiet (h : s.Wf) : (s.quiet).Wf := h.of_stores
theorem State.Wf.answer {ws} (h : s.Wf) : (s.answer ws).Wf := h.of_stores
theorem State.Wf.busError (h : s.Wf) : (s.busError).Wf := h.of_stores

theorem State.Wf.convStart {p e} (h : s.Wf) : (s.convStart p e).Wf := by
  unfold State.convStart
  exact h.onPc

theorem State.Wf.gatesOff {ax} (h : s.Wf) : (s.gatesOff ax).Wf := h.onPwm
theorem State.Wf.bridgeOff {ax br} (h : s.Wf) : (s.bridgeOff ax br).Wf := h.onLeg.onLeg
theorem State.Wf.gatesHeld {ax} (h : s.Wf) : (s.gatesHeld ax).Wf := h.onPwm

/-! ### Resets -/

theorem State.Wf.drop {src} (h : s.Wf) : (s.drop src).Wf := h.of_stores
theorem State.Wf.settleParity {p} (h : s.Wf) : (s.settleParity p).Wf := wf_ite h h.drop
theorem State.Wf.mend {k} (h : s.Wf) : (s.mend k).Wf := wf_ite h.of_stores.settleParity h
theorem State.Wf.store {k v} (h : s.Wf) : (s.store k v).Wf := h.set.mend

theorem State.Wf.movePos {ax new} (h : s.Wf) : (s.movePos ax new).Wf := by
  unfold State.movePos
  exact h.setFld.onMot

theorem State.Wf.dropGate {ax} (h : s.Wf) : (s.dropGate ax).Wf := h.drop.drop.drop.drop
theorem State.Wf.dropVds {ax} (h : s.Wf) : (s.dropVds ax).Wf := h.setFld.drop

theorem State.Wf.resetMe {ax} (h : s.Wf) : (s.resetMe ax).Wf := by
  unfold State.resetMe
  exact h.movePos.resetPage.set.set.onMot

theorem State.Wf.resetPwm {ax} (h : s.Wf) : (s.resetPwm ax).Wf := h.gatesOff.resetPage.onPwm.drop.dropVds
theorem State.Wf.resetGd {ax} (h : s.Wf) : (s.resetGd ax).Wf := h.gatesOff.resetPage.dropGate
theorem State.Wf.resetCoil {ax} (h : s.Wf) : (s.resetCoil ax).Wf := h.resetPage.set.onCoil.onLo.drop
theorem State.Wf.resetCsm (h : s.Wf) : (s.resetCsm).Wf := h.resetPage.putCsm.drop
theorem State.Wf.resetPc {p} (h : s.Wf) : (s.resetPc p).Wf := h.resetPage.onPc
theorem State.Wf.resetCmp (h : s.Wf) : (s.resetCmp).Wf := h.resetPage.putCmp.forAll .drop
theorem State.Wf.resetMsp (h : s.Wf) : (s.resetMsp).Wf := h.resetPage.putMsp
theorem State.Wf.resetSpl (h : s.Wf) : (s.resetSpl).Wf := h.resetPage
theorem State.Wf.resetLink (h : s.Wf) : (s.resetLink).Wf := h.resetPage.setFld.of_stores.foldl fun h1 => h1.drop

theorem State.Wf.blockReset {p} (h : s.Wf) : (s.blockReset p).Wf :=
  wf_ite h <|
  have h1 := h.of_stores
  have h2 :=
    wf_ite h1.resetMe <| wf_ite h1.resetCoil <| wf_ite h1.resetPwm <| wf_ite h1.resetGd <| wf_ite h1.resetCsm <|
    wf_ite h1.resetPc <| wf_ite h1.resetCmp <| wf_ite h1.resetLink <| wf_ite h1.resetMsp h1.resetSpl
  h2.settleParity

theorem State.Wf.chipReset {c} (h : s.Wf) : (s.chipReset c).Wf :=
  .set
    { regs  := by
        dsimp only
        split
        · exact Memory.wf_nil _
        · exact h.regs.filter _
      ctx   := Memory.wf_nil _
      flash := h.flash
      wj    := h.wj
      darn  := h.darn.filter _
      fc    := Memory.wf_nil _ }

/-! ### The fault collector -/

theorem State.Wf.setFcRec {src r} (h : s.Wf) : (s.setFcRec src r).Wf :=
  { h with fc := spSet_canonical (fun _ => ({} : FcRec)) src r h.fc.1 h.fc.2 }

theorem State.Wf.record {src detail} (h : s.Wf) : (s.record src detail).Wf :=
  wf_ite h <|
  h.setFcRec.of_stores

theorem State.Wf.raises {rs} (h : s.Wf) : (s.raises rs).Wf := by
  unfold State.raises
  refine wf_ite h ?_
  dsimp only
  split
  · exact (h.foldl .record).foldl .blockReset
  · exact (h.foldl .record).chipReset

theorem State.Wf.raise {src detail} (h : s.Wf) : (s.raise src detail).Wf := h.raises

theorem State.Wf.raiseLevel {src detail} (h : s.Wf) : (s.raiseLevel src detail).Wf :=
  wf_ite h <|
  h.of_stores.raise

theorem State.Wf.level {src b detail} (h : s.Wf) : (s.level src b detail).Wf := wf_ite h.raiseLevel h.drop
theorem State.Wf.writeIgnored {m k} (h : s.Wf) : (s.writeIgnored m k).Wf := h.raise

theorem State.Wf.fcClear {src} (h : s.Wf) : (s.fcClear src).Wf :=
  wf_ite h { h with fc := h.fc.del }

theorem State.Wf.fcAckOne {src} (h : s.Wf) : (s.fcAckOne src).Wf := wf_ite h.setFcRec h
theorem State.Wf.fcClr {j w} (h : s.Wf) : (s.fcClr j w).Wf := h.foldl fun h1 => h1.fcClear
theorem State.Wf.fcAck {j w} (h : s.Wf) : (s.fcAck j w).Wf := h.foldl fun h1 => h1.fcAckOne

/-! ### Register accesses -/

theorem State.Wf.opened {m} (h : s.Wf) : (s.opened m).Wf := by
  unfold State.opened
  split
  · exact h.quiet.of_stores
  · exact h.quiet.of_stores
  · exact h.quiet

theorem State.Wf.timedOut {m k} (h : s.Wf) : (s.timedOut m k).Wf :=
  have h1 := h.raise
  wf_ite h1 h1.busError

theorem State.Wf.access {m k f} (h : s.Wf) (hf : ∀ {t}, t.Wf → (f t).Wf) : (s.access m k f).Wf :=
  access_induct (hf h.opened) h.opened.timedOut h.opened h.quiet

theorem State.Wf.unstage {k} (h : s.Wf) : (s.unstage k).Wf := h.of_stores

theorem State.Wf.underrun {m} (h : s.Wf) : (s.underrun m).Wf := by
  unfold State.underrun
  split
  · exact h.of_stores
  · exact h.of_stores
  · exact h

theorem State.Wf.accessRead {m k f} (h : s.Wf) (hf : ∀ {t}, t.Wf → (f t).Wf) : (s.accessRead m k f).Wf :=
  wf_ite (hf h.opened) (wf_ite h.quiet (wf_ite h.opened.timedOut (wf_ite h.opened.answer.underrun h.opened.answer)))

/-! ### The gate driver -/

theorem State.Wf.settleGd {ax} (h : s.Wf) : (s.settleGd ax).Wf := h.level.level.level.level
theorem State.Wf.lookGd {ax} (h : s.Wf) : (s.lookGd ax).Wf := wf_ite h h.of_stores
theorem State.Wf.raiseBst {ax} (h : s.Wf) : (s.raiseBst ax).Wf := wf_ite h.raise.lookGd h
theorem State.Wf.vdsClear {ax j} (h : s.Wf) : (s.vdsClear ax j).Wf := h.setBit.setBit

theorem State.Wf.disarm {ax j} (h : s.Wf) : (s.disarm ax j).Wf :=
  have h1 := h.vdsClear.onLeg
  wf_ite h1.settleGd h1

theorem State.Wf.unstick {ax j} (h : s.Wf) : (s.unstick ax j).Wf := wf_ite h.setBit.settleGd h

theorem State.Wf.legCommand {ax j cmd} (h : s.Wf) : (s.legCommand ax j cmd).Wf := by
  unfold State.legCommand
  split
  · exact h.disarm.onLeg
  · exact
      have h1 := wf_ite h h.disarm
      have h2 := (wf_ite h1.unstick h1).onLeg
      wf_ite h2.raiseBst h2

theorem State.Wf.turnOn {ax j} (h : s.Wf) : (s.turnOn ax j).Wf := by
  unfold State.turnOn
  split
  · exact h
  · exact h.unstick.onLeg

theorem State.Wf.endDiag {ax} (h : s.Wf) : (s.endDiag ax).Wf :=
  have h1 := wf_ite h.setBit.set h
  wf_ite h1.setBit.set h1

theorem State.Wf.gateLost {ax} (h : s.Wf) : (s.gateLost ax).Wf := h.gatesHeld.endDiag.setFld.settleGd
theorem State.Wf.allLegs {ax cmd} (h : s.Wf) : (s.allLegs ax cmd).Wf := h.forAll fun h1 => h1.legCommand
theorem State.Wf.prechargeEnd {ax} (h : s.Wf) : (s.prechargeEnd ax).Wf := wf_ite h.setBit.allLegs h
theorem State.Wf.precharge {m ax} (h : s.Wf) : (s.precharge m ax).Wf := wf_ite h.setBit.allLegs h.writeIgnored
theorem State.Wf.diagStart {m ax} (h : s.Wf) : (s.diagStart m ax).Wf := wf_ite h.allLegs.setBit.set.settleGd h.writeIgnored
theorem State.Wf.stestStart {m ax} (h : s.Wf) : (s.stestStart m ax).Wf := wf_ite h.allLegs.setBit.set h.writeIgnored

theorem State.Wf.gdCtlWrite {m ax w} (h : s.Wf) : (s.gdCtlWrite m ax w).Wf :=
  have h1 := wf_ite h.precharge h
  have h2 := wf_ite h1.diagStart h1
  wf_ite h2.stestStart h2

theorem State.Wf.diagEnd {ax shvs shgnd openA openB} (h : s.Wf) : (s.diagEnd ax shvs shgnd openA openB).Wf :=
  wf_ite h h.setBit.set.settleGd

theorem State.Wf.wrepWrite {m ax w} (h : s.Wf) : (s.wrepWrite m ax w).Wf := wf_ite h.set.settleGd h.writeIgnored

theorem State.Wf.gdDisable {ax} (h : s.Wf) : (s.gdDisable ax).Wf :=
  wf_ite h <|
  h.gatesHeld.setBit.endDiag.setBit.setFld.settleGd

theorem State.Wf.vdsShort {ax j high active} (h : s.Wf) : (s.vdsShort ax j high active).Wf := wf_ite h.setBit.settleGd h
theorem State.Wf.hardShort {ax br active} (h : s.Wf) : (s.hardShort ax br active).Wf := h.setBit.settleGd

theorem State.Wf.stuck {ax j} (h : s.Wf) : (s.stuck ax j).Wf :=
  wf_ite h <|
  h.onLeg.setBit.settleGd

theorem State.Wf.bstAssert {ax j} (h : s.Wf) : (s.bstAssert ax j).Wf :=
  wf_ite h <|
  have h1 := h.setBit
  have h2 := (wf_ite h1.disarm h1).onLeg
  wf_ite h2.raiseBst h2

theorem State.Wf.vgAssert (h : s.Wf) : (s.vgAssert).Wf :=
  have h2 := h.setBit.forAll fun h1 => h1.gateLost
  h2.raiseLevel

/-! ### The mailbox -/

theorem State.Wf.refuseFull {m} (h : s.Wf) : (s.refuseFull m).Wf := by
  unfold State.refuseFull
  split
  · exact h.of_stores
  · exact h.of_stores
  · exact h.busError

theorem State.Wf.onceAgain {m k} (h : s.Wf) : (s.onceAgain m k).Wf := (wf_ite h.refuseFull h).raise
theorem State.Wf.msgWrite {m n k w} (h : s.Wf) : (s.msgWrite m n k w).Wf := wf_ite h.writeIgnored (wf_ite h.refuseFull h.set)

theorem State.Wf.goWrite {m n w} (h : s.Wf) : (s.goWrite m n w).Wf :=
  wf_ite h.writeIgnored <|
  wf_ite h.refuseFull <|
  wf_ite h <|
  h.incFld.setBit.setBit.setBit

theorem State.Wf.slotWrite {m n k} (h : s.Wf) : (s.slotWrite m n k).Wf := wf_ite h.writeIgnored (wf_ite h.refuseFull h)
theorem State.Wf.takeEffect {m n} (h : s.Wf) : (s.takeEffect m n).Wf := wf_ite h.setBit.setBit h

theorem State.Wf.wordWrite {m n w} (h : s.Wf) : (s.wordWrite m n w).Wf :=
  wf_ite h.writeIgnored (wf_ite h.refuseFull h.set.setBit.setBit)

theorem State.Wf.wordEffect {m n} (h : s.Wf) : (s.wordEffect m n).Wf := wf_ite h.setBit.setBit h

theorem State.Wf.bindWrite {m entry w} (h : s.Wf) : (s.bindWrite m entry w).Wf :=
  wf_ite h.raise (wf_ite h.writeIgnored (wf_ite h.writeIgnored (wf_ite h h.store)))

theorem State.Wf.lockWrite {m w} (h : s.Wf) : (s.lockWrite m w).Wf := wf_ite h.onceAgain (wf_ite h.writeIgnored (wf_ite h.set h))
theorem State.Wf.haltrtWrite {m w} (h : s.Wf) : (s.haltrtWrite m w).Wf := wf_ite h.raise (wf_ite h.writeIgnored h.store)
theorem State.Wf.haltWrite {m w} (h : s.Wf) : (s.haltWrite m w).Wf := wf_ite h.setBit h.writeIgnored
theorem State.Wf.attnWrite {m w} (h : s.Wf) : (s.attnWrite m w).Wf := h.setFld
theorem State.Wf.flagWrite {m sn t w} (h : s.Wf) : (s.flagWrite m sn t w).Wf := wf_ite h.set h.writeIgnored
theorem State.Wf.dbmaskWrite {m t w} (h : s.Wf) : (s.dbmaskWrite m t w).Wf := wf_ite h.set h.writeIgnored

theorem State.Wf.readyWrite {m w} (h : s.Wf) : (s.readyWrite m w).Wf :=
  wf_ite h.onceAgain (wf_ite h.writeIgnored (wf_ite h.set.set h))

theorem State.Wf.modeWrite {m w} (h : s.Wf) : (s.modeWrite m w).Wf :=
  wf_ite (wf_ite h.refuseFull h.writeIgnored) (wf_ite h.writeIgnored h.set)

theorem State.Wf.orphan {m} (h : s.Wf) : (s.orphan m).Wf :=
  have h2 := h.foldl fun h1 => wf_ite h1.setBit h1
  h2.foldl fun h3 => wf_ite h3.setBit h3

/-! ### The safety channels -/

theorem State.Wf.onChan {ch g} (h : s.Wf) : (s.onChan ch g).Wf := h.of_stores
theorem State.Wf.enableLost {ax} (h : s.Wf) : (s.enableLost ax).Wf := h.gateLost.onMot

theorem State.Wf.settleSafety (h : s.Wf) : (s.settleSafety).Wf :=
  (h.onChan.onChan.putSaf.forAll fun h => wf_ite h.enableLost h).level.level.level.level

theorem State.Wf.enterSafe {cause byS byH} (h : s.Wf) : (s.enterSafe cause byS byH).Wf :=
  have h2 := h.of_stores.forAll fun h1 => h1.enableLost
  h2.raiseLevel.settleSafety

theorem State.Wf.safeBy {ch cause} (h : s.Wf) : (s.safeBy ch cause).Wf := h.enterSafe
theorem State.Wf.stoChange {ch ball level} (h : s.Wf) : (s.stoChange ch ball level).Wf := h.onChan.settleSafety
theorem State.Wf.stoQualified {ch g} (h : s.Wf) : (s.stoQualified ch g).Wf := wf_ite h.onChan.settleSafety h
theorem State.Wf.stoDiscrepancy {ch g} (h : s.Wf) : (s.stoDiscrepancy ch g).Wf := wf_ite h h.onChan.settleSafety
theorem State.Wf.clearGroupTrips {g} (h : s.Wf) : (s.clearGroupTrips g).Wf := h.forAll fun h1 => wf_ite h1.onChan.onChan h1

theorem State.Wf.discrepancyClear {ch g} (h : s.Wf) : (s.discrepancyClear ch g).Wf :=
  wf_ite h.onChan.clearGroupTrips.settleSafety h

theorem State.Wf.latchSeal {ch code} (h : s.Wf) : (s.latchSeal ch code).Wf :=
  have h1 := h.onChan
  wf_ite h1.safeBy <|
  by
    split
    · exact wf_ite h1 h1.safeBy
    · exact h1

theorem State.Wf.sealSample {ch code} (h : s.Wf) : (s.sealSample ch code).Wf := by
  unfold State.sealSample
  dsimp only
  split
  · exact wf_ite h.onChan.latchSeal h.onChan
  · exact wf_ite h.onChan.onChan.safeBy h.onChan.onChan

theorem State.Wf.trip {ch ax sf3} (h : s.Wf) : (s.trip ch ax sf3).Wf := h.onChan.settleSafety

theorem State.Wf.sinc2Axis {ax xs} (h : s.Wf) : (s.sinc2Axis ax xs).Wf :=
  wf_ite h <|
  have h1 := h.onChan
  have h2 := wf_ite h1.trip h1
  wf_ite h2.trip h2

theorem State.Wf.safeFastAxis {ax xa xb} (h : s.Wf) : (s.safeFastAxis ax xa xb).Wf :=
  wf_ite h <|
  have h1 := h.onChan
  wf_ite h1.trip h1

theorem State.Wf.safeEvalAxis {ax} (h : s.Wf) : (s.safeEvalAxis ax).Wf :=
  wf_ite h <|
  have h1 := h.onChan.putSaf
  have h2 := wf_ite h1.trip h1
  wf_ite h2.trip h2

theorem State.Wf.stillDeclare {ch ax} (h : s.Wf) : (s.stillDeclare ch ax).Wf := wf_ite h h.onChan

theorem State.Wf.stillWithdraw {ch ax} (h : s.Wf) : (s.stillWithdraw ch ax).Wf :=
  have h1 := h.onChan
  wf_ite h1.onMot h1

theorem State.Wf.wordMissed {ch} (h : s.Wf) : (s.wordMissed ch).Wf :=
  have h1 := h.onChan
  wf_ite h1.safeBy h1

theorem State.Wf.crossCompare (h : s.Wf) : (s.crossCompare).Wf :=
  wf_ite
    (have h1 := h.onChan.onChan
     wf_ite h1.enterSafe h1)
    (wf_ite h.wordMissed (wf_ite h.wordMissed h))

theorem State.Wf.safeAnswer {req result} (h : s.Wf) : (s.safeAnswer req result).Wf := h.wordEffect.wordWrite

theorem State.Wf.serveSafe {req f} (h : s.Wf) (hf : ∀ {t w}, t.Wf → (f t w).1.Wf) : (s.serveSafe req f).Wf :=
  wf_ite h <|
  wf_ite h.safeAnswer <|
  wf_ite h <|
  (hf h).safeAnswer

theorem State.Wf.safeStop {w} (h : s.Wf) : (s.safeStop w).1.Wf := by
  unfold State.safeStop
  refine wf_fst_ite h.putSaf.settleSafety (wf_fst_ite h (wf_fst_ite h ?_))
  exact (h.putSaf.forAll fun h => wf_ite h.clearGroupTrips h).settleSafety

theorem State.Wf.safeCeil {w} (h : s.Wf) : (s.safeCeil w).1.Wf :=
  wf_fst_ite h (wf_fst_ite h h.of_stores)

theorem State.Wf.safeSense {w} (h : s.Wf) : (s.safeSense w).1.Wf :=
  wf_fst_ite h h.of_stores

theorem State.Wf.safeClear {w} (h : s.Wf) : (s.safeClear w).1.Wf := by
  unfold State.safeClear
  refine wf_fst_ite h (wf_fst_ite h ?_)
  exact (h.forAll fun h => wf_ite h.onChan.onChan h).settleSafety

theorem State.Wf.enableDecay {ch} (h : s.Wf) : (s.enableDecay ch).Wf := h.of_stores.onChan.settleSafety
theorem State.Wf.readSout {g high} (h : s.Wf) : (s.readSout g high).Wf := h.of_stores

theorem State.Wf.darkEnd {g readbackLow} (h : s.Wf) : (s.darkEnd g readbackLow).Wf :=
  wf_ite h (wf_ite h.of_stores (wf_ite h.of_stores.readSout h.of_stores.readSout.enterSafe))

theorem State.Wf.safeCoreReady {romOk ver} (h : s.Wf) : (s.safeCoreReady romOk ver).Wf :=
  wf_ite h.safeBy <|
  h.of_stores.onChan.settleSafety

theorem State.Wf.selvedgeReady {first second} (h : s.Wf) : (s.selvedgeReady first second).Wf :=
  have h1 := h.sealSample.sealSample
  wf_ite h1 h1.onChan.settleSafety

/-! ### Clocks and time -/

theorem State.Wf.presRuns {ns} (h : s.Wf) : (s.presRuns ns).Wf := h.of_stores

theorem State.Wf.pass {n} (h : s.Wf) : (s.pass n).Wf :=
  wf_ite h <|
  wf_ite h.presRuns <|
  h.presRuns.of_stores

theorem State.Wf.setTime {t} (h : s.Wf) : (s.setTime t).Wf := h.of_stores
theorem State.Wf.timeWrite {m hi lo} (h : s.Wf) : (s.timeWrite m hi lo).Wf := wf_ite h.unstage.setTime h.writeIgnored

theorem State.Wf.ungate {core} (h : s.Wf) : (s.ungate core).Wf :=
  have h1 := h.setBit
  wf_ite h1.setFld h1

theorem State.Wf.settleClocks (h : s.Wf) : (s.settleClocks).Wf :=
  have h1 := wf_ite h.setFld.of_stores h
  have h3 := h1.foldl fun h2 => h2.of_stores
  have h4 := h3.raises
  wf_ite h4.enterSafe h4

theorem State.Wf.clockSeen {n stopped} (h : s.Wf) : (s.clockSeen n stopped).Wf :=
  have h1 := h.of_stores
  wf_ite h1.setBit h1

theorem State.Wf.monWindow {n count} (h : s.Wf) : (s.monWindow n count).Wf :=
  wf_ite h <|
  have h1 := h.set.clockSeen.of_stores
  (wf_ite h1.setBit (wf_ite h1.setBit h1)).settleClocks

theorem State.Wf.darnFresh {mem word} (h : s.Wf) : (s.darnFresh mem word).Wf := h.of_stores

theorem State.Wf.darnPut {mem word d} (h : s.Wf) : (s.darnPut mem word d).Wf := by
  have h := h.darnFresh (mem := mem) (word := word)
  unfold State.darnPut
  split
  · exact { h with ctx := wf_foldl_spSet h.ctx }
  · exact { h with wj := spSet_canonical (fun _ => 0#256) word d h.wj.1 h.wj.2 }
  · exact { h with darn := spSet_canonical (fun _ => 0#256) _ d h.darn.1 h.darn.2 }

theorem State.Wf.noteError {mem word e} (h : s.Wf) : (s.noteError mem word e).Wf := wf_ite h.of_stores h
theorem State.Wf.darnCount {mem word} (h : s.Wf) : (s.darnCount mem word).Wf := h.incSat.setFld

theorem State.Wf.darnUe {mem word} (h : s.Wf) : (s.darnUe mem word).Wf :=
  have h1 := h.raise
  wf_ite h1.safeBy h1

theorem State.Wf.darnRead {m mem word e} (h : s.Wf) : (s.darnRead m mem word e).Wf :=
  wf_ite h.quiet <|
  have h1 := h.noteError
  wf_ite
    (have h2 := h1.darnUe
     wf_ite h2.answer h2.busError)
    ((wf_ite h1.darnCount h1).answer)

theorem State.Wf.darnNarrow {m mem word lane w e} (h : s.Wf) : (s.darnNarrow m mem word lane w e).Wf :=
  wf_ite h.quiet <|
  have h1 := h.noteError
  wf_ite
    (have h2 := h1.darnUe
     wf_ite h2.quiet h2.busError)
    ((wf_ite h1.darnCount h1).darnPut.quiet)

theorem wf_scrubOne {acc v} (h : acc.1.Wf) : (scrubOne acc v).1.Wf := by
  unfold scrubOne
  refine wf_fst_ite h ?_
  have h1 := h.noteError (mem := v.1) (word := v.2.1) (e := v.2.2.1)
  exact wf_fst_ite (wf_fst_ite h1 h1.of_stores) (wf_fst_ite h1.darnCount h1)

theorem State.Wf.scrub {visits} (h : s.Wf) : (s.scrub visits).Wf :=
  have h1 := (wf_fst_foldl (p := (s, [])) h wf_scrubOne).raises
  wf_ite h1.safeBy h1

theorem State.Wf.enterFcSafe (h : s.Wf) : (s.enterFcSafe).Wf := (h.of_stores.forAll fun h1 => h1.enableLost).settleSafety

theorem State.Wf.parityScrub {p i} (h : s.Wf) : (s.parityScrub p i).Wf := by
  unfold State.parityScrub
  dsimp only
  split
  · exact wf_ite h (wf_ite h.enterFcSafe h.of_stores.raiseLevel)
  · exact h

theorem State.Wf.darnClr {w} (h : s.Wf) : (s.darnClr w).Wf := h.foldl fun h1 => wf_ite h1.set h1

theorem State.Wf.faultRaise {rs} (h : s.Wf) : (s.faultRaise rs).Wf :=
  have h2 := h.foldl fun h1 => wf_ite h1.of_stores h1
  h2.raises

theorem State.Wf.swset {m w} (h : s.Wf) : (s.swset m w).Wf :=
  have h2 := h.set.foldl fun h1 => h1.of_stores
  h2.raises

/-! ### Motion contexts -/

theorem State.Wf.setCtxW {c w v} (h : s.Wf) : (s.setCtxW c w v).Wf :=
  { h with ctx := spSet_canonical (fun _ => 0#32) _ v h.ctx.1 h.ctx.2 }

theorem State.Wf.setCtxWide {c w x} (h : s.Wf) : (s.setCtxWide c w x).Wf := h.setCtxW.setCtxW
theorem State.Wf.ctxGo {c st} (h : s.Wf) : (s.ctxGo c st).Wf := h.setCtxW.setCtxWide

theorem State.Wf.ctxFinish {c st reason} (h : s.Wf) : (s.ctxFinish c st reason).Wf :=
  have h1 := h.setCtxW
  wf_ite h1.setCtxW.ctxGo h1.ctxGo

theorem State.Wf.ctxLoad {c} (h : s.Wf) : (s.ctxLoad c).Wf :=
  .ctxGo { h with ctx := h.ctx.filter _ }

theorem State.Wf.cmdServed {c result} (h : s.Wf) : (s.cmdServed c result).Wf := h.set

theorem State.Wf.allocCommit {fetched} (h : s.Wf) : (s.allocCommit fetched).Wf := by
  unfold State.allocCommit
  split
  · exact h
  · exact wf_ite h.ctxLoad.cmdServed h.cmdServed

theorem State.Wf.allocEffect {m} (h : s.Wf) : (s.allocEffect m).Wf :=
  wf_ite h.allocCommit <|
  by
    split
    · exact h
    · exact h.ctxLoad

theorem State.Wf.ctxStart {c ax} (h : s.Wf) : (s.ctxStart c ax).Wf :=
  wf_ite h.cmdServed <|
  by
    split
    · exact h.ctxFinish.cmdServed.darnUe
    · exact h.setCtxW.ctxGo.onMot.cmdServed

theorem State.Wf.dequeueAbort {ax c reason} (h : s.Wf) : (s.dequeueAbort ax c reason).Wf := h.onMot.ctxFinish.incFld

theorem State.Wf.ctxAbort {c} (h : s.Wf) : (s.ctxAbort c).Wf :=
  wf_ite h.dequeueAbort.cmdServed (wf_ite h.onMot.cmdServed h.cmdServed)

theorem State.Wf.ctxRelease {c} (h : s.Wf) : (s.ctxRelease c).Wf :=
  wf_ite h.cmdServed (wf_ite h.ctxGo.cmdServed (wf_ite h.setCtxW.cmdServed h.cmdServed))

theorem State.Wf.ctxCmd {w} (h : s.Wf) : (s.ctxCmd w).Wf := by
  unfold State.ctxCmd
  split
  · exact h.ctxStart
  · exact h.ctxAbort
  · exact h.ctxRelease
  · exact h

theorem State.Wf.ctxWordWrite {m w v} (h : s.Wf) : (s.ctxWordWrite m w v).Wf :=
  wf_ite h <|
  wf_ite h.writeIgnored <|
  wf_ite
    (have h1 := h.darnUe
     wf_ite h1 h1.busError)
    (h.darnFresh.setCtxW)

/-! ### The motion engine -/

theorem State.Wf.setEnergy {ax p} (h : s.Wf) : (s.setEnergy ax p).Wf := h.set.set
theorem State.Wf.showTarget {ax} (h : s.Wf) : (s.showTarget ax).Wf := h.onMot
theorem State.Wf.replan {ax} (h : s.Wf) : (s.replan ax).Wf := h.onMot.showTarget
theorem State.Wf.brake {ax} (h : s.Wf) : (s.brake ax).Wf := h.onMot
theorem State.Wf.toRun {ax delay} (h : s.Wf) : (s.toRun ax delay).Wf := h.onMot
theorem State.Wf.report {x u} (h : s.Wf) : (s.report x u).2.Wf := wf_snd_ite h h.drawBit

theorem State.Wf.reportAxis {ax old} (h : s.Wf) : (s.reportAxis ax old).Wf := by
  unfold State.reportAxis
  dsimp only
  refine State.Wf.onMot (wf_ite ?_ (State.Wf.setWide ?_))
  all_goals exact wf_snd_ite (wf_snd_ite h h.report) (wf_snd_ite h h.report).drawInt

theorem State.Wf.integrate {ax dt} (h : s.Wf) : (s.integrate ax dt).1.Wf := by
  unfold State.integrate
  dsimp only
  split
  · exact h.onMot.pair
  split
  · exact h.onMot.pair
  split
  · exact h.onMot.pair
  · exact h.onMot.pair

theorem State.Wf.dueEv {ax} (h : s.Wf) : (s.dueEv ax).Wf := h.onMot
theorem State.Wf.doorCycle {ax} (h : s.Wf) : (s.doorCycle ax).Wf := h.setWide

theorem State.Wf.endActive {ax done reason} (h : s.Wf) : (s.endActive ax done reason).Wf := by
  unfold State.endActive
  split
  · exact h
  · exact
      have h1 := h.setCtxWide.ctxFinish
      have h2 := wf_ite h1.incFld h1.incFld
      (wf_ite h2.doorCycle h2).onMot.dueEv

theorem State.Wf.disengage {ax gate} (h : s.Wf) : (s.disengage ax gate).Wf := wf_ite h.onMot h
theorem State.Wf.cutMotion {ax reason gate} (h : s.Wf) : (s.cutMotion ax reason gate).Wf := h.endActive.disengage
theorem State.Wf.endQueued {ax cs reason} (h : s.Wf) : (s.endQueued ax cs reason).Wf := h.foldl fun h1 => h1.dequeueAbort

theorem State.Wf.rowDisable {ax} (h : s.Wf) : (s.rowDisable ax).Wf := by
  unfold State.rowDisable
  exact h.endActive.disengage.endQueued.onMot

theorem State.Wf.obstacle {ax} (h : s.Wf) : (s.obstacle ax).Wf := by
  unfold State.obstacle
  dsimp only
  split
  · exact h.setWide.incSat.incFld.setCtxW.onMot.brake.dueEv
  · exact h.setWide.incSat.incFld.onMot.brake.dueEv

theorem State.Wf.resumeMotion {ax retry} (h : s.Wf) : (s.resumeMotion ax retry).Wf := by
  unfold State.resumeMotion
  dsimp only
  split
  · exact h.onMot.setCtxW.setEnergy.toRun.replan
  · exact h.onMot.setEnergy.toRun.replan

theorem State.Wf.afterRest {ax} (h : s.Wf) : (s.afterRest ax).Wf :=
  wf_ite (wf_ite h.onMot h.onMot.setEnergy.replan) (wf_ite h.onMot h.onMot)

theorem State.Wf.homeFound {ax} (h : s.Wf) : (s.homeFound ax).Wf := h.movePos.onMot.brake

theorem State.Wf.forceCheck {ax} (h : s.Wf) : (s.forceCheck ax).1.Wf := by
  unfold State.forceCheck
  refine wf_fst_ite h ?_
  dsimp only
  split
  · exact (wf_ite h.setCtxW h).onMot
  · exact h.onMot

theorem State.Wf.trackClosing {ax} (h : s.Wf) : (s.trackClosing ax).Wf := by
  unfold State.trackClosing
  exact h.onMot

theorem State.Wf.stallCleared {ax} (h : s.Wf) : (s.stallCleared ax).Wf := h.setBit.setFld
theorem State.Wf.beginMove {ax p delay} (h : s.Wf) : (s.beginMove ax p delay).Wf := h.stallCleared.setEnergy.onMot.toRun.replan

theorem State.Wf.noteDue {ax} (h : s.Wf) : (s.noteDue ax).Wf := by
  unfold State.noteDue
  exact h.onMot

theorem State.Wf.headActive {ax c late} (h : s.Wf) : (s.headActive ax c late).Wf :=
  h.onMot.setFld.setCtxW.ctxGo.setCtxWide.setCtxW.setCtxW

theorem State.Wf.takeOver {ax p blend timed cross} (h : s.Wf) : (s.takeOver ax p blend timed cross).Wf :=
  wf_ite
    (h.stallCleared.onMot.endActive.brake.onMot)
    (have h1 := h.beginMove
     have h2 := by
         split
         · exact wf_ite h1.onMot.reportAxis h1
         · exact h1
     wf_ite h2.endActive h2)

theorem State.Wf.activate {ax cross n} (h : s.Wf) : (s.activate ax cross n).Wf := by
  induction n generalizing s cross with
  | zero => exact h
  | succ n ih =>
    unfold State.activate
    split
    · exact h
    refine wf_ite h ?_
    split
    · exact h
    · exact ih h.dequeueAbort
    split
    · exact ih h.dequeueAbort.onMot
    · exact
        have h := h.endActive.headActive.takeOver
        wf_ite h (ih h)

theorem State.Wf.decidePass {ax} (h : s.Wf) : (s.decidePass ax).Wf :=
  wf_ite
    (by
       split
       · exact h.onMot
       · exact h.onMot)
    (h)

theorem State.Wf.engage {ax g} (h : s.Wf) : (s.engage ax g).Wf := by
  unfold State.engage
  split
  · exact h.cutMotion.brake.onMot
  · exact
      have h1 := h.endActive.onMot
      wf_ite h1.disengage.brake.onMot <|
      h1.onMot.beginMove.onMot

theorem State.Wf.doorInput {ax} (h : s.Wf) : (s.doorInput ax).Wf := by
  unfold State.doorInput
  refine wf_ite (wf_ite h.onMot.cutMotion.onMot.brake.onMot h.onMot.cutMotion.onMot) ?_
  dsimp only
  split
  · exact h.onMot
  · exact wf_ite h.onMot (wf_ite h.onMot.engage (wf_ite h.onMot.onMot h.onMot))

theorem State.Wf.absorbInput {ax} (h : s.Wf) : (s.absorbInput ax).Wf := by
  unfold State.absorbInput
  exact h.onMot

theorem State.Wf.stepResync {ax} (h : s.Wf) : (s.stepResync ax).Wf := h.onMot

theorem State.Wf.follow {ax} (h : s.Wf) : (s.follow ax).Wf :=
  wf_ite h.stepResync.onMot <|
  have h1 := h.onMot
  wf_ite h1.onMot.brake.onMot (wf_ite h1.onMot (wf_ite h1.onMot h1.onMot))

theorem State.Wf.finish {ax} (h : s.Wf) : (s.finish ax).Wf :=
  have h1 := wf_ite h.onMot h
  wf_ite h1.endActive <|
  wf_ite
    (h1.incFld.dueEv.disengage)
    ((wf_ite h1.doorCycle h1).disengage)

theorem State.Wf.brakeOff {ax} (h : s.Wf) : (s.brakeOff ax).Wf := h.brake.onMot

theorem State.Wf.lowRows {ax rise nat} (h : s.Wf) : (s.lowRows ax rise nat).1.Wf := by
  unfold State.lowRows
  refine wf_fst_ite h.endActive.brakeOff (wf_fst_ite h.cutMotion.brakeOff (wf_fst_ite h.resumeMotion (wf_fst_ite h
    (wf_fst_ite h.homeFound (wf_fst_ite h.cutMotion.brakeOff (wf_fst_ite h.obstacle ?_))))))
  have h1 := h.forceCheck (ax := ax)
  exact wf_fst_ite h1.obstacle (wf_fst_ite h1.cutMotion.brakeOff (wf_fst_ite h1.cutMotion (wf_fst_ite h1.afterRest
    (wf_fst_ite h1.resumeMotion h1))))

theorem State.Wf.rowsActed {ax rise nat} (h : s.Wf) : (s.rowsActed ax rise nat).1.Wf := by
  unfold State.rowsActed
  extract_lets m halted ue s₁ s₂
  clear_value ue
  have h1 : s₁.Wf := h.onMot
  have h2 : s₂.Wf := by
    cases ue with
    | some w => exact h1.onMot
    | none => exact h1
  exact (wf_fst_ite h1.cutMotion.onMot.pair (wf_fst_ite h2.cutMotion.brakeOff.pair (wf_fst_ite h1.cutMotion.brakeOff.onMot.pair
    (wf_fst_ite h1.cutMotion.brakeOff.onMot.pair (wf_fst_ite h1.finish.pair h1.lowRows))))).onMot.pair

theorem State.Wf.settleLevel {ax cyc} (h : s.Wf) : (s.settleLevel ax cyc).Wf := by
  unfold State.settleLevel
  exact h.onMot

theorem State.Wf.settleClamp {ax} (h : s.Wf) : (s.settleClamp ax).Wf := by
  unfold State.settleClamp
  exact h.onMot

theorem State.Wf.replanTail {ax} (h : s.Wf) : (s.replanTail ax).Wf := by
  unfold State.replanTail
  exact h.onMot

theorem State.Wf.settleRide {ax} (h : s.Wf) : (s.settleRide ax).Wf :=
  wf_ite (wf_ite h.onMot.replanTail h.onMot) (wf_ite (wf_ite h.onMot.replanTail h.onMot) (wf_ite h.onMot h))

theorem State.Wf.flushDue {ax} (h : s.Wf) : (s.flushDue ax).Wf := h.onMot.raises

theorem State.Wf.writeRecord {ax} (h : s.Wf) : (s.writeRecord ax).Wf := by
  unfold State.writeRecord
  exact h.onMot

theorem State.Wf.tickAxis {ax cyc} (h : s.Wf) : (s.tickAxis ax cyc).Wf :=
  wf_ite h <|
  have h1 := h.set.noteDue
  wf_ite
    (h1.rowDisable.onMot.stepResync.settleLevel.writeRecord.flushDue)
    (have h2 := h1.settleRide.integrate.onMot.reportAxis.onMot.trackClosing
     have h3 := (wf_ite h2.incFld.dueEv h2).rowsActed
     have h4 := wf_ite h3.setBit.putLnk h3
     have h5 := wf_ite h4.onMot (wf_ite h4.doorInput h4.absorbInput)
     have h6 := wf_ite h5 h5.activate
     have h7 := wf_ite h6.follow h6.stepResync
     (wf_ite h7.brakeOff h7).decidePass.settleLevel.settleClamp.writeRecord.flushDue)

theorem State.Wf.engineTick (h : s.Wf) : (s.engineTick).Wf := (h.set.putSys.forAll .tickAxis).putSys

theorem State.Wf.meCtlWrite {ax w} (h : s.Wf) : (s.meCtlWrite ax w).Wf := by
  unfold State.meCtlWrite
  exact h.set.onMot

theorem State.Wf.mePosWrite {m ax hi lo} (h : s.Wf) : (s.mePosWrite m ax hi lo).Wf :=
  wf_ite h.writeIgnored h.movePos.onMot.stepResync

theorem State.Wf.meDisable {ax} (h : s.Wf) : (s.meDisable ax).Wf := wf_ite h h.setBit.onMot

theorem State.Wf.latchEvent {ax src level} (h : s.Wf) : (s.latchEvent ax src level).Wf := by
  unfold State.latchEvent
  split
  · exact wf_ite h.onMot h
  · exact h

theorem State.Wf.enaFall {ax} (h : s.Wf) : (s.enaFall ax).Wf :=
  have h1 := h.of_stores
  wf_ite h1.onMot h1

theorem State.Wf.motionEvent {e} (h : s.Wf) : (s.motionEvent e).Wf := by
  unfold State.motionEvent
  split
  · exact wf_ite h <|
      have h1 := h.of_stores
      (wf_ite h1.enaFall h1).latchEvent
  · exact wf_ite h (h.forAll fun h2 => h2.latchEvent)
  · exact h.latchEvent

theorem State.Wf.stepEdge {ax} (h : s.Wf) : (s.stepEdge ax).Wf := wf_ite h.onMot h

theorem State.Wf.timedStart {ax} (h : s.Wf) : (s.timedStart ax).Wf := by
  unfold State.timedStart
  split
  · exact wf_ite h.activate.flushDue h
  · exact h

/-! ### The PWM bridges -/

theorem State.Wf.setMask {ax br on} (h : s.Wf) : (s.setMask ax br on).Wf := h.setBit
theorem State.Wf.edge {ax br j hi} (h : s.Wf) : (s.edge ax br j hi).Wf := wf_ite h h.setMask.legCommand
theorem State.Wf.bridgeTo {ax br left right} (h : s.Wf) : (s.bridgeTo ax br left right).Wf := h.edge.edge
theorem State.Wf.resumeHigh {ax j} (h : s.Wf) : (s.resumeHigh ax j).Wf := wf_ite h.legCommand h
theorem State.Wf.centreStart {ax br} (h : s.Wf) : (s.centreStart ax br).Wf := h.bridgeTo
theorem State.Wf.onScaled {o per} (h : s.Wf) : (s.onScaled o per).2.Wf := wf_snd_ite h.drawBit h

theorem State.Wf.showDuty {ax br} (h : s.Wf) : (s.showDuty ax br).Wf :=
  (wf_snd_ite h (wf_snd_ite h.onScaled h)).set

theorem State.Wf.zeroDuty {ax br} (h : s.Wf) : (s.zeroDuty ax br).Wf := wf_ite h h.onBr.set
theorem State.Wf.holdTacks {ax} (h : s.Wf) : (s.holdTacks ax).Wf := wf_ite h.set.set h

theorem State.Wf.transfer {ax} (h : s.Wf) : (s.transfer ax).Wf :=
  have h1 := (((wf_ite h.set h).onPwm).zeroDuty.zeroDuty).setBit
  (wf_ite h1.incFld h1).showDuty.showDuty.holdTacks

theorem State.Wf.writeOn {ax br on} (h : s.Wf) : (s.writeOn ax br on).Wf := h.onBr.setBit

theorem State.Wf.showTrips {ax br} (h : s.Wf) : (s.showTrips ax br).Wf := by
  unfold State.showTrips
  split
  · exact h.setFld
  · exact h.setFld

theorem State.Wf.settleLat {ax} (h : s.Wf) : (s.settleLat ax).Wf := h.level
theorem State.Wf.latchOff {ax br} (h : s.Wf) : (s.latchOff ax br).Wf := h.disarm.disarm.bridgeOff.onBr.setBit.settleLat
theorem State.Wf.unlatch {ax br} (h : s.Wf) : (s.unlatch ax br).Wf := h.setBit.setBit.onBr.showTrips.settleLat
theorem State.Wf.latchClear {ax br} (h : s.Wf) : (s.latchClear ax br).Wf := wf_ite h (wf_ite h.setBit h.unlatch)

theorem State.Wf.newPeriod {ax br} (h : s.Wf) : (s.newPeriod ax br).Wf := by
  unfold State.newPeriod
  exact
    have h1 := h.onBr.showTrips
    (((wf_ite h1.transfer.setBit h1).zeroDuty.holdTacks).onBr).onBr

theorem State.Wf.levelGate {ax br} (h : s.Wf) : (s.levelGate ax br).Wf := wf_ite h.disarm.disarm.bridgeOff h

theorem State.Wf.chopStart {ax br} (h : s.Wf) : (s.chopStart ax br).Wf :=
  wf_ite h.bridgeTo <|
  have h1 := h.onBr
  wf_ite h1 h1.bridgeTo

theorem State.Wf.startPeriod {ax br} (h : s.Wf) : (s.startPeriod ax br).Wf :=
  have h1 := h.newPeriod.levelGate
  wf_ite h1.onBr <|
  have h2 := h1.resumeHigh.resumeHigh.onBr
  wf_ite h2.chopStart (wf_ite h2 h2.centreStart)

theorem State.Wf.boundary {ax br} (h : s.Wf) : (s.boundary ax br).Wf := wf_ite h.startPeriod h

theorem State.Wf.endOn {ax br} (h : s.Wf) : (s.endOn ax br).Wf :=
  have h1 := h.onBr
  wf_ite h1.bridgeTo h1.bridgeTo

theorem State.Wf.tripOn {ax br} (h : s.Wf) : (s.tripOn ax br).Wf := h.setBit.endOn
theorem State.Wf.ilimPulse {ax br} (h : s.Wf) : (s.ilimPulse ax br).Wf := wf_ite (wf_ite h.bridgeTo h) (wf_ite h.tripOn h)

theorem State.Wf.ilimAct {ax br} (h : s.Wf) : (s.ilimAct ax br).Wf := by
  unfold State.ilimAct
  extract_lets again s₁ s₂ s₃
  have h1 : s₁.Wf := h.onBr
  have h2 : s₂.Wf := wf_ite h1 (by cases br <;> exact h1.incSat.showTrips)
  have h3 : s₃.Wf := h2.ilimPulse
  exact wf_ite h (wf_ite h.ilimPulse (wf_ite h3.latchOff h3))

theorem State.Wf.regAct {ax br} (h : s.Wf) : (s.regAct ax br).Wf := wf_ite h.tripOn (wf_ite (wf_ite h.startPeriod h.onBr) h)

theorem State.Wf.ilimTrip {ax br active} (h : s.Wf) : (s.ilimTrip ax br active).Wf :=
  have h1 := h.setBit.onBr
  wf_ite h1 h1.ilimAct

theorem State.Wf.regTrip {ax br active} (h : s.Wf) : (s.regTrip ax br active).Wf :=
  have h1 := h.setBit
  wf_ite h1 h1.regAct

theorem State.Wf.maskEnd {ax br reg ilim} (h : s.Wf) : (s.maskEnd ax br reg ilim).Wf :=
  have h1 := h.setMask.setBit.setBit
  wf_ite h1.ilimAct <|
  have h2 := h1.onBr
  wf_ite h2.regAct h2

theorem State.Wf.commutation {ax j high} (h : s.Wf) : (s.commutation ax j high).Wf := wf_ite (wf_ite h.edge h) (wf_ite h.edge h)

theorem State.Wf.pwmEnable {ax} (h : s.Wf) : (s.pwmEnable ax).Wf :=
  wf_ite h <|
  h.of_stores.endDiag.prechargeEnd.setBit.transfer.onPwm

theorem State.Wf.pwmDisable {ax} (h : s.Wf) : (s.pwmDisable ax).Wf :=
  wf_ite h <|
  h.allLegs.setBit.setFld.settleGd.onPwm

theorem State.Wf.pwmCtlWrite {ax w} (h : s.Wf) : (s.pwmCtlWrite ax w).Wf :=
  have h1 := wf_ite h.setBit h
  have h2 := wf_ite h1.latchClear h1
  wf_ite h2.latchClear h2

theorem State.Wf.interlockTimeout {ax j} (h : s.Wf) : (s.interlockTimeout ax j).Wf := wf_ite h.stuck.maskEnd h

/-! ### The comparators -/

theorem State.Wf.settleCmp (h : s.Wf) : (s.settleCmp).Wf := h.set.forAll fun h1 => h1.level
theorem State.Wf.cmpPut {c out unres} (h : s.Wf) : (s.cmpPut c out unres).Wf := h.setBit.setBit

theorem State.Wf.cmpEvent {c level} (h : s.Wf) : (s.cmpEvent c level).Wf :=
  (wf_ite h.set.incFld.setBit h).forAll fun h1 => h1.latchEvent

theorem State.Wf.cmpFollow {c uV} (h : s.Wf) : (s.cmpFollow c uV).Wf := by
  unfold State.cmpFollow
  dsimp only
  split
  · exact h
  · exact (wf_ite h.cmpPut.cmpEvent h.cmpPut).settleCmp

theorem State.Wf.cmpOff {c} (h : s.Wf) : (s.cmpOff c).Wf := by
  unfold State.cmpOff
  exact h.cmpPut.onCmp

theorem State.Wf.cmpSettleAll (h : s.Wf) : (s.cmpSettleAll).Wf := (h.forAll fun h1 => wf_ite h1 h1.cmpOff).settleCmp
theorem State.Wf.cmpCfgWrite {w} (h : s.Wf) : (s.cmpCfgWrite w).Wf := h.store.cmpSettleAll

theorem State.Wf.cmpCcfgWrite {m c w} (h : s.Wf) : (s.cmpCcfgWrite m c w).Wf :=
  wf_ite h.writeIgnored <|
  have h1 := h.store
  have h2 := wf_ite h1.onCmp h1
  have h3 := wf_ite h2 h2.cmpOff
  wf_ite h3.cmpFollow h3.settleCmp

theorem State.Wf.cmpResolve {c uV} (h : s.Wf) : (s.cmpResolve c uV).Wf :=
  wf_ite h <|
  have h1 := h.onCmp
  wf_ite
    (have h2 := h1.drawBit.cmpPut
     (wf_ite h2.cmpEvent h2).settleCmp)
    (h1.cmpFollow)

theorem State.Wf.tieRelease {c} (h : s.Wf) : (s.tieRelease c).Wf :=
  wf_ite h <|
  have h1 := h.onCmp
  (wf_ite h1.cmpEvent h1).settleCmp

theorem State.Wf.sendTrigger {pc} (h : s.Wf) : (s.sendTrigger pc).Wf := wf_ite h.of_stores h.onPc

theorem State.Wf.tackFire {ax br k} (h : s.Wf) : (s.tackFire ax br k).Wf :=
  wf_ite
    (by
       split
       · exact h.sendTrigger
       · exact h.set
       · exact h.latchEvent
       · exact h)
    (h)

/-! ### Power and supplies -/

theorem State.Wf.supplies (h : s.Wf) : (s.supplies).Wf := h.set
theorem State.Wf.endChipReset (h : s.Wf) : (s.endChipReset).Wf := wf_ite h h.set.set.supplies.set.putSys.putFcPresent.raises

theorem State.Wf.strapLatch {sets mv} (h : s.Wf) : (s.strapLatch sets mv).Wf :=
  wf_ite h <|
  wf_ite h <|
  h.set.of_stores

theorem State.Wf.vsupWarn {vsupMv} (h : s.Wf) : (s.vsupWarn vsupMv).Wf :=
  wf_ite h <|
  have h1 := h.setBit
  have h2 := wf_ite h1.setBit.of_stores h1
  h2.raiseLevel

theorem State.Wf.vsupWarnEnd (h : s.Wf) : (s.vsupWarnEnd).Wf := wf_ite h h.setBit.drop.putSys

theorem State.Wf.rtEnd (h : s.Wf) : (s.rtEnd).Wf :=
  wf_ite h <|
  h.setBit.of_stores

theorem State.Wf.execReset (h : s.Wf) : (s.execReset).Wf := wf_ite h h.orphan.setFld.setBit.setBit.setBit.lostSram

theorem State.Wf.linkReset (h : s.Wf) : (s.linkReset).Wf :=
  wf_ite h <|
  have h1 := h.orphan.setBit.set
  (wf_ite h1 h1.setBit).putLnk.lostSram

theorem State.Wf.rstctl {m w} (h : s.Wf) : (s.rstctl m w).Wf :=
  wf_ite h.writeIgnored <|
  wf_ite h.chipReset <|
  have h1 := wf_ite h.execReset h
  wf_ite h1.linkReset h1

theorem State.Wf.brstWrite {m w} (h : s.Wf) : (s.brstWrite m w).Wf := wf_ite h.writeIgnored h.blockReset
theorem State.Wf.wdKick {m w} (h : s.Wf) : (s.wdKick m w).Wf := wf_ite h (wf_ite h.of_stores h.chipReset)
theorem State.Wf.settleClaim (h : s.Wf) : (s.settleClaim).Wf := h.level

theorem State.Wf.windowClose (h : s.Wf) : (s.windowClose).Wf :=
  wf_ite h <|
  have h2 := h.setBit.setBit.forAll fun h1 => wf_ite h1 h1.setBit.onMot
  h2.settleClaim

theorem State.Wf.claimWrite {m w} (h : s.Wf) : (s.claimWrite m w).Wf :=
  wf_ite h <|
  have h1 := h.setFld.setFld
  (wf_ite h1.setBit h1).settleClaim

theorem State.Wf.enterStandby (h : s.Wf) : (s.enterStandby).Wf :=
  have h2 := (h.forAll fun h1 => h1.gatesOff.setBit.mend.dropVds).setBit
  have h4 := h2.forAll fun h3 => h3.onPc
  h4.setFld

theorem State.Wf.pwrAccept {req} (h : s.Wf) : (s.pwrAccept req).Wf := h.set.setFld
theorem State.Wf.wakeUp {src sleepNs} (h : s.Wf) : (s.wakeUp src sleepNs).Wf := wf_ite h h.of_stores.chipReset
theorem State.Wf.enterSleep (h : s.Wf) : (s.enterSleep).Wf := h.of_stores.wakeUp

theorem State.Wf.pwrctl {m w} (h : s.Wf) : (s.pwrctl m w).Wf :=
  wf_ite h.writeIgnored <|
  by
    split
    · exact h.pwrAccept
    · exact wf_ite h.setFld (wf_ite h.pwrAccept h.pwrAccept.enterStandby)
    · exact wf_ite h.setFld (wf_ite h.setFld (wf_ite h.setFld h.pwrAccept.enterSleep))
    · exact h

theorem State.Wf.pllbRelock (h : s.Wf) : (s.pllbRelock).Wf :=
  have h1 := h.setBit.putSys.settleClocks
  have h2 := h1.setFld.forAll fun h => wf_ite h.onCsm h
  wf_ite (h2.forAll fun h => wf_ite h.onPc.convStart h) h1

/-! ### The link core -/

theorem State.Wf.onLp {p f} (h : s.Wf) : (s.onLp p f).Wf := h.of_stores

theorem State.Wf.settlePorts (h : s.Wf) : (s.settlePorts).Wf :=
  h.forAll fun h1 => wf_ite (wf_ite h1.setFld h1) (wf_ite h1 h1.set.onLp.drop)

theorem State.Wf.linkErrors {p n} (h : s.Wf) : (s.linkErrors p n).Wf := wf_ite h.onLp.raise h.onLp
theorem State.Wf.crcError {p} (h : s.Wf) : (s.crcError p).Wf := h.incFld.linkErrors
theorem State.Wf.dropFrame {p} (h : s.Wf) : (s.dropFrame p).Wf := h.incFld
theorem State.Wf.sends {x} (h : s.Wf) : (s.sends x).Wf := h.of_stores

theorem State.Wf.transmit {p own busy f} (h : s.Wf) : (s.transmit p own busy f).Wf :=
  wf_ite h (wf_ite (wf_ite h (wf_ite h.onLp h.dropFrame)) h.sends)

theorem State.Wf.sendStored {p} (h : s.Wf) : (s.sendStored p).Wf := by
  unfold State.sendStored
  split
  · exact wf_ite h.onLp.sends h
  · exact h

theorem State.Wf.sendUp {f} (h : s.Wf) : (s.sendUp f).Wf := by
  unfold State.sendUp
  split
  · exact h.transmit
  · exact h

theorem State.Wf.passOn {p busy f} (h : s.Wf) : (s.passOn p busy f).Wf := by
  unfold State.passOn
  split
  · exact h.transmit
  · exact h

theorem State.Wf.sendDown {f} (h : s.Wf) : (s.sendDown f).Wf :=
  wf_ite
    (by
       split
       · exact h.transmit
       · exact h)
    (h.foldl fun h1 => h1.transmit)

theorem State.Wf.sendFrame {f} (h : s.Wf) : (s.sendFrame f).Wf := wf_ite h.sendDown h.sendUp

theorem State.Wf.heardManager {p} (h : s.Wf) : (s.heardManager p).Wf :=
  have h1 := h.setBit.drop
  wf_ite h1.setBit.setBit.setBit h1

/-! ### The master port -/

theorem State.Wf.mspPush {m w} (h : s.Wf) : (s.mspPush m w).Wf := wf_ite h.writeIgnored h.of_stores

theorem State.Wf.mspStart (h : s.Wf) : (s.mspStart).Wf := by
  unfold State.mspStart
  split
  · exact wf_ite h h.of_stores
  · exact h

theorem State.Wf.mspEnd {rx} (h : s.Wf) : (s.mspEnd rx).Wf := by
  unfold State.mspEnd
  split
  · exact h
  · exact h.of_stores

theorem State.Wf.mspRead {m} (h : s.Wf) : (s.mspRead m).2.Wf := by
  unfold State.mspRead
  split
  · exact h
  · exact wf_ite h.of_stores h

theorem State.Wf.mspCtlWrite {m w} (h : s.Wf) : (s.mspCtlWrite m w).Wf :=
  wf_ite h.writeIgnored <|
  have h1 := wf_ite h.of_stores h
  wf_ite h1.of_stores h1

theorem State.Wf.mspDisable (h : s.Wf) : (s.mspDisable).Wf := h.setBit.of_stores

theorem State.Wf.wjAddr {m w} (h : s.Wf) : (s.wjAddr m w).Wf := by
  unfold State.wjAddr
  refine wf_ite h.writeIgnored ?_
  dsimp only
  split
  · exact h.set
  · exact wf_ite h.set.of_stores h.set

theorem State.Wf.wjReadEnd {e} (h : s.Wf) : (s.wjReadEnd e).Wf := by
  unfold State.wjReadEnd
  split
  · exact
      have h1 := h.of_stores.noteError
      wf_ite h1.darnUe <|
      (wf_ite h1.darnCount h1).forAll fun h2 => h2.set
  · exact h

theorem State.Wf.wjCtl {m w} (h : s.Wf) : (s.wjCtl m w).Wf := wf_ite h.writeIgnored (wf_ite h.of_stores h)
theorem State.Wf.drawDarn (h : s.Wf) : (s.drawDarn).2.Wf := h.of_stores

theorem State.Wf.wjWriteEnd {ok} (h : s.Wf) : (s.wjWriteEnd ok).Wf := by
  unfold State.wjWriteEnd
  split
  · cases ok with
    | true => exact h.incSat.darnPut.putWjOp
    | false => exact h.incSat.drawDarn.darnPut.putWjOp.raise
  · exact h

/-! ### The spool memory -/

theorem State.Wf.flashPut {a bs} (h : s.Wf) : (s.flashPut a bs).Wf :=
  { h with flash := wf_splice h.flash }

theorem State.Wf.flashErase {a n} (h : s.Wf) : (s.flashErase a n).Wf :=
  { h with flash := h.flash.filter _ }

theorem State.Wf.flashPutWords {a ws} (h : s.Wf) : (s.flashPutWords a ws).Wf := h.flashPut
theorem State.Wf.hdrWrite {f} (h : s.Wf) : (s.hdrWrite f).Wf := h.flashErase.flashPutWords
theorem State.Wf.loadImage {slot link} (h : s.Wf) : (s.loadImage slot link).Wf := h.foldl fun h1 => h1.darnPut
theorem State.Wf.wjPut {word ws} (h : s.Wf) : (s.wjPut word ws).Wf := h.darnPut.incSat

theorem State.Wf.wjCheck {base} (h : s.Wf) : (s.wjCheck base).Wf :=
  have h1 := wf_ite h.darnUe h
  wf_ite h1.darnUe h1

theorem State.Wf.wjPair {base ws} (h : s.Wf) : (s.wjPair base ws).Wf :=
  have h1 := h.wjCheck
  wf_ite h1 h1.wjPut

theorem State.Wf.wjAxis {ax sleep} (h : s.Wf) : (s.wjAxis ax sleep).Wf := h.wjPair.of_stores
theorem State.Wf.wjAxes {sleep} (h : s.Wf) : (s.wjAxes sleep).Wf := wf_ite h (h.forAll fun h1 => h1.wjAxis)
theorem State.Wf.wjLog (h : s.Wf) : (s.wjLog).Wf := h.wjPair

theorem State.Wf.logFlush (h : s.Wf) : (s.logFlush).Wf := by
  unfold State.logFlush
  exact
    wf_ite h <|
    wf_ite h.putGathered <|
    have h1 := wf_ite h.flashErase h
    have h2 := (wf_ite h1.setWide h1).flashPut.setWide.putGathered
    wf_ite h2.wjLog h2

theorem State.Wf.logAdd {type body} (h : s.Wf) : (s.logAdd type body).Wf :=
  wf_ite h <|
  have h1 := h.of_stores.setWide
  wf_ite h1.logFlush h1

theorem State.Wf.logEvent {type t body} (h : s.Wf) : (s.logEvent type t body).Wf := h.logAdd

/-! ### Firmware: events and answers -/

theorem State.Wf.post {n ws} (h : s.Wf) : (s.post n ws).Wf := (h.foldl fun h1 => h1.msgWrite).goWrite

theorem State.Wf.linkTakes (h : s.Wf) : (s.linkTakes).Wf :=
  wf_ite h <|
  have h2 := h.foldl fun h1 =>
        (wf_ite h1 h1.post).takeEffect.sendFrame
  h2.of_stores

theorem State.Wf.drainOut {d} (h : s.Wf) : (s.drainOut d).Wf :=
  wf_ite
    (by
       split
       · exact h
       · exact wf_ite h.linkTakes (wf_ite h h.post))
    (by
       split
       · exact h
       · exact wf_ite h h.of_stores.post)

theorem State.Wf.reply {d r} (h : s.Wf) : (s.reply d r).Wf := h.of_stores.drainOut
theorem State.Wf.payOwed {d} (h : s.Wf) : (s.payOwed d).Wf := h.of_stores.foldl fun h1 => h1.reply
theorem State.Wf.owe {d cls0 m} (h : s.Wf) : (s.owe d cls0 m).Wf := wf_ite h.reply h.of_stores
theorem State.Wf.oweTxn {d n cls0 m} (h : s.Wf) : (s.oweTxn d n cls0 m).Wf := wf_ite h.of_stores.reply.payOwed h.of_stores.payOwed
theorem State.Wf.fwSettle (h : s.Wf) : (s.fwSettle).Wf := wf_ite (h.forAll fun h1 => h1.drainOut) h
theorem State.Wf.queueEv {d m} (h : s.Wf) : (s.queueEv d m).Wf := wf_ite h.of_stores h.of_stores

theorem State.Wf.event {code result subj obj t data} (h : s.Wf) : (s.event code result subj obj t data).Wf :=
  wf_ite h (h.forAll fun h1 => wf_ite h1.queueEv h1)

theorem State.Wf.postEvent {d} (h : s.Wf) : (s.postEvent d).Wf :=
  have h1 := h.drainOut
  wf_ite h1 <|
  by
    split
    · exact h1
    · exact
        have h2 := h1.of_stores
        (wf_ite h2 h2.of_stores.queueEv).reply

theorem State.Wf.endLong {slot result data} (h : s.Wf) : (s.endLong slot result data).Wf := by
  unfold State.endLong
  split
  · exact by
        split
        · exact (wf_ite h.gdDisable.mend h).of_stores.event
        · exact h
  · exact by
        split
        · exact h.of_stores.event
        · exact h

theorem State.Wf.haltLong {axes} (h : s.Wf) : (s.haltLong axes).Wf := wf_ite (h.forAll fun h1 => wf_ite h1.endLong h1) h

theorem State.Wf.fwFaults (h : s.Wf) : (s.fwFaults).Wf :=
  wf_ite h <|
  h.foldl fun h =>
    have h1 := h.event.logEvent
    wf_ite (wf_ite h1.logEvent h1).fcAckOne h

theorem State.Wf.fwAxis {old ax} (h : s.Wf) : (s.fwAxis old ax).Wf := by
  unfold State.fwAxis
  extract_lets o m now rec_ hit s₁ s₂ ended s₃
  have h1 : s₁.Wf := wf_ite h.event.logEvent h
  have h2 : s₂.Wf := wf_ite h1.event.logEvent h1
  have h3 : s₃.Wf := by
    unfold s₃
    split
    · exact wf_ite (wf_ite h2.logEvent h2.logEvent.wjAxis) h2
    · exact h2
  exact wf_ite h3.event h3

theorem State.Wf.fwTick (h : s.Wf) : (s.fwTick old).Wf := wf_ite (h.forAll fun h1 => h1.fwAxis) h

/-! ### The link ports -/

theorem State.Wf.sendDreq {p} (h : s.Wf) : (s.sendDreq p).Wf := h.transmit
theorem State.Wf.measure {p} (h : s.Wf) : (s.measure p).Wf := wf_ite h h.onLp.sendDreq
theorem State.Wf.sendRsp {p k r} (h : s.Wf) : (s.sendRsp p k r).Wf := h.transmit
theorem State.Wf.meanOf {x n} (h : s.Wf) : (s.meanOf x n).2.Wf := wf_snd_ite h h.drawBit

theorem State.Wf.drsp {p trip res} (h : s.Wf) : (s.drsp p trip res).Wf := by
  unfold State.drsp
  refine wf_ite h (wf_ite h.onLp.sendDreq ?_)
  dsimp only
  split
  · exact h.onLp.meanOf.set.onLp.sendRsp
  · exact h.onLp.meanOf.set.onLp

theorem State.Wf.dreq {p res} (h : s.Wf) : (s.dreq p res).Wf := wf_ite h h.transmit

theorem State.Wf.setTxns {ts} (h : s.Wf) : (s.setTxns ts).Wf :=
  have h1 := h.of_stores
  wf_ite h1.set h1

theorem State.Wf.endTxn {t result ws} (h : s.Wf) : (s.endTxn t result ws).Wf :=
  have h1 := h.setTxns
  wf_ite h1.oweTxn h1

theorem State.Wf.tryGroup {t} (h : s.Wf) : (s.tryGroup t).Wf := by
  unfold State.tryGroup
  split
  · exact h
  · exact wf_ite h.endTxn h

theorem State.Wf.putTxn {t} (h : s.Wf) : (s.putTxn t).Wf := h.setTxns

theorem State.Wf.relayTimeout {num} (h : s.Wf) : (s.relayTimeout num).Wf := by
  unfold State.relayTimeout
  split
  · exact h
  · exact by
        split
        · exact h.endTxn
        · exact h.endTxn

theorem State.Wf.gotResponse {src num payload} (h : s.Wf) : (s.gotResponse src num payload).Wf := by
  unfold State.gotResponse
  split
  · exact h
  · exact by
        split
        · exact wf_ite h.endTxn h
        · exact wf_ite h.putTxn.tryGroup h

theorem State.Wf.gotAnswer {payload} (h : s.Wf) : (s.gotAnswer payload).Wf := by
  unfold State.gotAnswer
  dsimp only
  split
  · exact h.endTxn
  · exact h

theorem State.Wf.depart {a} (h : s.Wf) : (s.depart a).Wf := by
  unfold State.depart
  split
  · exact h
  refine (h.putLnk.setFld.event.logEvent.putFw).foldl fun h => wf_ite h ?_
  split
  · exact wf_ite h.endTxn h
  · exact wf_ite h.putTxn.tryGroup h

theorem State.Wf.sendEnum {p} (h : s.Wf) : (s.sendEnum p).Wf := h.transmit
theorem State.Wf.sendAssign {p w up} (h : s.Wf) : (s.sendAssign p w up).Wf := h.transmit
theorem State.Wf.sendRefuse {p k} (h : s.Wf) : (s.sendRefuse p k).Wf := h.of_stores.transmit
theorem State.Wf.sendGroup {g a join} (h : s.Wf) : (s.sendGroup g a join).Wf := h.sendDown

theorem State.Wf.endEnum (h : s.Wf) : (s.endEnum).Wf := by
  unfold State.endEnum
  refine State.Wf.foldl ?_ fun h => h.event.logEvent.putFw
  dsimp only
  split
  · exact
      have h1 := h.set.setBit.putLnk.foldl .sendGroup
      wf_ite h1.endLong h1
  · exact h.set.setBit.putLnk.foldl .sendGroup

theorem State.Wf.nextPort {ps} (h : s.Wf) : (s.nextPort ps).Wf := by
  induction ps with
  | nil => exact h.endEnum
  | cons p rest ih => exact wf_ite ((h.of_stores).measure).sendEnum ih

theorem State.Wf.startEnum {ports} (h : s.Wf) : (s.startEnum ports).Wf :=
  wf_ite h <|
  wf_ite h.of_stores <|
  have h2 := h.setFld.foldl fun h1 => h1.setBit
  h2.of_stores.nextPort

theorem State.Wf.enumrsp {p k r addr} (h : s.Wf) : (s.enumrsp p k r addr).Wf :=
  wf_ite h (wf_ite h.sendRefuse h.putLnk.sendAssign).putLnk.sendEnum

theorem State.Wf.enumTimeout (h : s.Wf) : (s.enumTimeout).Wf := by
  unfold State.enumTimeout
  split
  · exact h
  · exact
      have h2 := h.foldl fun h1 => h1.sendRefuse
      h2.of_stores.nextPort

theorem State.Wf.enumReturn {q} (h : s.Wf) : (s.enumReturn q).Wf := by
  unfold State.enumReturn
  split
  · exact h
  · exact wf_ite h <|
      have h2 := h.of_stores.setBit.setBit.foldl fun h1 => h1.sendAssign
      h2.nextPort

theorem State.Wf.joined {p} (h : s.Wf) : (s.joined p).Wf := h.startEnum
theorem State.Wf.reroute {l} (h : s.Wf) : (s.reroute l).Wf := h.of_stores.foldl fun h1 => h1.depart

theorem State.Wf.broken {src port} (h : s.Wf) : (s.broken src port).Wf := by
  unfold State.broken
  split
  · exact h
  · exact by
        split
        · exact (wf_ite h h.of_stores).reroute
        · exact wf_ite h (h.foldl fun h1 => h1.depart)

theorem State.Wf.repaired {src port} (h : s.Wf) : (s.repaired src port).Wf := by
  unfold State.repaired
  split
  · exact h
  · exact by
        split
        · exact h.of_stores.reroute
        · exact h

theorem State.Wf.enumArrives {p k r} (h : s.Wf) : (s.enumArrives p k r).Wf :=
  wf_ite h <|
  have h1 := h.heardManager
  have h2 := h1.setFld.setBit.putLnk
  wf_ite (wf_ite h1.passOn.measure h1.passOn) (wf_ite h2.sendRsp h2.onLp.measure)

theorem State.Wf.assigned {k r up addr pos} (h : s.Wf) : (s.assigned k r up addr pos).Wf :=
  wf_ite h h.set.setBit.setBit.setBit.setBit.setBit.setBit.setBit.drop.putLnk

theorem State.Wf.refusedBy {k r} (h : s.Wf) : (s.refusedBy k r).Wf := wf_ite h h.set.setBit.raiseLevel
theorem State.Wf.groupSet {dest g join} (h : s.Wf) : (s.groupSet dest g join).Wf := wf_ite h.setBit h
theorem State.Wf.syncGain {p} (h : s.Wf) : (s.syncGain p).Wf := wf_ite h.setFld h
theorem State.Wf.sendJoin (h : s.Wf) : (s.sendJoin).Wf := wf_ite h.sendUp h

theorem State.Wf.portRises {p} (h : s.Wf) : (s.portRises p).Wf :=
  wf_ite h <|
  have h1 := h.setFld.drop.onLp
  wf_ite h1.sendJoin h1

theorem State.Wf.portFalls {p errs} (h : s.Wf) : (s.portFalls p errs).Wf :=
  wf_ite h <|
  have h1 := h.setFld.setFld
  have h2 := wf_ite h1 h1.linkErrors
  wf_ite h2 <|
  have h3 := h2.onLp
  have h4 := (wf_ite h3.setBit h3).transmit
  (wf_ite (wf_ite (h4.foldl .transmit) h4) h3).raiseLevel

theorem State.Wf.turnEnds {p} (h : s.Wf) : (s.turnEnds p).Wf := wf_ite h.setBit.sendUp h

theorem State.Wf.syncSend (h : s.Wf) : (s.syncSend).Wf :=
  wf_ite h <|
  h.forAll fun h1 =>
      wf_ite h1.drawWord.transmit h1

theorem State.Wf.settleSync {lost} (h : s.Wf) : (s.settleSync lost).Wf := h.setBit.level

theorem State.Wf.correct {ofs} (h : s.Wf) : (s.correct ofs).Wf :=
  wf_ite h <|
  wf_ite h.setTime <|
  h.meanOf.set

theorem State.Wf.syncAccept {p f} (h : s.Wf) : (s.syncAccept p f).Wf :=
  wf_ite h <|
  have h1 := h.meanOf.set
  ((wf_ite h1 h1.setFld.incFld).of_stores).settleSync.correct

theorem State.Wf.syncArrives {p f} (h : s.Wf) : (s.syncArrives p f).Wf :=
  wf_ite h <|
  have h1 := ((wf_ite h.heardManager h.crcError).drawWord).passOn
  wf_ite h1.syncAccept h1

theorem State.Wf.syncLoss (h : s.Wf) : (s.syncLoss).Wf :=
  wf_ite h <|
  h.setFld.of_stores.settleSync

theorem State.Wf.haltAxes {axes} (h : s.Wf) : (s.haltAxes axes).Wf := h.forAll fun h1 => wf_ite h1.setBit h1

theorem State.Wf.orphaned (h : s.Wf) : (s.orphaned).Wf :=
  wf_ite h (wf_ite h.haltAxes h.haltAxes.putLnk).setBit.raiseLevel

/-! ### The converters -/

theorem State.Wf.settleCsm (h : s.Wf) : (s.settleCsm).Wf := h.set.level
theorem State.Wf.csmWarm {c} (h : s.Wf) : (s.csmWarm c).Wf := h.onCsm

theorem State.Wf.csmCfgWrite {w} (h : s.Wf) : (s.csmCfgWrite w).Wf :=
  have h1 := h.setBit.mend
  have h3 := wf_ite (h1.forAll fun h2 => wf_ite h2.csmWarm h2) h1
  h3.settleCsm

theorem State.Wf.csmCcfgWrite {m c w} (h : s.Wf) : (s.csmCcfgWrite m c w).Wf :=
  wf_ite h.writeIgnored <|
  have h1 := h.store
  (wf_ite h1.csmWarm (wf_ite h1 h1.onCsm)).settleCsm

theorem State.Wf.keepInput {c code} (h : s.Wf) : (s.keepInput c code).Wf := by
  unfold State.keepInput
  exact h.onCsm

theorem State.Wf.csmRecord {k x} (h : s.Wf) : (s.csmRecord k x).Wf := h.set

theorem State.Wf.csmFast {xs} (h : s.Wf) : (s.csmFast xs).1.Wf :=
  have h2 := h.forAll fun h1 => h1.keepInput.csmRecord.setBit.onCsm
  h2.settleCsm

theorem State.Wf.csmFine {xs} (h : s.Wf) : (s.csmFine xs).1.Wf :=
  have h2 := h.forAll fun h1 => h1.keepInput.csmRecord.onCsm
  h2

theorem State.Wf.modOverload {c active} (h : s.Wf) : (s.modOverload c active).Wf := by
  unfold State.modOverload
  exact (wf_ite h.csmWarm h).onCsm

theorem State.Wf.pcResume {p} (h : s.Wf) : (s.pcResume p).Wf := wf_ite h.convStart (wf_ite h.onPc h)
theorem State.Wf.pcRstart {p} (h : s.Wf) : (s.pcRstart p).Wf := wf_ite h.onPc.pcResume h
theorem State.Wf.pcRstop {p} (h : s.Wf) : (s.pcRstop p).Wf := h.onPc.pcResume
theorem State.Wf.pcCalGo {p r} (h : s.Wf) : (s.pcCalGo p r).Wf := h.onPc.convStart
theorem State.Wf.pcTrigger {p} (h : s.Wf) : (s.pcTrigger p).Wf := wf_ite h (wf_ite h.incFld h.onPc.convStart)
theorem State.Wf.pcOuterTrigger {p} (h : s.Wf) : (s.pcOuterTrigger p).Wf := wf_ite h.pcTrigger h
theorem State.Wf.pcCommon (h : s.Wf) : (s.pcCommon).Wf := h.forAll fun h1 => h1.pcOuterTrigger

theorem State.Wf.pcCal {m p r} (h : s.Wf) : (s.pcCal m p r).Wf :=
  wf_ite h <|
  wf_ite h.writeIgnored <|
  have h1 := h.onPc
  wf_ite h1.onPc h1.pcCalGo

theorem State.Wf.pcCtlWrite {m p w} (h : s.Wf) : (s.pcCtlWrite m p w).Wf :=
  wf_ite h <|
  have h1 := wf_ite h.pcTrigger h
  have h2 := wf_ite h1.pcRstart h1
  have h3 := wf_ite h2.pcRstop h2
  wf_ite h3.pcCal h3

theorem State.Wf.pcDisable {p} (h : s.Wf) : (s.pcDisable p).Wf := h.setBit.onPc

theorem State.Wf.refSyncWrite {w} (h : s.Wf) : (s.refSyncWrite w).Wf :=
  have h1 := wf_ite h.pcCommon h
  wf_ite (h1.forAll fun h2 => h2.pcRstart) h1

theorem State.Wf.nearest {num den} (h : s.Wf) : (s.nearest num den).2.Wf := wf_snd_ite h.drawBit h

theorem State.Wf.pcWrite {p e code ovr} (h : s.Wf) : (s.pcWrite p e code ovr).Wf :=
  have h1 := h.nearest.set
  wf_dite (fun _ => h1.onPc) (fun _ => h1)

theorem State.Wf.pcInjNext {p i} (h : s.Wf) : (s.pcInjNext p i).Wf := by
  unfold State.pcInjNext
  refine wf_ite h.onPc.convStart ?_
  dsimp only
  split
  · exact h.incFld.onPc.pcCalGo
  · exact h.incFld.onPc.pcResume

theorem State.Wf.pcRegNext {p} (h : s.Wf) : (s.pcRegNext p).Wf :=
  wf_ite h.onPc.pcResume <|
  have h1 := h.incFld
  wf_ite h1.onPc.pcResume (wf_ite h1.onPc h1.onPc.pcResume)

theorem State.Wf.pcResult {p code ovr} (h : s.Wf) : (s.pcResult p code ovr).Wf :=
  wf_ite h <|
  by
    split
    · exact h.pcWrite.pcInjNext
    · exact wf_ite h.pcWrite.pcRegNext h

theorem State.Wf.pcSettleEnd {p} (h : s.Wf) : (s.pcSettleEnd p).Wf := wf_ite h.onPc h

theorem State.Wf.calCoeff {p r codes bad} (h : s.Wf) : (s.calCoeff p r codes bad).2.Wf :=
  wf_snd_ite h (wf_snd_ite h.nearest h.nearest)

theorem State.Wf.calEnd {p codes bad} (h : s.Wf) : (s.calEnd p codes bad).Wf := by
  unfold State.calEnd
  dsimp only
  split
  · exact h
  refine wf_ite h ?_
  have h1 {r} := h.calCoeff (p := p) (r := r) (codes := codes) (bad := bad)
  split
  · exact h1.store.onPc.pcResume
  · exact h1.onPc.pcResume

theorem State.Wf.refCfgWrite {w} (h : s.Wf) : (s.refCfgWrite w).Wf :=
  have h1 := h.setBit.mend
  wf_ite h1.of_stores h1

/-! ### Coil models -/

theorem State.Wf.latchLive {ax} (h : s.Wf) : (s.latchLive ax).Wf := h.onCoil
theorem State.Wf.settleWave {ax} (h : s.Wf) : (s.settleWave ax).Wf := wf_ite h.of_stores.settleParity h.of_stores.raiseLevel
theorem State.Wf.waveCheck {e bad} (h : s.Wf) : (s.waveCheck e bad).Wf := h.forAll fun h1 => wf_ite h1 h1.onCoil.settleWave
theorem State.Wf.waveNext {ax} (h : s.Wf) : (s.waveNext ax).Wf := h.setFld
theorem State.Wf.wavePut {ax i v} (h : s.Wf) : (s.wavePut ax i v).Wf := h.onCoil.settleWave
theorem State.Wf.wdataWrite {m ax w} (h : s.Wf) : (s.wdataWrite m ax w).Wf := wf_ite h.writeIgnored h.wavePut.waveNext
theorem State.Wf.ovrWrite {m ax w} (h : s.Wf) : (s.ovrWrite m ax w).Wf := wf_ite h.writeIgnored h.set
theorem State.Wf.putRounded {k x u} (h : s.Wf) : (s.putRounded k x u).Wf := h.report.set
theorem State.Wf.putMs {ax r t} (h : s.Wf) : (s.putMs ax r t).Wf := h.setFld
theorem State.Wf.putDemand {ax r t} (h : s.Wf) : (s.putDemand ax r t).Wf := h.onCoil.set.putRounded.putRounded
theorem State.Wf.duty {v vs} (h : s.Wf) : (s.duty v vs).2.Wf := wf_snd_ite h.drawInt h
theorem State.Wf.applyU {ax br u sign} (h : s.Wf) : (s.applyU ax br u sign).Wf := h.report.set.nearest.writeOn
theorem State.Wf.putLimit {ax br on} (h : s.Wf) : (s.putLimit ax br on).Wf := h.setBit

theorem State.Wf.turnTo {ax dq} (h : s.Wf) : (s.turnTo ax dq).Wf := by
  unfold State.turnTo
  extract_lets lim
  exact wf_ite h ((h.drawInt (lo := -lim) (hi := lim)).drawInt (lo := -lim) (hi := lim)).onCoil

theorem State.Wf.regErr {ax e} (h : s.Wf) : (s.regErr ax e).2.Wf := wf_snd_ite h.of_stores h
theorem State.Wf.zeroDq {ax} (h : s.Wf) : (s.zeroDq ax).Wf := h.foldl fun h1 => h1.set

theorem State.Wf.coilUpdate {ax br i} (h : s.Wf) : (s.coilUpdate ax br i).Wf :=
  h.turnTo.putDemand.regErr.putLimit.onCoil.duty.zeroDq.applyU

theorem State.Wf.dqUpdate {ax iA iB} (h : s.Wf) : (s.dqUpdate ax iA iB).Wf :=
  have h1 := h.turnTo.putDemand.regErr.regErr.putLimit.putLimit.onCoil.putRounded.putRounded.putRounded.putRounded
  h1.duty.duty.applyU.applyU

theorem State.Wf.heldVolts {ax br} (h : s.Wf) : (s.heldVolts ax br).Wf := h.putLimit.applyU
theorem State.Wf.putSample {ax br i} (h : s.Wf) : (s.putSample ax br i).Wf := h.putRounded
theorem State.Wf.dropCl {ax} (h : s.Wf) : (s.dropCl ax).Wf := wf_ite h.onCoil h
theorem State.Wf.holdCoil {ax br} (h : s.Wf) : (s.holdCoil ax br).Wf := h.turnTo.putLimit.onCoil

theorem State.Wf.centreUpdate {ax br i} (h : s.Wf) : (s.centreUpdate ax br i).Wf := by
  unfold State.centreUpdate
  extract_lets s₁ s₂
  have h1 : s₁.Wf := h.putSample.dropCl.putMs
  refine wf_ite h1.holdCoil (wf_ite h1.heldVolts (wf_ite h1.coilUpdate ?_))
  split
  · exact h1.onCoil.onCoil.dqUpdate
  · exact h1.onCoil

theorem State.Wf.putThreshold {ax br thr} (h : s.Wf) : (s.putThreshold ax br thr).Wf := by
  cases br <;> exact h.report.setFld

theorem State.Wf.chopUpdate {ax br i} (h : s.Wf) : (s.chopUpdate ax br i).Wf :=
  have h1 := (wf_ite h.putSample h).putMs.zeroDq.putLimit
  wf_ite h1.onCoil <|
  (wf_ite h1.onCoil h1.putDemand).putThreshold

theorem State.Wf.olaTick {ax was} (h : s.Wf) : (s.olaTick ax was).Wf := wf_ite h (wf_ite h.onCoil h.onCoil)

theorem State.Wf.encTick {ax} (h : s.Wf) : (s.encTick ax).Wf := by
  unfold State.encTick
  exact h.onCoil

theorem State.Wf.loopTick {ax} (h : s.Wf) : (s.loopTick ax).Wf := by
  unfold State.loopTick
  exact h.onCoil

theorem State.Wf.hovUp {ax} (h : s.Wf) : (s.hovUp ax).Wf := by
  unfold State.hovUp
  exact h.onCoil

theorem State.Wf.hovTick {ax} (h : s.Wf) : (s.hovTick ax).Wf := by
  unfold State.hovTick
  dsimp only
  split
  · exact wf_ite (wf_ite h.hovUp h) (wf_ite h.onCoil (wf_ite h.onCoil h))
  · exact wf_ite h.onCoil (wf_ite (wf_ite h.onCoil h.onCoil) (wf_ite h.onCoil h.onCoil))
  · exact wf_ite h.onCoil (wf_ite h.onCoil (wf_ite h.onCoil h.onCoil))

theorem State.Wf.coilTick {ax} (h : s.Wf) : (s.coilTick ax).Wf :=
  have h1 := h.latchLive.encTick.onCoil.olaTick
  wf_ite h1.onCoil.set <|
  wf_ite h1.onCoil.set <|
  have h2 := wf_ite h1.hovTick h1
  (wf_ite (wf_ite h2 h2.loopTick) h2).set

theorem State.Wf.crEnable {ax} (h : s.Wf) : (s.crEnable ax).Wf := h.holdTacks
theorem State.Wf.slowNow {ax br} (h : s.Wf) : (s.slowNow ax br).Wf := wf_ite h.onBr.bridgeTo h

theorem State.Wf.crDisable {ax} (h : s.Wf) : (s.crDisable ax).Wf :=
  ((wf_ite h.slowNow.slowNow h).setBit.onCoil).set.set.zeroDq.setFld

theorem State.Wf.aligned {c x} (h : s.Wf) : (s.aligned c x).Wf :=
  wf_ite h <|
  have h1 := h.keepInput.csmRecord
  wf_ite h1.centreUpdate h1

theorem State.Wf.chopSamples {ys} (h : s.Wf) : (s.chopSamples ys).Wf := h.forAll fun h1 => wf_ite h1.chopUpdate h1

/-! ### The observer -/

theorem State.Wf.stall {ax cause} (h : s.Wf) : (s.stall ax cause).Wf := wf_ite h h.setBit.setFld

theorem State.Wf.pllStep {ax mag} (h : s.Wf) : (s.pllStep ax mag).Wf := by
  unfold State.pllStep
  exact
    have h1 := (wf_snd_ite h.drawInt h).onLo
    wf_ite h1.setBit h1

theorem State.Wf.pllPreset {ax} (h : s.Wf) : (s.pllPreset ax).Wf := by
  unfold State.pllPreset
  exact h.onLo

theorem State.Wf.loLoad {ax iA iB te} (h : s.Wf) : (s.loLoad ax iA iB te).Wf :=
  have h1 := h.setFld.setBit
  wf_ite h1.drawWord.drawWord.drawWord.set.set.set.set h1.putRounded.putRounded.set.set

theorem State.Wf.forceConst {ax} (h : s.Wf) : (s.forceConst ax).Wf :=
  wf_ite h.set <|
  h.report.set

theorem State.Wf.loInvalid {ax} (h : s.Wf) : (s.loInvalid ax).Wf := h.setFld.onLo

theorem State.Wf.loStall {ax} (h : s.Wf) : (s.loStall ax).Wf :=
  wf_ite h.onLo <|
  have h1 := h.onLo
  have h2 := wf_ite h1.stall h1
  wf_ite h2 <|
  have h3 := h2.set.onMot
  wf_ite h3.stall h3

theorem State.Wf.loSettle {ax} (h : s.Wf) : (s.loSettle ax).Wf :=
  have h1 := wf_ite h.setBit h
  wf_ite h1.setBit h1

theorem State.Wf.loOutputs {ax te} (h : s.Wf) : (s.loOutputs ax te).Wf := h.set.setWide

theorem State.Wf.collapse {ax} (h : s.Wf) : (s.collapse ax).Wf := by
  unfold State.collapse
  split
  · exact wf_ite h.stall h
  · exact h

theorem State.Wf.collapseTick {ax mag} (h : s.Wf) : (s.collapseTick ax mag).Wf := h.onLo.collapse
theorem State.Wf.probeSample {ax iA iB te} (h : s.Wf) : (s.probeSample ax iA iB te).Wf := wf_ite h h.onLo
theorem State.Wf.settlePress {ax} (h : s.Wf) : (s.settlePress ax).Wf := h.level

theorem State.Wf.pressTick {ax} (h : s.Wf) : (s.pressTick ax).Wf :=
  wf_ite h.setBit.onLo.settlePress <|
  have h1 := h.onLo
  (wf_ite h1.setBit (wf_ite h1.setBit h1)).settlePress

theorem State.Wf.pressNew {ax} (h : s.Wf) : (s.pressNew ax).Wf := wf_ite h.onLo.pressTick h

theorem State.Wf.loUpdate {ax xa xb} (h : s.Wf) : (s.loUpdate ax xa xb).Wf :=
  wf_ite h.loOutputs <|
  have h1 := h.setBit.onLo.putRounded
  have h2 := (wf_ite h1.loInvalid (((wf_ite h1.pllStep h1.pllPreset).onLo).loSettle)).collapseTick
  have h3 := wf_ite h2.stall h2
  ((wf_ite h3.onCoil h3).probeSample.loLoad.pressNew).loStall.loOutputs

theorem State.Wf.wireSample {ys ax} (h : s.Wf) : (s.wireSample ys ax).Wf := by
  unfold State.wireSample
  split
  · exact by
        split
        · exact h.of_stores
        · exact h
  · exact h

theorem State.Wf.fineTake {ys} (h : s.Wf) : (s.fineTake ys).Wf := (h.forAll fun h1 => h1.loUpdate).forAll fun h2 => h2.wireSample

theorem State.Wf.fine {xs} (h : s.Wf) : (s.fine xs).Wf := by
  unfold State.fine
  have h1 := h.csmFine (xs := xs)
  generalize s.csmFine xs = p at h1 ⊢
  exact wf_ite h (wf_ite (wf_ite h1.putFineQ h1.raise) (h1.putFineQ.foldl .fineTake))

theorem State.Wf.loValid {ax} (h : s.Wf) : (s.loValid ax).Wf := wf_ite h.setBit h
theorem State.Wf.loLock {ax} (h : s.Wf) : (s.loLock ax).Wf := wf_ite h.setBit h
theorem State.Wf.collapseNow {ax} (h : s.Wf) : (s.collapseNow ax).Wf := wf_ite h.collapse h
theorem State.Wf.probeStop {ax} (h : s.Wf) : (s.probeStop ax).Wf := wf_ite h h.setFld.onLo.settlePress
theorem State.Wf.probeStart {ax} (h : s.Wf) : (s.probeStart ax).Wf := wf_ite h.setBit.onLo h

theorem State.Wf.probeHalf {ax} (h : s.Wf) : (s.probeHalf ax).Wf := by
  unfold State.probeHalf
  refine wf_ite h (wf_ite h.onLo ?_)
  dsimp only
  split
  · exact h.onLo
  · exact (wf_snd_ite h.onLo.drawInt h.onLo.report).set.setBit.setFld.onLo

theorem State.Wf.loTick {ax lv} (h : s.Wf) : (s.loTick ax lv).Wf := by
  unfold State.loTick
  exact
    have h1 := h.onLo
    have h2 := wf_ite h1.stall h1
    have h3 := wf_ite h2.stallCleared h2
    (wf_ite h3.probeStop h3).onMot

theorem State.Wf.loDisable {ax} (h : s.Wf) : (s.loDisable ax).Wf :=
  have h1 := h.setBit.probeStop
  ((h1.foldl fun h2 => h2.set).onLo).loOutputs

/-! ### The bus and its masters -/

theorem State.Wf.readEffect {m k} (h : s.Wf) : (s.readEffect m k).Wf := by
  unfold State.readEffect
  split
  · exact wf_ite h.takeEffect h
  · exact
      wf_ite h.wordEffect <| wf_ite h.allocEffect <| wf_ite (wf_ite (wf_ite h.darnUe h.darnUe.busError) h) <|
      wf_ite h.waveNext <| wf_ite h.of_stores <| wf_ite h.lookGd <| wf_ite h.mspRead h

theorem State.Wf.plainWrite {m r k w} (h : s.Wf) : (s.plainWrite m r k w).Wf := wf_ite h.writeIgnored h.store

theorem State.Wf.clearEn {k} (h : s.Wf) : (s.clearEn k).Wf :=
  (wf_ite
    (have h1 := h.setBit
     wf_ite h1.vsupWarnEnd h1)
    (wf_ite h.meDisable <| wf_ite (wf_ite h.crDisable h.loDisable) <| wf_ite h.pwmDisable <| wf_ite h.gdDisable <|
      wf_ite h.csmCfgWrite <| wf_ite h.pcDisable <| wf_ite h.refCfgWrite <| wf_ite h.cmpCfgWrite <|
      wf_ite h.setBit.settlePorts <| wf_ite h.mspDisable h.setBit)).mend

theorem State.Wf.enWrite {m r k w} (h : s.Wf) : (s.enWrite m r k w).Wf :=
  wf_ite h.clearEn <|
  wf_ite h.plainWrite.pwmEnable <|
  wf_ite h.csmCfgWrite <|
  wf_ite h.refCfgWrite <|
  wf_ite h.cmpCfgWrite <|
  have h1 := h.plainWrite
  wf_ite h1.crEnable (wf_ite h1.probeStop (wf_ite h1.settlePorts h1))

theorem State.Wf.multiWrite {m r k w} (h : s.Wf) : (s.multiWrite m r k w).Wf :=
  wf_ite (wf_ite h.writeIgnored h.of_stores) <|
  wf_ite h <|
  wf_ite h.timeWrite <|
  have h1 := h.unstage
  wf_ite h1.mePosWrite (wf_ite h1.writeIgnored h1.store.store)

theorem State.Wf.wdtWrite {m w} (h : s.Wf) : (s.wdtWrite m w).Wf :=
  wf_ite (wf_ite h.mend h.writeIgnored) <|
  have h1 := h.store
  wf_ite h1.of_stores h1

theorem State.Wf.linkStart (h : s.Wf) : (s.linkStart).Wf :=
  wf_ite h <|
  have h1 := h.of_stores
  (wf_ite h1.startEnum h1).linkTakes

theorem State.Wf.splCoreWrite {m w} (h : s.Wf) : (s.splCoreWrite m w).Wf :=
  wf_ite h.writeIgnored (wf_ite ((wf_ite h.linkReset h).set) (wf_ite h.set.linkStart h))

theorem State.Wf.writeSys {m r k w} (h : s.Wf) : (s.writeSys m r k w).Wf :=
  wf_ite h.rstctl <| wf_ite h.brstWrite <| wf_ite h.enWrite <| wf_ite h.pwrctl <| wf_ite h.wdtWrite <|
  wf_ite h.wdKick <| wf_ite h.claimWrite <| wf_ite h.darnClr h.plainWrite

theorem State.Wf.writeMbx {m i w} (h : s.Wf) : (s.writeMbx m i w).Wf :=
  wf_ite h.bindWrite <| wf_ite h.lockWrite <| wf_ite h.haltrtWrite <| wf_ite h.dbmaskWrite <| wf_ite h.haltWrite <|
  wf_ite h.attnWrite <| wf_ite h.flagWrite <| wf_ite h.wordWrite h

theorem State.Wf.writeFc {m r k i w} (h : s.Wf) : (s.writeFc m r k i w).Wf :=
  wf_ite h.enWrite (wf_ite h.fcClr (wf_ite h.fcAck (wf_ite h.swset h.plainWrite)))

theorem State.Wf.writeMe {m r k i w} (h : s.Wf) : (s.writeMe m r k i w).Wf :=
  wf_ite h.enWrite (wf_ite h.meCtlWrite (wf_ite h.plainWrite.forceConst h.plainWrite))

theorem State.Wf.writeCtx {m r k i w} (h : s.Wf) : (s.writeCtx m r k i w).Wf :=
  wf_ite h.ctxCmd (wf_ite h.ctxWordWrite h.plainWrite)

theorem State.Wf.writeCoil {m r k i w} (h : s.Wf) : (s.writeCoil m r k i w).Wf :=
  wf_ite h.enWrite (wf_ite h.plainWrite.forceConst (wf_ite h.wdataWrite (wf_ite h.ovrWrite h.plainWrite)))

theorem State.Wf.writePwm {m r k i w} (h : s.Wf) : (s.writePwm m r k i w).Wf :=
  wf_ite h.enWrite (wf_ite h.plainWrite.onPwm (wf_ite h.pwmCtlWrite (wf_ite h.writeIgnored h.plainWrite)))

theorem State.Wf.writeGd {m r k i w} (h : s.Wf) : (s.writeGd m r k i w).Wf :=
  wf_ite h.enWrite (wf_ite h.gdCtlWrite (wf_ite h.wrepWrite h.plainWrite))

theorem State.Wf.writeConv {m r k i w} (h : s.Wf) : (s.writeConv m r k i w).Wf :=
  wf_ite h.enWrite (wf_ite h.csmCcfgWrite (wf_ite h.pcCtlWrite (wf_ite h.refSyncWrite (wf_ite h.cmpCcfgWrite h.plainWrite))))

theorem State.Wf.writeMsp {m r k i w} (h : s.Wf) : (s.writeMsp m r k i w).Wf :=
  wf_ite h.enWrite (wf_ite h.writeIgnored (wf_ite h.mspPush (wf_ite h.mspCtlWrite h.plainWrite)))

theorem State.Wf.writeSpl {m r k i w} (h : s.Wf) : (s.writeSpl m r k i w).Wf :=
  wf_ite h.writeIgnored <| wf_ite h.enWrite <| wf_ite h.splCoreWrite <| wf_ite h.multiWrite <| wf_ite h.wjAddr <|
  wf_ite h.wjCtl h.plainWrite

theorem State.Wf.writeTim {m r k w} (h : s.Wf) : (s.writeTim m r k w).Wf :=
  wf_ite (wf_ite h.plainWrite h.writeIgnored) (wf_ite h.multiWrite (wf_ite h.enWrite h.plainWrite))

theorem State.Wf.regWrite {m r k w} (h : s.Wf) : (s.regWrite m r k w).Wf :=
  wf_ite h.writeIgnored <| wf_ite h <| wf_ite (wf_ite h.plainWrite h.writeIgnored) <| wf_ite h.readyWrite <|
  wf_ite h.modeWrite <| wf_ite h.writeSys <| wf_ite h.writeMbx <| wf_ite (wf_ite h h.plainWrite) <| wf_ite h.writeFc <|
  wf_ite (wf_ite h.multiWrite h.writeMe) <| wf_ite h.writeCtx <| wf_ite h.writeCoil <| wf_ite h.writePwm <|
  wf_ite h.writeGd <| wf_ite h.writeConv <| wf_ite h.writeMsp <| wf_ite h.writeSpl <| wf_ite h.writeTim <|
  wf_ite h.enWrite <| wf_ite h.enWrite h.plainWrite

theorem State.Wf.busWrite {m k w} (h : s.Wf) : (s.busWrite m k w).Wf :=
  wf_ite h <|
  wf_ite h.timedOut <|
  wf_ite h <|
  by
    split
    · exact wf_ite h.msgWrite (wf_ite h.goWrite h.slotWrite)
    · exact by
          split
          · exact h
          · exact h.regWrite

theorem State.Wf.busRead {m k} (h : s.Wf) : (s.busRead m k).2.Wf := wf_snd_ite h (wf_snd_ite h.timedOut h.readEffect)

/-! ### Firmware: the queue of requests -/

theorem State.Wf.linkPosts (h : s.Wf) : (s.linkPosts).Wf := by
  unfold State.linkPosts
  refine wf_ite h ?_
  split
  · exact h
  · exact (h.foldl .msgWrite).goWrite.putLnk

theorem State.Wf.fwTake {d} (h : s.Wf) : (s.fwTake d).Wf :=
  have h1 := h.takeEffect.of_stores
  wf_ite h1.of_stores h1

theorem State.Wf.respond {q r ws} (h : s.Wf) : (s.respond q r ws).Wf := by
  unfold State.respond
  split
  · exact h.owe
  · exact h.owe

theorem State.Wf.relay {q} (h : s.Wf) : (s.relay q).Wf :=
  have h1 := h.fwTake.setTxns.of_stores
  wf_ite h1.tryGroup (wf_ite h1.of_stores h1.reply)

theorem State.Wf.triageOne {d} (h : s.Wf) : (s.triageOne d).Wf := by
  unfold State.triageOne
  refine wf_ite h ?_
  dsimp only
  split
  · exact h
  · exact h.relay
  · exact h.fwTake.respond

theorem State.Wf.triageRound (h : s.Wf) : (s.triageRound).Wf :=
  h.linkPosts.forAll fun h1 => h1.foldl fun h2 => wf_ite h2.triageOne h2

theorem State.Wf.triage {n} (h : s.Wf) : (s.triage n).Wf := by
  induction n generalizing s with
  | zero => exact h
  | succ n ih => exact ih h.triageRound

theorem State.Wf.fwStep (h : s.Wf) : (s.fwStep).Wf := wf_ite h.triage.linkPosts.fwSettle h
theorem State.Wf.no {r} (h : s.Wf) : (s.no r).1.Wf := h
theorem State.Wf.yes {ws} (h : s.Wf) : (s.yes ws).1.Wf := h

theorem State.Wf.runOp {op f q} (h : s.Wf) (hf : ∀ {q t}, t.Wf → (f q t).1.Wf) : (s.runOp op f q).1.Wf := by
  unfold State.runOp
  split
  · exact h.no
  · exact h.no
  split
  · exact h.no
  · exact hf (wf_ite h h.logEvent)

theorem State.Wf.serveThen {ch op f g} (h : s.Wf) (hf : ∀ {q t}, t.Wf → (f q t).1.Wf)
    (hg : ∀ {q r t}, t.Wf → (g q r t).Wf) : (s.serveThen ch op f g).Wf :=
  wf_ite h (hg (h.fwTake.runOp hf).respond).fwStep

theorem State.Wf.serve {ch op f} (h : s.Wf) (hf : ∀ {q t}, t.Wf → (f q t).1.Wf) : (s.serve ch op f).Wf :=
  h.serveThen hf id

theorem State.Wf.fwWrite {k w} (h : s.Wf) : (s.fwWrite k w).Wf := h.busWrite.of_stores
theorem State.Wf.fwFld {k hi lo v} (h : s.Wf) : (s.fwFld k hi lo v).Wf := h.fwWrite
theorem State.Wf.fwBit {k i b} (h : s.Wf) : (s.fwBit k i b).Wf := h.fwWrite
theorem State.Wf.fwWide {k x} (h : s.Wf) : (s.fwWide k x).Wf := h.fwWrite.fwWrite

theorem State.Wf.askSafe {req data f} (h : s.Wf) (hf : ∀ {t w}, t.Wf → (f t w).1.Wf) : (s.askSafe req data f).1.Wf := by
  unfold State.askSafe
  split
  · exact h
  · exact (h.wordWrite.serveSafe hf).wordEffect

theorem State.Wf.startLong {slot o} (h : s.Wf) : (s.startLong slot o).Wf := by
  unfold State.startLong
  split
  · exact h.of_stores
  · exact h.of_stores

/-! ### Firmware: system services -/

theorem State.Wf.opGetId {x} (h : s.Wf) : (opGetId x s).1.Wf := h.yes
theorem State.Wf.opGetStatus {x} (h : s.Wf) : (opGetStatus x s).1.Wf := h.yes
theorem State.Wf.beforeSleep (h : s.Wf) : (s.beforeSleep).Wf := h.logFlush.wjAxes

theorem State.Wf.opSetPower {q} (h : s.Wf) : (opSetPower q s).1.Wf :=
  wf_fst_ite h <|
  have h1 := wf_ite h.beforeSleep h
  have h2 := h1.pwrctl
  wf_fst_ite h2 (wf_fst_ite h1.yes h2.yes)

theorem State.Wf.afterSetPower {q r} (h : s.Wf) : (afterSetPower q r s).Wf := wf_ite h.pwrctl.of_stores h
theorem State.Wf.opReset {q} (h : s.Wf) : (opReset q s).1.Wf := h.logFlush.of_stores.yes
theorem State.Wf.opGetTime {x} (h : s.Wf) : (opGetTime x s).1.Wf := h.yes
theorem State.Wf.opSetTime {q} (h : s.Wf) : (opSetTime q s).1.Wf := h.timeWrite.yes
theorem State.Wf.opPing {q} (h : s.Wf) : (opPing q s).1.Wf := h.yes
theorem State.Wf.opSetEvents {q} (h : s.Wf) : (opSetEvents q s).1.Wf := h.of_stores.yes
theorem State.Wf.opFaultList {x} (h : s.Wf) : (opFaultList x s).1.Wf := h.yes
theorem State.Wf.opFaultGet {q} (h : s.Wf) : (opFaultGet q s).1.Wf := h.yes
theorem State.Wf.clearTrips (h : s.Wf) : (s.clearTrips).Wf := wf_ite h (h.askSafe fun h1 => h1.safeClear)

theorem State.Wf.opFaultClr {q} (h : s.Wf) : (opFaultClr q s).1.Wf :=
  have h1 := wf_ite h.clearTrips h
  wf_fst_ite h1.no <|
  have h3 := wf_ite (h1.forAll fun h2 => h2.fcClr) h1.fcClear
  h3.yes

theorem State.Wf.opFaultReact {q} (h : s.Wf) : (opFaultReact q s).1.Wf := ((wf_ite h.fwBit h).fwWrite).fwBit.yes
theorem State.Wf.opLogInfo {x} (h : s.Wf) : (opLogInfo x s).1.Wf := h.yes

theorem opLogRead_asks {q} : ∃ ws, opLogRead q s = s.yes ws := by
  generalize hf : opLogRead = f
  delta opLogRead at hf
  subst hf
  beta_reduce
  generalize s.logRead (argWideU q.ws 1) = r
  obtain ⟨type, bad, body⟩ := r
  dsimp only
  exact ⟨_, rfl⟩

theorem State.Wf.opLogRead {q} (h : s.Wf) : (opLogRead q s).1.Wf := by
  obtain ⟨ws, e⟩ := opLogRead_asks (q := q) (s := s)
  rw [e]
  exact h

theorem State.Wf.opLogMark {q} (h : s.Wf) : (opLogMark q s).1.Wf := h.logEvent.yes
theorem State.Wf.opOdometer {q} (h : s.Wf) : (opOdometer q s).1.Wf := h.yes
theorem State.Wf.opDarnRead {x} (h : s.Wf) : (opDarnRead x s).1.Wf := h.yes

/-- One read of REG_READ: its word joins those that were read before. -/
def readNext (k : Nat) (acc : List Word × State) (i : Nat) : List Word × State :=
  match acc.2.busRead .exec (k + i) with
  | (w, s) => (acc.1 ++ [w], s)

theorem wf_readNext {k acc i} (h : acc.2.Wf) : (readNext k acc i).2.Wf := by
  have h1 := h.busRead (m := .exec) (k := k + i)
  unfold readNext
  generalize acc.2.busRead .exec (k + i) = r at h1 ⊢
  exact h1

theorem opRegRead_answers {q} (h : s.Wf) : ∃ (t : State) (ws : List Word), t.Wf ∧ opRegRead q s = t.yes ws := by
  unfold opRegRead
  extract_lets k out
  have h1 : (List.foldl (readNext k) ([], s) (List.range (q.n 2))).2.Wf := wf_snd_foldl h wf_readNext
  unfold readNext at h1
  generalize List.foldl _ _ _ = r at h1 ⊢
  obtain ⟨ws, t⟩ := r
  exact ⟨{ t with out := out }, ws, h1.putOut, rfl⟩

theorem State.Wf.opRegRead {q} (h : s.Wf) : (opRegRead q s).1.Wf := by
  obtain ⟨t, ws, ht, e⟩ := opRegRead_answers (q := q) h
  rw [e]
  exact ht

theorem State.Wf.opRegWrite {q} (h : s.Wf) : (opRegWrite q s).1.Wf := wf_fst_ite h.no h.fwWrite.yes

/-! ### Firmware: axis services -/

theorem State.Wf.onFw {ax f} (h : s.Wf) : (s.onFw ax f).Wf := h.of_stores
theorem State.Wf.fwCtxWord {c w v} (h : s.Wf) : (s.fwCtxWord c w v).Wf := h.set.ctxWordWrite.set.of_stores
theorem State.Wf.fwCtxWords {c ofs vs} (h : s.Wf) : (s.fwCtxWords c ofs vs).Wf := h.foldl fun h1 => h1.fwCtxWord

theorem State.Wf.fwAlloc {autorel c t} (h : s.Wf) (ht : s.fwAlloc autorel = some (c, t)) : t.Wf := by
  unfold State.fwAlloc at ht
  split at ht
  · cases ht
  · cases ht; exact h.ctxLoad.putFw

theorem State.Wf.fwBuild {ax b c t} (h : s.Wf) (ht : s.fwBuild ax b = some (c, t)) : t.Wf := by
  unfold State.fwBuild at ht
  split at ht
  · cases ht
  case h_2 hu => cases ht; exact (h.fwAlloc hu).fwCtxWords

theorem State.Wf.fwMove {ax b} (h : s.Wf) : (s.fwMove ax b).1.Wf := by
  unfold State.fwMove
  refine wf_fst_ite h ?_
  split
  · exact h
  case h_2 hu => exact wf_fst_ite h (wf_fst_ite h (h.fwBuild hu).ctxStart)

theorem State.Wf.firstEnable {ax} (h : s.Wf) : (s.firstEnable ax).Wf :=
  wf_ite h <|
  h.drawWord.fwWrite.fwWrite.onFw

theorem State.Wf.zeroOffsets {ax} (h : s.Wf) : (s.zeroOffsets ax).Wf := h.drawWord.drawWord.fwWrite.fwWrite
theorem State.Wf.fwSet {k i} (h : s.Wf) : (s.fwSet k i).Wf := wf_ite h h.fwBit
theorem State.Wf.axisPower {ax} (h : s.Wf) : (s.axisPower ax).Wf := h.fwSet.fwSet.fwSet.fwSet
theorem State.Wf.axisDrive {ax} (h : s.Wf) : (s.axisDrive ax).Wf := h.fwSet.fwSet.fwSet
theorem State.Wf.axisOn {ax} (h : s.Wf) : (s.axisOn ax).Wf := h.axisPower.firstEnable.zeroOffsets.axisDrive
theorem State.Wf.axisOff {ax} (h : s.Wf) : (s.axisOff ax).Wf := h.fwBit.fwBit.fwBit
theorem State.Wf.startPlan {ax steps speed} (h : s.Wf) : (s.startPlan ax steps speed).Wf := h.of_stores
theorem State.Wf.startAlign {ax} (h : s.Wf) : (s.startAlign ax).Wf := wf_ite h.startPlan h

theorem State.Wf.opAxisEn {q} (h : s.Wf) : (opAxisEn q s).1.Wf :=
  wf_fst_ite (wf_fst_ite h.no (wf_fst_ite h.no h.axisOn.startAlign.yes)) (wf_fst_ite h.no h.axisOff.yes)

theorem State.Wf.setRole {ax r} (h : s.Wf) : (s.setRole ax r).Wf := h.fwFld.of_stores

theorem State.Wf.opSetRole {q} (h : s.Wf) : (opSetRole q s).1.Wf := by
  unfold Machine.opSetRole
  dsimp only
  split
  · exact h
  split
  · refine wf_fst_ite h.setRole.yes ?_
    split
    · exact h
    case h_2 hu => exact (h.fwBuild hu).fwFld.onFw.setRole.yes
  · split
    · exact h.setRole.ctxRelease.onFw.yes
    · exact h.setRole.yes

theorem State.Wf.opSetMotor {q} (h : s.Wf) : (opSetMotor q s).1.Wf :=
  wf_fst_ite h.no <|
  h.fwWrite.fwWrite.fwWrite.onFw.yes

theorem State.Wf.opSetCurrent {q} (h : s.Wf) : (opSetCurrent q s).1.Wf := wf_fst_ite h.no h.fwWrite.fwWrite.fwWrite.yes

theorem State.Wf.opSetCommut {q} (h : s.Wf) : (opSetCommut q s).1.Wf :=
  wf_fst_ite h.no <|
  h.fwFld.fwWrite.fwWrite.fwFld.yes

theorem State.Wf.opSetDoor {q} (h : s.Wf) : (opSetDoor q s).1.Wf :=
  wf_fst_ite h.no <|
  h.fwWrite.fwWrite.fwWide.fwWide.yes

theorem State.Wf.opGetAxis {q} (h : s.Wf) : (opGetAxis q s).1.Wf := h.yes

theorem State.Wf.opIdentify {q} (h : s.Wf) : (opIdentify q s).1.Wf :=
  wf_fst_ite h.no <|
  wf_fst_ite h.no <|
  wf_fst_ite h.no <|
  h.onFw.startLong.startPlan.yes

theorem State.Wf.opGetIdent {q} (h : s.Wf) : (opGetIdent q s).1.Wf := wf_fst_ite h.no h.yes
theorem State.Wf.identTable {ax b3 b5} (h : s.Wf) : (s.identTable ax b3 b5).Wf := h.fwWrite.foldl fun h1 => h1.fwWrite
theorem State.Wf.identWords {data} (h : s.Wf) : (s.identWords data).2.Wf := h.nearest.nearest.nearest

theorem State.Wf.identApply {ax data} (h : s.Wf) : (s.identApply ax data).Wf := by
  unfold State.identApply
  exact
    have h1 := wf_ite h.fwBit h
    have h2 := wf_ite h1.fwFld h1
    have h3 := wf_ite h2.fwFld h2
    have h4 := wf_ite h3.fwFld h3
    have h5 := wf_ite h4.identTable h4
    (wf_ite h5.fwBit h5).onFw

theorem State.Wf.opLoadWave {q} (h : s.Wf) : (opLoadWave q s).1.Wf :=
  wf_fst_ite h.no <|
  have h1 := h.fwWrite
  (h1.foldl fun h2 => h2.fwWrite.fwWrite).yes

theorem State.Wf.opWiringCheck {q} (h : s.Wf) : (opWiringCheck q s).1.Wf :=
  wf_fst_ite h.no (wf_fst_ite h.no h.startLong.startPlan.yes)

theorem State.Wf.opGdSelftest {q} (h : s.Wf) : (opGdSelftest q s).1.Wf :=
  wf_fst_ite h.no <|
  wf_fst_ite h.no <|
  h.startLong.fwSet.fwWrite.yes

theorem State.Wf.opPressProbe {q} (h : s.Wf) : (opPressProbe q s).1.Wf := wf_fst_ite h.no h.fwBit.yes

/-! ### Firmware: motion services -/

theorem State.Wf.opCtxAlloc {q} (h : s.Wf) : (opCtxAlloc q s).1.Wf := by
  unfold Machine.opCtxAlloc
  split
  · exact h
  case h_2 hu => exact (h.fwAlloc hu).fwCtxWord.yes

theorem State.Wf.opCtxLoad {q} (h : s.Wf) : (opCtxLoad q s).1.Wf := wf_fst_ite h.no h.fwCtxWords.yes

theorem State.Wf.opCtxStart {q} (h : s.Wf) : (opCtxStart q s).1.Wf :=
  wf_fst_ite h.no <|
  wf_fst_ite h.no <|
  have h1 := (wf_ite h.fwCtxWord.fwCtxWord.fwCtxWord h).ctxStart
  wf_fst_ite h1.yes h1.no

theorem State.Wf.opCtxAbort {q} (h : s.Wf) : (opCtxAbort q s).1.Wf := wf_fst_ite h.no h.ctxAbort.yes

theorem State.Wf.opCtxRelease {q} (h : s.Wf) : (opCtxRelease q s).1.Wf :=
  wf_fst_ite h.no <|
  h.ctxRelease.of_stores.yes

theorem State.Wf.opCtxStatus {q} (h : s.Wf) : (opCtxStatus q s).1.Wf := h.yes
theorem State.Wf.opMoveTo {q} (h : s.Wf) : (opMoveTo q s).1.Wf := wf_fst_ite h.no h.fwMove
theorem State.Wf.opJog {q} (h : s.Wf) : (opJog q s).1.Wf := wf_fst_ite h.no h.fwMove

theorem State.Wf.opHome {q} (h : s.Wf) : (opHome q s).1.Wf :=
  wf_fst_ite h.no <|
  wf_fst_ite h.no <|
  have h1 := h.fwMove
  wf_fst_ite h1.startLong.yes h1

theorem State.Wf.fwHalt {axes on} (h : s.Wf) : (s.fwHalt axes on).Wf := h.forAll fun h1 => wf_ite h1.meCtlWrite h1
theorem State.Wf.opHalt {q} (h : s.Wf) : (opHalt q s).1.Wf := h.fwHalt.haltLong.yes
theorem State.Wf.opResume {q} (h : s.Wf) : (opResume q s).1.Wf := h.fwHalt.yes
theorem State.Wf.opSetPos {q} (h : s.Wf) : (opSetPos q s).1.Wf := wf_fst_ite h.no h.unstage.mePosWrite.yes
theorem State.Wf.obstRel {axes abort} (h : s.Wf) : (s.obstRel axes abort).Wf := h.forAll fun h1 => wf_ite h1.meCtlWrite h1
theorem State.Wf.opObstRel {q} (h : s.Wf) : (opObstRel q s).1.Wf := h.obstRel.yes

theorem State.Wf.opDoor {q} (h : s.Wf) : (opDoor q s).1.Wf :=
  wf_fst_ite h.no (wf_fst_ite h.no ((h.foldl fun h1 => h1.fwMove).yes))

theorem State.Wf.opSetLimits {q} (h : s.Wf) : (opSetLimits q s).1.Wf := h.onFw.fwWrite.yes
theorem State.Wf.opSetEnergy {q} (h : s.Wf) : (opSetEnergy q s).1.Wf := h.onFw.yes
theorem State.Wf.opSetForce {q} (h : s.Wf) : (opSetForce q s).1.Wf := h.onFw.yes

theorem State.Wf.opSetCeiling {q} (h : s.Wf) : (opSetCeiling q s).1.Wf :=
  wf_fst_ite h.no <|
  have h2 := h.askSafe fun h1 => h1.safeCeil
  wf_fst_ite h2.yes h2.no

theorem State.Wf.opGetSafety {x} (h : s.Wf) : (opGetSafety x s).1.Wf := h.yes

theorem State.Wf.opSafeStop {q} (h : s.Wf) : (opSafeStop q s).1.Wf :=
  have h2 := h.askSafe fun h1 => h1.safeStop
  wf_fst_ite h2.no ((wf_ite h2.haltLong h2).yes)

theorem State.Wf.opSetSupply {q} (h : s.Wf) : (opSetSupply q s).1.Wf := h.fwBit.fwWrite.fwWrite.yes

/-! ### Firmware: converter services -/

theorem State.Wf.opPcEntry {q} (h : s.Wf) : (opPcEntry q s).1.Wf :=
  wf_fst_ite h.no <|
  have h1 := (wf_ite h.fwBit h).fwWrite
  (wf_ite h1.fwBit h1).yes

theorem State.Wf.opPcRun {q} (h : s.Wf) : (opPcRun q s).1.Wf :=
  (h.forAll fun h1 => wf_ite h1 (wf_ite h1.fwSet.fwWrite h1.fwWrite)).yes

theorem State.Wf.opPcRead {q} (h : s.Wf) : (opPcRead q s).1.Wf := h.yes

theorem State.Wf.opPcCal {q} (h : s.Wf) : (opPcCal q s).1.Wf :=
  wf_fst_ite h.no <|
  h.startLong.fwSet.fwWrite.yes

theorem State.Wf.opRefCtl {q} (h : s.Wf) : (opRefCtl q s).1.Wf := h.fwBit.yes

theorem State.Wf.opCoilRead {q} (h : s.Wf) : (opCoilRead q s).1.Wf :=
  (wf_snd_foldl (p := ([], s)) h fun h => h.meanOf).yes

theorem State.Wf.opCmpSet {q} (h : s.Wf) : (opCmpSet q s).1.Wf :=
  wf_fst_ite h.no <|
  h.fwWrite.fwBit.fwBit.fwSet.yes

theorem State.Wf.opCmpRead {x} (h : s.Wf) : (opCmpRead x s).1.Wf := h.yes

theorem State.Wf.opCmpCheck {q} (h : s.Wf) : (opCmpCheck q s).1.Wf :=
  wf_fst_ite h.no <|
  wf_fst_ite h.no <|
  have h1 := h.startLong
  (wf_ite h1.fwWrite h1).yes

/-! ### Firmware: stored settings -/

theorem State.Wf.opSetRead {q} (h : s.Wf) : (opSetRead q s).1.Wf := h.yes
theorem State.Wf.opSetWrite {q} (h : s.Wf) : (opSetWrite q s).1.Wf := h.of_stores.yes
theorem State.Wf.opSetCommit {x} (h : s.Wf) : (opSetCommit x s).1.Wf := wf_fst_ite h.no (wf_fst_ite h.no h.startLong.yes)
theorem State.Wf.opSetCapture {x} (h : s.Wf) : (opSetCapture x s).1.Wf := h.of_stores.yes

theorem State.Wf.commitBlocks {ws fails} (h : s.Wf) : (s.commitBlocks ws fails).Wf := by
  unfold State.commitBlocks
  split
  · exact h.flashErase.flashPutWords.flashErase.flashPutWords.logEvent
  · exact (wf_ite h.flashErase.flashPutWords h).of_stores.flashErase.flashPutWords.raise

theorem State.Wf.opFwWrite {q} (h : s.Wf) : (opFwWrite q s).1.Wf := wf_fst_ite h.no h.flashPutWords.yes
theorem State.Wf.opFwVerify {q} (h : s.Wf) : (opFwVerify q s).1.Wf := h.yes

theorem State.Wf.opFwSwitch {q} (h : s.Wf) : (opFwSwitch q s).1.Wf :=
  wf_fst_ite h.no <|
  wf_fst_ite h.no <|
  h.logEvent.logFlush.wjAxes.hdrWrite.putFw.yes

theorem State.Wf.switchLink {slot} (h : s.Wf) : (s.switchLink slot).Wf := h.splCoreWrite.loadImage.setBit.setBit.setBit

theorem State.Wf.deferredReset (h : s.Wf) : (s.deferredReset).Wf := by
  unfold State.deferredReset
  split
  · exact h
  dsimp only
  split
  · exact h.putFw.chipReset
  · exact h.putFw.execReset
  · exact wf_ite h.putFw.linkReset h.putFw
  · exact h.putFw.execReset
  · exact h.putFw.switchLink

theorem State.Wf.opLinkStatus {x} (h : s.Wf) : (opLinkStatus x s).1.Wf := h.yes
theorem State.Wf.opEnumerate {x} (h : s.Wf) : (opEnumerate x s).1.Wf := wf_fst_ite h.no h.startLong.startEnum.yes
theorem State.Wf.opWorkerMap {q} (h : s.Wf) : (opWorkerMap q s).1.Wf := h.yes
theorem State.Wf.opGroup {q} (h : s.Wf) : (opGroup q s).1.Wf := h.of_stores.sendGroup.yes
theorem State.Wf.opSetOrphan {q} (h : s.Wf) : (opSetOrphan q s).1.Wf := h.fwWrite.yes
theorem State.Wf.opSetRelay {q} (h : s.Wf) : (opSetRelay q s).1.Wf := h.of_stores.yes

theorem State.Wf.axisLongEnd {ax o data} (h : s.Wf) : (s.axisLongEnd ax o data).2.1.Wf :=
  wf_mid_ite (wf_mid_ite h h.identWords.identApply) (wf_mid_ite h.set.fwWrite (wf_mid_ite (wf_mid_ite h h) h))

theorem State.Wf.devLongEnd {o result data} (h : s.Wf) : (s.devLongEnd o result data).2.1.Wf :=
  have h1 := wf_ite h.fwWrite h
  wf_mid_ite (wf_mid_ite h h) (wf_mid_ite (wf_mid_ite h1 h1) (wf_mid_ite h.commitBlocks h))

theorem State.Wf.longEnds {slot result data} (h : s.Wf) : (s.longEnds slot result data).Wf :=
  wf_ite h <|
  by
    split
    · exact by
          split
          · exact h
          · exact wf_ite h <|
              wf_ite h.endLong <|
              h.axisLongEnd.endLong
    · exact by
          split
          · exact h
          · exact wf_ite h <|
              h.devLongEnd.endLong

/-! ### Link frames -/

theorem State.Wf.frameIn {p f kind busy take} (h : s.Wf) (htake : ∀ {t}, t.Wf → (take t).Wf) :
    (s.frameIn p f kind busy take).Wf :=
  wf_ite h <|
  have h1 := wf_ite h.crcError (wf_ite h.heardManager h)
  have h2 := wf_ite h1.passOn h1
  wf_ite h2 (wf_ite (htake h2) h2.dropFrame)

theorem State.Wf.takeRequest {f} (h : s.Wf) : (s.takeRequest f).Wf := h.of_stores
theorem State.Wf.takeResponse {f} (h : s.Wf) : (s.takeResponse f).Wf := wf_ite h.gotResponse h.gotAnswer

theorem State.Wf.takeEvent {f} (h : s.Wf) : (s.takeEvent f).Wf :=
  wf_ite h <|
  (wf_ite h.queueEv h).logEvent

theorem State.Wf.stitchSend (h : s.Wf) : (s.stitchSend).Wf := by
  unfold State.stitchSend
  dsimp only
  split
  · exact h
  · exact wf_ite h (h.putLnk.forAll fun h => wf_ite h.sends h)

theorem State.Wf.passStitch {p f act} (h : s.Wf) : (s.passStitch p f act).Wf := by
  unfold State.passStitch
  split
  · exact wf_ite h.sends h
  · exact h

theorem State.Wf.stitchRsp {f op ws} (h : s.Wf) : (s.stitchRsp f op ws).Wf := h.sendUp

theorem State.Wf.stitchErrors {p f} (h : s.Wf) : (s.stitchErrors p f).Wf :=
  have h1 := wf_ite h h.crcError
  wf_ite h1 h1.crcError

theorem State.Wf.stitchRun {p f op ws run} (h : s.Wf) (hrun : ∀ {t}, t.Wf → (run t).Wf) : (s.stitchRun p f op ws run).Wf :=
  have h1 := h.of_stores
  have h2 := wf_ite h1 h1.incFld
  (hrun h2).stitchRsp

theorem State.Wf.stitchIn {p f act op ws run} (h : s.Wf) (hrun : ∀ {t}, t.Wf → (run t).Wf) : (s.stitchIn p f act op ws run).Wf :=
  wf_ite h <|
  have h1 := h.stitchErrors
  wf_ite h1 <|
  have h2 := wf_ite h1.heardManager h1
  have h3 := wf_ite h2 h2.passStitch
  wf_ite (h3.stitchRun hrun) h3

theorem State.Wf.relayUp {p f} (h : s.Wf) : (s.relayUp p f).Wf := wf_ite h.passOn h

theorem State.Wf.noticeIn {p src code port act} (h : s.Wf) (hact : ∀ {t}, t.Wf → (act t).Wf) : (s.noticeIn p src code port act).Wf :=
  wf_ite h (wf_ite (hact h.relayUp).fwStep h.relayUp)

/-! ### Boot and handover -/

theorem State.Wf.wjRestore {ax} (h : s.Wf) : (s.wjRestore ax).Wf :=
  have h1 := h.wjCheck.set.set.set.set.set
  wf_ite h1.unstage.mePosWrite h1

theorem State.Wf.logBoot {cap} (h : s.Wf) : (s.logBoot cap).Wf := h.wjCheck.set.setWide.setWide
theorem State.Wf.bootRecord {ce cl} (h : s.Wf) : (s.bootRecord ce cl).Wf := h.wjPair

theorem State.Wf.loadFound {f} (h : s.Wf) : (s.loadFound f).Wf := by
  unfold State.loadFound
  split
  · exact h.fwWrite.fwWrite.loadImage.loadImage
  · exact h

theorem State.Wf.bootRom {p} (h : s.Wf) : (s.bootRom p).Wf := by
  unfold State.bootRom
  exact
    have h1 := h.fwBit.wjCheck.putProbe.fwWrite.fwWrite.setFld.setBit
    have h2 := ((wf_ite h1.set (wf_ite h1.set h1)).fwBit.set.set).set.setBit.setBit
    ((wf_ite h2 h2.raise).loadFound.bootRecord).putSys

/-- The opcodes that an entry may replay keep the canonical form. -/
theorem wf_replayFn {op f q} (hf : replayFn op = some f) (h : s.Wf) : (f q s).1.Wf := by
  unfold replayFn at hf
  split at hf <;> cases hf
  · exact h.opSetEvents
  · exact h.opAxisEn
  · exact h.opSetRole
  · exact h.opSetMotor
  · exact h.opSetCurrent
  · exact h.opSetCommut
  · exact h.opSetDoor
  · exact h.opLoadWave
  · exact h.opSetLimits
  · exact h.opSetEnergy
  · exact h.opSetForce
  · exact h.opSetCeiling
  · exact h.opSetSupply
  · exact h.opPcEntry
  · exact h.opPcRun
  · exact h.opCmpSet
  · exact h.opFaultReact
  · exact h.opGroup
  · exact h.opSetOrphan
  · exact h.opSetRelay

theorem State.Wf.replay {e} (h : s.Wf) : (s.replay e).1.Wf := by
  unfold State.replay
  split
  · exact h
  case h_2 f hf =>
    have h1 : (if (f e.req s).2.1 = .ok then ((f e.req s).1, Res.ok) else (s, (f e.req s).2.1)).1.Wf :=
      wf_fst_ite (wf_replayFn hf h) h
    refine wf_fst_ite h ?_
    split
    · exact h1
    · exact h
    · exact h1

theorem State.Wf.applyEntry {e} (h : s.Wf) : (s.applyEntry e).1.Wf := by
  unfold State.applyEntry
  refine wf_fst_ite h ?_
  split
  · exact h.foldl .fwWrite
  · exact h.foldl .fwWrite
  · exact h.fwCtxWords
  · exact h.replay

theorem State.Wf.applySettings {ws} (h : s.Wf) : (s.applySettings ws).Wf :=
  have h2 := h.foldl fun h1 => h1.ctxLoad
  have h5 := h2.foldl fun h3 =>
        have h4 := h3.applyEntry
        wf_ite h4 h4.logEvent
  h5.foldl fun h6 => wf_ite h6 h6.ctxGo

theorem State.Wf.sendSenses (h : s.Wf) : (s.sendSenses).Wf := h.forAll fun h1 => h1.askSafe fun h2 => h2.safeSense

theorem State.Wf.defaultDoor {ax} (h : s.Wf) : (s.defaultDoor ax).Wf := by
  unfold State.defaultDoor
  dsimp only
  split
  case h_1 hu => exact (h.fwBuild hu).fwFld.fwBit.fwBit.fwBit
  · exact h.fwBit.fwBit.fwBit

theorem State.Wf.noSettings (h : s.Wf) : (s.noSettings).Wf :=
  have h2 := h.forAll fun h1 =>
        h1.fwWrite.fwWrite.fwSet.onFw
  have h4 := h2.fwSet.forAll fun h3 => h3.fwSet
  h4.drawWord.fwSet.fwWrite.fwWrite.fwWrite.forAll fun h5 =>
      have h6 := (wf_ite h5.defaultDoor h5).setRole
      wf_ite h6 h6.axisPower.firstEnable.axisDrive

theorem State.Wf.settle (h : s.Wf) : (s.settle).Wf := by
  unfold State.settle
  split
  · exact h.noSettings
  · exact h.setFld.setBit.of_stores.applySettings.sendSenses

theorem State.Wf.healBlocks (h : s.Wf) : (s.healBlocks).Wf :=
  wf_ite h <|
  by
    split
    · exact h
    · exact wf_ite h h.flashErase.flashPutWords

theorem State.Wf.afterRevert (h : s.Wf) : (s.afterRevert).Wf := by
  unfold State.afterRevert
  split
  · exact wf_ite h.hdrWrite h
  · exact h

theorem State.Wf.startWdt (h : s.Wf) : (s.startWdt).Wf := wf_ite h h.fwWrite

theorem State.Wf.bootFirmware {cap} (h : s.Wf) : (s.bootFirmware cap).Wf :=
  have h2 := h.logBoot.settle.forAll fun h1 => h1.wjRestore
  h2.startWdt.logEvent.fwWrite.afterRevert

theorem State.Wf.bootSequence {p} (h : s.Wf) : (s.bootSequence p).Wf :=
  wf_ite h <|
  h.bootRom.bootFirmware.fwStep

theorem State.Wf.afterReady (h : s.Wf) : (s.afterReady).Wf :=
  have h1 := h.healBlocks
  (wf_ite h1.startEnum h1).fwStep

theorem State.Wf.rebuildFw (h : s.Wf) : (s.rebuildFw).Wf := h.of_stores.forAll fun h1 => h1.onFw

theorem State.Wf.reloadExec (h : s.Wf) : (s.reloadExec).Wf :=
  have h1 := h.setBit
  wf_ite h1 <|
  by
    split
    · exact h1
    · exact wf_ite
          (h.loadImage.setBit.setFld.setBit.setBit.setBit.afterRevert)
          (wf_ite h.loadImage.setBit.setFld.setBit.setBit.setBit.afterRevert h1)

theorem State.Wf.handoverLoad (h : s.Wf) : (s.handoverLoad).Wf :=
  wf_ite h <|
  h.reloadExec.of_stores.rebuildFw.fwWrite.fwStep

theorem State.Wf.confirmTrial (h : s.Wf) : (s.confirmTrial).Wf := by
  unfold State.confirmTrial
  split
  · exact h
  · exact wf_ite h <|
      h.hdrWrite.wjPair.setFld

theorem State.Wf.meRecfg {ax f} (h : s.Wf) (hf : ∀ {t}, t.Wf → (f t).Wf) : (s.meRecfg ax f).Wf :=
  (hf h.fwBit).fwBit

theorem State.Wf.learnFails {ax} (h : s.Wf) : (s.learnFails ax).Wf := h.onFw.fwBit.fwBit.fwBit

theorem State.Wf.learnStart {ax} (h : s.Wf) : (s.learnStart ax).Wf := by
  unfold State.learnStart
  extract_lets s₁
  have h1 : s₁.Wf := h.meRecfg fun h => h.fwFld.fwBit.fwWide
  split
  · exact h1.learnFails
  case h_2 hu =>
    exact
      have h2 := (h1.fwAlloc hu).fwCtxWords
      wf_ite h2.ctxRelease.learnFails h2.ctxStart.onFw

theorem State.Wf.learnEnd {ax c} (h : s.Wf) : (s.learnEnd ax c).Wf :=
  have h1 := h.ctxRelease.of_stores
  wf_ite h1.learnFails <|
  h1.onFw.meRecfg fun h2 =>
      h2.fwWide.fwFld.fwBit.fwWrite.fwWrite

theorem State.Wf.learn {ax} (h : s.Wf) : (s.learn ax).Wf :=
  wf_ite h <|
  by
    split
    · exact wf_ite h.learnStart h
    · exact wf_ite h.learnEnd h

theorem State.Wf.mirrorAlarm {w} (h : s.Wf) : (s.mirrorAlarm w).Wf := wf_ite h.fwBit h

/-! ### The serial ports -/

theorem State.Wf.setPort {p f} (h : s.Wf) : (s.setPort p f).Wf := by
  unfold State.setPort
  split
  · exact h.of_stores
  · exact h.of_stores

theorem State.Wf.onceRaise {m k} (h : s.Wf) : (s.onceRaise m k).Wf := by
  unfold State.onceRaise
  split
  · exact wf_ite h.raise h
  · exact h

theorem State.Wf.commitWord {p page i w} (h : s.Wf) : (s.commitWord p page i w).Wf := wf_ite h.setPort (wf_ite h.busWrite h)

theorem State.Wf.writeFrame {p i ws edges} (h : s.Wf) : (s.writeFrame p i ws edges).Wf :=
  wf_ite h.setPort <|
  wf_ite ((h.foldl fun h1 => h1.onceRaise).setPort) <|
  have h3 := h.foldl fun h2 => h2.commitWord
  h3.setPort.fwStep

theorem State.Wf.frameEffects {p page i n fetched} (h : s.Wf) : (s.frameEffects p page i n fetched).Wf :=
  h.foldl fun h1 => wf_ite h1 (wf_ite h1.allocCommit h1.readEffect)

theorem State.Wf.readFrame {p i edges tckPs taken} (h : s.Wf) : (s.readFrame p i edges tckPs taken).Wf :=
  have h2 := h.foldl fun h1 => h1.allocEffect
  ((wf_ite h2.frameEffects.fwStep h2).setPort).of_stores

theorem State.Wf.testEntry (h : s.Wf) : (s.testEntry).Wf := wf_ite h.of_stores h

theorem State.Wf.masterWrite {m addr width w} (h : s.Wf) : (s.masterWrite m addr width w).Wf := by
  unfold State.masterWrite
  split
  · exact h
  · exact wf_ite h.raise.busError h.busWrite

theorem State.Wf.portWrite {p addr w} (h : s.Wf) : (s.portWrite p addr w).Wf := by
  unfold State.portWrite
  split
  · exact h
  · exact wf_ite h.onceRaise.setPort h.commitWord

/-! ### Firmware: drive services -/

theorem State.Wf.onPlan {ax f} (h : s.Wf) : (s.onPlan ax f).Wf := h.of_stores
theorem State.Wf.planTicks {ax} (h : s.Wf) : (s.planTicks ax).Wf := h.onPlan
theorem State.Wf.noOverride {ax} (h : s.Wf) : (s.noOverride ax).Wf := wf_ite h h.fwWrite

theorem State.Wf.planNext {ax} (h : s.Wf) : (s.planNext ax).Wf := by
  unfold State.planNext
  dsimp only
  split
  · exact h.onPlan
  · exact h.onPlan.noOverride

theorem State.Wf.planFail {ax r} (h : s.Wf) : (s.planFail ax r).Wf := h.onPlan

theorem State.Wf.holdStep {ax p ang mA n f} (h : s.Wf) (hf : ∀ {t}, t.Wf → (f t).Wf) : (s.holdStep ax p ang mA n f).Wf :=
  wf_ite (wf_ite h.fwWrite.fwWrite.planTicks h) (wf_ite h.planFail (wf_ite h.planTicks (hf h).planNext))

theorem State.Wf.squareStep {ax p br check} (h : s.Wf) : (s.squareStep ax p br check).Wf :=
  wf_ite (wf_ite h.fwWrite.fwWrite.planTicks h) <|
  wf_ite h.planFail <|
  have h1 := h.onPlan
  wf_ite
    (wf_ite (wf_ite h1.fwWrite h1) <|
     (wf_ite h1.onPlan h1).planNext)
    (wf_ite (wf_ite h1.fwWrite h1) (wf_ite h1.onPlan.fwWrite (wf_ite h1.planFail h1.onPlan.fwWrite)))

theorem State.Wf.diagStep {ax p} (h : s.Wf) : (s.diagStep ax p).Wf :=
  wf_ite (wf_ite h.fwBit.fwWrite.planTicks h) <|
  wf_ite h <|
  have h1 := h.fwBit
  wf_ite h1.planNext h1.onPlan

theorem State.Wf.regsOff {ax f} (h : s.Wf) (hf : ∀ {t}, t.Wf → (f t).Wf) : (s.regsOff ax f).Wf :=
  wf_ite (hf h.fwBit).fwBit (hf h)

theorem State.Wf.planSave {ax} (h : s.Wf) : (s.planSave ax).Wf := h.onPlan

theorem State.Wf.tuneStep {ax cmode rated table} (h : s.Wf) : (s.tuneStep ax cmode rated table).Wf :=
  wf_ite h <|
  have h4 := h.planSave.drawWord.drawWord.drawWord.regsOff fun h1 =>
        have h2 := h1.fwFld
        have h3 := wf_ite h2.fwFld h2
        wf_ite h3.identTable h3
  h4.fwWrite.planNext

theorem State.Wf.waveBack {ax w} (h : s.Wf) : (s.waveBack ax w).Wf := wf_ite h (h.fwWrite.foldl fun h1 => h1.fwWrite)

theorem State.Wf.restoreStep {ax p} (h : s.Wf) : (s.restoreStep ax p).Wf :=
  wf_ite h <|
  have h1 := h.noOverride
  by
    split
    · exact h1.planNext
    · exact
        have h3 := h1.regsOff fun h2 => h2.fwFld.fwFld.waveBack
        h3.fwWrite.onPlan.planNext

theorem State.Wf.passStep {ax p offset} (h : s.Wf) : (s.passStep ax p offset).Wf :=
  wf_ite
    (wf_ite h <|
     wf_ite h.planNext <|
     wf_ite h.planFail h.fwMove.onPlan.planTicks)
    (wf_ite (wf_ite h.planNext h) <|
     by
       split
       · exact h.planFail
       · exact wf_ite h.planFail <|
           have h1 := h.onPlan
           wf_ite h1.ctxAbort.onPlan h1)

theorem State.Wf.turnStep {ax p} (h : s.Wf) : (s.turnStep ax p).Wf := wf_ite h.onPlan h.onPlan.planNext
theorem State.Wf.verdictStep {ax p} (h : s.Wf) : (s.verdictStep ax p).Wf := h.onPlan.planNext
theorem State.Wf.alignEnd {ax} (h : s.Wf) : (s.alignEnd ax).Wf := h.fwWrite.fwBit

theorem State.Wf.planStep {ax p x} (h : s.Wf) : (s.planStep ax p x).Wf := by
  unfold State.planStep
  split
  · exact h.diagStep
  · exact h.holdStep fun h1 => h1
  · exact h.squareStep
  · exact wf_ite h.planNext h.planFail
  · exact wf_ite h.planNext h.planFail
  · exact h.tuneStep
  · exact h.passStep
  · exact h.turnStep
  · exact h.verdictStep
  · exact h.holdStep fun h2 => h2.alignEnd
  · exact h.restoreStep

theorem State.Wf.planTick {ax} (h : s.Wf) : (s.planTick ax).Wf := by
  unfold State.planTick
  split
  · exact h
  · exact wf_ite h.endLong <|
      by
        split
        · exact wf_ite h h.of_stores
        · exact wf_ite h.planStep h.planFail
        · exact h.planStep

theorem State.Wf.fwDrive (h : s.Wf) : (s.fwDrive).Wf := wf_ite (h.forAll fun h1 => h1.planTick) h

/-! ### The motion tick and the fast path -/

theorem State.Wf.fullTick (h : s.Wf) : (s.fullTick).Wf :=
  have h2 := h.engineTick
  wf_ite h2 <|
  have h4 := h2.forAll fun h3 => h3.coilTick.loTick
  h4.fwTick.fwDrive

theorem State.Wf.motionTick {cycles} (h : s.Wf) : (s.motionTick cycles).Wf :=
  have h1 := h.pass
  wf_ite h1.fullTick h1

theorem State.Wf.safeTake {ys} (h : s.Wf) : (s.safeTake ys).Wf := h.forAll fun h1 => h1.safeFastAxis

theorem State.Wf.fast {xs} (h : s.Wf) : (s.fast xs).Wf :=
  wf_ite h <|
  have h1 := h.csmFast
  have h3 := wf_ite (wf_ite h1.of_stores h1.raise) ((h1.of_stores.foldl fun h2 => h2.safeTake).settleSafety)
  h3.chopSamples

/-! ### The idle step -/

theorem State.Wf.idle (h : s.Wf) : (idle s).Wf := h.pass

/-! ### Commands and steps -/

/-- Every command keeps the stores canonical, whatever its operands. -/
theorem exec_wf (i : Instr) (h : s.Wf) : NextWf (exec i s) := by
  cases i with
  | powerOn => exact .of h.quiet.chipReset.set.putSys
  | brownOut => exact .of h.quiet.chipReset.set
  | reverseConnection => exact .of h.quiet.chipReset.set.putSys
  | pinReset => exact .of h.quiet.chipReset
  | chipResetEnd => exact .of h.quiet.endChipReset
  | strapLatch => exact .of h.quiet.strapLatch
  | bootSequence => exact .of h.quiet.bootSequence
  | trialConfirm => exact .of h.quiet.confirmTrial
  | openEndLearning => exact .of h.quiet.learn
  | vsupWarnAssert =>
    exact .of <|
      have h1 := h.quiet.vsupWarn
      wf_ite h1.logFlush.wjAxes h1
  | vsupWarnRelease => exact .of <| wf_ite h.quiet.vsupWarnEnd h.quiet
  | rideThroughEnd => exact .of h.quiet.rtEnd
  | vgUvAssert => exact .of h.quiet.vgAssert
  | vgUvRelease => exact .of h.quiet.setBit.drop
  | vioLimit => exact .of h.quiet.setBit.level
  | crst => exact .of <| h.access fun h1 => h1.rstctl
  | execrst by_ =>
    cases by_ with
    | write => exact .of <| h.access fun h1 => h1.rstctl
    | firmware => exact .of h.quiet.execReset
  | linkrst by_ =>
    cases by_ with
    | write => exact .of <| h.access fun h1 => h1.rstctl
    | firmware => exact .of h.quiet.linkReset
  | blockReset => exact .of <| h.access fun h1 => h1.brstWrite
  | blockResetEnd => exact .of h.quiet.of_stores
  | watchdogKick => exact .of <| h.access fun h1 => h1.wdKick
  | watchdogExpiry => exact .of <| wf_ite h.quiet.chipReset h.quiet
  | handoverWindowClose => exact .of h.quiet.windowClose
  | axisClaim => exact .of <| h.access fun h1 => h1.claimWrite
  | runRequest => exact .of <| h.access fun h1 => h1.pwrctl
  | pllbRelock => exact .of h.quiet.pllbRelock
  | standbyRequest => exact .of <| h.access fun h1 => h1.pwrctl
  | sleepRequest => exact .of <| h.access fun h1 => (wf_ite h1.beforeSleep h1).pwrctl
  | idleEntry => exact .of <| wf_ite h.quiet.setBit.setBit.setFld h.quiet
  | idleExit => exact .of h.quiet.ungate
  | wake => exact .of h.quiet.wakeUp
  | wakeTimerExpiry => exact .of h.quiet.wakeUp
  | presNChange => exact .of h.quiet.of_stores
  | presenceExpiry => exact .of h.quiet.of_stores
  | motionTick => exact .of h.quiet.motionTick
  | timedStart => exact .of h.quiet.timedStart
  | restDelayExpiry => exact .of <| wf_ite h.quiet.onMot h.quiet
  | recloseDelayExpiry => exact .of <| wf_ite h.quiet.onMot.resumeMotion h.quiet
  | motionEvent => exact .of h.quiet.motionEvent
  | stepEdge => exact .of h.quiet.stepEdge
  | enaFall => exact .of h.quiet.enaFall
  | encoderEdge => exact .of <| wf_ite h.quiet.set h.quiet
  | encoderZEdge => exact .of <| wf_ite h.quiet.set.onMot h.quiet
  | ctxAllocRead => exact .of <| h.accessRead fun h1 => h1.allocEffect.answer
  | ctxWordWrite => exact .of <| h.access fun h1 => h1.ctxWordWrite
  | ctxCmdStart => exact .of <| h.access fun h1 => h1.ctxStart
  | ctxCmdAbort => exact .of <| h.access fun h1 => h1.ctxAbort
  | ctxCmdRelease => exact .of <| h.access fun h1 => h1.ctxRelease
  | meCtlHalt => exact .of <| h.access fun h1 => h1.meCtlWrite
  | obscont => exact .of <| h.access fun h1 => h1.meCtlWrite
  | obsabort => exact .of <| h.access fun h1 => h1.meCtlWrite
  | ferrclr => exact .of <| h.access fun h1 => h1.meCtlWrite
  | mePosWrite => exact .of <| h.access fun h1 => h1.unstage.mePosWrite
  | meDisable => exact .of <| h.access fun h1 => h1.meDisable.mend
  | haltAllHold => exact .of <| h.access fun h1 => h1.haltWrite
  | haltAllRelease => exact .of <| h.access fun h1 => h1.haltWrite
  | fastPathSample => exact .of h.quiet.fast
  | alignedSample => exact .of h.quiet.aligned
  | finePathSample => exact .of h.quiet.fine
  | observerValid => exact .of h.quiet.loValid
  | observerLock => exact .of h.quiet.loLock
  | backEmfCollapse => exact .of h.quiet.collapseNow
  | pressProbeStart => exact .of h.quiet.probeStart
  | pressProbeHalfWindow => exact .of h.quiet.probeHalf
  | waveTableCheck => exact .of h.quiet.waveCheck
  | crWdataWrite => exact .of <| h.access fun h1 => h1.wdataWrite
  | crOvrWrite => exact .of <| h.access fun h1 => h1.ovrWrite
  | periodBoundary => exact .of h.quiet.boundary
  | commutation => exact .of h.quiet.commutation
  | turnOnStart => exact .of h.quiet.turnOn
  | interlockTimeout => exact .of h.quiet.interlockTimeout
  | maskEnd => exact .of h.quiet.maskEnd
  | regTrip => exact .of h.quiet.regTrip
  | ilimTrip => exact .of h.quiet.ilimTrip
  | maxOnTime => exact .of <| wf_ite h.quiet.endOn.setBit h.quiet
  | offTimeEnd => exact .of <| wf_ite h.quiet.startPeriod h.quiet
  | onTimeEnd => exact .of <| wf_ite h.quiet.endOn h.quiet
  | periodMaxEnd => exact .of <| wf_ite h.quiet.startPeriod h.quiet
  | tackFire => exact .of h.quiet.tackFire
  | commit => exact .of <| h.access fun h1 => h1.pwmCtlWrite
  | latchClear => exact .of <| h.access fun h1 => h1.latchClear
  | pendingClearApply =>
    exact .of <|
      have h1 := h.quiet.setBit.onBr
      wf_ite h1.unlatch h1
  | pwmEnable => exact .of <| h.access fun h1 => h1.pwmEnable.mend
  | pwmDisable => exact .of <| h.access fun h1 => h1.pwmDisable.mend
  | vdsShort => exact .of h.quiet.vdsShort
  | hardShort => exact .of h.quiet.hardShort
  | bootstrapUvAssert => exact .of h.quiet.bstAssert
  | bootstrapUvRelease => exact .of h.quiet.setBit
  | gateBudgetWindow => exact .of h.quiet.set.set.level
  | prech => exact .of <| h.access fun h1 => h1.precharge
  | prechargeEnd => exact .of h.quiet.prechargeEnd
  | diag => exact .of <| h.access fun h1 => h1.diagStart
  | diagComplete => exact .of h.quiet.diagEnd
  | stest => exact .of <| h.access fun h1 => h1.stestStart
  | selftestComplete => exact .of <| wf_ite h.quiet.setBit.set h.quiet
  | gdWrepWrite => exact .of <| h.access fun h1 => h1.wrepWrite
  | csmEnable => exact .of <| h.access fun h1 => h1.csmCfgWrite
  | csmCcfgWrite => exact .of <| h.access fun h1 => h1.csmCcfgWrite
  | modulatorOverload => exact .of h.quiet.modOverload
  | rstart => exact .of <| h.access fun h1 => h1.pcRstart
  | rstop => exact .of <| h.access fun h1 => h1.pcRstop
  | istart => exact .of <| h.access fun h1 => h1.pcTrigger
  | injectedTrigger t =>
    have h1 := h.quiet
    cases t with
    | tack => exact .of (wf_ite h1.onPc.pcOuterTrigger h1)
    | common => exact .of (wf_ite h1.putSys.pcCommon h1)
  | rsync => exact .of <| h.access fun h1 => h1.refSyncWrite
  | isync => exact .of <| h.access fun h1 => h1.refSyncWrite
  | pcSettleEnd => exact .of h.quiet.pcSettleEnd
  | pcEntryResult => exact .of h.quiet.pcResult
  | cal => exact .of <| h.access fun h1 => h1.pcCtlWrite
  | calComplete => exact .of h.quiet.calEnd
  | comparatorResolve => exact .of h.quiet.cmpResolve
  | comparatorEdge => exact .of <| wf_ite h.quiet.cmpFollow h.quiet
  | cmpAlarmNotify => exact .of h.quiet.mirrorAlarm
  | cmpCcfgWrite => exact .of <| h.access fun h1 => h1.cmpCcfgWrite
  | tieRelease => exact .of h.quiet.tieRelease
  | stoChange => exact .of h.quiet.stoChange
  | stoDiscrepancy => exact .of h.quiet.stoDiscrepancy
  | discrepancyClear => exact .of h.quiet.discrepancyClear
  | stoQualified => exact .of h.quiet.stoQualified
  | sealSample => exact .of h.quiet.sealSample
  | selvedgeSinc2Result => exact .of <| (h.quiet.forAll fun h1 => h1.sinc2Axis).settleSafety
  | safeCurrentEval => exact .of <| (h.quiet.forAll fun h1 => h1.safeEvalAxis).settleSafety
  | standstillDeclare => exact .of h.quiet.stillDeclare
  | standstillWithdraw => exact .of h.quiet.stillWithdraw
  | crossComparison => exact .of h.quiet.crossCompare
  | enableReadbackFail => exact .of <| wf_ite h.quiet h.quiet.safeBy
  | enableDecay => exact .of h.quiet.enableDecay
  | soutReadbackFail => exact .of <| wf_ite h.quiet h.quiet.readSout.safeBy
  | darkPulseStart =>
    exact .of <|
      wf_ite
        (h.quiet.of_stores)
        (h.quiet)
  | darkPulseEnd => exact .of h.quiet.darkEnd
  | stop => exact .of <| h.quiet.serveSafe fun h1 => h1.safeStop
  | ceil => exact .of <| h.quiet.serveSafe fun h1 => h1.safeCeil
  | sense => exact .of <| h.quiet.serveSafe fun h1 => h1.safeSense
  | clear => exact .of <| h.quiet.serveSafe fun h1 => h1.safeClear
  | safeCoreReady => exact .of h.quiet.safeCoreReady
  | selvedgeReady => exact .of h.quiet.selvedgeReady
  | safeRomCheck => exact .of <| wf_ite h.quiet h.quiet.safeBy
  | safeWatchdogExpiry => exact .of h.quiet.safeBy
  | clockMonitorWindow => exact .of h.quiet.monWindow
  | pllLockLoss => exact .of h.quiet.setBit.of_stores.settleClocks
  | busTimeout =>
    exact .of <|
      have h1 := h.raise
      wf_ite h1.quiet h1.busError
  | timTimeWrite => exact .of <| h.access fun h1 => h1.timeWrite
  | timerAlarm => exact .of <| wf_ite h.quiet.ungate h.quiet
  | darnedMemoryRead => exact .of h.darnRead
  | narrowMemoryWrite => exact .of h.darnNarrow
  | scrubVisit => exact .of h.quiet.scrub
  | parityScrub => exact .of h.quiet.parityScrub
  | sysDarnclr => exact .of <| h.access fun h1 => h1.darnClr.foldl fun h2 => h2.darnCount
  | registerWrite m addr width w =>
    have h1 := h.opened (m := m)
    refine .ite (.of h.quiet) (.ite .fault (.of ?_))
    cases m with
    | host => exact h1.portWrite.fwStep
    | maint => exact h1.portWrite.fwStep
    | exec => exact h1.masterWrite.fwStep
    | link => exact h1.masterWrite.fwStep
    | safe => exact h1.masterWrite.fwStep
  | writeFrame => exact .ite (.of h.quiet) (.ite .fault (.of h.quiet.writeFrame.putOut))
  | readFrame => exact .ite (.of h.quiet) (.ite .fault (.of h.quiet.readFrame))
  | hspPageWrite =>
    exact .of <|
      have h1 := h.quiet
      wf_ite h1.setPort h1
  | hspReadyWrite =>
    exact .of <|
      h.access fun h1 =>
          have h2 := h1.readyWrite
          wf_ite h2.afterReady h2
  | maintenanceModeWrite => exact .of <| h.access fun h1 => h1.modeWrite
  | testModeEntry => exact .of h.quiet.testEntry
  | mailboxMsgWrite => exact .of <| h.access fun h1 => h1.msgWrite
  | mailboxGo => exact .of <| h.access fun h1 => h1.goWrite.fwStep
  | mailboxTake =>
    exact .of <|
      h.accessRead fun h1 =>
          h1.takeEffect.fwStep.of_stores
  | wordPost => exact .of <| h.access fun h1 => h1.wordWrite
  | wordTake => exact .of <| h.accessRead fun h1 => h1.wordEffect.answer
  | bindingWrite => exact .of <| h.access fun h1 => h1.bindWrite
  | bindingLock => exact .of <| h.access fun h1 => h1.lockWrite
  | flagWrite => exact .of <| h.access fun h1 => h1.flagWrite
  | attnWrite => exact .of <| h.access fun h1 => h1.attnWrite
  | dbmaskWrite => exact .of <| h.access fun h1 => h1.dbmaskWrite
  | eventPost => exact .of <| wf_ite h.quiet.fwFaults.postEvent h.quiet
  | longOpEnd => exact .of h.quiet.longEnds
  | relayTimeout => exact .of h.quiet.relayTimeout.fwStep
  | deferredReset => exact .of h.quiet.deferredReset
  | opGetId => exact .of <| h.quiet.serve fun h1 => h1.opGetId
  | opGetStatus => exact .of <| h.quiet.serve fun h1 => h1.opGetStatus
  | opSetPower => exact .of <| h.quiet.serveThen (fun h1 => h1.opSetPower) fun h1 => h1.afterSetPower
  | opReset => exact .of <| h.quiet.serve fun h1 => h1.opReset
  | opGetTime => exact .of <| h.quiet.serve fun h1 => h1.opGetTime
  | opSetTime => exact .of <| h.quiet.serve fun h1 => h1.opSetTime
  | opPing => exact .of <| h.quiet.serve fun h1 => h1.opPing
  | opSetEvents => exact .of <| h.quiet.serve fun h1 => h1.opSetEvents
  | opAxisEn => exact .of <| h.quiet.serve fun h1 => h1.opAxisEn
  | opSetRole => exact .of <| h.quiet.serve fun h1 => h1.opSetRole
  | opSetMotor => exact .of <| h.quiet.serve fun h1 => h1.opSetMotor
  | opSetCurrent => exact .of <| h.quiet.serve fun h1 => h1.opSetCurrent
  | opSetCommut => exact .of <| h.quiet.serve fun h1 => h1.opSetCommut
  | opSetDoor => exact .of <| h.quiet.serve fun h1 => h1.opSetDoor
  | opGetAxis => exact .of <| h.quiet.serve fun h1 => h1.opGetAxis
  | opIdentify => exact .of <| h.quiet.serve fun h1 => h1.opIdentify
  | opGetIdent => exact .of <| h.quiet.serve fun h1 => h1.opGetIdent
  | opLoadWave => exact .of <| h.quiet.serve fun h1 => h1.opLoadWave
  | opCtxAlloc => exact .of <| h.quiet.serve fun h1 => h1.opCtxAlloc
  | opCtxLoad => exact .of <| h.quiet.serve fun h1 => h1.opCtxLoad
  | opCtxStart => exact .of <| h.quiet.serve fun h1 => h1.opCtxStart
  | opCtxAbort => exact .of <| h.quiet.serve fun h1 => h1.opCtxAbort
  | opCtxRelease => exact .of <| h.quiet.serve fun h1 => h1.opCtxRelease
  | opCtxStatus => exact .of <| h.quiet.serve fun h1 => h1.opCtxStatus
  | opMoveTo => exact .of <| h.quiet.serve fun h1 => h1.opMoveTo
  | opJog => exact .of <| h.quiet.serve fun h1 => h1.opJog
  | opHome => exact .of <| h.quiet.serve fun h1 => h1.opHome
  | opHalt => exact .of <| h.quiet.serve fun h1 => h1.opHalt
  | opSetPos => exact .of <| h.quiet.serve fun h1 => h1.opSetPos
  | opResume => exact .of <| h.quiet.serve fun h1 => h1.opResume
  | opObstRel => exact .of <| h.quiet.serve fun h1 => h1.opObstRel
  | opDoor => exact .of <| h.quiet.serve fun h1 => h1.opDoor
  | opSetLimits => exact .of <| h.quiet.serve fun h1 => h1.opSetLimits
  | opSetEnergy => exact .of <| h.quiet.serve fun h1 => h1.opSetEnergy
  | opSetForce => exact .of <| h.quiet.serve fun h1 => h1.opSetForce
  | opSetCeiling => exact .of <| h.quiet.serve fun h1 => h1.opSetCeiling
  | opGetSafety => exact .of <| h.quiet.serve fun h1 => h1.opGetSafety
  | opSafeStop => exact .of <| h.quiet.serve fun h1 => h1.opSafeStop
  | opSetSupply => exact .of <| h.quiet.serve fun h1 => h1.opSetSupply
  | opPcEntry => exact .of <| h.quiet.serve fun h1 => h1.opPcEntry
  | opPcRun => exact .of <| h.quiet.serve fun h1 => h1.opPcRun
  | opPcRead => exact .of <| h.quiet.serve fun h1 => h1.opPcRead
  | opPcCal => exact .of <| h.quiet.serve fun h1 => h1.opPcCal
  | opRefCtl => exact .of <| h.quiet.serve fun h1 => h1.opRefCtl
  | opCmpSet => exact .of <| h.quiet.serve fun h1 => h1.opCmpSet
  | opCmpRead => exact .of <| h.quiet.serve fun h1 => h1.opCmpRead
  | opCmpCheck => exact .of <| h.quiet.serve fun h1 => h1.opCmpCheck
  | opCoilRead => exact .of <| h.quiet.serve fun h1 => h1.opCoilRead
  | opFaultList => exact .of <| h.quiet.serve fun h1 => h1.opFaultList
  | opFaultGet => exact .of <| h.quiet.serve fun h1 => h1.opFaultGet
  | opFaultClr => exact .of <| h.quiet.serve fun h1 => h1.opFaultClr
  | opFaultReact => exact .of <| h.quiet.serve fun h1 => h1.opFaultReact
  | opLogInfo => exact .of <| h.quiet.serve fun h1 => h1.opLogInfo
  | opLogRead => exact .of <| h.quiet.serve fun h1 => h1.opLogRead
  | opLogMark => exact .of <| h.quiet.serve fun h1 => h1.opLogMark
  | opOdometer => exact .of <| h.quiet.serve fun h1 => h1.opOdometer
  | opSetRead => exact .of <| h.quiet.serve fun h1 => h1.opSetRead
  | opSetWrite => exact .of <| h.quiet.serve fun h1 => h1.opSetWrite
  | opSetCommit => exact .of <| h.quiet.serve fun h1 => h1.opSetCommit
  | opSetCapture => exact .of <| h.quiet.serve fun h1 => h1.opSetCapture
  | opFwWrite => exact .of <| h.quiet.serve fun h1 => h1.opFwWrite
  | opFwVerify => exact .of <| h.quiet.serve fun h1 => h1.opFwVerify
  | opFwSwitch => exact .of <| h.quiet.serve fun h1 => h1.opFwSwitch
  | opLinkStatus => exact .of <| h.quiet.serve fun h1 => h1.opLinkStatus
  | opEnumerate => exact .of <| h.quiet.serve fun h1 => h1.opEnumerate
  | opWorkerMap => exact .of <| h.quiet.serve fun h1 => h1.opWorkerMap
  | opGroup => exact .of <| h.quiet.serve fun h1 => h1.opGroup
  | opSetOrphan => exact .of <| h.quiet.serve fun h1 => h1.opSetOrphan
  | opSetRelay => exact .of <| h.quiet.serve fun h1 => h1.opSetRelay
  | opWiringCheck => exact .of <| h.quiet.serve fun h1 => h1.opWiringCheck
  | opGdSelftest => exact .of <| h.quiet.serve fun h1 => h1.opGdSelftest
  | opPressProbe => exact .of <| h.quiet.serve fun h1 => h1.opPressProbe
  | opDarnRead => exact .of <| h.quiet.serve fun h1 => h1.opDarnRead
  | opRegRead => exact .of <| h.quiet.serve fun h1 => h1.opRegRead
  | opRegWrite => exact .of <| h.quiet.serve fun h1 => h1.opRegWrite
  | faultRaise => exact .of h.quiet.faultRaise
  | fcClr => exact .of <| h.access fun h1 => h1.fcClr
  | fcAck => exact .of <| h.access fun h1 => h1.fcAck
  | fcSwset => exact .of <| h.access fun h1 => h1.swset
  | collectorFault => exact .of h.quiet.enterFcSafe
  | rxSyncGain => exact .of h.quiet.syncGain
  | portUp => exact .of h.quiet.portRises
  | portDown => exact .of h.quiet.portFalls
  | hemBackEnd => exact .of h.quiet.turnEnds
  | requestFrame => exact .of <| (h.quiet.frameIn fun h1 => h1.takeRequest).fwStep
  | responseFrame => exact .of <| (h.quiet.frameIn fun h1 => h1.takeResponse).fwStep
  | eventFrame => exact .of <| (h.quiet.frameIn fun h1 => h1.takeEvent).fwStep
  | bufferedFrameSend => exact .of h.quiet.sendStored
  | stitchSend => exact .of h.quiet.stitchSend
  | stitchHalt => exact .of <| (h.quiet.stitchIn fun h1 => h1.haltAxes.haltLong).fwStep
  | stitchObstRel => exact .of <| (h.quiet.stitchIn fun h1 => h1.obstRel).fwStep
  | stitchSafeStop => exact .of <| (h.quiet.stitchIn fun h1 => (wf_ite h1.safeStop h1).haltLong).fwStep
  | stitchPing => exact .of <| (h.quiet.stitchIn fun h1 => h1).fwStep
  | syncSend => exact .of h.quiet.syncSend
  | syncFrame => exact .of h.quiet.syncArrives
  | syncLoss => exact .of h.quiet.syncLoss
  | enum => exact .of h.quiet.enumArrives
  | enumrsp => exact .ite (.of h.quiet) (.of h.quiet.relayUp.enumrsp.fwStep)
  | enumTimeout => exact .of <| wf_ite h.quiet.enumTimeout.fwStep h.quiet
  | assign =>
    exact .ite (.of h.quiet) <| .of <|
      have h1 := h.quiet.heardManager
      wf_ite h1.assigned h1.passOn
  | dreq => exact .of h.quiet.dreq
  | groupFrame =>
    exact .ite (.of h.quiet) <| .of <|
      have h1 := h.quiet.heardManager
      (wf_ite h1 h1.passOn).groupSet
  | joinSend => exact .of <| wf_ite h.quiet h.quiet.sendJoin
  | join =>
    exact .ite (.of h.quiet) <| .of <|
      have h1 := h.quiet.relayUp
      wf_ite h1.joined.fwStep h1
  | refuse =>
    exact .ite (.of h.quiet) <| .of <|
      have h1 := h.quiet.heardManager
      wf_ite h1.refusedBy h1.passOn
  | aliveSend => exact .of <| wf_ite h.quiet.sendUp h.quiet
  | alive => exact .of <| h.quiet.noticeIn fun h1 => h1.of_stores
  | break_ => exact .of <| h.quiet.noticeIn fun h1 => h1.broken
  | repair => exact .of <| h.quiet.noticeIn fun h1 => h1.repaired
  | workerDepart => exact .of <| wf_ite h.quiet.depart.fwStep h.quiet
  | orphanTimeout => exact .of h.quiet.orphaned
  | lholdSet => exact .of <| h.access fun h1 => h1.splCoreWrite
  | lholdClear => exact .of <| h.access fun h1 => h1.splCoreWrite.fwStep
  | handoverImageLoad => exact .of h.quiet.handoverLoad
  | logFlushTimeout => exact .of <| wf_ite h.quiet.logFlush h.quiet
  | wjAddrWrite => exact .of <| h.access fun h1 => h1.wjAddr
  | wjReadComplete => exact .of h.quiet.wjReadEnd
  | wjWrite => exact .of <| h.access fun h1 => h1.wjCtl
  | wjWriteComplete => exact .of h.quiet.wjWriteEnd
  | mspPush => exact .of <| h.access fun h1 => h1.mspPush
  | mspEntryStart => exact .of h.quiet.mspStart
  | mspEntryComplete => exact .of h.quiet.mspEnd
  | mspRxdRead => exact .of <| h.accessRead fun h1 => h1.mspRead.answer
  | rel => exact .of <| h.access fun h1 => h1.mspCtlWrite
  | flush => exact .of <| h.access fun h1 => h1.mspCtlWrite
  | mspDisable => exact .of <| h.access fun h1 => h1.mspDisable.mend
  | conMinPeriodEnd => exact .of <| wf_ite h.quiet.startPeriod h.quiet.onBr
  | drsp => exact .of h.quiet.drsp
  | enumReturn => exact .of <| wf_ite h.quiet.enumReturn.fwStep h.quiet
  | linkCoreRestart => exact .of h.quiet.linkStart.fwStep

/-- Settles O60: a step is a command of the queue or the idle step, and each of them keeps the stores canonical. -/
theorem everyStepKeepsTheCanonicalForm : Obligations.EveryStepKeepsTheCanonicalForm := by
  unfold Obligations.EveryStepKeepsTheCanonicalForm
  intro s t h hstep
  unfold step at hstep
  split at hstep
  case h_1 => exact NextWf.of h.idle t hstep
  case h_2 c rest _ =>
    have hrest : ({ s with pending := rest } : State).Wf := h.of_stores
    exact exec_wf c hrest t hstep

end Sys2Proof.Machine
end

section
/-! PROOFS. The idle step during a chip reset. -/

namespace Sys2Proof.Machine

/-- A device in chip reset with 2 ns of a presence period left, and no command waiting. -/
def resetWithPresence : State :=
  { State.reset with
    sys := { State.reset.sys with chipReset := true }
    spool := { State.reset.spool with presLeft := 2 } }

/-- The presence timer runs on during a chip reset (R79, R389): of the 2 ns the SYS cycle leaves the least count that has not expired. -/
theorem idle_resetWithPresence : (idle resetWithPresence).spool.presLeft = 1 := rfl

/-- Refutes O2: during a chip reset an idle step does change the state, for the presence timer of the AON domain runs on. -/
theorem not_idleStepPassesOneCycle : ¬ Obligations.IdleStepPassesOneCycle := by
  unfold Obligations.IdleStepPassesOneCycle
  intro h
  obtain ⟨hstill, _⟩ := h resetWithPresence rfl
  have hidle : idle resetWithPresence = resetWithPresence := Host.Outcome.next.inj (hstill (.inl rfl))
  have hleft : (idle resetWithPresence).spool.presLeft = 2 := congrArg (·.spool.presLeft) hidle
  rw [idle_resetWithPresence] at hleft
  exact absurd hleft (by decide)

end Sys2Proof.Machine
end

section
/-! PROOFS. Level sources whose reaction resets nothing: the condition bit follows, and nothing else than the collector changes. -/

namespace Sys2Proof.Machine

variable {s : State} {src : Nat} {d : Word} {b : Bool}

theorem raiseLevel_only (hp : Plain s src d) : OnlyCollector s (s.raiseLevel src d) := by
  cases ha : s.present src with
  | true => rw [raiseLevel_present d ha]; exact .refl s
  | false =>
    rw [raiseLevel_absent d ha]
    have hp' : Plain ({ s with fcPresent := bvPut s.fcPresent src true } : State) src d := hp
    exact OnlyCollector.trans (t := { s with fcPresent := bvPut s.fcPresent src true }) rfl (raise_only hp').collector

theorem present_raiseLevel (hp : Plain s src d) (h : src < 126) : (s.raiseLevel src d).present src = true := by
  cases ha : s.present src with
  | true => rw [raiseLevel_present d ha, ha]
  | false => exact (raiseLevel_spec ha hp h).2.1

/-- A level source with a reaction that resets nothing changes the collector alone. -/
theorem level_only (hp : Plain s src d) : OnlyCollector s (s.level src b d) := by
  cases b with
  | true => exact raiseLevel_only hp
  | false => exact drop_only s src

/-- A level source is present exactly while its condition stands (R333). -/
theorem present_level (hp : Plain s src d) (h : src < 126) : (s.level src b d).present src = b := by
  cases b with
  | true => exact present_raiseLevel hp h
  | false => exact present_drop s src (by omega)

theorem OnlyCollector.me {t : State} (h : OnlyCollector s t) (ax : Axis) : t.me ax = s.me ax := by
  unfold State.me; rw [h]

theorem OnlyCollector.mot {t : State} (h : OnlyCollector s t) : t.mot = s.mot := by rw [h]

end Sys2Proof.Machine
end

section
/-! PROOFS. SYS_AXCLAIM: the close of the handover window, and the claims of the EXEC core. -/

namespace Sys2Proof.Machine

variable {s : State}

/-- A fold over every index keeps what each of its steps keeps. -/
theorem forAll_keeps {n : Nat} {f : State → Fin n → State} {P : State → Prop} (h : P s) (hf : ∀ t i, P t → P (f t i)) :
    P (forAll n s f) :=
  List.foldlRecOn _ _ h fun t ht i _ => hf t i ht

/-- A fold over every index reaches what its step at one index brings about and its other steps keep. -/
theorem forAll_reaches {n : Nat} {f : State → Fin n → State} {P : State → Prop} (i : Fin n) (hi : ∀ t, P (f t i))
    (hf : ∀ t j, P t → P (f t j)) : P (forAll n s f) := by
  obtain ⟨before, after, hl⟩ := List.append_of_mem (List.mem_finRange i)
  rw [forAll, hl, List.foldl_append, List.foldl_cons]
  exact List.foldlRecOn _ _ (hi _) fun t ht j _ => hf t j ht

/-- Whether a raise is plain stands while the registers outside pages 0x01 and 0x61 change nothing of the collector. -/
theorem plain_of_get {t : State} {src : Nat} {d : Word} (hs : src < 126) (hc : t.sys.chipReset = s.sys.chipReset)
    (hf : t.fcSafe = s.fcSafe) (hg : ∀ k, k ≠ R.SYS_AXCLAIM → k ≠ R.SPL_BOOT → t.get k = s.get k) (h : Plain s src d) :
    Plain t src d := by
  refine plain_congr hc hf (hg _ (by decide) (by decide)) (hg _ ?_ ?_) h <;>
    simp only [R.FC_SRC, R.SYS_AXCLAIM, R.SPL_BOOT, regKey] <;> omega

/-- What the close of the window does with one axis whose claim bit is 0 (R33). -/
def markUnclaimed (claim : Nat) (s : State) (ax : Axis) : State :=
  if claim.testBit ax then s
  else (s.setBit R.SYS_AXCLAIM (8 + ax) true).onMot ax fun m =>
    { m with evWin := true, gate := if m.gate = .free then .relevel else m.gate }

theorem windowClose_of_hover (h : s.bit R.SYS_AXCLAIM 16 = true) :
    s.windowClose = (forAll 8 ((s.setBit R.SYS_AXCLAIM 16 false).setBit R.SPL_BOOT 31 false)
      (markUnclaimed (s.fld R.SYS_AXCLAIM 7 0))).settleClaim := by
  unfold State.windowClose
  rw [h]
  rfl

section
variable {claim : Nat} {ax : Axis}

theorem markUnclaimed_of_claimed (h : claim.testBit ax = true) : markUnclaimed claim s ax = s := by
  simp [markUnclaimed, h]

theorem bit_markUnclaimed (k i : Nat) :
    (markUnclaimed claim s ax).bit k i = (s.bit k i || (decide (k = R.SYS_AXCLAIM ∧ i = 8 + ax) && !claim.testBit ax)) := by
  cases h : claim.testBit ax with
  | true => simp [markUnclaimed_of_claimed h]
  | false =>
    have hbit : (markUnclaimed claim s ax).bit k i = (s.setBit R.SYS_AXCLAIM (8 + ax) true).bit k i := by
      simp [markUnclaimed, h, State.bit]
    rw [hbit, State.bit_setBit _ _ _ _ _ _ (by omega)]
    split <;> simp [*]

theorem get_markUnclaimed {k : Nat} (hk : k ≠ R.SYS_AXCLAIM) : (markUnclaimed claim s ax).get k = s.get k := by
  unfold markUnclaimed
  split
  · rfl
  · rw [State.get_onMot, State.get_setBit, if_neg hk]

theorem evWin_markUnclaimed (h : claim.testBit ax = false) : ((markUnclaimed claim s ax).me ax).evWin = true := by
  simp [markUnclaimed, h]

theorem evWin_markUnclaimed_mono {ax' : Axis} (h : (s.me ax').evWin = true) :
    ((markUnclaimed claim s ax).me ax').evWin = true := by
  unfold markUnclaimed
  split
  · exact h
  · rw [State.me_onMot]
    split
    · rfl
    · exact h

theorem me_markUnclaimed_of_claimed {ax' : Axis} (h : claim.testBit ax' = true) : (markUnclaimed claim s ax).me ax' = s.me ax' := by
  by_cases he : ax = ax'
  · rw [he, markUnclaimed_of_claimed h]
  · unfold markUnclaimed
    split
    · rfl
    · rw [State.me_onMot, if_neg (Ne.symm he)]
      rfl

theorem markUnclaimed_sys : (markUnclaimed claim s ax).sys = s.sys := by unfold markUnclaimed; split <;> rfl

theorem markUnclaimed_fcSafe : (markUnclaimed claim s ax).fcSafe = s.fcSafe := by unfold markUnclaimed; split <;> rfl

end

/-- A field of a register whose bits stand, stands. -/
theorem State.fld_congr_bit {t : State} {k hi lo : Nat} (h : ∀ i, lo ≤ i → i ≤ hi → t.bit k i = s.bit k i) :
    t.fld k hi lo = s.fld k hi lo := by
  apply Nat.eq_of_testBit_eq
  intro i
  rw [State.testBit_fld, State.testBit_fld]
  by_cases hi' : i < hi + 1 - lo
  · rw [h (lo + i) (by omega) (by omega)]
  · simp [hi']

/-- CLAIM_TIMEOUT follows the UNCL bits, and nothing but the collector changes. -/
theorem settleClaim_spec (hp : ∀ d, Plain s 5 d) :
    OnlyCollector s s.settleClaim ∧ s.settleClaim.present 5 = decide (s.settleClaim.fld R.SYS_AXCLAIM 15 8 ≠ 0) := by
  have honly : OnlyCollector s s.settleClaim := level_only (hp _)
  refine ⟨honly, ?_⟩
  rw [honly.fld]
  exact present_level (hp _) (by decide)

/-- HANDOVER_WINDOW_CLOSE while HOVER is 1 (R33). -/
theorem windowClose_spec (hp : ∀ d, Plain s 5 d) (hover : s.bit R.SYS_AXCLAIM 16 = true) :
    s.windowClose.bit R.SYS_AXCLAIM 16 = false
    ∧ s.windowClose.fld R.SYS_AXCLAIM 7 0 = s.fld R.SYS_AXCLAIM 7 0
    ∧ (∀ ax : Axis, s.bit R.SYS_AXCLAIM ax = false →
        s.windowClose.bit R.SYS_AXCLAIM (8 + ax) = true ∧ (s.windowClose.me ax).evWin = true)
    ∧ (∀ ax : Axis, s.bit R.SYS_AXCLAIM ax = true →
        s.windowClose.bit R.SYS_AXCLAIM (8 + ax) = s.bit R.SYS_AXCLAIM (8 + ax) ∧ s.windowClose.me ax = s.me ax)
    ∧ s.windowClose.present 5 = decide (s.windowClose.fld R.SYS_AXCLAIM 15 8 ≠ 0)
    ∧ ∀ k, k ≠ R.SYS_AXCLAIM → k ≠ R.SPL_BOOT → s.windowClose.get k = s.get k := by
  rw [windowClose_of_hover hover]
  set claim := s.fld R.SYS_AXCLAIM 7 0 with hclaim
  set u := (s.setBit R.SYS_AXCLAIM 16 false).setBit R.SPL_BOOT 31 false with hu
  set t := forAll 8 u (markUnclaimed claim) with ht
  have hbitu (i : Nat) : u.bit R.SYS_AXCLAIM i = if i = 16 then false else s.bit R.SYS_AXCLAIM i := by
    rw [hu, State.bit_setBit _ _ _ _ _ _ (by decide), State.bit_setBit _ _ _ _ _ _ (by decide)]
    simp [show R.SYS_AXCLAIM ≠ R.SPL_BOOT by decide]
  have hclaimed (ax : Axis) : claim.testBit ax = s.bit R.SYS_AXCLAIM ax := by
    rw [hclaim, State.testBit_fld]; simp
  have hkeep (i : Nat) (hi : ∀ ax : Axis, i ≠ 8 + ax) : t.bit R.SYS_AXCLAIM i = u.bit R.SYS_AXCLAIM i :=
    forAll_keeps (P := fun t => t.bit R.SYS_AXCLAIM i = u.bit R.SYS_AXCLAIM i) rfl fun t ax h => by
      rw [bit_markUnclaimed, h]; simp [hi ax]
  have hget : ∀ k, k ≠ R.SYS_AXCLAIM → k ≠ R.SPL_BOOT → t.get k = s.get k := fun k h1 h2 =>
    forAll_keeps (P := fun t => t.get k = s.get k) (by rw [hu, State.get_setBit, if_neg h2, State.get_setBit, if_neg h1])
      fun t ax h => by rw [get_markUnclaimed h1, h]
  have hsys : t.sys = s.sys := forAll_keeps (P := fun t => t.sys = s.sys) rfl fun t ax h => by rw [markUnclaimed_sys, h]
  have hsafe : t.fcSafe = s.fcSafe :=
    forAll_keeps (P := fun t => t.fcSafe = s.fcSafe) rfl fun t ax h => by rw [markUnclaimed_fcSafe, h]
  have hplain (d : Word) : Plain t 5 d := plain_of_get (by decide) (by rw [hsys]) hsafe hget (hp d)
  obtain ⟨honly, hpresent⟩ := settleClaim_spec hplain
  refine ⟨?_, ?_, fun ax hax => ?_, fun ax hax => ?_, hpresent, fun k h1 h2 => by rw [honly.get, hget k h1 h2]⟩
  · rw [honly.bit, hkeep 16 (by omega), hbitu, if_pos rfl]
  · rw [honly.fld]
    exact State.fld_congr_bit fun i _ hi => by rw [hkeep i (by omega), hbitu, if_neg (by omega)]
  · rw [honly.bit, honly.me]
    rw [← hclaimed] at hax
    exact forAll_reaches (P := fun t => t.bit R.SYS_AXCLAIM (8 + ax) = true ∧ (t.me ax).evWin = true) ax
      (fun t => ⟨by rw [bit_markUnclaimed]; simp [hax], evWin_markUnclaimed hax⟩)
      fun t j h => ⟨by rw [bit_markUnclaimed, h.1]; rfl, evWin_markUnclaimed_mono h.2⟩
  · rw [honly.bit, honly.me]
    rw [← hclaimed] at hax
    refine forAll_keeps (P := fun t => t.bit R.SYS_AXCLAIM (8 + ax) = s.bit R.SYS_AXCLAIM (8 + ax) ∧ t.me ax = s.me ax)
      ⟨by rw [hbitu, if_neg (by omega)], rfl⟩ fun t j h => ⟨?_, by rw [me_markUnclaimed_of_claimed hax, h.2]⟩
    rw [bit_markUnclaimed, h.1]
    by_cases hj : ax = j
    · simp [← hj, hax]
    · simp [Fin.val_ne_of_ne hj]

/-- SYS_AXCLAIM once EXEC has claimed the axes of a word: CLAIM takes its bits, UNCL loses them (R33). -/
def claimed (s : State) (w : Word) : State :=
  (s.setFld R.SYS_AXCLAIM 7 0 (s.fld R.SYS_AXCLAIM 7 0 ||| fldOf w 7 0)).setFld R.SYS_AXCLAIM 15 8
    (s.fld R.SYS_AXCLAIM 15 8 &&& (255 - fldOf w 7 0))

theorem claimWrite_exec (w : Word) : ∃ u : State, s.claimWrite .exec w = u.settleClaim ∧ u.sys = s.sys ∧ u.fcSafe = s.fcSafe ∧ u.mot = s.mot
    ∧ ∀ k, k ≠ R.SPL_BOOT → u.get k = (claimed s w).get k := by
  by_cases hall : (claimed s w).fld R.SYS_AXCLAIM 7 0 = 255
  · refine ⟨(claimed s w).setBit R.SPL_BOOT 31 false, ?_, rfl, rfl, rfl, fun k hk => by rw [State.get_setBit, if_neg hk]⟩
    exact congrArg State.settleClaim (if_pos hall)
  · exact ⟨claimed s w, congrArg State.settleClaim (if_neg hall), rfl, rfl, rfl, fun _ _ => rfl⟩

theorem get_claimed {w : Word} {k : Nat} (hk : k ≠ R.SYS_AXCLAIM) : (claimed s w).get k = s.get k := by
  rw [claimed, State.get_setFld, if_neg hk, State.get_setFld, if_neg hk]

theorem bit_claimed_claim (w : Word) {i : Nat} (hi : i < 8) :
    (claimed s w).bit R.SYS_AXCLAIM i = (s.bit R.SYS_AXCLAIM i || bitOf w i) := by
  rw [claimed, State.bit_setFld _ _ _ _ _ _ _ (by decide) (by decide), if_neg (by omega),
    State.bit_setFld _ _ _ _ _ _ _ (by decide) (by decide), if_pos ⟨rfl, by omega⟩, Nat.testBit_lor, State.testBit_fld, testBit_fldOf]
  simp [hi]

theorem bit_claimed_uncl (w : Word) {i : Nat} (hi : i < 8) :
    (claimed s w).bit R.SYS_AXCLAIM (8 + i) = (s.bit R.SYS_AXCLAIM (8 + i) && !bitOf w i) := by
  have hmask : (255 - fldOf w 7 0).testBit i = !bitOf w i := by
    have h := Nat.testBit_two_pow_sub_succ (n := 8) (fldOf_lt w 7 0) i
    rw [testBit_fldOf, Nat.add_comm, ← Nat.sub_sub] at h
    simpa [hi] using h
  rw [claimed, State.bit_setFld _ _ _ _ _ _ _ (by decide) (by decide), if_pos ⟨rfl, by omega⟩, Nat.testBit_land, State.testBit_fld,
    Nat.add_sub_cancel_left, hmask]
  simp [hi]

/-- AXIS_CLAIM by EXEC (R33, R34). -/
theorem claimWrite_spec (hp : ∀ d, Plain s 5 d) (w : Word) :
    (∀ i < 8, (s.claimWrite .exec w).bit R.SYS_AXCLAIM i = (s.bit R.SYS_AXCLAIM i || bitOf w i))
    ∧ (∀ i < 8, (s.claimWrite .exec w).bit R.SYS_AXCLAIM (8 + i) = (s.bit R.SYS_AXCLAIM (8 + i) && !bitOf w i))
    ∧ (s.claimWrite .exec w).present 5 = decide ((s.claimWrite .exec w).fld R.SYS_AXCLAIM 15 8 ≠ 0)
    ∧ (s.claimWrite .exec w).mot = s.mot
    ∧ ∀ k, k ≠ R.SYS_AXCLAIM → k ≠ R.SPL_BOOT → (s.claimWrite .exec w).get k = s.get k := by
  obtain ⟨u, heq, hsys, hsafe, hmot, hget⟩ := claimWrite_exec (s := s) w
  rw [heq]
  have hframe : ∀ k, k ≠ R.SYS_AXCLAIM → k ≠ R.SPL_BOOT → u.get k = s.get k := fun k h1 h2 => by rw [hget k h2, get_claimed h1]
  have hplain (d : Word) : Plain u 5 d := plain_of_get (by decide) (by rw [hsys]) hsafe hframe (hp d)
  have hbit (i : Nat) : u.bit R.SYS_AXCLAIM i = (claimed s w).bit R.SYS_AXCLAIM i := by
    rw [State.bit, hget _ (by decide)]; rfl
  obtain ⟨honly, hpresent⟩ := settleClaim_spec hplain
  refine ⟨fun i hi => ?_, fun i hi => ?_, hpresent, by rw [honly.mot, hmot], fun k h1 h2 => by rw [honly.get, hframe k h1 h2]⟩
  · rw [honly.bit, hbit, bit_claimed_claim w hi]
  · rw [honly.bit, hbit, bit_claimed_uncl w hi]

/-- Settles O9: the close of the window and the claim change SYS_AXCLAIM, and then CLAIM_TIMEOUT follows its UNCL bits. -/
theorem handoverWindowAndClaims : Obligations.HandoverWindowAndClaims := by
  unfold Obligations.HandoverWindowAndClaims
  intro s hp
  refine ⟨fun hover => ⟨s.quiet.windowClose, rfl, windowClose_spec (s := s.quiet) hp hover⟩, fun w hopen => ?_⟩
  exact ⟨s.quiet.claimWrite .exec w, congrArg _ (access_of_opens _ hopen), claimWrite_spec (s := s.quiet) hp w⟩

end Sys2Proof.Machine
end

section
/-! PROOFS. Ignored writes, SYS_TIME written, and the timer's alarms. -/

namespace Sys2Proof.Machine

variable {s : State} {src : Nat} {d : Word} {m : Master}

theorem plain_opened (h : Plain s src d) : Plain (s.opened m) src d :=
  plain_congr (by simp) (by cases m <;> rfl) (by simp) (by simp) h

/-- An ignored write raises WRITE_IGNORED, and changes nothing but the records and the port's one-word frame. -/
theorem writeIgnored_opened {k : Nat} (hp : Plain s 2 (accessDetail m k)) :
    RaisedIn s ((s.opened m).writeIgnored m k) 2 (accessDetail m k) ∧ OnlyRecords (s.opened m) ((s.opened m).writeIgnored m k) :=
  ⟨raisedIn_congr (opened_fc s m) (by simp) (raise_raised (plain_opened hp) (by decide)), raise_only (plain_opened hp)⟩

theorem OnlyRecords.sys_time {t : State} (h : OnlyRecords s t) : t.sys.time = s.sys.time := by rw [h]

theorem OnlyRecords.sys_tickDue {t : State} (h : OnlyRecords s t) : t.sys.tickDue = s.sys.tickDue := by rw [h]

/-- The first multiple of 25,000 at or above a time (R9). -/
theorem nextTickAt_spec (t : Nat) : nextTickAt t % 25000 = 0 ∧ t ≤ nextTickAt t ∧ nextTickAt t < t + 25000 := by
  unfold nextTickAt; omega

theorem ofHiLoU_lt (hi lo : Word) : ofHiLoU hi lo < 2 ^ 64 := by
  have hhi := hi.isLt
  have hlo := lo.isLt
  unfold ofHiLoU; omega

theorem timeWrite_of_core (hi lo : Word) (hm : m = .exec ∨ m = .link) :
    s.timeWrite m hi lo = (s.unstage R.TIM_TIME).setTime (ofHiLoU hi lo) := if_pos hm

theorem timeWrite_of_other (hi lo : Word) (h1 : m ≠ .exec) (h2 : m ≠ .link) :
    s.timeWrite m hi lo = s.writeIgnored m R.TIM_TIME := if_neg (by simp [h1, h2])

/-- The bit of SYS_PWRSTAT that tells that a core is gated. -/
def gatedBit : GatedCore → Nat
  | .exec => 8
  | .link => 9

/-- Ungating a core clears its bit of SYS_PWRSTAT, and beside it at most the power state. -/
theorem ungate_spec (core : GatedCore) :
    (s.ungate core).bit R.SYS_PWRSTAT (gatedBit core) = false
    ∧ (∀ i, 2 ≤ i → i ≠ gatedBit core → (s.ungate core).bit R.SYS_PWRSTAT i = s.bit R.SYS_PWRSTAT i)
    ∧ ∀ k, k ≠ R.SYS_PWRSTAT → (s.ungate core).get k = s.get k := by
  have hno : gatedBit core < 32 ∧ 2 ≤ gatedBit core := by cases core <;> decide
  obtain ⟨hlt, hge⟩ := hno
  set u := s.setBit R.SYS_PWRSTAT (gatedBit core) false with hu
  have hdef : s.ungate core = u ∨ s.ungate core = u.setFld R.SYS_PWRSTAT 1 0 0 := by
    cases core <;> exact (ite_eq_or_eq ..).symm
  have hbit (i : Nat) (hi : 2 ≤ i) : (s.ungate core).bit R.SYS_PWRSTAT i = u.bit R.SYS_PWRSTAT i := by
    rcases hdef with h | h <;> rw [h]
    rw [State.bit_setFld _ _ _ _ _ _ _ (by decide) (by decide), if_neg (by omega)]
  have hget (k : Nat) (hk : k ≠ R.SYS_PWRSTAT) : (s.ungate core).get k = u.get k := by
    rcases hdef with h | h <;> rw [h]
    rw [State.get_setFld, if_neg hk]
  refine ⟨?_, fun i hi hne => ?_, fun k hk => ?_⟩
  · rw [hbit _ hge, hu, State.bit_setBit _ _ _ _ _ _ hlt, if_pos ⟨rfl, rfl⟩]
  · rw [hbit _ hi, hu, State.bit_setBit _ _ _ _ _ _ hlt, if_neg (by simp [hne])]
  · rw [hget k hk, hu, State.get_setBit, if_neg hk]

theorem exec_timTimeWrite (hi lo : Word) (h : s.opens m (R.TIM_TIME / 128) = true) :
    exec (.timTimeWrite m hi lo) s = .next ((s.opened m).timeWrite m hi lo) := congrArg _ (access_of_opens _ h)

theorem exec_timerAlarm_of_due {a : Fin 2} (h : s.alarm a = true) :
    exec (.timerAlarm a) s = .next (s.quiet.ungate (if a.val = 0 then .exec else .link)) := congrArg _ (if_pos h)

/-- Settles O12: a core's write sets the time and the next tick, another master's is ignored, and a due alarm ungates its core. -/
theorem timeIsWrittenAndAlarmsUngate : Obligations.TimeIsWrittenAndAlarmsUngate := by
  unfold Obligations.TimeIsWrittenAndAlarmsUngate
  refine fun s => ⟨fun m hi lo hopen hm => ?_, fun m hi lo hopen h1 h2 hp => ?_, fun a hen ha hdue => ?_⟩
  · refine ⟨_, exec_timTimeWrite hi lo hopen, ?_⟩
    rw [timeWrite_of_core hi lo hm]
    obtain ⟨hmul, hle, hlt⟩ := nextTickAt_spec (ofHiLoU hi lo % 2 ^ 64 / 5 * 5)
    have htime : ofHiLoU hi lo % 2 ^ 64 = ofHiLoU hi lo := Nat.mod_eq_of_lt (ofHiLoU_lt hi lo)
    exact ⟨congrArg (· / 5 * 5) htime, rfl, hmul, hle, hlt, opened_regs s m, opened_mot s m, opened_fc s m⟩
  · refine ⟨_, exec_timTimeWrite hi lo hopen, ?_⟩
    rw [timeWrite_of_other hi lo h1 h2]
    obtain ⟨hraised, honly⟩ := writeIgnored_opened (m := m) (hp (accessDetail m R.TIM_TIME))
    exact ⟨hraised, by rw [honly.sys_time, opened_sys], by rw [honly.sys_tickDue, opened_sys], by rw [honly.regs, opened_regs]⟩
  · have halarm : s.alarm a = true := by
      simp only [State.alarm, hen, ha, Bool.true_and, decide_eq_true_eq]
      exact hdue
    refine ⟨_, exec_timerAlarm_of_due halarm, ?_⟩
    clear hen ha hdue halarm
    obtain rfl | rfl : a = 0 ∨ a = 1 := by omega
    · obtain ⟨hbit, hother, hget⟩ := ungate_spec (s := s.quiet) .exec
      exact ⟨hbit, hother 9 (by decide) (by decide), hget⟩
    · obtain ⟨hbit, hother, hget⟩ := ungate_spec (s := s.quiet) .link
      exact ⟨hbit, hother 8 (by decide) (by decide), hget⟩

end Sys2Proof.Machine
end

section
/-! PROOFS. The clock monitors, and the sources of the clocks that follow them. -/

namespace Sys2Proof.Machine

variable {s : State}

/-! ### The sources of the clocks -/

/-- The sources of the clocks while the crystal and both RC oscillators stand: CLK_PLLA and CLK_PLLB alone may be present. -/
def pllSources (a b : Bool) : List (Nat × Bool) := [(11, false), (12, false), (13, false), (14, a), (15, b)]

/-- The state with the condition bits of these sources. -/
def withSources (s : State) (lv : List (Nat × Bool)) : State :=
  lv.foldl (fun s e => { s with fcPresent := bvPut s.fcPresent e.1 e.2 }) s

theorem withSources_only (lv : List (Nat × Bool)) : OnlyCollector s (withSources s lv) :=
  List.foldlRecOn lv _ (.refl s) fun _ h _ _ => h.trans rfl

theorem raises_nil : s.raises [] = s := by
  unfold State.raises
  split <;> rfl

/-- With no PLL source present before, exactly those whose condition stands are raised. -/
theorem settleClocks_of_pllSources {a b : Bool} (h : clockSources s.sys.monFail s.sys.pllLost = pllSources a b)
    (h14 : s.present 14 = false) (h15 : s.present 15 = false) :
    s.settleClocks = (withSources s (pllSources a b)).raises
      (((if a then [14] else []) ++ if b then [15] else []).map fun n => (n, s.get R.CLK_STAT)) := by
  have hxtal : ((pllSources a b).any fun e => e.1 = 11 && e.2) = false := by simp [pllSources]
  have hnews : ((pllSources a b).filter fun e => e.2 && !s.present e.1).map (·.1)
      = (if a then [14] else []) ++ if b then [15] else [] := by
    cases a <;> cases b <;> simp [pllSources, h14, h15]
  have hrc : ∀ n, n = 12 ∨ n = 13 → (((if a then [14] else []) ++ if b then [15] else []).any (· = n)) = false := by
    rintro n (rfl | rfl) <;> cases a <;> cases b <;> rfl
  unfold State.settleClocks
  simp only [h, hxtal, hnews, hrc 12 (.inl rfl), hrc 13 (.inr rfl), Bool.false_eq_true, if_false, Bool.or_self]
  rfl

theorem present_withSources {a b : Bool} :
    (withSources s (pllSources a b)).present 14 = a ∧ (withSources s (pllSources a b)).present 15 = b := by
  simp only [withSources, pllSources, List.foldl, State.present, getLsbD_bvPut _ _ _ _ (show 11 < 128 by decide),
    getLsbD_bvPut _ _ _ _ (show 12 < 128 by decide), getLsbD_bvPut _ _ _ _ (show 13 < 128 by decide),
    getLsbD_bvPut _ _ _ _ (show 14 < 128 by decide), getLsbD_bvPut _ _ _ _ (show 15 < 128 by decide)]
  simp

/-- With no failing monitor and no lost lock nothing is raised. -/
theorem settleClocks_of_good (hfail : s.sys.monFail = 0#6) (hlost : s.sys.pllLost = 0#2) (h14 : s.present 14 = false)
    (h15 : s.present 15 = false) : s.settleClocks = withSources s (pllSources false false) := by
  have h : clockSources s.sys.monFail s.sys.pllLost = pllSources false false := by rw [hfail, hlost]; decide
  rw [settleClocks_of_pllSources h h14 h15]
  exact raises_nil

/-- The source of the one PLL that has failed is raised, and nothing but the collector changes. -/
theorem settleClocks_raises {a : Bool} (h : clockSources s.sys.monFail s.sys.pllLost = pllSources a !a)
    (h14 : s.present 14 = false) (h15 : s.present 15 = false) (hp : ∀ d, Plain s (if a then 14 else 15) d) :
    RaisedIn s s.settleClocks (if a then 14 else 15) (s.get R.CLK_STAT) ∧ s.settleClocks.present (if a then 14 else 15) = true
    ∧ OnlyCollector s s.settleClocks := by
  have hraise : s.settleClocks = (withSources s (pllSources a !a)).raise (if a then 14 else 15) (s.get R.CLK_STAT) := by
    rw [settleClocks_of_pllSources h h14 h15]
    cases a <;> rfl
  have hplain (d : Word) : Plain (withSources s (pllSources a !a)) (if a then 14 else 15) d := hp d
  have honly := raise_only (hplain (s.get R.CLK_STAT))
  rw [hraise]
  refine ⟨raisedIn_congr rfl rfl (raise_raised (hplain _) (by cases a <;> decide)), ?_, (withSources_only _).trans honly.collector⟩
  rw [State.present, honly]
  obtain ⟨hpa, hpb⟩ := present_withSources (s := s) (a := a) (b := !a)
  cases a
  · exact hpb
  · exact hpa

/-! ### What only the clocks' own state is touched by -/

/-- `t` differs from `s` at most in the registers of page 0x02 and in what the clocks' monitors hold. -/
def OnlyClocks (s t : State) : Prop :=
  t = { s with regs := t.regs, sys := { s.sys with
    monOut := t.sys.monOut, monFail := t.sys.monFail, pllLost := t.sys.pllLost, pllStop := t.sys.pllStop
    xtalStop := t.sys.xtalStop, rcsStop := t.sys.rcsStop, rchStop := t.sys.rchStop } }
  ∧ ∀ k, k / 128 ≠ 0x02 → t.get k = s.get k

theorem OnlyClocks.refl : OnlyClocks s s := ⟨rfl, fun _ _ => rfl⟩

theorem OnlyClocks.trans {t u : State} (h : OnlyClocks s t) (g : OnlyClocks t u) : OnlyClocks s u :=
  ⟨by rw [g.1, h.1], fun k hk => (g.2 k hk).trans (h.2 k hk)⟩

theorem set_onlyClocks {k : Nat} {v : Word} (h : k / 128 = 0x02) : OnlyClocks s (s.set k v) :=
  ⟨rfl, fun _ hj => s.get_set_ne v fun e => hj (e ▸ h)⟩

theorem OnlyClocks.plain {t : State} {src : Nat} {d : Word} (h : OnlyClocks s t) (hs : src < 126) (hp : Plain s src d) :
    Plain t src d :=
  plain_congr (by rw [h.1]) (by rw [h.1]) (h.2 _ (by decide)) (h.2 _ (by unfold R.FC_SRC regKey; omega)) hp

theorem OnlyClocks.present {t : State} (h : OnlyClocks s t) (n : Nat) : t.present n = s.present n := by
  unfold State.present; rw [h.1]

/-- The axes, gates and safety channels stand, and no record has changed. -/
theorem OnlyClocks.stands {t : State} (h : OnlyClocks s t) :
    t.fc = s.fc ∧ t.sys.time = s.sys.time ∧ t.mot = s.mot ∧ t.pwm = s.pwm ∧ t.saf = s.saf := by
  rw [h.1]; exact ⟨rfl, rfl, rfl, rfl, rfl⟩

theorem OnlyCollector.stands {t : State} (h : OnlyCollector s t) : t.mot = s.mot ∧ t.pwm = s.pwm ∧ t.saf = s.saf := by
  rw [h]; exact ⟨rfl, rfl, rfl⟩

/-! ### A window of a monitor -/

/-- A window tells whether its clock runs, and CLK_STAT's bit 0 follows the crystal. -/
theorem clockSeen_cases (s : State) (n : Fin 6) (b : Bool) : ∃ u : State,
    (s.clockSeen n b = u ∨ s.clockSeen n b = u.setBit R.CLK_STAT 0 (!b)) ∧ OnlyClocks s u ∧ u.regs = s.regs
    ∧ u.sys.monOut = s.sys.monOut ∧ u.sys.monFail = s.sys.monFail ∧ u.sys.pllLost = s.sys.pllLost := by
  unfold State.clockSeen
  split <;> exact ⟨_, (ite_eq_or_eq ..).symm, ⟨rfl, fun _ _ => rfl⟩, rfl, rfl, rfl, rfl⟩

theorem clockSeen_onlyClocks {n : Fin 6} {b : Bool} : OnlyClocks s (s.clockSeen n b) := by
  obtain ⟨u, h | h, hu, _⟩ := clockSeen_cases s n b <;> rw [h]
  · exact hu
  · exact hu.trans (set_onlyClocks (by decide))

/-- The monitors' own findings stand while a window only tells that its clock runs. -/
theorem clockSeen_findings {n : Fin 6} {b : Bool} : (s.clockSeen n b).sys.monOut = s.sys.monOut
    ∧ (s.clockSeen n b).sys.monFail = s.sys.monFail ∧ (s.clockSeen n b).sys.pllLost = s.sys.pllLost := by
  obtain ⟨u, h | h, _, _, hout, hfail, hlost⟩ := clockSeen_cases s n b <;> rw [h] <;> exact ⟨hout, hfail, hlost⟩

theorem get_clockSeen {n : Fin 6} {b : Bool} {k : Nat} (hk : k ≠ R.CLK_STAT) : (s.clockSeen n b).get k = s.get k := by
  obtain ⟨u, h | h, _, hregs, _⟩ := clockSeen_cases s n b <;> rw [h]
  · exact State.get_congr hregs k
  · rw [State.get_setBit, if_neg hk, State.get_congr hregs]

theorem bit_clockSeen {n : Fin 6} {b : Bool} {i : Nat} (hi : i ≠ 0) :
    (s.clockSeen n b).bit R.CLK_STAT i = s.bit R.CLK_STAT i := by
  obtain ⟨u, h | h, _, hregs, _⟩ := clockSeen_cases s n b <;> rw [h]
  · rw [State.bit, State.get_congr hregs]; rfl
  · rw [State.bit_setBit _ _ _ _ _ _ (by decide), if_neg (by simp [hi]), State.bit, State.get_congr hregs]; rfl

/-- The state in which a monitor's count is noted, and that its clock runs. -/
def counted (s : State) (n : Fin 6) (count : Nat) : State :=
  (s.set (R.CLK_CNT n) (wordOfNat (count % 65536))).clockSeen n (count = 0)

/-- The state once the monitor has judged its window as well, before the sources follow. -/
def judged (s : State) (n : Fin 6) (inside again : Bool) : State :=
  let s := { s with sys := { s.sys with
    monOut := bvPut s.sys.monOut n (!inside)
    monFail := if inside then bvPut s.sys.monFail n false else if again then bvPut s.sys.monFail n true else s.sys.monFail } }
  if inside then s.setBit R.CLK_STAT (3 + n) true else if again then s.setBit R.CLK_STAT (3 + n) false else s

theorem monWindow_of_absent {n : Fin 6} {count : Nat} (h : s.present 11 = false) :
    s.monWindow n count = (judged (counted s n count) n (decide ((monRange n).1 ≤ count ∧ count ≤ (monRange n).2))
      (s.sys.monOut.getLsbD n)).settleClocks := by
  have hout : (counted s n count).sys.monOut = s.sys.monOut := clockSeen_findings.1
  unfold State.monWindow judged
  rw [if_neg (by simp [h]), ← hout]
  simp only [decide_eq_true_eq]
  rfl

theorem R_CLK_CNT_page (n : Fin 6) : R.CLK_CNT n / 128 = 0x02 ∧ R.CLK_CNT n ≠ R.CLK_STAT := by
  unfold R.CLK_CNT R.CLK_STAT regKey; omega

theorem counted_onlyClocks {n : Fin 6} {count : Nat} : OnlyClocks s (counted s n count) :=
  (set_onlyClocks (R_CLK_CNT_page n).1).trans clockSeen_onlyClocks

theorem counted_spec {n : Fin 6} {count : Nat} : (counted s n count).get (R.CLK_CNT n) = wordOfNat (count % 65536)
    ∧ ∀ i, i ≠ 0 → (counted s n count).bit R.CLK_STAT i = s.bit R.CLK_STAT i := by
  have hne := (R_CLK_CNT_page n).2
  refine ⟨by rw [counted, get_clockSeen hne, State.get_set_same], fun i hi => ?_⟩
  rw [counted, bit_clockSeen hi, State.bit_set, if_neg hne.symm]

theorem counted_findings {n : Fin 6} {count : Nat} : (counted s n count).sys.monFail = s.sys.monFail
    ∧ (counted s n count).sys.pllLost = s.sys.pllLost := clockSeen_findings.2

section
variable {n : Fin 6} {again : Bool}

theorem judged_onlyClocks {inside : Bool} : OnlyClocks s (judged s n inside again) := by
  unfold judged
  split
  · exact OnlyClocks.trans ⟨rfl, fun _ _ => rfl⟩ (set_onlyClocks (by decide))
  · split
    · exact OnlyClocks.trans ⟨rfl, fun _ _ => rfl⟩ (set_onlyClocks (by decide))
    · exact ⟨rfl, fun _ _ => rfl⟩

theorem get_judged {inside : Bool} {k : Nat} (hk : k ≠ R.CLK_STAT) : (judged s n inside again).get k = s.get k := by
  unfold judged
  split
  · rw [State.get_setBit, if_neg hk]; rfl
  · split
    · rw [State.get_setBit, if_neg hk]; rfl
    · rfl

/-- A window within range clears the monitor's failure and sets its bit of CLK_STAT. -/
theorem judged_inside : (judged s n true again).sys.monFail = bvPut s.sys.monFail n false
    ∧ (judged s n true again).bit R.CLK_STAT (3 + n) = true :=
  ⟨rfl, by simp only [judged, if_true]; rw [State.bit_setBit _ _ _ _ _ _ (by omega), if_pos ⟨rfl, rfl⟩]⟩

/-- A first window out of range is noted alone. -/
theorem judged_once : (judged s n false false).sys.monFail = s.sys.monFail ∧ (judged s n false false).regs = s.regs
    ∧ (judged s n false false).sys.monOut.getLsbD n = true :=
  ⟨rfl, rfl, (getLsbD_bvPut _ _ _ _ n.isLt).trans (if_pos rfl)⟩

/-- A second window out of range fails the monitor and clears its bit of CLK_STAT. -/
theorem judged_twice : (judged s n false true).sys.monFail = bvPut s.sys.monFail n true
    ∧ (judged s n false true).bit R.CLK_STAT (3 + n) = false :=
  ⟨rfl, by simp only [judged, Bool.false_eq_true, if_false, if_true]; rw [State.bit_setBit _ _ _ _ _ _ (by omega), if_pos ⟨rfl, rfl⟩]⟩

theorem judged_pllLost {inside : Bool} : (judged s n inside again).sys.pllLost = s.sys.pllLost := by
  cases inside <;> cases again <;> rfl

end

theorem wordOfNat_mod (c : BitVec 16) : wordOfNat (c.toNat % 65536) = wordOfNat c.toNat := by
  rw [Nat.mod_eq_of_lt c.isLt]

theorem monFail_clear : ∀ n : Fin 6, bvPut (0#6) n false = 0#6 := by decide

/-- A window that leaves every monitor sound: its count and what it judged stand, and nothing is raised. -/
theorem monWindow_sound {n : Fin 6} {count : Nat} {inside : Bool}
    (hin : decide ((monRange n).1 ≤ count ∧ count ≤ (monRange n).2) = inside)
    (hfail : (judged (counted s n count) n inside (s.sys.monOut.getLsbD n)).sys.monFail = 0#6) (hlost : s.sys.pllLost = 0#2)
    (hpres : ∀ n, 11 ≤ n → n ≤ 15 → s.present n = false) :
    s.monWindow n count = withSources (judged (counted s n count) n inside (s.sys.monOut.getLsbD n)) (pllSources false false) := by
  have hclocks : OnlyClocks s (judged (counted s n count) n inside (s.sys.monOut.getLsbD n)) :=
    counted_onlyClocks.trans judged_onlyClocks
  rw [monWindow_of_absent (hpres 11 (by decide) (by decide)), hin]
  refine settleClocks_of_good hfail (by rw [judged_pllLost, counted_findings.2, hlost]) ?_ ?_
  · rw [hclocks.present]; exact hpres 14 (by decide) (by decide)
  · rw [hclocks.present]; exact hpres 15 (by decide) (by decide)

/-- A PLL that fails raises its source, and beside the clocks only the collector changes. -/
theorem settleClocks_of_failed {u : State} {a : Bool} (hclocks : OnlyClocks s u)
    (h : clockSources u.sys.monFail u.sys.pllLost = pllSources a !a) (hpres : ∀ n, 11 ≤ n → n ≤ 15 → s.present n = false)
    (hp : ∀ d, Plain s (if a then 14 else 15) d) :
    RaisedIn s u.settleClocks (if a then 14 else 15) (u.get R.CLK_STAT) ∧ u.settleClocks.present (if a then 14 else 15) = true
    ∧ OnlyCollector u u.settleClocks ∧ u.settleClocks.mot = s.mot ∧ u.settleClocks.pwm = s.pwm ∧ u.settleClocks.saf = s.saf := by
  obtain ⟨hfc, htime, hmot, hpwm, hsaf⟩ := hclocks.stands
  obtain ⟨hraised, hpresent, honly⟩ := settleClocks_raises h
    (by rw [hclocks.present]; exact hpres 14 (by decide) (by decide))
    (by rw [hclocks.present]; exact hpres 15 (by decide) (by decide))
    (fun d => hclocks.plain (by cases a <;> decide) (hp d))
  obtain ⟨hmot', hpwm', hsaf'⟩ := honly.stands
  exact ⟨raisedIn_congr hfc htime hraised, hpresent, honly, hmot'.trans hmot, hpwm'.trans hpwm, hsaf'.trans hsaf⟩

theorem OnlyCollector.pllStop {t : State} (h : OnlyCollector s t) : t.sys.pllStop = s.sys.pllStop := by rw [h]

/-- The state in which the loss of a PLL's lock is noted, before the sources follow. -/
def lockLost (s : State) (i : Fin 2) (stopped : Bool) : State :=
  let s := s.setBit R.CLK_STAT (1 + i) false
  { s with sys := { s.sys with pllLost := bvPut s.sys.pllLost i true, pllStop := bvPut s.sys.pllStop i stopped } }

theorem lockLost_onlyClocks {i : Fin 2} {stopped : Bool} : OnlyClocks s (lockLost s i stopped) :=
  (set_onlyClocks (by decide)).trans ⟨rfl, fun _ _ => rfl⟩

theorem lockLost_spec {i : Fin 2} {stopped : Bool} : (lockLost s i stopped).bit R.CLK_STAT (1 + i) = false
    ∧ (lockLost s i stopped).sys.pllStop.getLsbD i = stopped :=
  ⟨(State.bit_setBit _ _ _ _ _ _ (by omega)).trans (if_pos ⟨rfl, rfl⟩), (getLsbD_bvPut _ _ _ _ i.isLt).trans (if_pos rfl)⟩

section
variable (hfail : s.sys.monFail = 0#6) (hlost : s.sys.pllLost = 0#2) (hpres : ∀ n, 11 ≤ n → n ≤ 15 → s.present n = false)
include hfail hlost hpres

/-- A window within range (R18). -/
theorem monWindow_inside {n : Fin 6} (c : BitVec 16) (h : (monRange n).1 ≤ c.toNat ∧ c.toNat ≤ (monRange n).2) :
    (s.monWindow n c.toNat).get (R.CLK_CNT n) = wordOfNat c.toNat ∧ (s.monWindow n c.toNat).bit R.CLK_STAT (3 + n) = true
    ∧ (s.monWindow n c.toNat).fc = s.fc ∧ (s.monWindow n c.toNat).sys.monFail = 0#6
    ∧ (s.monWindow n c.toNat).mot = s.mot ∧ (s.monWindow n c.toNat).pwm = s.pwm ∧ (s.monWindow n c.toNat).saf = s.saf := by
  set again := s.sys.monOut.getLsbD n with hagain
  set u := judged (counted s n c.toNat) n true again with hu
  have hsound : u.sys.monFail = 0#6 := by
    rw [hu, judged_inside.1, counted_findings.1, hfail]; exact monFail_clear n
  obtain ⟨hfc, _, hmot, hpwm, hsaf⟩ := (counted_onlyClocks.trans judged_onlyClocks : OnlyClocks s u).stands
  have honly := withSources_only (s := u) (pllSources false false)
  rw [monWindow_sound (decide_eq_true h) hsound hlost hpres]
  refine ⟨?_, ?_, hfc, hsound, hmot, hpwm, hsaf⟩
  · rw [honly.get, hu, get_judged (R_CLK_CNT_page n).2, counted_spec.1, wordOfNat_mod]
  · rw [honly.bit, hu, judged_inside.2]

/-- A first window out of range (R18). -/
theorem monWindow_once {n : Fin 6} (c : BitVec 16) (h : ¬((monRange n).1 ≤ c.toNat ∧ c.toNat ≤ (monRange n).2))
    (hfirst : s.sys.monOut.getLsbD n = false) :
    (s.monWindow n c.toNat).get (R.CLK_CNT n) = wordOfNat c.toNat
    ∧ (s.monWindow n c.toNat).bit R.CLK_STAT (3 + n) = s.bit R.CLK_STAT (3 + n)
    ∧ (s.monWindow n c.toNat).sys.monOut.getLsbD n = true ∧ (s.monWindow n c.toNat).fc = s.fc
    ∧ (s.monWindow n c.toNat).sys.monFail = 0#6 := by
  set u := judged (counted s n c.toNat) n false false with hu
  obtain ⟨hjfail, hjregs, hjout⟩ := judged_once (s := counted s n c.toNat) (n := n)
  have hsound : u.sys.monFail = 0#6 := by rw [hu, hjfail, counted_findings.1, hfail]
  obtain ⟨hfc, _⟩ := (counted_onlyClocks.trans judged_onlyClocks : OnlyClocks s u).stands
  have honly := withSources_only (s := u) (pllSources false false)
  have heq := monWindow_sound (n := n) (decide_eq_false h) (by rw [hfirst]; exact hsound) hlost hpres
  rw [heq, hfirst]
  refine ⟨?_, ?_, hjout, hfc, hsound⟩
  · rw [honly.get, hu, get_judged (R_CLK_CNT_page n).2, counted_spec.1, wordOfNat_mod]
  · rw [honly.bit, State.bit, State.get_congr hjregs]
    exact counted_spec.2 _ (by omega)

/-- A second window out of range in a row, of monitor 3 (R18, R19). -/
theorem monWindow_twice (c : BitVec 16) (h : ¬((monRange 3).1 ≤ c.toNat ∧ c.toNat ≤ (monRange 3).2))
    (hagain : s.sys.monOut.getLsbD 3 = true) (hp : ∀ d, Plain s 14 d) :
    ∃ d, (s.monWindow 3 c.toNat).bit R.CLK_STAT 6 = false ∧ RaisedIn s (s.monWindow 3 c.toNat) 14 d
      ∧ (s.monWindow 3 c.toNat).present 14 = true
      ∧ (s.monWindow 3 c.toNat).mot = s.mot ∧ (s.monWindow 3 c.toNat).pwm = s.pwm ∧ (s.monWindow 3 c.toNat).saf = s.saf := by
  have heq : s.monWindow 3 c.toNat = (judged (counted s 3 c.toNat) 3 false true).settleClocks := by
    rw [monWindow_of_absent (hpres 11 (by decide) (by decide)), ← hagain]
    exact congrArg (fun b => (judged (counted s 3 c.toNat) 3 b _).settleClocks) (decide_eq_false h)
  obtain ⟨hjfail, hjbit⟩ := judged_twice (s := counted s 3 c.toNat) (n := 3)
  have hsources : clockSources (judged (counted s 3 c.toNat) 3 false true).sys.monFail
      (judged (counted s 3 c.toNat) 3 false true).sys.pllLost = pllSources true !true := by
    rw [hjfail, judged_pllLost, counted_findings.1, counted_findings.2, hfail, hlost]; decide
  obtain ⟨hraised, hpresent, honly, hstands⟩ :=
    settleClocks_of_failed (a := true) (counted_onlyClocks.trans judged_onlyClocks) hsources hpres hp
  rw [heq]
  exact ⟨_, by rw [honly.bit]; exact hjbit, hraised, hpresent, hstands⟩

/-- The loss of a PLL's lock (R93). -/
theorem lockLost_settled {i : Fin 2} {a stopped : Bool} (hi : (if a then 0 else 1) = i.val)
    (hp : ∀ d, Plain s (if a then 14 else 15) d) :
    ∃ d, (lockLost s i stopped).settleClocks.bit R.CLK_STAT (1 + i) = false
      ∧ RaisedIn s (lockLost s i stopped).settleClocks (if a then 14 else 15) d
      ∧ (lockLost s i stopped).settleClocks.sys.pllStop.getLsbD i = stopped
      ∧ (lockLost s i stopped).settleClocks.mot = s.mot ∧ (lockLost s i stopped).settleClocks.pwm = s.pwm
      ∧ (lockLost s i stopped).settleClocks.saf = s.saf := by
  have hsources : clockSources (lockLost s i stopped).sys.monFail (lockLost s i stopped).sys.pllLost = pllSources a !a := by
    have hput : (lockLost s i stopped).sys.pllLost = bvPut 0#2 (if a then 0 else 1) true := by rw [hi, ← hlost]; rfl
    rw [hput, show (lockLost s i stopped).sys.monFail = 0#6 from hfail]
    cases a <;> decide
  obtain ⟨hraised, _, honly, hstands⟩ := settleClocks_of_failed lockLost_onlyClocks hsources hpres hp
  obtain ⟨hbit, hstop⟩ := lockLost_spec (s := s) (i := i) (stopped := stopped)
  exact ⟨_, by rw [honly.bit, hbit], hraised, by rw [honly.pllStop, hstop], hstands⟩

end

/-- Settles O13: a window is noted and judged, and then the sources of the clocks follow what has failed. -/
theorem clockMonitorsJudgeWindows : Obligations.ClockMonitorsJudgeWindows := by
  unfold Obligations.ClockMonitorsJudgeWindows
  intro s hfail hlost hpres
  refine ⟨fun n c hlo hhi => ?_, fun n c hout hfirst => ?_, fun c hout hagain hp => ?_, fun stopped hp => ?_, fun stopped hp => ?_⟩
  · exact ⟨_, rfl, monWindow_inside (s := s.quiet) hfail hlost hpres c ⟨hlo, hhi⟩⟩
  · exact ⟨_, rfl, monWindow_once (s := s.quiet) hfail hlost hpres c hout hfirst⟩
  · obtain ⟨d, h⟩ := monWindow_twice (s := s.quiet) hfail hlost hpres c hout hagain hp
    exact ⟨_, d, rfl, h⟩
  · obtain ⟨d, h⟩ := lockLost_settled (s := s.quiet) (i := 0) (a := true) (stopped := stopped) hfail hlost hpres rfl hp
    exact ⟨_, d, rfl, h⟩
  · obtain ⟨d, h⟩ := lockLost_settled (s := s.quiet) (i := 1) (a := false) (stopped := stopped) hfail hlost hpres rfl hp
    exact ⟨_, d, rfl, h⟩

end Sys2Proof.Machine
end

section
/-! PROOFS. Accesses that fail, and the parity scrub. -/

namespace Sys2Proof.Machine

variable {s : State} {m : Master} {k : Nat}

theorem OnlyRecords.mot {t : State} (h : OnlyRecords s t) : t.mot = s.mot := by rw [h]

theorem OnlyRecords.ctxRam {t : State} (h : OnlyRecords s t) : t.ctxRam = s.ctxRam := by rw [h]

theorem OnlyRecords.out {t : State} (h : OnlyRecords s t) : t.out = s.out := by rw [h]

@[simp] theorem opened_out (s : State) (m : Master) : (s.opened m).out = {} := by cases m <;> rfl

/-! ### Absent clocks and closed pages -/

/-- An access that meets an absent clock raises BUS_TIMEOUT, and ends an internal master's access with a bus error (R17). -/
theorem timedOut_opened (hp : ∀ d, Plain s 1 d) : RaisedIn s ((s.opened m).timedOut m k) 1 (accessDetail m k)
    ∧ ((s.opened m).timedOut m k).regs = s.regs ∧ ((s.opened m).timedOut m k).mot = s.mot
    ∧ ((s.opened m).timedOut m k).out.busErr = !m.serial := by
  have hplain := plain_opened (m := m) (hp (accessDetail m k))
  have honly := raise_only hplain
  have hraised : RaisedIn s ((s.opened m).raise 1 (accessDetail m k)) 1 (accessDetail m k) :=
    raisedIn_congr (opened_fc s m) (by simp) (raise_raised hplain (by decide))
  have hregs := honly.regs.trans (opened_regs s m)
  have hmot := honly.mot.trans (opened_mot s m)
  unfold State.timedOut
  cases hs : m.serial with
  | true => exact ⟨hraised, hregs, hmot, by rw [if_pos rfl, honly.out, opened_out]; rfl⟩
  | false => exact ⟨hraised, hregs, hmot, rfl⟩

/-- An access that its page does not take does nothing. -/
theorem access_of_not_taken (f : State → State) (h : s.portOpen = false ∨ (m.serial = true ∧ s.pageServed (k / 128) = false)
    ∨ (s.held (k / 128) = true ∧ s.clockGone (k / 128) = false)) : s.access m k f = s.quiet ∨ s.access m k f = s.opened m := by
  unfold State.access State.opens State.opensRead
  rcases h with h | ⟨h1, h2⟩ | ⟨h1, h2⟩
  · exact .inl (by simp [h])
  · cases s.portOpen <;> simp [h1, h2]
  · cases s.portOpen <;> simp [h1, h2]

/-! ### The parity scrub -/

theorem regKey_div (p i : Nat) (hi : i < 128) : regKey p i / 128 = p := by unfold regKey; omega

theorem regKey_mod (p i : Nat) (hi : i < 128) : regKey p i % 128 = i := by unfold regKey; omega

theorem paritySource_lt (p : Nat) : paritySource p < 126 := by
  unfold paritySource
  split_ifs <;> omega

/-- The state in which the scrub has found a register's parity wrong. -/
def parityNoted (s : State) (k : Nat) : State := { s with parityBad := k :: s.parityBad.filter (· ≠ k) }

theorem parityScrub_of_parity {p i : Nat} {r : RegRow} (hrow : regRow (regKey p i) = some r) (hpar : r.parity = true)
    (hp : p ≠ 0x08 ∧ p ≠ 0x09 ∧ p ≠ 0x0A) :
    s.parityScrub p i = (parityNoted s (regKey p i)).raiseLevel (paritySource p) (parityDetail (regKey p i)) := by
  obtain ⟨h8, h9, hA⟩ := hp
  unfold State.parityScrub
  simp only [hrow, hpar, h8, h9, hA, Bool.not_true, Bool.false_eq_true, if_false, or_self]
  rfl

theorem parityScrub_of_none {p i : Nat} (h : ∀ r, regRow (regKey p i) = some r → r.parity = false) : s.parityScrub p i = s := by
  unfold State.parityScrub
  dsimp only
  split
  · next r hrow => simp [h r hrow]
  · rfl

/-- The scrub of a register with parity raises its block's source as the condition starts (R102). -/
theorem parityScrub_raises {p i : Nat} {r : RegRow} (hi : i < 128) (hrow : regRow (regKey p i) = some r) (hpar : r.parity = true)
    (hp : p ≠ 0x08 ∧ p ≠ 0x09 ∧ p ≠ 0x0A) (habsent : s.present (paritySource p) = false) (hplain : ∀ d, Plain s (paritySource p) d) :
    RaisedIn s (s.parityScrub p i) (paritySource p) (wordOfNat (p * 256 + i)) ∧ (s.parityScrub p i).present (paritySource p) = true
    ∧ (s.parityScrub p i).regs = s.regs ∧ (s.parityScrub p i).pwm = s.pwm := by
  have hdetail : parityDetail (regKey p i) = wordOfNat (p * 256 + i) := by
    rw [parityDetail, regKey_div p i hi, regKey_mod p i hi]
  rw [parityScrub_of_parity hrow hpar hp, hdetail]
  obtain ⟨hraised, hpresent, honly⟩ :=
    raiseLevel_spec (s := parityNoted s (regKey p i)) habsent (hplain (wordOfNat (p * 256 + i))) (paritySource_lt p)
  exact ⟨raisedIn_congr (s := s) (t := parityNoted s (regKey p i)) rfl rfl hraised, hpresent, honly.regs, honly.stands.2.1⟩

/-! ### The obligation -/

/-- BUS_TIMEOUT as a command of its own. -/
theorem busTimeout_spec (p i : Nat) (hp : ∀ d, Plain s 1 d) :
    let t := s.raise 1 (accessDetail m (regKey p i))
    let u := if m.serial then t.quiet else t.busError
    RaisedIn s u 1 (accessDetail m (regKey p i)) ∧ u.regs = s.regs ∧ u.mot = s.mot ∧ u.ctxRam = s.ctxRam
    ∧ u.out.busErr = (!m.serial) ∧ u.out.words = [] := by
  have honly := raise_only (hp (accessDetail m (regKey p i)))
  have hraised := raise_raised (hp (accessDetail m (regKey p i))) (by decide)
  cases m.serial <;> exact ⟨hraised, honly.regs, honly.mot, honly.ctxRam, rfl, rfl⟩

/-- Settles O15: an access that fails raises at most BUS_TIMEOUT, and a parity error its block's source; no register changes. -/
theorem accessesFailAndParityReports : Obligations.AccessesFailAndParityReports := by
  unfold Obligations.AccessesFailAndParityReports
  refine fun s => ⟨fun m p i hp => ⟨_, rfl, busTimeout_spec p i hp⟩, fun m k f hp hopen hserved hgone => ?_, fun m k f h => ?_,
    fun m k f h => access_of_opens f h, fun p i r hrow hpar h8 h9 hA habsent hp => ?_, fun p i h => ?_⟩
  · have hreach : m.serial = false ∨ s.pageServed (k / 128) = true := by
      cases hs : m.serial with
      | true => exact .inr (hserved hs)
      | false => exact .inl rfl
    rw [access_timedOut f hopen hreach hgone]
    exact timedOut_opened hp
  · rcases access_of_not_taken f h with heq | heq <;> rw [heq]
    · exact ⟨rfl, rfl, rfl, rfl⟩
    · exact ⟨opened_regs s m, opened_fc s m, opened_mot s m, opened_out s m⟩
  · exact ⟨_, rfl, parityScrub_raises (s := s.quiet) i.isLt hrow hpar ⟨h8, h9, hA⟩ habsent hp⟩
  · exact congrArg _ (parityScrub_of_none h)

end Sys2Proof.Machine
end

section
/-! PROOFS. The darned memories: their words, their counters, and the errors that a read, a write and a scrub meet. -/

namespace Sys2Proof.Machine

variable {s : State} {mem : DarnMem} {word : Nat}

/-! ### The lanes of a word -/

theorem testBit_joined (ws : List Word) (i j : Nat) (hj : j < 32) :
    (ws.foldr (fun (w : Word) acc => w.toNat + 4294967296 * acc) 0).testBit (32 * i + j) = (ws.getD i 0#32).getLsbD j := by
  induction ws generalizing i with
  | nil => simp
  | cons w ws ih =>
    rw [List.foldr_cons, Nat.add_comm w.toNat, show 4294967296 = 2 ^ 32 from rfl, Nat.testBit_two_pow_mul_add _ w.isLt]
    cases i with
    | zero => simp [hj, BitVec.getLsbD]
    | succ i =>
      rw [if_neg (by omega), show 32 * (i + 1) + j - 32 = 32 * i + j by omega, List.getD_cons_succ]
      exact ih i

/-- A lane of a word joined from eight is the word given for it. -/
theorem laneOf_joinWords (ws : List Word) {i : Nat} (hi : i < 8) : laneOf (joinWords ws) i = ws.getD i 0#32 := by
  apply BitVec.eq_of_getLsbD_eq
  intro j hj
  rw [laneOf, joinWords, BitVec.getLsbD_setWidth, BitVec.getLsbD_ushiftRight, BitVec.getLsbD_ofNat, testBit_joined ws i j hj]
  simp [hj, show 32 * i + j < 256 by omega]

theorem laneOf_joinLanes (f : Nat → Word) {i : Nat} (hi : i < 8) : laneOf (joinWords ((List.range 8).map f)) i = f i := by
  rw [laneOf_joinWords _ hi]
  simp [List.getD, hi]

theorem laneOf_setLane (d : DarnWord) (lane : Nat) (w : Word) {i : Nat} (hi : i < 8) :
    laneOf (setLane d lane w) i = if i = lane then w else laneOf d i :=
  laneOf_joinLanes _ hi

/-! ### A word written -/

/-- Words written at successive keys of a sparse memory. -/
theorem spFind_putRange (l : List (Nat × Word)) (base : Nat) (v : Nat → Word) (n k : Nat) :
    (spFind ((List.range n).foldl (fun l i => spSet 0#32 l (base + i) (v i)) l) k).getD 0#32
      = if base ≤ k ∧ k < base + n then v (k - base) else (spFind l k).getD 0#32 := by
  induction n with
  | zero => rw [if_neg (by omega)]; rfl
  | succ n ih =>
    rw [List.range_succ, List.foldl_append, List.foldl_cons, List.foldl_nil, spFind_spSet, ih]
    by_cases hk : k = base + n
    · rw [if_pos hk, if_pos (by omega), hk, Nat.add_sub_cancel_left]
    · rw [if_neg hk]
      exact if_congr (by omega) rfl rfl

theorem darnKey_inj {j : Nat} (h : j ≠ word) : darnKey mem j ≠ darnKey mem word := by
  unfold darnKey; omega

theorem laneOf_darnGet_ctx {i : Nat} (hi : i < 8) : laneOf (s.darnGet .ctx word) i = (spFind s.ctxRam (8 * word + i)).getD 0#32 :=
  laneOf_joinLanes _ hi

/-- What a word of a memory reads after it is written. -/
theorem laneOf_darnGet_darnPut (d : DarnWord) {i : Nat} (hi : i < 8) :
    laneOf ((s.darnPut mem word d).darnGet mem word) i = laneOf d i := by
  cases mem
  case ctx =>
    refine (laneOf_darnGet_ctx hi).trans ((spFind_putRange s.ctxRam _ (laneOf d) 8 _).trans ?_)
    rw [if_pos (by omega), Nat.add_sub_cancel_left]
  all_goals exact congrArg (laneOf · i) ((spFind_spSet _ _ _ _ _).trans (if_pos rfl))

/-- A word written leaves every other word of its memory. -/
theorem darnGet_darnPut_ne (d : DarnWord) {j : Nat} (hj : j ≠ word) : (s.darnPut mem word d).darnGet mem j = s.darnGet mem j := by
  cases mem
  case ctx =>
    refine congrArg joinWords (List.map_congr_left fun i hi => ?_)
    rw [List.mem_range] at hi
    exact (spFind_putRange s.ctxRam _ (laneOf d) 8 _).trans (if_neg (by omega))
  case wj => exact (spFind_spSet _ _ _ _ _).trans (if_neg hj)
  all_goals exact (spFind_spSet _ _ _ _ _).trans (if_neg (darnKey_inj hj))

theorem darnPut_regs (d : DarnWord) : (s.darnPut mem word d).regs = s.regs ∧ (s.darnPut mem word d).mot = s.mot := by
  cases mem <;> exact ⟨rfl, rfl⟩

/-! ### The counters -/

/-- A saturating field counts up to its greatest value. -/
theorem fld_incSat {k hi lo : Nat} (hhi : hi < 32) (hlo : lo ≤ hi) :
    (s.incSat k hi lo).fld k hi lo = min (2 ^ (hi + 1 - lo) - 1) (s.fld k hi lo + 1) := by
  have hlt : s.fld k hi lo < 2 ^ (hi + 1 - lo) := fldOf_lt _ _ _
  unfold State.incSat
  split
  · rw [State.incFld, State.fld_setFld_same _ _ _ _ _ hhi hlo, Nat.mod_eq_of_lt (by assumption)]; omega
  · omega

theorem get_incSat_ne {k hi lo j : Nat} (h : j ≠ k) : (s.incSat k hi lo).get j = s.get j := by
  unfold State.incSat State.incFld
  split
  · rw [State.get_setFld, if_neg h]
  · rfl

theorem darnNum_lt (mem : DarnMem) : darnNum mem < 8 := by cases mem <;> decide

theorem R_SYS_DARN_inj {m n : Nat} : R.SYS_DARN m = R.SYS_DARN n ↔ m = n := by
  unfold R.SYS_DARN regKey; omega

/-- A corrected error counts in its memory's counter and leaves its word there (R29). -/
theorem fld_darnCount : (s.darnCount mem word).fld (R.SYS_DARN (darnNum mem)) 31 16
      = min 65535 (s.fld (R.SYS_DARN (darnNum mem)) 31 16 + 1)
    ∧ (word < 65536 → (s.darnCount mem word).fld (R.SYS_DARN (darnNum mem)) 15 0 = word) := by
  unfold State.darnCount
  refine ⟨?_, fun h => ?_⟩
  · rw [State.fld_setFld_other _ _ _ _ _ _ _ _ (by decide) (by decide) (by omega), fld_incSat (by decide) (by decide)]
    rfl
  · rw [State.fld_setFld_same _ _ _ _ _ (by decide) (by decide)]
    exact Nat.mod_eq_of_lt h

theorem get_darnCount_ne {k : Nat} (h : k ≠ R.SYS_DARN (darnNum mem)) : (s.darnCount mem word).get k = s.get k := by
  rw [State.darnCount, State.get_setFld, if_neg h, get_incSat_ne h]

/-- Beside the registers a corrected error changes nothing. -/
theorem darnCount_frame : s.darnCount mem word = { s with regs := (s.darnCount mem word).regs } := by
  unfold State.darnCount State.incSat
  split <;> rfl

theorem darnGet_darnCount (j : Nat) : (s.darnCount mem word).darnGet mem j = s.darnGet mem j := by
  rw [darnCount_frame]; cases mem <;> rfl

theorem isUe_darnCount (j : Nat) : (s.darnCount mem word).isUe mem j = s.isUe mem j := by
  rw [darnCount_frame]; rfl

theorem darnCount_fc : (s.darnCount mem word).fc = s.fc := by rw [darnCount_frame]

/-- Corrections count each in its memory's counter. -/
theorem fld_foldl_darnCount (same : List (DarnMem × Nat)) (n : Nat) :
    (same.foldl (fun s e => s.darnCount e.1 e.2) s).fld (R.SYS_DARN n) 31 16
      = min 65535 (s.fld (R.SYS_DARN n) 31 16 + same.countP fun e => decide (darnNum e.1 = n)) := by
  induction same generalizing s with
  | nil =>
    have hlt : s.fld (R.SYS_DARN n) 31 16 < 65536 := fldOf_lt _ 31 16
    rw [List.foldl_nil, List.countP_nil]; omega
  | cons e same ih =>
    obtain ⟨mem, word⟩ := e
    rw [List.foldl_cons, ih, List.countP_cons]
    by_cases hn : darnNum mem = n
    · subst hn
      rw [fld_darnCount.1]
      simp only [decide_true, if_true]; omega
    · have hne : R.SYS_DARN n ≠ R.SYS_DARN (darnNum mem) := fun h => hn (R_SYS_DARN_inj.1 h).symm
      rw [State.fld, get_darnCount_ne hne]
      simp [hn, State.fld]

theorem get_foldl_darnCount (same : List (DarnMem × Nat)) {k : Nat} (hk : ∀ n < 8, k ≠ R.SYS_DARN n) :
    (same.foldl (fun s e => s.darnCount e.1 e.2) s).get k = s.get k :=
  List.foldlRecOn (motive := fun (t : State) => t.get k = s.get k) same _ rfl fun t ht e _ => by
    rw [get_darnCount_ne (hk _ (darnNum_lt e.1)), ht]

/-- SYS_DARNCLR clears the counters its bits name among the first `n`. -/
theorem get_clearRange (w : Word) (n k : Nat) :
    ((List.range n).foldl (fun s n => if bitOf w n then s.set (R.SYS_DARN n) 0#32 else s) s).get k
      = if ∃ i < n, k = R.SYS_DARN i ∧ bitOf w i = true then 0#32 else s.get k := by
  induction n with
  | zero => simp
  | succ n ih =>
    rw [List.range_succ, List.foldl_append, List.foldl_cons, List.foldl_nil]
    set t := (List.range n).foldl (fun s n => if bitOf w n then s.set (R.SYS_DARN n) 0#32 else s) s
    by_cases hk : k = R.SYS_DARN n ∧ bitOf w n = true
    · obtain ⟨hkn, hw⟩ := hk
      rw [if_pos hw, hkn, State.get_set_same, if_pos ⟨n, by omega, rfl, hw⟩]
    · have hstep : (if bitOf w n = true then t.set (R.SYS_DARN n) 0#32 else t).get k = t.get k := by
        split
        · next hw => exact t.get_set_ne _ fun h => hk ⟨h, hw⟩
        · rfl
      rw [hstep, ih]
      refine if_congr ⟨fun ⟨i, hi, h⟩ => ⟨i, by omega, h⟩, fun ⟨i, hi, h⟩ => ⟨i, ?_, h⟩⟩ rfl rfl
      exact lt_of_le_of_ne (by omega) fun hin => hk (hin ▸ h)

theorem get_darnClr (w : Word) {n : Nat} (hn : n < 8) :
    (s.darnClr w).get (R.SYS_DARN n) = if bitOf w n then 0#32 else s.get (R.SYS_DARN n) := by
  rw [State.darnClr, get_clearRange]
  refine if_congr ⟨fun ⟨i, _, h, hw⟩ => ?_, fun hw => ⟨n, hn, rfl, hw⟩⟩ rfl rfl
  rwa [R_SYS_DARN_inj.1 h]

theorem get_darnClr_ne (w : Word) {k : Nat} (hk : ∀ n < 8, k ≠ R.SYS_DARN n) : (s.darnClr w).get k = s.get k := by
  rw [State.darnClr, get_clearRange, if_neg fun ⟨i, hi, h, _⟩ => hk i hi h]

/-- SYS_DARNCLR with the corrections of its own cycle (R30). -/
theorem darnClr_counts (w : Word) (same : List (DarnMem × Nat)) :
    (∀ n < 8, (same.foldl (fun s e => s.darnCount e.1 e.2) (s.darnClr w)).fld (R.SYS_DARN n) 31 16
      = min 65535 ((if bitOf w n then 0 else s.fld (R.SYS_DARN n) 31 16) + same.countP fun e => decide (darnNum e.1 = n)))
    ∧ ∀ k, (∀ n < 8, k ≠ R.SYS_DARN n) → (same.foldl (fun s e => s.darnCount e.1 e.2) (s.darnClr w)).get k = s.get k := by
  refine ⟨fun n hn => ?_, fun k hk => by rw [get_foldl_darnCount same hk, get_darnClr_ne w hk]⟩
  have hclr : (s.darnClr w).fld (R.SYS_DARN n) 31 16 = if bitOf w n then 0 else s.fld (R.SYS_DARN n) 31 16 := by
    rw [State.fld, get_darnClr w hn]
    split <;> rfl
  rw [fld_foldl_darnCount, hclr]

/-! ### A read, a narrow write and a scrub -/

theorem noteError_of_not_double {e : BitError} (h : e ≠ .double) : s.noteError mem word e = s := if_neg fun hd => h hd.1

theorem darnRead_none (m : Master) (hw : word < darnSize mem) (hue : s.isUe mem word = false) :
    s.darnRead m mem word .none = s.answer ((List.range 8).map (laneOf (s.darnGet mem word))) := by
  simp only [State.darnRead, if_neg (Nat.not_le.2 hw), noteError_of_not_double (e := .none) (by decide), hue,
    Bool.false_eq_true, if_false, reduceCtorEq]

theorem darnRead_single (m : Master) (hw : word < darnSize mem) (hue : s.isUe mem word = false) :
    s.darnRead m mem word .single = (s.darnCount mem word).answer ((List.range 8).map (laneOf (s.darnGet mem word))) := by
  simp only [State.darnRead, if_neg (Nat.not_le.2 hw), noteError_of_not_double (e := .single) (by decide), hue,
    Bool.false_eq_true, if_false, if_true, darnGet_darnCount]

theorem isUe_noteError_double : (s.noteError mem word .double).isUe mem word = true := by
  unfold State.noteError
  cases h : s.isUe mem word with
  | true => simp [h]
  | false => simp [State.isUe]

theorem darnUe_of_unsafe (h1 : mem ≠ .safe) (h2 : mem ≠ .srom) :
    s.darnUe mem word = s.raise (16 + darnNum mem) (wordOfNat word) := if_neg (by simp [h1, h2])

theorem noteError_frame {e : BitError} : s.noteError mem word e = { s with ue := (s.noteError mem word e).ue } := by
  unfold State.noteError; split <;> rfl

/-- A read that meets a double error outside the SAFE core's memories (R26, R28). -/
theorem darnRead_double (m : Master) (hw : word < darnSize mem) (h1 : mem ≠ .safe) (h2 : mem ≠ .srom)
    (hp : ∀ d, Plain s (16 + darnNum mem) d) :
    RaisedIn s (s.darnRead m mem word .double) (16 + darnNum mem) (wordOfNat word)
    ∧ (s.darnRead m mem word .double).isUe mem word = true
    ∧ (m.serial = true → (s.darnRead m mem word .double).out.words = List.replicate 8 0#32)
    ∧ (m.serial = false → (s.darnRead m mem word .double).out.busErr = true)
    ∧ (s.darnRead m mem word .double).regs = s.regs := by
  set u := s.noteError mem word .double with hu
  have hue : u.isUe mem word = true := isUe_noteError_double
  have hframe : u = { s with ue := u.ue } := noteError_frame
  have hplain : Plain u (16 + darnNum mem) (wordOfNat word) := by rw [hframe]; exact hp _
  have hnum := darnNum_lt mem
  have hraised : RaisedIn s (u.raise (16 + darnNum mem) (wordOfNat word)) (16 + darnNum mem) (wordOfNat word) :=
    raisedIn_congr (by rw [hframe]) (by rw [hframe]) (raise_raised hplain (by omega))
  have honly := raise_only hplain
  have hue' : (u.raise (16 + darnNum mem) (wordOfNat word)).isUe mem word = true := by
    rw [State.isUe, honly]; exact hue
  have hregs : (u.raise (16 + darnNum mem) (wordOfNat word)).regs = s.regs := by rw [honly.regs, hframe]
  have heq : s.darnRead m mem word .double = if m.serial then
      (u.raise (16 + darnNum mem) (wordOfNat word)).answer (List.replicate 8 0#32)
      else (u.raise (16 + darnNum mem) (wordOfNat word)).busError := by
    simp only [State.darnRead, if_neg (Nat.not_le.2 hw), ← hu, hue, if_true, darnUe_of_unsafe h1 h2]
  rw [heq]
  cases m.serial
  · exact ⟨hraised, hue', nofun, fun _ => rfl, hregs⟩
  · exact ⟨hraised, hue', fun _ => rfl, nofun, hregs⟩

theorem darnNarrow_none (m : Master) (lane : Fin 8) (w : Word) (hw : word < darnSize mem) (h1 : mem ≠ .erom) (h2 : mem ≠ .srom)
    (hue : s.isUe mem word = false) :
    s.darnNarrow m mem word lane w .none = (s.darnPut mem word (setLane (s.darnGet mem word) lane w)).quiet := by
  simp only [State.darnNarrow, if_neg (show ¬(darnSize mem ≤ word ∨ mem = .erom ∨ mem = .srom) by simp [hw, h1, h2]),
    noteError_of_not_double (e := .none) (by decide), hue, Bool.false_eq_true, if_false, reduceCtorEq]

theorem scrub_single (hw : word < darnSize mem) (hue : s.isUe mem word = false) :
    s.scrub [(mem, word, .single, false)] = s.darnCount mem word := by
  have hone : scrubOne (s, []) (mem, word, .single, false) = (s.darnCount mem word, []) := by
    simp [scrubOne, Nat.not_le.2 hw, noteError_of_not_double (e := .single) (by decide), hue]
  unfold State.scrub
  rw [List.foldl_cons, List.foldl_nil, hone]
  exact raises_nil

theorem exec_sysDarnclr {m : Master} (w : Word) (same : List (DarnMem × Nat)) (h : s.opens m 0x01 = true) :
    exec (.sysDarnclr m w same) s = .next (same.foldl (fun s e => s.darnCount e.1 e.2) ((s.opened m).darnClr w)) :=
  congrArg _ (access_of_opens _ h)

/-- Settles O14: a single error is corrected and counted, a double one reported, and SYS_DARNCLR clears what it names. -/
theorem darnedMemoriesCorrectAndReport : Obligations.DarnedMemoriesCorrectAndReport := by
  unfold Obligations.DarnedMemoriesCorrectAndReport
  intro s mem word hw
  have hword : word < 65536 := hw.trans_le (by cases mem <;> decide)
  refine ⟨fun m hue => ⟨_, rfl, ?_⟩, fun m hue => ⟨_, rfl, ?_⟩, fun m h1 h2 hp => ⟨_, rfl, darnRead_double m hw h1 h2 hp⟩,
    fun m lane w h1 h2 hue => ⟨_, rfl, ?_⟩, fun hue _ => ⟨_, rfl, ?_⟩, fun m w hopen => ?_, fun m w same hopen => ?_⟩
  · rw [darnRead_none m hw hue]
    exact ⟨rfl, rfl, rfl, rfl⟩
  · rw [darnRead_single m hw hue]
    exact ⟨rfl, fld_darnCount.1, fld_darnCount.2 hword, darnCount_fc (word := word)⟩
  · rw [darnNarrow_none m lane w hw h1 h2 hue]
    exact ⟨fun i hi => (laneOf_darnGet_darnPut _ hi).trans ((laneOf_setLane _ _ _ hi).trans rfl),
      fun j hj _ => darnGet_darnPut_ne _ hj, (darnPut_regs _).1, (darnPut_regs _).2⟩
  · rw [scrub_single (s := s.quiet) hw hue]
    exact ⟨fld_darnCount.1, darnCount_fc (word := word)⟩
  · refine ⟨_, exec_sysDarnclr w _ hopen, fun n hn => ?_, fun k hk => ?_⟩
    · exact (get_darnClr w hn).trans (by rw [opened_get])
    · exact (get_darnClr_ne w hk).trans (opened_get s m k)
  · obtain ⟨hcounts, hframe⟩ := darnClr_counts (s := s.opened m) w same
    refine ⟨_, exec_sysDarnclr w _ hopen, fun n hn => ?_, fun k hk => ?_⟩
    · rw [hcounts n hn, opened_fld]
    · rw [hframe k hk, opened_get]

end Sys2Proof.Machine
end

section
/-! PROOFS. Updates of registers alone. -/

namespace Sys2Proof.Machine

/-- `t` differs from `s` in registers alone, and only in those of which `P` holds. -/
def OnlyRegs (P : Nat → Prop) (s t : State) : Prop := t = { s with regs := t.regs } ∧ ∀ k, ¬P k → t.get k = s.get k

variable {P Q : Nat → Prop} {s t u : State}

theorem State.fld_of_regs (h : t.regs = s.regs) (k hi lo : Nat) : t.fld k hi lo = s.fld k hi lo := by
  rw [State.fld, State.get_congr h]; rfl

theorem State.bit_of_regs (h : t.regs = s.regs) (k i : Nat) : t.bit k i = s.bit k i := by
  rw [State.bit, State.get_congr h]; rfl

theorem OnlyRegs.stands (h : OnlyRegs P s t) : t.mot = s.mot ∧ t.pwm = s.pwm ∧ t.saf = s.saf ∧ t.ctxRam = s.ctxRam
    ∧ t.coil = s.coil ∧ t.lnk = s.lnk ∧ t.fw = s.fw ∧ t.spool = s.spool := by
  rw [h.1]
  exact ⟨rfl, rfl, rfl, rfl, rfl, rfl, rfl, rfl⟩

theorem OnlyRegs.refl : OnlyRegs P s s := ⟨rfl, fun _ _ => rfl⟩

theorem OnlyRegs.trans (h : OnlyRegs P s t) (g : OnlyRegs P t u) : OnlyRegs P s u :=
  ⟨by rw [g.1, h.1], fun k hk => (g.2 k hk).trans (h.2 k hk)⟩

theorem OnlyRegs.mono (h : OnlyRegs P s t) (hPQ : ∀ k, P k → Q k) : OnlyRegs Q s t :=
  ⟨h.1, fun k hk => h.2 k fun hp => hk (hPQ k hp)⟩

theorem onlyRegs_set {k : Nat} {v : Word} (h : P k) : OnlyRegs P s (s.set k v) :=
  ⟨rfl, fun j hj => s.get_set_ne v fun e => hj (by rwa [e])⟩

theorem onlyRegs_setBit {k i : Nat} {b : Bool} (h : P k) : OnlyRegs P s (s.setBit k i b) := onlyRegs_set h

theorem onlyRegs_setFld {k hi lo v : Nat} (h : P k) : OnlyRegs P s (s.setFld k hi lo v) := onlyRegs_set h

theorem OnlyRegs.ite {c : Prop} {_ : Decidable c} (ht : OnlyRegs P s t) (hu : OnlyRegs P s u) : OnlyRegs P s (if c then t else u) := by
  split <;> assumption

theorem OnlyRegs.foldl {α : Type} {f : State → α → State} {l : List α} (hf : ∀ t, ∀ a ∈ l, OnlyRegs P t (f t a)) :
    OnlyRegs P s (l.foldl f s) :=
  List.foldlRecOn l f .refl fun t ht a ha => ht.trans (hf t a ha)

end Sys2Proof.Machine
end

section
/-! PROOFS. The resets of the EXEC and LINK cores, and the watchdog's kick. -/

namespace Sys2Proof.Machine

variable {s : State} {m : Master}

theorem opened_quiet (s : State) (m : Master) : (s.opened m).quiet = s.opened m := by cases m <;> rfl

/-! ### A core enters reset -/

/-- The mailbox pages. -/
abbrev mailboxPage (k : Nat) : Prop := 3 ≤ k / 128 ∧ k / 128 ≤ 5

/-- A core that enters reset marks its messages in the mailboxes, and nothing else (R127). -/
theorem orphan_onlyRegs : OnlyRegs mailboxPage s (s.orphan m) := by
  unfold State.orphan
  refine .trans (.foldl fun t n hn => .ite (onlyRegs_setBit ?_) .refl) (.foldl fun t n _ => .ite (onlyRegs_setBit ?_) .refl)
  · rw [List.mem_range] at hn
    unfold mailboxPage bch regKey; omega
  · unfold mailboxPage R.MBX_WSTAT regKey; omega

/-- The registers of a reset EXEC core: its claims, the handover's marks, and its gate. -/
def execMarked (s : State) : State :=
  ((((s.orphan .exec).setFld R.SYS_AXCLAIM 7 0 0).setBit R.SYS_AXCLAIM 16 true).setBit R.SPL_BOOT 31 true).setBit R.SYS_PWRSTAT 8 false

theorem execMarked_onlyRegs : OnlyRegs (fun k => mailboxPage k ∨ k / 128 = 0x01 ∨ k / 128 = 0x61) s (execMarked s) :=
  (((((orphan_onlyRegs.mono fun _ => .inl).trans (onlyRegs_setFld (by decide))).trans (onlyRegs_setBit (by decide))).trans
    (onlyRegs_setBit (by decide))).trans (onlyRegs_setBit (by decide)))

theorem execMarked_claims : (execMarked s).fld R.SYS_AXCLAIM 7 0 = 0 ∧ (execMarked s).bit R.SYS_AXCLAIM 16 = true := by
  unfold execMarked
  rw [State.fld_setBit_other _ _ _ _ _ _ _ (by decide), State.fld_setBit_other _ _ _ _ _ _ _ (by decide),
    State.fld_setBit_other _ _ _ _ _ _ _ (by decide), State.fld_setFld_same _ _ _ _ _ (by decide) (by decide),
    State.bit_setBit _ _ _ _ _ _ (by decide), State.bit_setBit _ _ _ _ _ _ (by decide),
    State.bit_setBit _ _ _ _ _ _ (by decide)]
  exact ⟨rfl, by simp [show R.SYS_AXCLAIM ≠ R.SYS_PWRSTAT by decide, show R.SYS_AXCLAIM ≠ R.SPL_BOOT by decide]⟩

theorem execReset_of_running (h : s.sys.chipReset = false) : s.execReset = { execMarked s with
    sys := { s.sys with exec := .handover }
    msp := if s.msp.cur.isNone && s.msp.txq = [] then { s.msp with sel := 15 } else s.msp
    fw := { inUse := s.fw.inUse }
    turn := 2
    darn := s.darn.filter fun e => e.1 / 65536 ≠ 0 } := by
  obtain ⟨hframe, _⟩ := orphan_onlyRegs (s := s) (m := .exec)
  unfold State.execReset
  rw [h, if_neg Bool.false_ne_true]
  simp only [execMarked, State.setBit_sys, State.setFld_sys]
  rw [hframe]
  rfl

/-- A core's SRAM reads as unwritten once the entries of its memory are dropped. -/
theorem spFind_dropMemory {α : Type} (l : List (Nat × α)) (mem word : Nat) (h : word < 65536) :
    spFind (l.filter fun e => e.1 / 65536 ≠ mem) (mem * 65536 + word) = none := by
  refine (spFind_filter (fun k => decide (k / 65536 ≠ mem)) l _).trans (if_neg ?_)
  simp; omega

/-- EXECRST outside a chip reset (R32, R33, R72). -/
theorem execReset_spec (h : s.sys.chipReset = false) :
    s.execReset.sys.exec = .handover ∧ s.execReset.fld R.SYS_AXCLAIM 7 0 = 0 ∧ s.execReset.bit R.SYS_AXCLAIM 16 = true
    ∧ s.execReset.fw = { inUse := s.fw.inUse } ∧ (∀ word < 65536, spFind s.execReset.darn word = none)
    ∧ s.execReset.mot = s.mot ∧ s.execReset.pwm = s.pwm ∧ s.execReset.saf = s.saf ∧ s.execReset.ctxRam = s.ctxRam
    ∧ s.execReset.coil = s.coil ∧ s.execReset.lnk = s.lnk ∧ s.execReset.spool = s.spool
    ∧ ∀ k, k / 128 ≠ 0x01 → ¬(3 ≤ k / 128 ∧ k / 128 ≤ 5) → k / 128 ≠ 0x61 → s.execReset.get k = s.get k := by
  have honly := execMarked_onlyRegs (s := s)
  obtain ⟨hclaim, hhover⟩ := execMarked_claims (s := s)
  have hregs : s.execReset.regs = (execMarked s).regs := by rw [execReset_of_running h]
  refine ⟨?_, (State.fld_of_regs hregs _ _ _).trans hclaim, (State.bit_of_regs hregs _ _).trans hhover, ?_⟩
  · rw [execReset_of_running h]
  have hget (k : Nat) (h1 : k / 128 ≠ 0x01) (hm : ¬(3 ≤ k / 128 ∧ k / 128 ≤ 5)) (h61 : k / 128 ≠ 0x61) :
      s.execReset.get k = s.get k :=
    (State.get_congr hregs k).trans (honly.2 k (by simp [hm, h1, h61]))
  obtain ⟨hmot, hpwm, hsaf, hctx, hcoil, hlnk, _, hspool⟩ := honly.stands
  rw [execReset_of_running h] at hget ⊢
  dsimp only
  refine ⟨rfl, fun word hw => ?_, hmot, hpwm, hsaf, hctx, hcoil, hlnk, hspool, hget⟩
  simpa using spFind_dropMemory s.darn 0 word hw

/-- The registers of a reset LINK core: its gate, its transactions, and a worker's place in the chain. -/
def linkMarked (s : State) : State :=
  let t := ((s.orphan .link).setBit R.SYS_PWRSTAT 9 false).set R.LNK_TXN 0#32
  if t.role = 1 then t else t.setBit R.LNK_STAT 9 false

theorem linkMarked_onlyRegs : OnlyRegs (fun k => mailboxPage k ∨ k / 128 = 0x01 ∨ k / 128 = 0x58) s (linkMarked s) := by
  have h : OnlyRegs (fun k => mailboxPage k ∨ k / 128 = 0x01 ∨ k / 128 = 0x58) s
      (((s.orphan .link).setBit R.SYS_PWRSTAT 9 false).set R.LNK_TXN 0#32) :=
    ((orphan_onlyRegs.mono fun _ => .inl).trans (onlyRegs_setBit (by decide))).trans (onlyRegs_set (by decide))
  exact .ite h (h.trans (onlyRegs_setBit (by decide)))

theorem linkMarked_txn : (linkMarked s).get R.LNK_TXN = 0#32 := by
  unfold linkMarked
  dsimp only
  split
  · exact State.get_set_same _ _ _
  · rw [State.get_setBit, if_neg (by decide), State.get_set_same]

theorem linkReset_of_running (h : s.sys.chipReset = false) : s.linkReset = { linkMarked s with
    lnk := s.lnk.lostCore
    sys := { s.sys with linkRun := false }
    darn := s.darn.filter fun e => e.1 / 65536 ≠ 1 } := by
  obtain ⟨hframe, _⟩ := linkMarked_onlyRegs (s := s)
  have heq : s.linkReset = { linkMarked s with
      lnk := (linkMarked s).lnk.lostCore
      sys := { (linkMarked s).sys with linkRun := false }
      darn := (linkMarked s).darn.filter fun e => e.1 / 65536 ≠ 1 } := by
    unfold State.linkReset
    rw [h, if_neg Bool.false_ne_true]
    rfl
  rw [heq, hframe]

/-- LINKRST outside a chip reset (R35, R72). -/
theorem linkReset_spec (h : s.sys.chipReset = false) :
    s.linkReset.sys.linkRun = false ∧ s.linkReset.get R.LNK_TXN = 0#32 ∧ (∀ x ∈ s.linkReset.lnk.txns, x.dead = true)
    ∧ s.linkReset.lnk.table = [] ∧ (∀ word < 65536, spFind s.linkReset.darn (65536 + word) = none)
    ∧ s.linkReset.mot = s.mot ∧ s.linkReset.pwm = s.pwm ∧ s.linkReset.saf = s.saf ∧ s.linkReset.ctxRam = s.ctxRam
    ∧ s.linkReset.coil = s.coil ∧ s.linkReset.fw = s.fw ∧ s.linkReset.spool = s.spool ∧ s.linkReset.sys.exec = s.sys.exec
    ∧ ∀ k, k / 128 ≠ 0x01 → ¬(3 ≤ k / 128 ∧ k / 128 ≤ 5) → k / 128 ≠ 0x58 → s.linkReset.get k = s.get k := by
  have honly := linkMarked_onlyRegs (s := s)
  have hregs : s.linkReset.regs = (linkMarked s).regs := by rw [linkReset_of_running h]
  have htxn : s.linkReset.get R.LNK_TXN = 0#32 := (State.get_congr hregs _).trans linkMarked_txn
  have hget (k : Nat) (h1 : k / 128 ≠ 0x01) (hm : ¬(3 ≤ k / 128 ∧ k / 128 ≤ 5)) (h58 : k / 128 ≠ 0x58) :
      s.linkReset.get k = s.get k :=
    (State.get_congr hregs k).trans (honly.2 k (by simp [hm, h1, h58]))
  obtain ⟨hmot, hpwm, hsaf, hctx, hcoil, _, hfw, hspool⟩ := honly.stands
  rw [linkReset_of_running h] at htxn hget ⊢
  dsimp only
  refine ⟨rfl, htxn, fun x hx => ?_, rfl, fun word hw => spFind_dropMemory s.darn 1 word hw, hmot,
    hpwm, hsaf, hctx, hcoil, hfw, hspool, rfl, hget⟩
  obtain ⟨y, _, rfl⟩ := List.mem_map.1 hx
  rfl

/-! ### SYS_RSTCTL -/

theorem rstctl_exec {w : Word} (hm : m = .exec ∨ m = .maint) (hkey : fldOf w 31 16 = 0x9E37) (hbits : fldOf w 2 0 = 2) :
    s.rstctl m w = s.execReset := by
  have hbit (i : Nat) : bitOf w i = (if i < 3 then Nat.testBit 2 i else bitOf w i) := by
    split
    · next hi => rw [← hbits, testBit_fldOf]; simp [hi]
    · rfl
  have h0 : bitOf w 0 = false := hbit 0
  have h1 : bitOf w 1 = true := hbit 1
  have h2 : bitOf w 2 = false := hbit 2
  unfold State.rstctl
  rcases hm with rfl | rfl <;> simp [hkey, hbits, h0, h1, h2]

theorem rstctl_link {w : Word} (hm : m = .exec ∨ m = .link ∨ m = .maint) (hkey : fldOf w 31 16 = 0x9E37) (hbits : fldOf w 2 0 = 4) :
    s.rstctl m w = s.linkReset := by
  have hbit (i : Nat) : bitOf w i = (if i < 3 then Nat.testBit 4 i else bitOf w i) := by
    split
    · next hi => rw [← hbits, testBit_fldOf]; simp [hi]
    · rfl
  have h0 : bitOf w 0 = false := hbit 0
  have h1 : bitOf w 1 = false := hbit 1
  have h2 : bitOf w 2 = true := hbit 2
  unfold State.rstctl
  rcases hm with rfl | rfl | rfl <;> simp [hkey, hbits, h0, h1, h2]

theorem exec_execrst_write (w : Word) (h : s.opens m 0x01 = true) :
    exec (.execrst (.write m w)) s = .next ((s.opened m).rstctl m w) :=
  congrArg _ (access_of_opens _ h)

theorem exec_linkrst_write (w : Word) (h : s.opens m 0x01 = true) :
    exec (.linkrst (.write m w)) s = .next ((s.opened m).rstctl m w) :=
  congrArg _ (access_of_opens _ h)

theorem exec_execrst_firmware : exec (.execrst .firmware) s = .next s.quiet.execReset := rfl

theorem exec_linkrst_firmware : exec (.linkrst .firmware) s = .next s.quiet.linkReset := rfl

theorem exec_watchdogKick_exec {w : Word} (h : s.opens .exec 0x01 = true) :
    exec (.watchdogKick .exec w) s = .next ((s.opened .exec).wdKick .exec w) := congrArg _ (access_of_opens _ h)

/-- Settles O7: a core's reset loses its SRAM and its own registers, and the hardware stands. -/
theorem coreResetsKeepTheHardware : Obligations.CoreResetsKeepTheHardware := by
  unfold Obligations.CoreResetsKeepTheHardware
  refine fun s hrun => ⟨⟨_, exec_execrst_firmware, execReset_spec (s := s.quiet) hrun⟩, fun m w hm hopen hkey hbits => ?_,
    ⟨_, exec_linkrst_firmware, linkReset_spec (s := s.quiet) hrun⟩, fun m w hm hopen hkey hbits => ?_, fun hopen => ?_⟩
  · rw [exec_execrst_write w hopen, rstctl_exec hm hkey hbits, exec_execrst_firmware, opened_quiet]
  · rw [exec_linkrst_write w hopen, rstctl_link hm hkey hbits, exec_linkrst_firmware, opened_quiet]
  · rw [exec_watchdogKick_exec hopen]
    rfl

end Sys2Proof.Machine
end

section
/-! PROOFS. What the bridges' operations leave as it was, bit by bit of the registers. -/

namespace Sys2Proof.Machine

/-- From `s` to `t` the axes stand, what `f` reads of the bridges and gates of each axis, and every register bit of which `P` does not hold;
nothing is set to reset where nothing was. -/
structure Keeps {β : Type} (f : PwmAx → β) (P : Nat → Nat → Prop) (s t : State) : Prop where
  mot     : t.mot = s.mot
  sys     : t.sys.chipReset = s.sys.chipReset
  noReset : NoReset s → NoReset t
  pwm     : ∀ ax, f (vget t.pwm ax) = f (vget s.pwm ax)
  bit     : ∀ k i, ¬P k i → t.bit k i = s.bit k i

variable {β : Type} {f : PwmAx → β} {P Q : Nat → Nat → Prop} {s t u : State} {ax : Axis} {br : Bridge} {j : Leg}

/-! ### The relation -/

theorem Keeps.refl : Keeps f P s s := ⟨rfl, rfl, id, fun _ => rfl, fun _ _ _ => rfl⟩

theorem Keeps.trans (h : Keeps f P s t) (g : Keeps f P t u) : Keeps f P s u where
  mot := g.mot.trans h.mot
  sys := g.sys.trans h.sys
  noReset := g.noReset ∘ h.noReset
  pwm ax := (g.pwm ax).trans (h.pwm ax)
  bit k i hk := (g.bit k i hk).trans (h.bit k i hk)

theorem Keeps.mono (h : Keeps f P s t) (hPQ : ∀ k i, P k i → Q k i) : Keeps f Q s t :=
  { h with bit := fun k i hk => h.bit k i fun hp => hk (hPQ k i hp) }

/-- What reads less closely stands as well. -/
theorem Keeps.comp {γ : Type} (g : β → γ) (h : Keeps f P s t) : Keeps (g ∘ f) P s t :=
  { h with pwm := fun ax => congrArg g (h.pwm ax) }

theorem Keeps.ite {c : Prop} {_ : Decidable c} (ht : Keeps f P s t) (hu : Keeps f P s u) : Keeps f P s (if c then t else u) := by
  split <;> assumption

theorem Keeps.fld (h : Keeps f P s t) {k hi lo : Nat} (hk : ∀ i, lo ≤ i → i ≤ hi → ¬P k i) : t.fld k hi lo = s.fld k hi lo :=
  State.fld_congr_bit fun i hlo hhi => h.bit k i (hk i hlo hhi)

theorem noReset_of_get (hc : t.sys.chipReset = s.sys.chipReset) (hf : t.fcSafe = s.fcSafe) (hg : ∀ k, k / 128 < 0x10 → t.get k = s.get k)
    (h : NoReset s) : NoReset t := by
  obtain ⟨hrun, hplain⟩ := h
  refine ⟨hc.trans hrun, fun src hsrc d => ?_⟩
  exact (plain_congr hc hf (hg _ (by decide)) (hg _ (by unfold R.FC_SRC regKey; omega)) ⟨hrun, hplain src hsrc d⟩).2

/-! ### Single updates -/

/-- Register keys of the axes' blocks, which the collector does not read. -/
theorem keeps_setFld {k hi lo v : Nat} (hk : 0x10 ≤ k / 128) (hhi : hi < 32) (hlo : lo ≤ hi) (hP : ∀ i, lo ≤ i → i ≤ hi → P k i) :
    Keeps f P s (s.setFld k hi lo v) where
  mot := rfl
  sys := rfl
  noReset := noReset_of_get rfl rfl fun j hj => by rw [State.get_setFld, if_neg (by rintro rfl; omega)]
  pwm _ := rfl
  bit j i hj := by
    rw [State.bit_setFld _ _ _ _ _ _ _ hhi hlo, if_neg]
    rintro ⟨rfl, h1, h2⟩
    exact hj (hP i h1 h2)

theorem keeps_setBit {k i : Nat} {v : Bool} (hk : 0x10 ≤ k / 128) (hi : i < 32) (hP : P k i) : Keeps f P s (s.setBit k i v) where
  mot := rfl
  sys := rfl
  noReset := noReset_of_get rfl rfl fun j hj => by rw [State.get_setBit, if_neg (by rintro rfl; omega)]
  pwm _ := rfl
  bit j i' hj := by
    rw [State.bit_setBit _ _ _ _ _ _ hi, if_neg]
    rintro ⟨rfl, rfl⟩
    exact hj hP

theorem keeps_set {k : Nat} {v : Word} (hk : 0x10 ≤ k / 128) (hP : ∀ i, P k i) : Keeps f P s (s.set k v) where
  mot := rfl
  sys := rfl
  noReset := noReset_of_get rfl rfl fun j hj => s.get_set_ne v (by rintro rfl; omega)
  pwm _ := rfl
  bit j i hj := by
    rw [State.bit_set, if_neg]
    rintro rfl
    exact hj (hP i)

theorem OnlyCollector.keeps (h : OnlyCollector s t) : Keeps f P s t where
  mot := h.mot
  sys := by rw [h]
  noReset := noReset_of_get (by rw [h]) (by rw [h]) fun k _ => h.get k
  pwm ax := by rw [h]
  bit k i _ := h.bit k i

theorem keeps_level {src : Nat} {v : Bool} {d : Word} (hs : NoReset s) (hsrc : src < 126) : Keeps f P s (s.level src v d) :=
  (level_only ⟨hs.1, hs.2 src hsrc d⟩).keeps

theorem keeps_onPwm {g : PwmAx → PwmAx} (hg : f (g (vget s.pwm ax)) = f (vget s.pwm ax)) : Keeps f P s (s.onPwm ax g) where
  mot := rfl
  sys := rfl
  noReset := id
  pwm ax' := by
    rw [State.onPwm, vget_vset]
    split
    · next h => rw [hg, h]
    · rfl
  bit _ _ _ := rfl

theorem br_onBr (g : Bridges → Bridges) (ax' : Axis) (br' : Bridge) :
    (s.onBr ax br g).br ax' br' = if ax' = ax ∧ br' = br then g (s.br ax br) else s.br ax' br' := by
  unfold State.br State.onBr State.onPwm
  simp only [vget_vset]
  by_cases h : ax' = ax
  · subst h; cases br <;> cases br' <;> simp
  · simp [h]

end Sys2Proof.Machine
end

section
/-! PROOFS. The gates' operations: they touch the legs, the findings of GD_FLT and the masks of PWM_STAT alone. -/

namespace Sys2Proof.Machine

variable {s : State} {ax : Axis} {br : Bridge} {j : Leg}

/-- The register bits of the gates' own operations: the findings of GD_FLT, and the masks of PWM_STAT. -/
def gateBits (k i : Nat) : Prop :=
  (0x30 ≤ k / 128 ∧ k % 128 = 0x04) ∨ (0x28 ≤ k / 128 ∧ k / 128 < 0x30 ∧ k % 128 = 0x0B ∧ 8 ≤ i ∧ i ≤ 9)

theorem gateBits_flt (ax : Axis) (i : Nat) : gateBits (R.GD_FLT ax) i := by
  unfold gateBits R.GD_FLT regKey; omega

theorem gateBits_mask (ax : Axis) {i : Nat} (h : 8 ≤ i ∧ i ≤ 9) : gateBits (R.PWM_STAT ax) i := by
  unfold gateBits R.PWM_STAT regKey; omega

theorem page_flt (ax : Axis) : 0x10 ≤ R.GD_FLT ax / 128 := by unfold R.GD_FLT regKey; omega

theorem page_stat (ax : Axis) : 0x10 ≤ R.PWM_STAT ax / 128 := by unfold R.PWM_STAT regKey; omega

/-- The two bridges of an axis. -/
def bridgesOf (p : PwmAx) : Bridges × Bridges := (p.a, p.b)

abbrev KeepsGates (s t : State) : Prop := Keeps bridgesOf gateBits s t

theorem Keeps.br_eq {t : State} {P : Nat → Nat → Prop} (h : Keeps bridgesOf P s t) : t.br ax br = s.br ax br := by
  obtain ⟨ha, hb⟩ := Prod.mk.inj (h.pwm ax)
  cases br with
  | a => exact ha
  | b => exact hb

theorem keeps_onLeg {P : Nat → Nat → Prop} {g : LegSt → LegSt} : Keeps bridgesOf P s (s.onLeg ax j g) := keeps_onPwm rfl

theorem keeps_fltBit {i : Nat} {v : Bool} (hi : i < 32) : KeepsGates s (s.setBit (R.GD_FLT ax) i v) :=
  keeps_setBit (page_flt ax) hi (gateBits_flt ax i)

theorem keeps_settleGd (hs : NoReset s) : KeepsGates s (s.settleGd ax) := by
  unfold State.settleGd
  have h1 := keeps_level (f := bridgesOf) (P := gateBits) (src := 64 + ax) (v := fldOf (s.get (R.GD_FLT ax)) 15 8 ≠ 0)
    (d := s.get (R.GD_FLT ax)) hs (by omega)
  have h2 := h1.trans (keeps_level (src := 72 + ax) (v := fldOf (s.get (R.GD_FLT ax)) 19 18 ≠ 0) (d := s.get (R.GD_FLT ax))
    (h1.noReset hs) (by omega))
  have h3 := h2.trans (keeps_level (src := 88 + ax) (v := fldOf (s.get (R.GD_FLT ax)) 23 20 ≠ 0) (d := s.get (R.GD_FLT ax))
    (h2.noReset hs) (by omega))
  exact h3.trans (keeps_level (h3.noReset hs) (by omega))

theorem keeps_disarm (hs : NoReset s) : KeepsGates s (s.disarm ax j) := by
  have h1 : KeepsGates s (s.vdsClear ax j) := (keeps_fltBit (by omega)).trans (keeps_fltBit (by omega))
  have h2 : KeepsGates s ((s.vdsClear ax j).onLeg ax j fun l => { l with armed := false }) := h1.trans keeps_onLeg
  exact .ite (h2.trans (keeps_settleGd (h2.noReset hs))) h2

theorem keeps_unstick (hs : NoReset s) : KeepsGates s (s.unstick ax j) := by
  have h1 : KeepsGates s (s.setBit (R.GD_FLT ax) (20 + j) false) := keeps_fltBit (by omega)
  exact .ite (h1.trans (keeps_settleGd (h1.noReset hs))) .refl

theorem keeps_lookGd {P : Nat → Nat → Prop} : Keeps bridgesOf P s (s.lookGd ax) := by
  unfold State.lookGd
  exact .ite .refl ⟨rfl, rfl, id, fun _ => rfl, fun _ _ _ => rfl⟩

theorem keeps_raiseBst (hs : NoReset s) : KeepsGates s (s.raiseBst ax) := by
  unfold State.raiseBst
  have h1 : KeepsGates s (s.raise (80 + ax) (s.gdStat ax)) :=
    (raise_only ⟨hs.1, hs.2 (80 + ax) (by omega) _⟩).collector.keeps
  exact .ite (h1.trans keeps_lookGd) .refl

/-- A leg commanded to one side: its monitors may disarm, STUCK may end, its state follows, and a lockout may be raised. -/
theorem legCommand_some (s : State) (ax : Axis) (j : Leg) (hi : Bool) : ∃ (already on low : Bool) (g : LegSt → LegSt),
    s.legCommand ax j (some hi) =
      let s1 := if already then s else s.disarm ax j
      let s2 := if on then s1.unstick ax j else s1
      let s3 := s2.onLeg ax j g
      if low then s3.raiseBst ax else s3 :=
  ⟨_, _, _, _, rfl⟩

/-- A leg commanded off: a gate that is stuck on stays on, and everything else of the leg is off (R258). -/
theorem legCommand_none (s : State) (ax : Axis) (j : Leg) : s.legCommand ax j none = (s.disarm ax j).onLeg ax j fun l =>
    { l with hiCmd := false, loCmd := false, hiOn := l.hiOn && s.bit (R.GD_FLT ax) (20 + j)
             loOn := l.loOn && s.bit (R.GD_FLT ax) (20 + j), wait := none, bstHeld := false } := rfl

theorem keeps_legCommand {cmd : Option Bool} (hs : NoReset s) : KeepsGates s (s.legCommand ax j cmd) := by
  cases cmd with
  | none =>
    rw [legCommand_none]
    exact (keeps_disarm hs).trans keeps_onLeg
  | some hi =>
    obtain ⟨already, on, low, g, heq⟩ := legCommand_some s ax j hi
    rw [heq]
    extract_lets s1 s2 s3
    have h1 : KeepsGates s s1 := .ite .refl (keeps_disarm hs)
    have h2 : KeepsGates s s2 := .ite (h1.trans (keeps_unstick (h1.noReset hs))) h1
    have h3 : KeepsGates s s3 := h2.trans keeps_onLeg
    exact .ite (h3.trans (keeps_raiseBst (h3.noReset hs))) h3

theorem keeps_bridgeOff : KeepsGates s (s.bridgeOff ax br) := keeps_onLeg.trans keeps_onLeg

theorem brIx_le (br : Bridge) : brIx br ≤ 1 := by cases br <;> decide

theorem keeps_edge {hi : Bool} (hs : NoReset s) : KeepsGates s (s.edge ax br j hi) := by
  have hb := brIx_le br
  have h1 : KeepsGates s (s.setMask ax br true) := keeps_setBit (page_stat ax) (by omega) (gateBits_mask ax (by omega))
  exact .ite .refl (h1.trans (keeps_legCommand (h1.noReset hs)))

theorem keeps_bridgeTo {left right : Bool} (hs : NoReset s) : KeepsGates s (s.bridgeTo ax br left right) :=
  have h1 : KeepsGates s (s.edge ax br (legsOf br).1 left) := keeps_edge hs
  h1.trans (keeps_edge (h1.noReset hs))

theorem keeps_resumeHigh (hs : NoReset s) : KeepsGates s (s.resumeHigh ax j) := .ite (keeps_legCommand hs) .refl

theorem keeps_levelGate (hs : NoReset s) : KeepsGates s (s.levelGate ax br) := by
  have h1 : KeepsGates s (s.disarm ax (legsOf br).1) := keeps_disarm hs
  have h2 := h1.trans (keeps_disarm (ax := ax) (j := (legsOf br).2) (h1.noReset hs))
  exact .ite (h2.trans keeps_bridgeOff) .refl

theorem keeps_centreStart (hs : NoReset s) : KeepsGates s (s.centreStart ax br) := keeps_bridgeTo hs

end Sys2Proof.Machine
end

section
/-! PROOFS. Periods of a bridge and the transfer of the shadows: what they adopt, and which registers they write. -/

namespace Sys2Proof.Machine

variable {β : Type} {f : PwmAx → β} {s : State} {ax : Axis} {br : Bridge} {j : Leg}

/-! ### Registers of a period -/

/-- The registers of pages 0x28 to 0x2F that every period start writes: on-times, trip windows and the held tacks. -/
def periodBits (k _i : Nat) : Prop := 0x28 ≤ k / 128 ∧ k / 128 < 0x30
  ∧ (k % 128 = 0x08 ∨ k % 128 = 0x09 ∨ k % 128 = 0x0C ∨ k % 128 = 0x10 ∨ k % 128 = 0x14)

/-- Those, and the mark of a split transfer in PWM_STAT. -/
def transferBits (k i : Nat) : Prop := periodBits k i ∨ (0x28 ≤ k / 128 ∧ k / 128 < 0x30 ∧ k % 128 = 0x0B ∧ i = 12)

theorem periodBits_duty (ax : Axis) (br : Bridge) (i : Nat) : 0x10 ≤ dutyReg ax br / 128 ∧ periodBits (dutyReg ax br) i := by
  cases br <;> simp only [periodBits, dutyReg, R.PWM_DUTYA, R.PWM_DUTYB, regKey] <;> omega

theorem periodBits_trip (ax : Axis) (i : Nat) : 0x10 ≤ R.PWM_TRIP ax / 128 ∧ periodBits (R.PWM_TRIP ax) i := by
  unfold periodBits R.PWM_TRIP regKey; omega

theorem periodBits_tack (ax : Axis) (br : Bridge) (i : Nat) : 0x10 ≤ tackReg ax br 0 / 128 ∧ periodBits (tackReg ax br 0) i := by
  cases br <;> simp only [periodBits, tackReg, brIx, R.PWM_TACKA, regKey] <;> omega

/-- A reading of an axis that does not see the on-times in force. -/
def BlindToOnTime (f : PwmAx → β) : Prop := ∀ (p : PwmAx) (o : OnTime),
  f { p with a := { p.a with act := o } } = f p ∧ f { p with b := { p.b with act := o } } = f p

theorem keeps_showTrips : Keeps f periodBits s (s.showTrips ax br) := by
  have h (i : Nat) := periodBits_trip ax i
  cases br
  · exact keeps_setFld (h 0).1 (by decide) (by decide) fun i _ _ => (h i).2
  · exact keeps_setFld (h 0).1 (by decide) (by decide) fun i _ _ => (h i).2

theorem keeps_dutySet {w : Word} : Keeps f periodBits s (s.set (dutyReg ax br) w) :=
  keeps_set (periodBits_duty ax br 0).1 fun i => (periodBits_duty ax br i).2

theorem keeps_zeroDuty (hf : BlindToOnTime f) : Keeps f periodBits s (s.zeroDuty ax br) := by
  have hact {o : OnTime} : Keeps f periodBits s (s.onBr ax br fun b => { b with act := o }) := by
    cases br
    · exact keeps_onPwm (hf _ o).1
    · exact keeps_onPwm (hf _ o).2
  exact .ite .refl (hact.trans keeps_dutySet)

theorem keeps_holdTacks : Keeps f periodBits s (s.holdTacks ax) := by
  have h (br : Bridge) (u : State) (w : Word) : Keeps f periodBits u (u.set (tackReg ax br 0) w) :=
    keeps_set (periodBits_tack ax br 0).1 fun i => (periodBits_tack ax br i).2
  exact .ite ((h .a _ _).trans (h .b _ _)) .refl

theorem keeps_draw {P : Nat → Nat → Prop} : Keeps f P s s.drawBit.2 := ⟨rfl, rfl, id, fun _ => rfl, fun _ _ _ => rfl⟩

theorem keeps_onScaled {P : Nat → Nat → Prop} (o : OnTime) (per : Nat) : Keeps f P s (s.onScaled o per).2 := by
  unfold State.onScaled
  dsimp only
  split
  · exact keeps_draw
  · exact .refl

/-- The on-time shown is written over a state that may have drawn a free bit. -/
theorem showDuty_eq (s : State) (ax : Axis) (br : Bridge) : ∃ (u : State) (w : Word), s.showDuty ax br = u.set (dutyReg ax br) w
    ∧ (u = s ∨ ∃ o per, u = (s.onScaled o per).2) := by
  unfold State.showDuty
  dsimp only
  split
  · exact ⟨_, _, rfl, .inl rfl⟩
  · split
    · exact ⟨_, _, rfl, .inr ⟨_, _, rfl⟩⟩
    · exact ⟨_, _, rfl, .inl rfl⟩

theorem keeps_showDuty : Keeps f periodBits s (s.showDuty ax br) := by
  obtain ⟨u, w, heq, rfl | ⟨o, per, rfl⟩⟩ := showDuty_eq s ax br <;> rw [heq]
  · exact keeps_dutySet
  · exact (keeps_onScaled o per).trans keeps_dutySet

/-! ### The transfer -/

/-- The shadows written since the last transfer are taken; the on-times have yet to be shown. -/
def shadowsTaken (s : State) (ax : Axis) : State :=
  let s := if (vget s.pwm ax).sperNew then s.set (R.PWM_PER ax) (wordOfNat (s.sper ax)) else s
  let take (b : Bridges) : Bridges := { b with act := b.shadow.getD b.act, shadow := none }
  s.onPwm ax fun p => { p with a := take p.a, b := take p.b, sperNew := false }

/-- The end of a transfer: the on-times in force are shown, and a split one is marked. -/
def onTimesShown (s : State) (ax : Axis) : State :=
  let s := (s.zeroDuty ax .a).zeroDuty ax .b
  let split := (s.br ax .a).act.tag ≠ s.per ax || (s.br ax .b).act.tag ≠ s.per ax
  let s := s.setBit (R.PWM_STAT ax) 12 split
  let s := if split then s.incFld (R.PWM_TRIP ax) 15 8 else s
  ((s.showDuty ax .a).showDuty ax .b).holdTacks ax

theorem transfer_eq : s.transfer ax = onTimesShown (shadowsTaken s ax) ax := rfl

theorem keeps_onTimesShown (hf : BlindToOnTime f) : Keeps f transferBits s (onTimesShown s ax) := by
  have hmono {u v : State} (h : Keeps f periodBits u v) : Keeps f transferBits u v := h.mono fun _ _ => .inl
  have hmark (u : State) (v : Bool) : Keeps f transferBits u (u.setBit (R.PWM_STAT ax) 12 v) :=
    keeps_setBit (page_stat ax) (by decide) (.inr (by unfold R.PWM_STAT regKey; omega))
  have htrip (u : State) : Keeps f periodBits u (u.incFld (R.PWM_TRIP ax) 15 8) :=
    keeps_setFld (periodBits_trip ax 0).1 (by decide) (by decide) fun i _ _ => (periodBits_trip ax i).2
  unfold onTimesShown
  extract_lets s1 split s2 s3
  have h1 : Keeps f transferBits s s1 := hmono ((keeps_zeroDuty hf).trans (keeps_zeroDuty hf))
  have h2 : Keeps f transferBits s s2 := h1.trans (hmark s1 split)
  have h3 : Keeps f transferBits s s3 := .ite (h2.trans (hmono (htrip s2))) h2
  exact h3.trans (hmono ((keeps_showDuty.trans keeps_showDuty).trans keeps_holdTacks))

/-- What the transfer takes: the shadow period where one was written, and no shadow stays. -/
theorem per_shadowsTaken (h : (vget s.pwm ax).sperNew = true) : (shadowsTaken s ax).per ax = s.sper ax := by
  have hle : s.sper ax ≤ 16000 := by unfold State.sper; omega
  have hget : (shadowsTaken s ax).get (R.PWM_PER ax) = wordOfNat (s.sper ax) := by
    unfold shadowsTaken
    rw [h]
    exact State.get_set_same _ _ _
  rw [State.per, State.fld, hget]
  unfold fldOf wordOfNat
  rw [BitVec.toNat_ofNat, Nat.shiftRight_zero]
  omega

/-- The bits of PWM_PER. -/
def perBits (k _i : Nat) : Prop := 0x28 ≤ k / 128 ∧ k / 128 < 0x30 ∧ k % 128 = 0x06

theorem keeps_shadowsTaken (hf : ∀ (p : PwmAx) (x y : OnTime),
    f { p with a := { p.a with act := x, shadow := none }, b := { p.b with act := y, shadow := none }, sperNew := false } = f p) :
    Keeps f perBits s (shadowsTaken s ax) := by
  have hset : Keeps f perBits s (s.set (R.PWM_PER ax) (wordOfNat (s.sper ax))) := by
    refine keeps_set ?_ fun i => ?_
    · unfold R.PWM_PER regKey; omega
    · unfold perBits R.PWM_PER regKey; omega
  unfold shadowsTaken
  extract_lets s1 take
  have h1 : Keeps f perBits s s1 := .ite hset .refl
  exact h1.trans (keeps_onPwm (hf _ _ _))

theorem shadow_shadowsTaken : ((shadowsTaken s ax).br ax br).shadow = none := by
  unfold shadowsTaken State.br State.onPwm
  cases br <;> simp only [vget_vset_same]

/-! ### The start of a period -/

/-- What a period start settles of a bridge: the record adopted, its trips, that it waits no more, and whether it is in an off-phase. -/
def startedOf (b : Bridges) : TickRec × Bool × List Bool × Bool × Bool := (b.adopted, b.tripNow, b.trips, b.held, decide (b.phase = .off))

/-- That of one of an axis's bridges. -/
def startedAt (br : Bridge) (p : PwmAx) : TickRec × Bool × List Bool × Bool × Bool :=
  startedOf (match br with | .a => p.a | .b => p.b)

theorem startedAt_eq (s : State) (ax : Axis) (br : Bridge) : startedAt br (vget s.pwm ax) = startedOf (s.br ax br) := by
  cases br <;> rfl

theorem Keeps.started {t : State} {P : Nat → Nat → Prop} (h : Keeps (startedAt br) P s t) :
    startedOf (t.br ax br) = startedOf (s.br ax br) := by
  rw [← startedAt_eq, ← startedAt_eq, h.pwm ax]

theorem keeps_onBr {P : Nat → Nat → Prop} {g : Bridges → Bridges} (hg : startedOf (g (s.br ax br)) = startedOf (s.br ax br)) :
    Keeps (startedAt br) P s (s.onBr ax br g) := by
  cases br
  · exact keeps_onPwm hg
  · exact keeps_onPwm hg

theorem KeepsGates.started {t : State} (h : KeepsGates s t) : Keeps (startedAt br) gateBits s t := by
  refine { h with pwm := fun ax => ?_ }
  rw [startedAt_eq, startedAt_eq, h.br_eq]

theorem blind_startedAt (br : Bridge) : BlindToOnTime (startedAt br) := fun _ _ => by cases br <;> exact ⟨rfl, rfl⟩

/-- The record of the period that ends moves on, and the new one adopts the axis's latest tick record (R10, R249). -/
def recordMoved (s : State) (ax : Axis) (br : Bridge) : State :=
  s.onBr ax br fun b => { b with
    trips := (b.tripNow :: b.trips).take 254, tripNow := false, adopted := (s.me ax).record, valley := false, minPer := false
    phase := .idle, held := false }

theorem started_recordMoved : startedOf ((recordMoved s ax br).br ax br)
    = ((s.me ax).record, false, ((s.br ax br).tripNow :: (s.br ax br).trips).take 254, false, false) := by
  rw [recordMoved, br_onBr, if_pos ⟨rfl, rfl⟩]
  rfl

/-- The shadows that a period start takes: in CENTRE, once they are committed (R243). -/
def committed (s : State) (ax : Axis) : State :=
  if s.bmode ax = 0 ∧ s.bit (R.PWM_STAT ax) 13 then (s.transfer ax).setBit (R.PWM_STAT ax) 13 false else s

/-- After the shadows, a period start writes on-times and tacks alone. -/
theorem keeps_newPeriod : Keeps (startedAt br) periodBits (committed ((recordMoved s ax br).showTrips ax br) ax) (s.newPeriod ax br) := by
  unfold State.newPeriod
  extract_lets s1 s2 s3 s4 u now s5
  have h4 : Keeps (startedAt br) periodBits s3 s4 := (keeps_zeroDuty (blind_startedAt br)).trans keeps_holdTacks
  have h5 : Keeps (startedAt br) periodBits s3 s5 := h4.trans (keeps_onBr rfl)
  exact h5.trans (keeps_onBr rfl)

theorem keeps_chopStart (hs : NoReset s) (hphase : (startedOf (s.br ax br)).2.2.2.2 = false) :
    Keeps (startedAt br) gateBits s (s.chopStart ax br) := by
  have hon (d : Bool) : Keeps (startedAt br) gateBits s (s.onBr ax br fun b => { b with phase := .on, diagA := d }) :=
    keeps_onBr (by simp only [startedOf] at hphase ⊢; rw [hphase]; rfl)
  have hstart := hon (decide (0 < if s.crEn ax then s.bridgeDemand ax br else 0))
  exact .ite (keeps_bridgeTo hs).started (.ite hstart (hstart.trans (keeps_bridgeTo (hstart.noReset hs)).started))

/-- What follows the new period's records: gates and masks alone. -/
theorem keeps_startPeriod (hs : NoReset (s.newPeriod ax br)) (hphase : (startedOf ((s.newPeriod ax br).br ax br)).2.2.2.2 = false) :
    Keeps (startedAt br) gateBits (s.newPeriod ax br) (s.startPeriod ax br) := by
  unfold State.startPeriod
  extract_lets s1 s2 fresh s3
  have hfresh (u : State) : Keeps (startedAt br) gateBits u (u.onBr ax br fun b => { b with fresh := false }) := keeps_onBr rfl
  have h1 : Keeps (startedAt br) gateBits (s.newPeriod ax br) s1 := (keeps_levelGate hs).started
  have h2 : Keeps (startedAt br) gateBits (s.newPeriod ax br) s2 := by
    have h := h1.trans (keeps_resumeHigh (ax := ax) (j := (legsOf br).1) (h1.noReset hs)).started
    exact h.trans (keeps_resumeHigh (h.noReset hs)).started
  have h3 : Keeps (startedAt br) gateBits (s.newPeriod ax br) s3 := h2.trans (hfresh s2)
  have hs3 := h3.noReset hs
  refine .ite (h1.trans (hfresh s1)) (.ite (h3.trans (keeps_chopStart hs3 ?_)) (.ite h3 (h3.trans (keeps_centreStart hs3).started)))
  rw [h3.started, hphase]

/-- COMMIT's mark in PWM_STAT and PWM_PER are no business of the gates, nor of a period start beyond the transfer. -/
theorem commit_untouched (ax : Axis) (i : Nat) : ¬gateBits (R.PWM_STAT ax) 13 ∧ ¬periodBits (R.PWM_STAT ax) i
    ∧ ¬gateBits (R.PWM_PER ax) i ∧ ¬periodBits (R.PWM_PER ax) i ∧ ¬transferBits (R.PWM_PER ax) i := by
  unfold transferBits gateBits periodBits R.PWM_STAT R.PWM_PER regKey
  omega

/-- The register bits that taking committed shadows may write. -/
def commitBits (k i : Nat) : Prop := transferBits k i ∨ perBits k i ∨ (0x28 ≤ k / 128 ∧ k / 128 < 0x30 ∧ k % 128 = 0x0B ∧ i = 13)

theorem keeps_committed : Keeps (startedAt br) commitBits s (committed s ax) := by
  have htaken : Keeps (startedAt br) commitBits s (shadowsTaken s ax) :=
    (keeps_shadowsTaken fun p x y => by cases br <;> rfl).mono fun _ _ h => .inr (.inl h)
  have hshown : Keeps (startedAt br) commitBits s (s.transfer ax) :=
    htaken.trans ((keeps_onTimesShown (blind_startedAt br)).mono fun _ _ => .inl)
  have hmark (u : State) : Keeps (startedAt br) commitBits u (u.setBit (R.PWM_STAT ax) 13 false) :=
    keeps_setBit (page_stat ax) (by decide) (.inr (.inr (by unfold R.PWM_STAT regKey; omega)))
  exact .ite (hshown.trans (hmark _)) .refl

theorem committed_of_not (h : ¬(s.bmode ax = 0 ∧ s.bit (R.PWM_STAT ax) 13 = true)) : committed s ax = s := if_neg h

/-- In CENTRE nothing stays committed, and the shadow period is in force where one was written and committed (R243). -/
theorem committed_centre (h : s.bmode ax = 0) : (committed s ax).bit (R.PWM_STAT ax) 13 = false
    ∧ (s.bit (R.PWM_STAT ax) 13 = true → (vget s.pwm ax).sperNew = true → (committed s ax).per ax = s.sper ax) := by
  by_cases hbit : s.bit (R.PWM_STAT ax) 13 = true
  · have heq : committed s ax = (s.transfer ax).setBit (R.PWM_STAT ax) 13 false := if_pos ⟨h, hbit⟩
    rw [heq]
    refine ⟨by rw [State.bit_setBit _ _ _ _ _ _ (by decide), if_pos ⟨rfl, rfl⟩], fun _ hnew => ?_⟩
    have hne : R.PWM_PER ax ≠ R.PWM_STAT ax := by unfold R.PWM_PER R.PWM_STAT regKey; omega
    have hshown : Keeps (startedAt .a) transferBits (shadowsTaken s ax) (onTimesShown (shadowsTaken s ax) ax) :=
      keeps_onTimesShown (blind_startedAt .a)
    rw [State.per, State.fld_setBit_other _ _ _ _ _ _ _ (.inl hne), ← per_shadowsTaken hnew]
    exact hshown.fld fun i _ _ => (commit_untouched ax i).2.2.2.2
  · rw [committed_of_not fun hc => hbit hc.2]
    exact ⟨by simpa using hbit, fun hc => absurd hc hbit⟩

/-- What holds once a period of a bridge has begun (R10, R243, R249). -/
def Begun (s t : State) (ax : Axis) (br : Bridge) : Prop :=
  (t.br ax br).adopted = (s.me ax).record ∧ (t.br ax br).tripNow = false
  ∧ (t.br ax br).trips = ((s.br ax br).tripNow :: (s.br ax br).trips).take 254 ∧ (t.br ax br).phase ≠ .off ∧ (t.br ax br).held = false
  ∧ t.mot = s.mot ∧ (s.bmode ax ≠ 0 → t.bit (R.PWM_STAT ax) 13 = s.bit (R.PWM_STAT ax) 13 ∧ t.per ax = s.per ax)
  ∧ (s.bmode ax = 0 → t.bit (R.PWM_STAT ax) 13 = false
      ∧ (s.bit (R.PWM_STAT ax) 13 = true → (vget s.pwm ax).sperNew = true → t.per ax = s.sper ax))

theorem startPeriod_begun (hs : NoReset s) : Begun s (s.startPeriod ax br) ax br := by
  set n := (recordMoved s ax br).showTrips ax br with hn
  have hmoved : Keeps (startedAt br) periodBits (recordMoved s ax br) n := keeps_showTrips
  have hcommit : Keeps (startedAt br) commitBits n (committed n ax) := keeps_committed
  have hnew : Keeps (startedAt br) periodBits (committed n ax) (s.newPeriod ax br) := keeps_newPeriod
  have hsnew : NoReset (s.newPeriod ax br) := hnew.noReset (hcommit.noReset (hmoved.noReset hs))
  have hrecord : startedOf ((s.newPeriod ax br).br ax br)
      = ((s.me ax).record, false, ((s.br ax br).tripNow :: (s.br ax br).trips).take 254, false, false) := by
    rw [hnew.started, hcommit.started, hmoved.started, started_recordMoved]
  have hstart := keeps_startPeriod hsnew (by rw [hrecord])
  have hstarted := hstart.started.trans hrecord
  have hbit : (s.startPeriod ax br).bit (R.PWM_STAT ax) 13 = (committed n ax).bit (R.PWM_STAT ax) 13 := by
    obtain ⟨hg, hp, _⟩ := commit_untouched ax 13
    rw [hstart.bit _ _ hg, hnew.bit _ _ hp]
  have hper : (s.startPeriod ax br).per ax = (committed n ax).per ax := by
    rw [State.per, State.per, hstart.fld fun i _ _ => (commit_untouched ax i).2.2.1, hnew.fld fun i _ _ => (commit_untouched ax i).2.2.2.1]
  have hnbit : n.bit (R.PWM_STAT ax) 13 = s.bit (R.PWM_STAT ax) 13 := hmoved.bit _ _ (commit_untouched ax 13).2.1
  have hnper : n.per ax = s.per ax := hmoved.fld fun i _ _ => (commit_untouched ax i).2.2.2.1
  have hother {k hi lo : Nat} (h : ∀ i, ¬periodBits k i) : n.fld k hi lo = s.fld k hi lo := hmoved.fld fun i _ _ => h i
  have hmode : n.bmode ax = s.bmode ax := by
    rw [State.bmode, State.bmode, hother fun i => by unfold periodBits R.CR_CFG regKey; omega]
  have hsper : n.sper ax = s.sper ax := by
    rw [State.sper, State.sper, hother fun i => by unfold periodBits R.PWM_SPER regKey; omega]
  have hsperNew : (vget n.pwm ax).sperNew = (vget s.pwm ax).sperNew := by
    rw [hn]; cases br <;> simp [recordMoved, State.showTrips, State.onBr, State.onPwm]
  simp only [startedOf, Prod.mk.injEq, decide_eq_false_iff_not] at hstarted
  obtain ⟨hadopted, htrip, htrips, hheld, hphase⟩ := hstarted
  refine ⟨hadopted, htrip, htrips, hphase, hheld, hstart.mot.trans (hnew.mot.trans (hcommit.mot.trans hmoved.mot)), fun h => ?_, fun h => ?_⟩
  · have heq : committed n ax = n := committed_of_not fun hc => h (hmode ▸ hc.1)
    rw [hbit, hper, heq]
    exact ⟨hnbit, hnper⟩
  · obtain ⟨hclear, htaken⟩ := committed_centre (hmode.trans h)
    rw [hbit, hper, ← hsper, ← hnbit, ← hsperNew]
    exact ⟨hclear, htaken⟩

end Sys2Proof.Machine
end

section
/-! PROOFS. Enabling and disabling the bridges of an axis, COMMIT, and the phases of the chopping modes. -/

namespace Sys2Proof.Machine

variable {β : Type} {f : PwmAx → β} {s : State} {m : Master} {ax : Axis} {br : Bridge} {j : Leg}

theorem Keeps.pwm_eq {t : State} {P : Nat → Nat → Prop} (h : Keeps id P s t) (ax : Axis) : vget t.pwm ax = vget s.pwm ax := h.pwm ax

theorem leg_congr {t : State} (h : (vget t.pwm ax).legs = (vget s.pwm ax).legs) (j : Leg) : t.leg ax j = s.leg ax j := by
  unfold State.leg; rw [h]

/-- The end of a parity error in a register's page touches the collector's conditions alone. -/
theorem mend_frame (s : State) (k : Nat) :
    s.mend k = { s with parityBad := (s.mend k).parityBad, fcPresent := (s.mend k).fcPresent } := by
  unfold State.mend State.settleParity
  split
  · split <;> rfl
  · rfl

/-! ### PWM_CFG.EN set (R252) -/

/-- The register bits that setting EN writes beside the transfer: the diagnostics that end, and EN. -/
def enableBits (k i : Nat) : Prop := (0x30 ≤ k / 128 ∧ (k % 128 = 0x03 ∧ 18 ≤ i ∨ k % 128 = 0x06 ∨ k % 128 = 0x07))
  ∨ (0x28 ≤ k / 128 ∧ k / 128 < 0x30 ∧ k % 128 = 0x00)

theorem keeps_endDiag : Keeps f enableBits s (s.endDiag ax) := by
  have hstat (u : State) (i : Nat) (h18 : 18 ≤ i) (h32 : i < 32) : Keeps f enableBits u (u.setBit (R.GD_STAT ax) i false) :=
    keeps_setBit (by unfold R.GD_STAT regKey; omega) h32 (by unfold enableBits R.GD_STAT regKey; omega)
  have hdiag (u : State) : Keeps f enableBits u (u.set (R.GD_DIAG ax) 0#32) :=
    keeps_set (by unfold R.GD_DIAG regKey; omega) fun i => by unfold enableBits R.GD_DIAG regKey; omega
  have hstres (u : State) : Keeps f enableBits u (u.set (R.GD_STRES ax) 0#32) :=
    keeps_set (by unfold R.GD_STRES regKey; omega) fun i => by unfold enableBits R.GD_STRES regKey; omega
  unfold State.endDiag
  extract_lets s1
  have h1 : Keeps f enableBits s s1 := .ite ((hstat s 18 (by decide) (by decide)).trans (hdiag _)) .refl
  exact .ite (h1.trans ((hstat s1 19 (by decide) (by decide)).trans (hstres _))) h1

/-- The state of an axis whose EN has been set, before its shadows transfer. -/
def enSet (s : State) (ax : Axis) : State :=
  (({ s with sys := { s.sys with bridged := true } }.endDiag ax).prechargeEnd ax).setBit (R.PWM_CFG ax) 31 true

theorem keeps_enSet (hpre : s.bit (R.GD_STAT ax) 17 = false) : Keeps id enableBits s (enSet s ax) := by
  have hbridged : Keeps id enableBits s { s with sys := { s.sys with bridged := true } } := ⟨rfl, rfl, id, fun _ => rfl, fun _ _ _ => rfl⟩
  have hdiag := hbridged.trans (keeps_endDiag (ax := ax))
  have hbit := hdiag.bit (R.GD_STAT ax) 17 (by unfold enableBits R.GD_STAT regKey; omega)
  have hend : (State.endDiag { s with sys := { s.sys with bridged := true } } ax).prechargeEnd ax
      = State.endDiag { s with sys := { s.sys with bridged := true } } ax := if_neg (by rw [hbit, hpre]; decide)
  unfold enSet
  rw [hend]
  exact hdiag.trans (keeps_setBit (by unfold R.PWM_CFG regKey; omega) (by decide) (by unfold enableBits R.PWM_CFG regKey; omega))

/-- A bridge begins afresh once EN is set. -/
def freshBridge (s : State) (ax : Axis) (br : Bridge) (b : Bridges) : Bridges :=
  { b with fresh := true, phase := .idle, tacks := Vector.ofFn fun k => s.get (tackReg ax br k) }

theorem pwmEnable_of_off (h : s.pwmEn ax = false) : s.pwmEnable ax = ((enSet s ax).transfer ax).onPwm ax fun p =>
    { p with a := freshBridge ((enSet s ax).transfer ax) ax .a p.a, b := freshBridge ((enSet s ax).transfer ax) ax .b p.b } := by
  unfold State.pwmEnable
  rw [h]
  rfl

theorem br_onPwm_both (ga gb : Bridges → Bridges) : (s.onPwm ax fun p => { p with a := ga p.a, b := gb p.b }).br ax br
    = (match br with | .a => ga | .b => gb) (s.br ax br) := by
  cases br <;> simp [State.br, State.onPwm]

theorem keeps_transfer (hf : ∀ (p : PwmAx) (x y : OnTime),
      f { p with a := { p.a with act := x, shadow := none }, b := { p.b with act := y, shadow := none }, sperNew := false } = f p)
    (hblind : BlindToOnTime f) : Keeps f (fun k i => perBits k i ∨ transferBits k i) s (s.transfer ax) :=
  ((keeps_shadowsTaken hf).mono fun _ _ => .inl).trans ((keeps_onTimesShown hblind).mono fun _ _ => .inr)

/-- Setting EN moves the shadows at once, turns no gate on and marks both bridges fresh (R252). -/
theorem pwmEnable_spec (hoff : s.pwmEn ax = false) (hpre : s.bit (R.GD_STAT ax) 17 = false) :
    (s.pwmEnable ax).pwmEn ax = true ∧ ((s.pwmEnable ax).br ax br).fresh = true ∧ (∀ j : Leg, (s.pwmEnable ax).leg ax j = s.leg ax j)
    ∧ ((vget s.pwm ax).sperNew = true → (s.pwmEnable ax).per ax = s.sper ax) ∧ ((s.pwmEnable ax).br ax br).shadow = none
    ∧ (s.pwmEnable ax).mot = s.mot := by
  set v := enSet s ax with hv
  have hset : Keeps id enableBits s v := keeps_enSet hpre
  have hlegs : Keeps (·.legs) (fun k i => perBits k i ∨ transferBits k i) v (v.transfer ax) :=
    keeps_transfer (fun _ _ _ => rfl) fun _ _ => ⟨rfl, rfl⟩
  have hshadows : Keeps (fun p => (p.a.shadow, p.b.shadow)) transferBits (shadowsTaken v ax) (v.transfer ax) :=
    keeps_onTimesShown fun _ _ => ⟨rfl, rfl⟩
  rw [pwmEnable_of_off hoff]
  refine ⟨?_, ?_, fun j => ?_, fun hnew => ?_, ?_, hlegs.mot.trans hset.mot⟩
  · have hbit : (v.transfer ax).bit (R.PWM_CFG ax) 31 = v.bit (R.PWM_CFG ax) 31 :=
      hlegs.bit _ _ (by unfold perBits transferBits periodBits R.PWM_CFG regKey; omega)
    refine hbit.trans ?_
    rw [hv, enSet, State.bit_setBit _ _ _ _ _ _ (by decide), if_pos ⟨rfl, rfl⟩]
  · rw [br_onPwm_both]
    cases br <;> rfl
  · refine leg_congr ?_ j
    rw [State.onPwm, vget_vset_same]
    exact (hlegs.pwm ax).trans (congrArg PwmAx.legs (hset.pwm_eq ax))
  · have hsper : v.sper ax = s.sper ax := by
      rw [State.sper, State.sper, hset.fld fun i _ _ => by unfold enableBits R.PWM_SPER regKey; omega]
    have hper : (v.transfer ax).per ax = (shadowsTaken v ax).per ax := hshadows.fld fun i _ _ => (commit_untouched ax i).2.2.2.2
    refine hper.trans ?_
    rw [per_shadowsTaken (by rw [hset.pwm_eq]; exact hnew), hsper]
  · rw [br_onPwm_both]
    obtain ⟨ha, hb⟩ := Prod.mk.inj (hshadows.pwm ax)
    cases br
    · exact ha.trans (shadow_shadowsTaken (br := .a))
    · exact hb.trans (shadow_shadowsTaken (br := .b))

/-! ### PWM_CFG.EN cleared (R251) -/

theorem leg_onLeg (g : LegSt → LegSt) (i : Leg) : (s.onLeg ax j g).leg ax i = if i = j then g (s.leg ax j) else s.leg ax i := by
  simp only [State.leg, State.onLeg, State.onPwm, vget_vset_same, vget_vset]

theorem OnlyCollector.leg {t : State} (h : OnlyCollector s t) (i : Leg) : t.leg ax i = s.leg ax i := by
  unfold State.leg; rw [h]

theorem settleGd_only (hs : NoReset s) : OnlyCollector s (s.settleGd ax) := by
  have hstep {u : State} {src : Nat} {v : Bool} {d : Word} (hu : OnlyCollector s u) (hsrc : src < 126) : OnlyCollector s (u.level src v d) :=
    have hs' : NoReset u := (hu.keeps (f := id) (P := fun _ _ => False)).noReset hs
    hu.trans (level_only ⟨hs'.1, hs'.2 src hsrc d⟩)
  unfold State.settleGd
  exact hstep (hstep (hstep (hstep (.refl s) (by omega)) (by omega)) (by omega)) (by omega)

/-- Disarming a leg leaves the commands and the gates of every leg, and the findings of GD_FLT above those of the monitors. -/
theorem disarm_legs (hs : NoReset s) : (∀ i : Leg, ((s.disarm ax j).leg ax i).hiCmd = (s.leg ax i).hiCmd
      ∧ ((s.disarm ax j).leg ax i).loCmd = (s.leg ax i).loCmd ∧ ((s.disarm ax j).leg ax i).hiOn = (s.leg ax i).hiOn
      ∧ ((s.disarm ax j).leg ax i).loOn = (s.leg ax i).loOn)
    ∧ ∀ i, 16 ≤ i → (s.disarm ax j).bit (R.GD_FLT ax) i = s.bit (R.GD_FLT ax) i := by
  set u := (s.vdsClear ax j).onLeg ax j fun l => { l with armed := false } with hu
  have honly : OnlyCollector u (s.disarm ax j) := by
    have hnr : NoReset u := by
      have hclear : KeepsGates s (s.vdsClear ax j) := (keeps_fltBit (by omega)).trans (keeps_fltBit (by omega))
      exact (hclear.trans keeps_onLeg).noReset hs
    unfold State.disarm
    dsimp only
    split
    · exact settleGd_only hnr
    · exact .refl u
  refine ⟨fun i => ?_, fun i hi => ?_⟩
  · rw [honly.leg, hu, leg_onLeg]
    split
    · next h => rw [h]; exact ⟨rfl, rfl, rfl, rfl⟩
    · exact ⟨rfl, rfl, rfl, rfl⟩
  · rw [honly.bit]
    refine (State.bit_setBit _ _ _ _ _ _ (by omega)).trans ?_
    rw [if_neg (by omega), State.bit_setBit _ _ _ _ _ _ (by omega), if_neg (by omega)]

/-- A leg is commanded off on both sides, and its gates are off unless one is recorded as stuck. -/
def LegOff (s t : State) (ax : Axis) (j : Leg) : Prop :=
  (t.leg ax j).hiCmd = false ∧ (t.leg ax j).loCmd = false
  ∧ (s.bit (R.GD_FLT ax) (20 + j) = false → (t.leg ax j).hiOn = false ∧ (t.leg ax j).loOn = false)

theorem legOff_legCommand_none : LegOff s (s.legCommand ax j none) ax j := by
  rw [legCommand_none]
  unfold LegOff
  rw [leg_onLeg, if_pos rfl]
  exact ⟨rfl, rfl, fun h => by simp [h]⟩

theorem legOff_legCommand_other {t : State} {i : Leg} (ht : NoReset t) (hij : j ≠ i) (h : LegOff s t ax j) :
    LegOff s (t.legCommand ax i none) ax j := by
  obtain ⟨hhi, hlo, hhiOn, hloOn⟩ := (disarm_legs ht).1 j
  rw [legCommand_none]
  unfold LegOff at h ⊢
  rw [leg_onLeg, if_neg hij, hhi, hlo, hhiOn, hloOn]
  exact h

/-- While all legs are commanded off one by one: nothing is set to reset, and the findings of stuck gates stand. -/
def StuckStand (s t : State) (ax : Axis) : Prop :=
  NoReset t ∧ ∀ i : Leg, t.bit (R.GD_FLT ax) (20 + i) = s.bit (R.GD_FLT ax) (20 + i)

theorem stuckStand_legCommand {t : State} (h : StuckStand s t ax) : StuckStand s (t.legCommand ax j none) ax := by
  obtain ⟨hnr, hbit⟩ := h
  refine ⟨(keeps_legCommand hnr).noReset hnr, fun i => ?_⟩
  rw [← hbit i]
  exact (disarm_legs hnr).2 _ (by omega)

/-- A fold over every index, under what every step keeps, reaches what its step at one index brings about. -/
theorem forAll_reaches_under {n : Nat} {g : State → Fin n → State} {I R : State → Prop} (i : Fin n) (h : I s) (hI : ∀ t k, I t → I (g t k))
    (hi : ∀ t, I t → R (g t i)) (hR : ∀ t k, k ≠ i → I t → R t → R (g t k)) : R (forAll n s g) := by
  have hand : ∀ t k, (I t → I (g t k) ∧ (k = i ∨ R t → R (g t k))) := fun t k ht => ⟨hI t k ht, fun hk => by
    by_cases hki : k = i
    · subst hki; exact hi t ht
    · exact hR t k hki ht (hk.resolve_left hki)⟩
  have hfold (l : List (Fin n)) : ∀ t, I t → I (l.foldl g t) ∧ (i ∈ l ∨ R t → R (l.foldl g t)) := by
    induction l with
    | nil => exact fun t ht => ⟨ht, by simp⟩
    | cons k l ih =>
      intro t ht
      obtain ⟨hk, hkR⟩ := hand t k ht
      obtain ⟨hl, hlR⟩ := ih _ hk
      refine ⟨hl, fun hor => ?_⟩
      by_cases hki : k = i ∨ R t
      · exact hlR (.inr (hkR hki))
      · rw [not_or] at hki
        rcases hor with hmem | hRt
        · exact hlR (.inl ((List.mem_cons.1 hmem).resolve_left fun e => hki.1 e.symm))
        · exact absurd hRt hki.2
  exact (hfold _ s h).2 (.inl (List.mem_finRange i))

theorem legOff_allLegs (hs : NoReset s) (j : Leg) : LegOff s (s.allLegs ax none) ax j := by
  refine forAll_reaches_under (I := fun t => StuckStand s t ax) (R := fun t => LegOff s t ax j) j ⟨hs, fun _ => rfl⟩
    (fun t k h => stuckStand_legCommand h) (fun t h => ?_) fun t k hk h hR => legOff_legCommand_other h.1 (Ne.symm hk) hR
  have hoff := legOff_legCommand_none (s := t) (ax := ax) (j := j)
  unfold LegOff at hoff ⊢
  rwa [h.2 j] at hoff

theorem keeps_allLegs (hs : NoReset s) : KeepsGates s (s.allLegs ax none) :=
  forAll_keeps (P := KeepsGates s) .refl fun _ _ h => h.trans (keeps_legCommand (h.noReset hs))

/-- A bridge whose axis is disabled. -/
def stoppedBridge (b : Bridges) : Bridges := { b with phase := .idle, tacks := Vector.replicate 4 0#32 }

/-- The gates off, EN cleared and the masks ended, before the collector follows. -/
def enCleared (s : State) (ax : Axis) : State := ((s.allLegs ax none).setBit (R.PWM_CFG ax) 31 false).setFld (R.PWM_STAT ax) 9 8 0

theorem pwmDisable_of_on (h : s.pwmEn ax = true) : s.pwmDisable ax = ((enCleared s ax).settleGd ax).onPwm ax fun p =>
    { p with a := stoppedBridge p.a, b := stoppedBridge p.b } := by
  unfold State.pwmDisable
  rw [h]
  rfl

/-- Clearing EN turns every gate off but one that is stuck, and keeps the latches, the shadows and COMMIT (R251). -/
theorem pwmDisable_spec (hs : NoReset s) (hon : s.pwmEn ax = true) :
    (s.pwmDisable ax).pwmEn ax = false ∧ (∀ j : Leg, LegOff s (s.pwmDisable ax) ax j)
    ∧ (s.pwmDisable ax).latchedOff ax br = s.latchedOff ax br ∧ ((s.pwmDisable ax).br ax br).shadow = (s.br ax br).shadow
    ∧ (s.pwmDisable ax).bit (R.PWM_STAT ax) 13 = s.bit (R.PWM_STAT ax) 13 ∧ (s.pwmDisable ax).mot = s.mot := by
  set u := s.allLegs ax none with hu
  set v := enCleared s ax with hv
  have hgates : KeepsGates s u := keeps_allLegs hs
  have hnv : NoReset v := by
    have hcfg : Keeps bridgesOf (fun _ _ => True) u (u.setBit (R.PWM_CFG ax) 31 false) :=
      keeps_setBit (by unfold R.PWM_CFG regKey; omega) (by decide) trivial
    have hmask : Keeps bridgesOf (fun _ _ => True) (u.setBit (R.PWM_CFG ax) 31 false) v :=
      keeps_setFld (page_stat ax) (by decide) (by decide) fun _ _ _ => trivial
    exact hmask.noReset (hcfg.noReset (hgates.noReset hs))
  have honly : OnlyCollector v (v.settleGd ax) := settleGd_only hnv
  have hne : R.PWM_STAT ax ≠ R.PWM_CFG ax := by unfold R.PWM_STAT R.PWM_CFG regKey; omega
  have hstat (i : Nat) (hi : ¬(8 ≤ i ∧ i ≤ 9)) : (v.settleGd ax).bit (R.PWM_STAT ax) i = s.bit (R.PWM_STAT ax) i := by
    rw [honly.bit, hv, enCleared, State.bit_setFld _ _ _ _ _ _ _ (by decide) (by decide), if_neg fun h => hi h.2,
      State.bit_setBit _ _ _ _ _ _ (by decide), if_neg fun h => hne h.1]
    exact hgates.bit _ _ (by unfold gateBits R.PWM_STAT regKey; omega)
  rw [pwmDisable_of_on hon]
  refine ⟨?_, fun j => ?_, hstat _ (by cases br <;> decide), ?_, hstat 13 (by decide), honly.mot.trans hgates.mot⟩
  · refine (honly.bit _ _).trans ?_
    rw [hv, enCleared, State.bit_setFld _ _ _ _ _ _ _ (by decide) (by decide), if_neg fun h => hne h.1.symm,
      State.bit_setBit _ _ _ _ _ _ (by decide), if_pos ⟨rfl, rfl⟩]
  · have hleg : (((v.settleGd ax).onPwm ax fun p => { p with a := stoppedBridge p.a, b := stoppedBridge p.b })).leg ax j = u.leg ax j := by
      refine Eq.trans (leg_congr ?_ j) (honly.leg j)
      rw [State.onPwm, vget_vset_same]
    unfold LegOff
    rw [hleg]
    exact legOff_allLegs hs j
  · have hbr : (v.settleGd ax).br ax br = s.br ax br := by
      have hcoll : (v.settleGd ax).br ax br = v.br ax br := (honly.keeps (f := bridgesOf) (P := gateBits)).br_eq
      exact hcoll.trans hgates.br_eq
    rw [br_onPwm_both, hbr]
    cases br <;> rfl

/-! ### COMMIT and the chopping phases (R237, R238, R243) -/

theorem pwmCtlWrite_commit : s.pwmCtlWrite ax 1#32 = s.setBit (R.PWM_STAT ax) 13 true := rfl

/-- The end of an on-phase: the off-phase begins, and the axes stand. -/
theorem endOn_spec (hs : NoReset s) : ((s.endOn ax br).br ax br).phase = .off ∧ (s.endOn ax br).mot = s.mot := by
  set u := s.onBr ax br fun b => { b with phase := .off } with hu
  have hgates : KeepsGates u (s.endOn ax br) := .ite (keeps_bridgeTo hs) (keeps_bridgeTo hs)
  refine ⟨?_, hgates.mot⟩
  rw [hgates.br_eq, hu, br_onBr, if_pos ⟨rfl, rfl⟩]

/-! ### The obligation -/

theorem noReset_opened (h : NoReset s) : NoReset (s.opened m) :=
  noReset_of_get (by rw [opened_sys]) (by cases m <;> rfl) (fun k _ => opened_get s m k) h

theorem exec_pwmEnable (h : s.opens m (R.PWM_CFG ax / 128) = true) :
    exec (.pwmEnable m ax) s = .next (((s.opened m).pwmEnable ax).mend (R.PWM_CFG ax)) := congrArg _ (access_of_opens _ h)

theorem exec_pwmDisable (h : s.opens m (R.PWM_CFG ax / 128) = true) :
    exec (.pwmDisable m ax) s = .next (((s.opened m).pwmDisable ax).mend (R.PWM_CFG ax)) := congrArg _ (access_of_opens _ h)

theorem exec_commit (h : s.opens m (R.PWM_CTL ax / 128) = true) :
    exec (.commit m ax) s = .next ((s.opened m).setBit (R.PWM_STAT ax) 13 true) :=
  congrArg _ ((access_of_opens _ h).trans pwmCtlWrite_commit)

theorem exec_periodBoundary : exec (.periodBoundary ax br) s = .next
    (if s.pwmEn ax = true ∧ (!s.modStopped) = true ∧ (s.bmode ax = 0 ∨ (s.br ax br).phase = .idle) then s.quiet.startPeriod ax br
      else s.quiet) := rfl

theorem exec_maxOnTime : exec (.maxOnTime ax br) s = .next (if s.inOn ax br && s.bmode ax = 1 then
    (s.quiet.endOn ax br).setBit (R.PWM_STAT ax) (10 + brIx br) true else s.quiet) := rfl

theorem exec_onTimeEnd : exec (.onTimeEnd ax br) s = .next (if s.inOn ax br && s.bmode ax = 2 then s.quiet.endOn ax br else s.quiet) := rfl

theorem exec_offTimeEnd : exec (.offTimeEnd ax br) s = .next (if s.inOff ax br 1 then s.quiet.startPeriod ax br else s.quiet) := rfl

theorem exec_periodMaxEnd : exec (.periodMaxEnd ax br) s = .next (if s.inOff ax br 2 then s.quiet.startPeriod ax br else s.quiet) := rfl

theorem exec_conMinPeriodEnd : exec (.conMinPeriodEnd ax br) s = .next (if s.inOff ax br 2 && (s.br ax br).valley then
    s.quiet.startPeriod ax br else s.quiet.onBr ax br fun b => { b with minPer := true }) := rfl

/-- Setting EN, as a command. -/
theorem exec_pwmEnable_spec (hopen : s.opens m (R.PWM_CFG ax / 128) = true) (hoff : s.pwmEn ax = false)
    (hpre : s.bit (R.GD_STAT ax) 17 = false) : ∃ t, exec (.pwmEnable m ax) s = .next t ∧ t.pwmEn ax = true ∧ (t.br ax br).fresh = true
      ∧ (∀ j : Leg, t.leg ax j = s.leg ax j) ∧ ((vget s.pwm ax).sperNew = true → t.per ax = s.sper ax) ∧ (t.br ax br).shadow = none
      ∧ t.mot = s.mot := by
  refine ⟨_, exec_pwmEnable hopen, ?_⟩
  rw [mend_frame]
  cases m <;> exact pwmEnable_spec (br := br) hoff hpre

/-- Clearing EN, as a command. -/
theorem exec_pwmDisable_spec (hs : NoReset s) (hopen : s.opens m (R.PWM_CFG ax / 128) = true) (hon : s.pwmEn ax = true) :
    ∃ t, exec (.pwmDisable m ax) s = .next t ∧ t.pwmEn ax = false ∧ (∀ j : Leg, LegOff s t ax j)
      ∧ t.latchedOff ax br = s.latchedOff ax br ∧ (t.br ax br).shadow = (s.br ax br).shadow
      ∧ t.bit (R.PWM_STAT ax) 13 = s.bit (R.PWM_STAT ax) 13 ∧ t.mot = s.mot := by
  have hs' := noReset_opened (m := m) hs
  refine ⟨_, exec_pwmDisable hopen, ?_⟩
  rw [mend_frame]
  cases m <;> exact pwmDisable_spec (br := br) hs' hon

/-- The maximum on-time ends the on-phase of COFF and sets MAXON (R237). -/
theorem maxOnTime_spec (hs : NoReset s) :
    (((s.endOn ax br).setBit (R.PWM_STAT ax) (10 + brIx br) true).br ax br).phase = .off
    ∧ ((s.endOn ax br).setBit (R.PWM_STAT ax) (10 + brIx br) true).bit (R.PWM_STAT ax) (10 + brIx br) = true
    ∧ ((s.endOn ax br).setBit (R.PWM_STAT ax) (10 + brIx br) true).mot = s.mot := by
  obtain ⟨hphase, hmot⟩ := endOn_spec (ax := ax) (br := br) hs
  have hb := brIx_le br
  exact ⟨hphase, by rw [State.bit_setBit _ _ _ _ _ _ (by omega), if_pos ⟨rfl, rfl⟩], hmot⟩

/-- Settles O36: every period start comes from one operation, whose transfer, records and gates are followed one by one. -/
theorem pwmPeriodsTransferShadows : Obligations.PwmPeriodsTransferShadows := by
  unfold Obligations.PwmPeriodsTransferShadows
  intro s m ax br hs begun
  have hbegun : begun (s.quiet.startPeriod ax br) := startPeriod_begun (s := s.quiet) hs
  rw [exec_periodBoundary, exec_maxOnTime, exec_onTimeEnd, exec_offTimeEnd, exec_periodMaxEnd, exec_conMinPeriodEnd]
  refine ⟨fun hopen hoff hpre => exec_pwmEnable_spec hopen hoff hpre, fun hopen hon => exec_pwmDisable_spec hs hopen hon,
    fun hopen => ?_, fun hon hrun hmode => ?_, fun h => ?_, fun hin hmode => ?_, fun hin hmode => ?_, fun hin => ?_, fun hin => ?_,
    fun hin => ?_, fun hin hvalley => ?_, fun hvalley => ?_⟩
  · refine ⟨_, exec_commit hopen, by rw [State.bit_setBit _ _ _ _ _ _ (by decide), if_pos ⟨rfl, rfl⟩], fun k hk => ?_, opened_pwm s m⟩
    rw [State.get_setBit, if_neg hk, opened_get]
  · rw [if_pos ⟨hon, by rw [hrun]; rfl, hmode⟩]
    exact ⟨_, rfl, hbegun⟩
  · rw [if_neg]
    rintro ⟨hon, hrun, _⟩
    rcases h with h | h <;> simp [h] at hon hrun
  · rw [if_pos (by simp [hin, hmode])]
    exact ⟨_, rfl, maxOnTime_spec (s := s.quiet) hs⟩
  · rw [if_pos (by simp [hin, hmode])]
    exact ⟨_, rfl, endOn_spec (s := s.quiet) hs⟩
  · simp [hin]
  · rw [if_pos hin]
    exact ⟨_, rfl, hbegun⟩
  · rw [if_pos hin]
    exact ⟨_, rfl, hbegun⟩
  · rw [if_pos (by simp [hin, hvalley])]
    exact ⟨_, rfl, hbegun⟩
  · rw [if_neg (by simp [hvalley])]
    refine ⟨_, rfl, ?_, rfl, rfl⟩
    rw [br_onBr, if_pos ⟨rfl, rfl⟩]

end Sys2Proof.Machine
end

section
/-! PROOFS. A restart of the LINK core after which the reply that waited for it resets the chip. -/

namespace Sys2Proof.Machine

/-- The LINK core is in reset, a reply waits to leave by the link, the binding table gives BCH3 to the host as its sender, and
WRITE_IGNORED's reaction is CRST. -/
def replyOnForeignChannel : State :=
  let s := { State.reset with
    sys := { State.reset.sys with chipReset := false, exec := .firmware, linkRun := false }
    fw := { State.reset.fw with outq := vset State.reset.fw.outq 1 [{ words := [] }] } }
  ((s.setBit R.FC_CTL 31 true).set (R.FC_SRC 2) 4#32).set (R.MBX_BINDB 3) 0x20#32

/-- The LINK core leaves reset and the reply is posted on BCH3: that write of a master that is not the sender is ignored, and the source it
raises resets the chip, the LINK core with it (R118, R136, R337). -/
theorem linkRun_restart_replyOnForeignChannel : replyOnForeignChannel.quiet.linkStart.fwStep.sys.linkRun = false := by
  decide +kernel

/-- Refutes O55: LINK_CORE_RESTART starts the LINK core, but where WRITE_IGNORED's reaction is CRST the reply that waited for the core can
reset the chip at once. -/
theorem not_bootHandoverAndLinkCoreStart : ¬ Obligations.BootHandoverAndLinkCoreStart := by
  unfold Obligations.BootHandoverAndLinkCoreStart
  intro h
  obtain ⟨_, _, _, _, _, _, hrestart, _⟩ := h replyOnForeignChannel
  obtain ⟨t, hexec, hrun, _⟩ := hrestart (by decide) (by decide) (by decide)
  have ht : replyOnForeignChannel.quiet.linkStart.fwStep = t := Host.Outcome.next.inj hexec
  rw [← ht, linkRun_restart_replyOnForeignChannel] at hrun
  exact absurd hrun (by decide)

end Sys2Proof.Machine
end

section
/-! PROOFS. Presence: the levels of PRES_N and the end of the period (R53, R389). -/

namespace Sys2Proof.Machine

variable {s : State}

theorem exec_presNChange (level : Bool) (ms : Nat) : exec (.presNChange level ms) s = .next { s.quiet with spool := { s.spool with
    presLow := !level
    presLeft := if level && s.spool.presLow && 20 ≤ ms then 600000000000 else s.spool.presLeft } } := rfl

theorem exec_presenceExpiry : exec .presenceExpiry s = .next { s.quiet with spool := { s.spool with presLeft := 0 } } := rfl

/-- Settles O11: the low gives presence by itself, and the period that a rise starts or leaves gives it afterwards. -/
theorem presenceRunsAfterALongLow : Obligations.PresenceRunsAfterALongLow := by
  unfold Obligations.PresenceRunsAfterALongLow
  intro s
  refine ⟨fun ms => ⟨_, exec_presNChange false ms, rfl, rfl, rfl⟩, fun ms hms hlow => ?_, fun ms hms => ?_,
    ⟨_, exec_presenceExpiry, by simp [State.presence], rfl, rfl⟩⟩
  · have hlong : (true && s.spool.presLow && decide (20 ≤ ms)) = true := by simp [hlow, hms]
    exact ⟨_, exec_presNChange true ms, by simp [State.presence, hlow, hms], rfl, if_pos hlong, rfl, rfl⟩
  · have hshort : ¬(true && s.spool.presLow && decide (20 ≤ ms)) = true := by simp [hms]
    exact ⟨_, exec_presNChange true ms, rfl, if_neg hshort, by simp [State.presence, Nat.not_le.2 hms]⟩

end Sys2Proof.Machine
end

section
/-! PROOFS. The end of a chip reset, and the straps that the boot ROM latches after it. -/

namespace Sys2Proof.Machine

variable {s : State}

/-! ### CHIP_RESET_END (R63, R71, R77) -/

/-- The reset reactions of the sources (R333) reset no chip. -/
theorem fldOf_fcSrcReset_lt (src : Nat) : fldOf (fcSrcReset src) 2 0 < 4 := by
  unfold fcSrcReset
  dsimp only
  split_ifs <;> decide

/-- With the collector at its reset enable no source resets the chip. -/
theorem applied_ne_crst_of_disabled (h : s.bit R.FC_CTL 31 = false) (src : Nat) (d : Word) : (s.applied src d).1 ≠ 4 := by
  have hlt := fldOf_fcSrcReset_lt src
  unfold State.applied State.reaction
  rw [h]
  dsimp only
  split_ifs <;> simp_all
  omega

/-- The registers that the end of a chip reset sets: SYS_RSTCAUSE, the wake sources, the supplies and the clocks. -/
def resetEndRegs (s : State) (wake clk : Word) : State :=
  (((s.set R.SYS_RSTCAUSE s.sys.rstPend).set R.SYS_WAKESRC wake).supplies).set R.CLK_STAT clk

theorem supplies_eq (s : State) : ∃ w, s.supplies = s.set R.SYS_SUPSTAT w ∧ bitOf w 3 = !s.present 7 ∧ bitOf w 6 = s.present 8 := by
  refine ⟨_, rfl, ?_⟩
  cases s.present 7 <;> cases s.present 8 <;> simp [bitOf]

/-- What those registers read: the causes, VG_OK and VIO_LIM as their supervisors have them, and the collector's enable as it was. -/
theorem resetEndRegs_reads (s : State) (wake clk : Word) : (resetEndRegs s wake clk).get R.SYS_RSTCAUSE = s.sys.rstPend
    ∧ (resetEndRegs s wake clk).vgOk = (!s.present 7) ∧ (resetEndRegs s wake clk).bit R.SYS_SUPSTAT 6 = s.present 8
    ∧ (resetEndRegs s wake clk).bit R.FC_CTL 31 = s.bit R.FC_CTL 31 := by
  obtain ⟨w, heq, h7, h8⟩ := supplies_eq ((s.set R.SYS_RSTCAUSE s.sys.rstPend).set R.SYS_WAKESRC wake)
  unfold resetEndRegs State.vgOk
  rw [heq]
  refine ⟨?_, ?_, ?_, ?_⟩
  · rw [State.get_set_ne _ _ (by decide), State.get_set_ne _ _ (by decide), State.get_set_ne _ _ (by decide), State.get_set_same]
  · rw [State.bit_set, if_neg (by decide), State.bit_set, if_pos rfl, h7]
    rfl
  · rw [State.bit_set, if_neg (by decide), State.bit_set, if_pos rfl, h8]
    rfl
  · rw [State.bit_set, if_neg (by decide), State.bit_set, if_neg (by decide), State.bit_set, if_neg (by decide), State.bit_set,
      if_neg (by decide)]

/-- The end of a chip reset: registers, time and conditions are set, and then the level sources that are present are raised. -/
theorem endChipReset_raises (hreset : s.sys.chipReset = true) (hrev : s.sys.reversed = false) :
    ∃ (wake clk : Word) (sys : Sys) (levels : BitVec 128) (rs : List (Nat × Word)),
      s.endChipReset = State.raises { resetEndRegs s wake clk with sys := sys, fcPresent := levels } rs
      ∧ sys.chipReset = false ∧ sys.time = s.sys.wakeTime.getD 0 / 5 * 5 ∧ sys.tickDue = (sys.time / 25000 + 1) * 25000 := by
  have hruns : ¬((!s.sys.chipReset || s.sys.reversed) = true) := by simp [hreset, hrev]
  exact ⟨_, _, _, _, _, if_neg hruns, rfl, rfl, rfl⟩

/-- CHIP_RESET_END with the supply connected the right way and the collector at its reset enable. -/
theorem endChipReset_spec (hreset : s.sys.chipReset = true) (hrev : s.sys.reversed = false) (hen : s.bit R.FC_CTL 31 = false) :
    s.endChipReset.sys.chipReset = false ∧ s.endChipReset.get R.SYS_RSTCAUSE = s.sys.rstPend
    ∧ s.endChipReset.sys.time = s.sys.wakeTime.getD 0 / 5 * 5
    ∧ s.endChipReset.sys.tickDue = (s.endChipReset.sys.time / 25000 + 1) * 25000
    ∧ s.endChipReset.vgOk = (!s.present 7) ∧ s.endChipReset.bit R.SYS_SUPSTAT 6 = s.present 8
    ∧ s.endChipReset.ctxRam = s.ctxRam ∧ s.endChipReset.saf = s.saf ∧ s.endChipReset.spool = s.spool := by
  obtain ⟨wake, clk, sys, levels, rs, heq, hrun, htime, htick⟩ := endChipReset_raises hreset hrev
  obtain ⟨hcause, hvg, hvio, hctl⟩ := resetEndRegs_reads s wake clk
  rw [heq]
  set u : State := { resetEndRegs s wake clk with sys := sys, fcPresent := levels } with hu
  obtain ⟨hwithin, hget⟩ := raises_within (s := u) (rs := rs) fun e _ => applied_ne_crst_of_disabled (hctl.trans hen) e.1 e.2
  have hbit (i : Nat) : (u.raises rs).bit R.SYS_SUPSTAT i = u.bit R.SYS_SUPSTAT i := by
    rw [State.bit, hget _ (.inl (by decide))]; rfl
  have hsys : (u.raises rs).sys = { sys with nmiHeld := (u.raises rs).sys.nmiHeld, blockRst := (u.raises rs).sys.blockRst } := by
    rw [hwithin]
  rw [hsys]
  refine ⟨hrun, (hget _ (.inl (by decide))).trans hcause, htime, htick, (hbit 3).trans hvg, (hbit 6).trans hvio, ?_, ?_, ?_⟩ <;>
    rw [hwithin] <;> rfl

/-! ### STRAP_LATCH (R47 to R49) -/

theorem setAgrees_replicate (n : Nat) (x : StrapSample) : setAgrees (List.replicate (n + 1) x) = true := by
  rw [List.replicate_succ]
  simp [setAgrees]

theorem setAgrees_of_differ {xs : List StrapSample} (h : ∃ a ∈ xs, ∃ b ∈ xs, a ≠ b) : setAgrees xs = false := by
  obtain ⟨a, ha, b, hb, hne⟩ := h
  by_contra hc
  cases xs with
  | nil => simp at ha
  | cons x t =>
    have hall : ∀ y ∈ x :: t, y = x := by simpa [setAgrees] using hc
    exact hne ((hall a ha).trans (hall b hb).symm)

/-- The first set agrees: the latch takes its sample. -/
theorem strapSample_of_agrees (n : Nat) (x : StrapSample) (rest : List (List StrapSample)) :
    strapSample (List.replicate (n + 1) x :: rest) = (x, false) := by
  unfold strapSample
  dsimp only
  rw [List.take_succ_cons, List.find?_cons_of_pos (setAgrees_replicate n x), List.replicate_succ]

/-- No set of four agrees: the straps are bad. -/
theorem strapSample_of_differ {sets : List (List StrapSample)} (h : ∀ xs ∈ sets.take 4, setAgrees xs = false) :
    (strapSample sets).2 = true := by
  have hnone : (sets.take 4).find? setAgrees = none := by simpa using h
  unfold strapSample
  dsimp only
  rw [hnone]

/-- The bands of the ISET codes do not meet (R49). -/
theorem isetCode_of_band {k mv : Nat} (hk : k < 16) (hlo : 100 * (k + 1) ≤ mv + 40) (hhi : mv ≤ 100 * (k + 1) + 40) :
    isetCode mv = some k := by
  unfold isetCode
  rw [List.find?_range_eq_some]
  refine ⟨by simp; omega, by simpa using hk, fun j hj => by simp; omega⟩

/-- SYS_STRAP as a latch of a sample writes it (R49). -/
def strapWord (x : StrapSample) (bad : Bool) (code : Option Nat) (mv : Nat) : Word :=
  wordOfNat (x.role.val + b2n x.defmode * 4 + b2n bad * 8 + code.getD 0 * 16 + b2n code.isNone * 256 + mv % 4096 * 4096)

theorem bitOf_wordOfNat (n i : Nat) : bitOf (wordOfNat n) i = (decide (i < 32) && n.testBit i) := BitVec.getLsbD_ofNat 32 n i

theorem bitOf_strapWord_bad (x : StrapSample) (code : Option Nat) (mv : Nat) : bitOf (strapWord x true code mv) 3 = true := by
  have hrole := x.role.isLt
  have hmode : b2n x.defmode ≤ 1 := by unfold b2n; split <;> omega
  rw [strapWord, bitOf_wordOfNat, Nat.testBit_eq_decide_div_mod_eq]
  simp only [show b2n true = 1 from rfl, Bool.and_eq_true, decide_eq_true_eq]
  omega

/-- Where the samples decide, the straps are latched once per chip reset, in the boot ROM (R47). -/
theorem strapLatch_of_decided {sets : List (List StrapSample)} {mv : Nat} (hrun : s.sys.chipReset = false) (hnew : s.sys.strapped = false)
    (hrom : s.sys.exec = .bootRom) (hdec : 4 ≤ sets.length ∨ sets.any setAgrees = true) :
    s.strapLatch sets mv = { s.set R.SYS_STRAP (strapWord (strapSample sets).1 (strapSample sets).2 (isetCode mv) mv) with
      sys := { s.sys with strapped := true, strapStuck := (strapSample sets).2 || (strapSample sets).1.role.val = 3 } } := by
  unfold State.strapLatch
  rw [if_neg (by simp [hrun, hnew, hrom]), if_neg]
  · rfl
  · rcases hdec with h | h <;> simp [h]

/-- Fewer than four sets that differ latch nothing. -/
theorem strapLatch_of_undecided {sets : List (List StrapSample)} {mv : Nat} (hlen : sets.length < 4)
    (h : ∀ xs ∈ sets, setAgrees xs = false) : s.strapLatch sets mv = s := by
  have hwait : (decide (sets.length < 4) && !sets.any setAgrees) = true := by simpa [hlen] using h
  unfold State.strapLatch
  rw [hwait]
  split <;> rfl

/-- Settles O5: the end of the reset sets its registers before the raises, which reset no chip; the latch takes the first set that agrees. -/
theorem chipResetEndsAndStrapsLatch : Obligations.ChipResetEndsAndStrapsLatch := by
  unfold Obligations.ChipResetEndsAndStrapsLatch
  intro s
  refine ⟨fun hreset hrev hen => ⟨_, rfl, endChipReset_spec (s := s.quiet) hreset hrev hen⟩,
    fun x n rest k mv hrun hnew hrom hk hlo hhi => ⟨_, rfl, ?_⟩, fun sets mv hrun hnew hrom hlen hdiff => ⟨_, rfl, ?_⟩,
    fun sets mv hlen hdiff => congrArg _ (strapLatch_of_undecided hlen fun xs hxs => setAgrees_of_differ (hdiff xs hxs))⟩
  · have hany : (List.replicate (n + 1) x :: rest).any setAgrees = true := by
      rw [List.any_cons, setAgrees_replicate, Bool.true_or]
    rw [strapLatch_of_decided (s := s.quiet) hrun hnew hrom (.inr hany), strapSample_of_agrees, isetCode_of_band hk hlo hhi]
    refine ⟨rfl, ?_, rfl, fun j hj => s.quiet.get_set_ne _ hj⟩
    refine (State.get_set_same _ _ _).trans (congrArg wordOfNat ?_)
    simp [b2n, Nat.mod_eq_of_lt (show mv < 4096 by omega)]
  · have hbad := strapSample_of_differ fun xs hxs => setAgrees_of_differ (hdiff xs hxs)
    rw [strapLatch_of_decided (s := s.quiet) hrun hnew hrom (.inl hlen), hbad]
    refine ⟨rfl, ?_, rfl⟩
    refine (State.bit_set _ _ _ _ _).trans ?_
    rw [if_pos rfl]
    exact bitOf_strapWord_bad _ _ _

end Sys2Proof.Machine
end

section
/-! PROOFS. Requests and latched events of one axis: what each changes of that axis, and that the other axes stand. -/

namespace Sys2Proof.Machine

variable {β : Type} {f : MotAx → β} {s t u : State} {m : Master} {ax bx : Axis}

/-! ### One axis changes -/

theorem State.me_onMot_other (g : MotAx → MotAx) (h : bx ≠ ax) : (s.onMot ax g).me bx = s.me bx := by
  rw [State.me_onMot, if_neg h]

/-- From `s` to `t` what `f` reads of one axis stands, and every other axis. -/
def KeepsAxis (ax : Axis) (f : MotAx → β) (s t : State) : Prop := f (t.me ax) = f (s.me ax) ∧ ∀ bx, bx ≠ ax → t.me bx = s.me bx

theorem KeepsAxis.trans (h : KeepsAxis ax f s t) (g : KeepsAxis ax f t u) : KeepsAxis ax f s u :=
  ⟨g.1.trans h.1, fun bx hb => (g.2 bx hb).trans (h.2 bx hb)⟩

theorem keepsAxis_of_mot (h : t.mot = s.mot) : KeepsAxis ax f s t := by
  unfold KeepsAxis State.me
  rw [h]
  exact ⟨rfl, fun _ _ => rfl⟩

theorem keepsAxis_onMot {g : MotAx → MotAx} (h : f (g (s.me ax)) = f (s.me ax)) : KeepsAxis ax f s (s.onMot ax g) :=
  ⟨by rw [State.me_onMot_same, h], fun _ hb => State.me_onMot_other g hb⟩

/-! ### ME_CTL (R173, R178, R181) -/

theorem meCtlWrite_eq (w : Word) : s.meCtlWrite ax w = (s.set (R.ME_CTL ax) (w &&& 1#32)).onMot ax fun a => { a with
    contReq := a.contReq || bitOf w 2, abortReq := a.abortReq || bitOf w 3, ferr := a.ferr && !bitOf w 4 } := rfl

theorem me_meCtlWrite (w : Word) : (s.meCtlWrite ax w).me ax = { s.me ax with
    contReq := (s.me ax).contReq || bitOf w 2, abortReq := (s.me ax).abortReq || bitOf w 3, ferr := (s.me ax).ferr && !bitOf w 4 } := by
  rw [meCtlWrite_eq, State.me_onMot_same]
  rfl

theorem me_meCtlWrite_other (w : Word) (h : bx ≠ ax) : (s.meCtlWrite ax w).me bx = s.me bx := State.me_onMot_other _ h

theorem get_meCtlWrite_ne (w : Word) {k : Nat} (h : k ≠ R.ME_CTL ax) : (s.meCtlWrite ax w).get k = s.get k := State.get_set_ne _ _ h

theorem bit_meCtlWrite_halt (w : Word) : (s.meCtlWrite ax w).bit (R.ME_CTL ax) 0 = bitOf w 0 := by
  rw [State.bit, meCtlWrite_eq, State.get_onMot, State.get_set_same]
  simp [bitOf]

theorem me_opened (m : Master) (ax : Axis) : (s.opened m).me ax = s.me ax := by
  unfold State.me
  rw [opened_mot]

theorem exec_meCtlHalt (b : Bool) (h : s.opens m (R.ME_CTL ax / 128) = true) :
    exec (.meCtlHalt m ax b) s = .next ((s.opened m).meCtlWrite ax (putBit ((s.opened m).get (R.ME_CTL ax)) 0 b)) :=
  congrArg _ (access_of_opens _ h)

theorem exec_obscont (h : s.opens m (R.ME_CTL ax / 128) = true) :
    exec (.obscont m ax) s = .next ((s.opened m).meCtlWrite ax (putBit ((s.opened m).get (R.ME_CTL ax)) 2 true)) :=
  congrArg _ (access_of_opens _ h)

theorem exec_obsabort (h : s.opens m (R.ME_CTL ax / 128) = true) :
    exec (.obsabort m ax) s = .next ((s.opened m).meCtlWrite ax (putBit ((s.opened m).get (R.ME_CTL ax)) 3 true)) :=
  congrArg _ (access_of_opens _ h)

theorem exec_ferrclr (h : s.opens m (R.ME_CTL ax / 128) = true) :
    exec (.ferrclr m ax) s = .next ((s.opened m).meCtlWrite ax (putBit ((s.opened m).get (R.ME_CTL ax)) 4 true)) :=
  congrArg _ (access_of_opens _ h)

/-! ### ME_POS (R436) -/

theorem exec_mePosWrite (hi lo : Word) (h : s.opens m (R.ME_POS ax / 128) = true) :
    exec (.mePosWrite m ax hi lo) s = .next (((s.opened m).unstage (R.ME_POS ax)).mePosWrite m ax hi lo) :=
  congrArg _ (access_of_opens _ h)

/-- At rest with no context ACTIVE the position is set, HOMED and POSUNK clear, and the step input starts again from it. -/
theorem mePosWrite_at_rest (hi lo : Word) (hv : (s.me ax).vel = 0) (ha : (s.me ax).acc = 0) (hn : (s.me ax).active = none) :
    ((s.mePosWrite m ax hi lo).me ax).rpos = sextN 48 (lowBits 48 (ofHiLo hi lo))
    ∧ ((s.mePosWrite m ax hi lo).me ax).homed = false ∧ ((s.mePosWrite m ax hi lo).me ax).posunk = false
    ∧ ((s.mePosWrite m ax hi lo).me ax).queue = (s.me ax).queue ∧ ∀ bx : Axis, bx ≠ ax → (s.mePosWrite m ax hi lo).me bx = s.me bx := by
  have hrest : ¬((s.me ax).vel ≠ 0 ∨ (s.me ax).acc ≠ 0 ∨ (s.me ax).active.isSome = true) := by simp [hv, ha, hn]
  have heq : s.mePosWrite m ax hi lo = ((s.movePos ax (sextN 48 (lowBits 48 (ofHiLo hi lo)))).onMot ax fun a =>
      { a with homed := false, posunk := false }).stepResync ax := if_neg hrest
  rw [heq]
  unfold State.stepResync State.movePos
  simp only [State.me_onMot_same]
  exact ⟨trivial, trivial, trivial, rfl, fun bx hb => by
    rw [State.me_onMot_other _ hb, State.me_onMot_other _ hb, State.me_onMot_other _ hb]; rfl⟩

/-- In motion, or with a context ACTIVE, the write is ignored (R436). -/
theorem mePosWrite_ignored (hi lo : Word) (h : (s.me ax).vel ≠ 0 ∨ (s.me ax).acc ≠ 0 ∨ (s.me ax).active ≠ none) :
    s.mePosWrite m ax hi lo = s.writeIgnored m (R.ME_POS ax) :=
  if_pos (by simpa [Option.isSome_iff_ne_none] using h)

theorem writeIgnored_unstaged {k j : Nat} (hp : Plain s 2 (accessDetail m k)) :
    RaisedIn s (((s.opened m).unstage j).writeIgnored m k) 2 (accessDetail m k)
    ∧ OnlyRecords ((s.opened m).unstage j) (((s.opened m).unstage j).writeIgnored m k) := by
  have hp' : Plain ((s.opened m).unstage j) 2 (accessDetail m k) := plain_opened hp
  exact ⟨raisedIn_congr (opened_fc s m) (congrArg Sys.time (opened_sys s m)) (raise_raised hp' (by decide)), raise_only hp'⟩

/-! ### ME_CFG.EN cleared (R171, row 1) -/

theorem exec_meDisable (h : s.opens m (R.ME_CFG ax / 128) = true) :
    exec (.meDisable m ax) s = .next (((s.opened m).meDisable ax).mend (R.ME_CFG ax)) := congrArg _ (access_of_opens _ h)

theorem meDisable_of_on (h : s.meEn ax = true) : s.meDisable ax = (s.setBit (R.ME_CFG ax) 31 false).onMot ax fun a =>
    { a with evEn := true, evEnQ := a.evEnQ ++ a.queue ++ a.active.toList } := by
  unfold State.meDisable
  rw [h]
  rfl

theorem meDisable_spec (h : s.meEn ax = true) : (s.meDisable ax).meEn ax = false ∧ ((s.meDisable ax).me ax).evEn = true
    ∧ (∀ c ∈ (s.me ax).queue, c ∈ ((s.meDisable ax).me ax).evEnQ) ∧ (s.meDisable ax).ctxRam = s.ctxRam
    ∧ ∀ j, j ≠ R.ME_CFG ax → (s.meDisable ax).get j = s.get j := by
  rw [meDisable_of_on h]
  refine ⟨?_, ?_, fun c hc => ?_, rfl, fun j hj => ?_⟩
  · exact (State.bit_setBit _ _ _ _ _ _ (by decide)).trans (if_pos ⟨rfl, rfl⟩)
  · rw [State.me_onMot_same]
  · rw [State.me_onMot_same]
    exact List.mem_append_left _ (List.mem_append_right _ hc)
  · rw [State.get_onMot, State.get_setBit, if_neg hj]

/-! ### Events and edges (R165, R181) -/

/-- The head of the queue awaits this event: it is latched. -/
theorem latchEvent_of_awaited {c : Ctx} {rest : List Ctx} {src : Nat} {level : Bool} (hq : (s.me ax).queue = c :: rest)
    (hkind : fldOf (s.ctxW c 0) 5 4 = 2) (hsrc : fldOf (s.ctxW c 0) 24 20 = src) (hunit : 20 ≤ src) :
    s.latchEvent ax src level = s.onMot ax fun a => { a with startEv := true } := by
  unfold State.latchEvent
  rw [hq]
  exact if_pos ⟨hkind, hsrc, .inl hunit⟩

theorem exec_tack_awaited {c : Ctx} {rest : List Ctx} {br : Bridge} (hq : (s.me ax).queue = c :: rest)
    (hkind : fldOf (s.ctxW c 0) 5 4 = 2) (hsrc : fldOf (s.ctxW c 0) 24 20 = (match br with | .a => 20 | .b => 21)) :
    exec (.motionEvent (.tack ax br)) s = .next (s.quiet.onMot ax fun a => { a with startEv := true }) := by
  have hlatch := latchEvent_of_awaited (s := s.quiet) (level := true) hq hkind hsrc (by cases br <;> decide)
  exact congrArg _ hlatch

/-- A STEP edge that counts. -/
theorem stepEdge_of_counts (hin : s.insrc ax = 1) (hen : s.meEn ax = true) (hena : s.ball ax 2 = true) (hferr : (s.me ax).ferr = false)
    (hhalt : s.axisHalted ax = false) :
    s.stepEdge ax = s.onMot ax fun a => { a with stepCnt := a.stepCnt + if s.ball ax 1 then 1 else -1 } :=
  if_pos ⟨hin, hen, hena, by rw [hferr]; rfl, by rw [hhalt]; rfl⟩

theorem exec_stepEdge_counts (hin : s.insrc ax = 1) (hen : s.meEn ax = true) (hena : s.ball ax 2 = true) (hferr : (s.me ax).ferr = false)
    (hhalt : s.axisHalted ax = false) : exec (.stepEdge ax) s =
      .next (s.quiet.onMot ax fun a => { a with stepCnt := a.stepCnt + if s.ball ax 1 then 1 else -1 }) :=
  congrArg _ (stepEdge_of_counts (s := s.quiet) hin hen hena hferr hhalt)

/-- ENA of the axis reads 0. -/
def enaLow (s : State) (ax : Axis) : State := { s with sys := { s.sys with axio := bvPut s.sys.axio (4 * ax + 2) false } }

theorem enaFall_of_stepDir (h : s.insrc ax = 1) :
    s.enaFall ax = (enaLow s ax).onMot ax fun a => { a with level := .off, ferr := false } := if_pos h

theorem exec_enaFall_stepDir (h : s.insrc ax = 1) :
    exec (.enaFall ax) s = .next ((enaLow s.quiet ax).onMot ax fun a => { a with level := .off, ferr := false }) :=
  congrArg _ (enaFall_of_stepDir (s := s.quiet) h)

theorem ball_enaLow : (enaLow s ax).ball ax 2 = false := by
  unfold State.ball enaLow
  rw [getLsbD_bvPut _ _ _ _ (by omega), if_pos rfl]

/-! ### Delays (R173, R177) -/

theorem exec_restDelayExpiry_at_rest (hv : (s.me ax).vel = 0) (ha : (s.me ax).acc = 0) (hst : (s.me ax).starting = false)
    (hl : (s.me ax).level = .run) : exec (.restDelayExpiry ax) s = .next (s.quiet.onMot ax fun a =>
      { a with level := .rest, restCyc := max a.restCyc (s.fld (R.ME_REST ax) 15 0 * 200000) }) :=
  congrArg _ (if_pos ⟨hv, ha, by rw [hst]; rfl, hl⟩)

theorem exec_recloseDelayExpiry_waiting (h : (s.me ax).obs = .rcwait) : exec (.recloseDelayExpiry ax) s =
    .next ((s.quiet.onMot ax fun a => { a with rcLeft := 0 }).resumeMotion ax true) := congrArg _ (if_pos h)

/-- What a motion that resumes leaves of its axis: the obstacle's phase, the retries, the position and the ACTIVE context. -/
def resumedOf (a : MotAx) : ObsPhase × Nat × Int × Option Ctx := (a.obs, a.retried, a.pos, a.active)

theorem keepsAxis_toRun {delay : Bool} : KeepsAxis ax resumedOf s (s.toRun ax delay) := keepsAxis_onMot rfl

theorem keepsAxis_replan : KeepsAxis ax resumedOf s (s.replan ax) := by
  unfold State.replan State.showTarget
  refine KeepsAxis.trans (keepsAxis_onMot rfl) (keepsAxis_onMot ?_)
  split_ifs <;> rfl

/-- The obstacle of the motion is over, and a retry counts as used. -/
def obstacleOver (retry : Bool) (a : MotAx) : MotAx :=
  { a with obs := .none, obsN := 0, closing := false, contReq := false, passSet := false, retried := if retry then a.retried + 1 else a.retried }

theorem keepsAxis_resumeMotion (retry : Bool) : KeepsAxis ax resumedOf (s.onMot ax (obstacleOver retry)) (s.resumeMotion ax retry) := by
  unfold State.resumeMotion
  extract_lets v a w
  have hv : v = s.onMot ax (obstacleOver retry) := rfl
  have hw : KeepsAxis ax resumedOf v w := keepsAxis_of_mot (by unfold w; split <;> rfl)
  rw [← hv]
  clear_value w a v
  exact ((hw.trans (keepsAxis_of_mot rfl)).trans keepsAxis_toRun).trans keepsAxis_replan

/-! ### The obligation -/

/-- Settles O31: each request changes its axis by one update of the engine's state, and no other axis. -/
theorem motionRequestsAndLatchedEvents : Obligations.MotionRequestsAndLatchedEvents := by
  unfold Obligations.MotionRequestsAndLatchedEvents
  intro s m ax
  have hother (w : Word) (bx : Axis) (hb : bx ≠ ax) : ((s.opened m).meCtlWrite ax w).me bx = s.me bx := by
    rw [me_meCtlWrite_other w hb, me_opened]
  refine ⟨fun h hopen => ⟨_, exec_meCtlHalt h hopen, ?_⟩, fun hopen => ⟨_, exec_obscont hopen, ?_, ?_, hother _⟩,
    fun hopen => ⟨_, exec_obsabort hopen, ?_, ?_, hother _⟩, fun hopen => ⟨_, exec_ferrclr hopen, ?_, ?_, hother _⟩,
    fun hi lo hopen hv ha hn => ⟨_, exec_mePosWrite hi lo hopen, ?_⟩, fun hi lo hopen hmove hp => ⟨_, exec_mePosWrite hi lo hopen, ?_⟩,
    fun hopen hen => ⟨_, exec_meDisable hopen, ?_⟩, fun c rest br hq hkind hsrc => ?_, fun hin hen hena hferr hhalt => ?_, fun hin => ?_,
    fun hv ha hst hl => ⟨_, exec_restDelayExpiry_at_rest hv ha hst hl, ?_, ?_, rfl, fun bx hb => State.me_onMot_other _ hb⟩,
    fun hobs => ⟨_, exec_recloseDelayExpiry_waiting hobs, ?_⟩⟩
  · have hbit := (bit_meCtlWrite_halt (s := s.opened m) (ax := ax) _).trans
      (bitOf_putBit_same ((s.opened m).get (R.ME_CTL ax)) 0 h (by decide))
    refine ⟨hbit, fun hh => ?_, ?_, ?_, fun j hj => by rw [get_meCtlWrite_ne _ hj, opened_get]⟩
    · rw [State.axisHalted, hbit, hh, Bool.true_or]
    · rw [me_meCtlWrite, me_opened]
    · rw [me_meCtlWrite, me_opened]
  · simp [me_meCtlWrite, bitOf_putBit_same]
  · rw [me_meCtlWrite, me_opened]
  · simp [me_meCtlWrite, bitOf_putBit_same]
  · rw [me_meCtlWrite, me_opened]
  · simp [me_meCtlWrite, bitOf_putBit_same]
  · rw [me_meCtlWrite, me_opened]
  · have hme (bx : Axis) : ((s.opened m).unstage (R.ME_POS ax)).me bx = s.me bx := me_opened m bx
    simp only [← hme] at hv ha hn ⊢
    exact mePosWrite_at_rest hi lo hv ha hn
  · have hme : ((s.opened m).unstage (R.ME_POS ax)).me ax = s.me ax := me_opened m ax
    rw [mePosWrite_ignored hi lo (by rwa [hme])]
    obtain ⟨hraised, honly⟩ := writeIgnored_unstaged (j := R.ME_POS ax) (hp (accessDetail m (R.ME_POS ax)))
    exact ⟨honly.mot.trans (opened_mot s m), honly.regs.trans (opened_regs s m), hraised⟩
  · rw [mend_frame]
    obtain ⟨hoff, hev, hevq, hctx, hget⟩ := meDisable_spec (s := s.opened m) (ax := ax) ((opened_bit s m _ _).trans hen)
    rw [me_opened] at hevq
    exact ⟨hoff, hev, hevq, hctx.trans (opened_ctxRam s m), fun j hj => (hget j hj).trans (opened_get s m j)⟩
  · exact ⟨_, exec_tack_awaited hq hkind hsrc, State.me_onMot_same _ _ _, rfl, rfl, fun bx hb => State.me_onMot_other _ hb⟩
  · exact ⟨_, exec_stepEdge_counts hin hen hena hferr hhalt, State.me_onMot_same _ _ _, rfl, fun bx hb => State.me_onMot_other _ hb⟩
  · exact ⟨_, exec_enaFall_stepDir hin, State.me_onMot_same _ _ _, ball_enaLow, rfl, fun bx hb => State.me_onMot_other _ hb⟩
  · rw [State.me_onMot_same]
  · rw [State.me_onMot_same]; rfl
  · obtain ⟨hax, hrest⟩ := keepsAxis_resumeMotion (s := s.quiet.onMot ax fun a => { a with rcLeft := 0 }) (ax := ax) true
    simp only [State.me_onMot_same, resumedOf, obstacleOver, Prod.mk.injEq, if_true] at hax
    obtain ⟨hobs', hretried, hpos, hactive⟩ := hax
    refine ⟨hobs', hretried, hpos, hactive, fun bx hb => ?_⟩
    rw [hrest bx hb, State.me_onMot_other _ hb, State.me_onMot_other _ hb]
    rfl

end Sys2Proof.Machine
end

section
/-! PROOFS. A request that waits is taken, carried out and answered, and firmware is then at rest again (R115, R132, R147). -/

namespace Sys2Proof.Machine

variable {P : Nat → Prop} {s t u x : State} {ch : ReqChan} {d : Fin 3} {op : Nat} {f : OpFn} {r : Res} {ws : List Word}

/-! ### A message is posted (R115, R134) -/

/-- The registers of a block channel's slot. -/
def slotReg (n k : Nat) : Prop := ∃ o < 0x12, k = bch n o

theorem bch_inj {n a b : Nat} : bch n a = bch n b ↔ a = b := by
  unfold bch regKey
  omega

theorem bch_page {n o : Nat} (hn : n < 8) (ho : o < 0x20) : mailboxPage (bch n o) := by
  unfold mailboxPage bch regKey
  omega

theorem slotReg_mailbox {n k : Nat} (hn : n < 8) (h : slotReg n k) : mailboxPage k := by
  obtain ⟨o, ho, rfl⟩ := h
  exact bch_page hn (by omega)

/-- The bindings lie outside the slots of the channels. -/
theorem slotReg_binding {n e : Nat} (he : e < 16) : ¬slotReg n (R.MBX_BINDB e) := by
  rintro ⟨o, ho, h⟩
  unfold R.MBX_BINDB bch regKey at h
  omega

theorem sndOf_congr {e : Nat} (h : t.get (R.MBX_BINDB e) = s.get (R.MBX_BINDB e)) : t.sndOf e = s.sndOf e := by
  unfold State.sndOf State.isBound State.fld
  rw [h]

theorem rcvOf_congr {e : Nat} (h : t.get (R.MBX_BINDB e) = s.get (R.MBX_BINDB e)) : t.rcvOf e = s.rcvOf e := by
  unfold State.rcvOf State.isBound State.fld
  rw [h]

/-- Message words of a channel are set one after another. -/
def setMsg (s : State) (n : Nat) (v : Nat → Word) (l : List Nat) : State := l.foldl (fun s k => s.set (bch n k) (v k)) s

theorem setMsg_slot {n : Nat} {v : Nat → Word} {l : List Nat} (hl : ∀ k ∈ l, k < 16) :
    OnlyRegs (fun k => slotReg n k ∧ k ≠ bch n 0x11) s (setMsg s n v l) :=
  .foldl fun _ k hk => onlyRegs_set ⟨⟨k, by have := hl k hk; omega, rfl⟩, by
    rw [Ne, bch_inj]
    have := hl k hk
    omega⟩

theorem get_setMsg {n : Nat} {v : Nat → Word} {N i : Nat} (hN : N ≤ 16) (hi : i < N) : (setMsg s n v (List.range N)).get (bch n i) = v i := by
  induction N with
  | zero => omega
  | succ N ih =>
    rw [setMsg, List.range_succ, List.foldl_append]
    refine (State.get_set _ _ _ _).trans ?_
    split
    next h => rw [bch_inj.1 h]
    next h => exact ih (by omega) (by have := mt bch_inj.2 h; omega)

/-- The sender's words are stored while the channel is empty. -/
theorem msgWrites_eq {n : Nat} (hn : n < 8) {v : Nat → Word} (hsnd : s.sndOf n = 1) (hroom : s.bFull n = false) : ∀ l : List Nat, (∀ k ∈ l, k < 16) →
    l.foldl (fun s k => s.msgWrite .exec n k (v k)) s = setMsg s n v l := by
  intro l
  induction l generalizing s with
  | nil => exact fun _ => rfl
  | cons k l ih =>
    intro hl
    have hk : k < 16 := hl k (by simp)
    have hset : s.msgWrite .exec n k (v k) = s.set (bch n k) (v k) := by
      unfold State.msgWrite
      rw [if_neg (by rw [hsnd]; decide), hroom]
      rfl
    have hslot : slotReg n (bch n k) := ⟨k, by omega, rfl⟩
    rw [List.foldl_cons, hset]
    refine ih ?_ ?_ fun j hj => hl j (by simp [hj])
    · rw [sndOf_congr, hsnd]
      exact s.get_set_ne _ fun e => slotReg_binding (e := n) (by omega) (e ▸ hslot)
    · rw [State.bFull, State.bit_set, if_neg (by rw [bch_inj]; omega)]
      exact hroom

/-- GO by the sender of an empty channel fills it (R115). -/
theorem goWrite_of_sender {n : Nat} (hsnd : s.sndOf n = 1) (hroom : s.bFull n = false) :
    OnlyRegs (· = bch n 0x11) s (s.goWrite .exec n 1#32) ∧ (s.goWrite .exec n 1#32).bFull n = true := by
  have heq : s.goWrite .exec n 1#32 = (((s.incFld (bch n 0x11) 23 16).setBit (bch n 0x11) 2 (s.crcBad n)).setBit (bch n 0x11) 1 false).setBit
      (bch n 0x11) 0 true := by
    unfold State.goWrite
    rw [if_neg (by rw [hsnd]; decide), hroom]
    rfl
  rw [heq]
  have hbit {t : State} (i : Nat) (b : Bool) : OnlyRegs (· = bch n 0x11) t (t.setBit (bch n 0x11) i b) := onlyRegs_setBit rfl
  refine ⟨(((onlyRegs_setFld (P := (· = bch n 0x11)) rfl).trans (hbit _ _)).trans (hbit _ _)).trans (hbit _ _), ?_⟩
  rw [State.bFull, State.bit_setBit _ _ _ _ _ _ (by decide), if_pos ⟨rfl, rfl⟩]

theorem length_fullMsg (m : List Word) : (fullMsg m).length = 16 := by simp [fullMsg]

theorem take_fullMsg (w : Word) (h : ws.length ≤ 14) : (fullMsg (w :: ws)).take (ws.length + 1) = w :: ws := by
  have hlen : (w :: ws).length = ws.length + 1 := rfl
  have hfit : min (ws.length + 1) 15 = ws.length + 1 := by omega
  unfold fullMsg
  dsimp only
  rw [List.take_append_of_le_length (by simp; omega), List.take_take, hfit, ← hlen]
  exact List.take_left

/-- Firmware posts a message on a channel of its own that is empty. -/
theorem post_spec {n : Nat} (hn : n < 8) (hsnd : s.sndOf n = 1) (hroom : s.bFull n = false) (m : List Word) :
    OnlyRegs (slotReg n) s (s.post n m) ∧ (s.post n m).bFull n = true ∧ (s.post n m).msg n = fullMsg m := by
  set v : Nat → Word := fun k => (fullMsg m).getD k 0#32 with hv
  set u := setMsg s n v (List.range 16) with hu
  have hpost : s.post n m = u.goWrite .exec n 1#32 :=
    congrArg (State.goWrite · .exec n 1#32) (msgWrites_eq hn hsnd hroom _ fun k hk => List.mem_range.1 hk)
  have hset : OnlyRegs (fun k => slotReg n k ∧ k ≠ bch n 0x11) s u := setMsg_slot fun k hk => List.mem_range.1 hk
  have hsndu : u.sndOf n = 1 := by rw [sndOf_congr (hset.2 _ fun h => slotReg_binding (by omega) h.1), hsnd]
  have hroomu : u.bFull n = false := by
    rw [State.bFull, State.bit, hset.2 _ fun h => h.2 rfl]
    exact hroom
  obtain ⟨hgo, hfull⟩ := goWrite_of_sender hsndu hroomu
  rw [hpost]
  refine ⟨(hset.mono fun k h => h.1).trans (hgo.mono fun k h => ⟨0x11, by decide, h⟩), hfull, ?_⟩
  refine List.ext_getElem (by simp [State.msg, length_fullMsg]) fun i hi hj => ?_
  have hi16 : i < 16 := by simpa [State.msg] using hi
  have hne : bch n i ≠ bch n 0x11 := by rw [Ne, bch_inj]; omega
  simp only [State.msg, List.getElem_map, List.getElem_range]
  rw [hgo.2 _ hne, get_setMsg (le_refl _) hi16, hv]
  exact List.getD_eq_getElem _ _ hj

/-! ### Firmware at rest -/

theorem forAll_fixed {n : Nat} {g : State → Fin n → State} (h : ∀ d, g s d = s) : forAll n s g = s := by
  unfold forAll
  induction List.finRange n with
  | nil => rfl
  | cons d l ih => rw [List.foldl_cons, h, ih]

theorem linkPosts_of_settled (h : Settled s) : s.linkPosts = s := by
  unfold State.linkPosts
  rw [h.inq]
  split <;> rfl

theorem triageRound_of_settled (h : Settled s) : s.triageRound = s := by
  unfold State.triageRound
  rw [linkPosts_of_settled h]
  refine forAll_fixed fun c => ?_
  simp [h.reqs]

theorem triage_of_settled (h : Settled s) (n : Nat) : s.triage n = s := by
  induction n with
  | zero => rfl
  | succ n ih => rw [State.triage, triageRound_of_settled h, ih]

theorem drainOut_of_settled (h : Settled s) (d : Fin 3) : s.drainOut d = s := by
  unfold State.drainOut
  rw [h.outq 1, h.outq d]
  split <;> rfl

/-- With no request and no message waiting firmware does nothing. -/
theorem fwStep_of_settled (h : Settled s) : s.fwStep = s := by
  unfold State.fwStep State.fwSettle
  rw [triage_of_settled h, linkPosts_of_settled h, forAll_fixed (drainOut_of_settled h)]
  simp

/-! ### A request is taken and answered -/

/-- From `s` to `t` a request has been taken: the mailboxes alone have changed. -/
def OnlyMail (s t : State) : Prop :=
  t = { s with out := t.out, turn := t.turn, regs := t.regs } ∧ ∀ k, ¬mailboxPage k → t.get k = s.get k

/-- From `s` to `t` everything stands that answering a request looks at. -/
structure Served (s t : State) : Prop where
  lnk  : t.lnk = s.lnk
  outq : t.fw.outq = s.fw.outq
  owed : t.fw.owed = s.fw.owed
  mail : ∀ k, mailboxPage k → t.get k = s.get k

theorem Served.refl : Served s s := ⟨rfl, rfl, rfl, fun _ _ => rfl⟩

/-- The state in which the opcode of a request of channel `ch` is carried out. -/
def taken (s : State) (ch : ReqChan) : State := s.quiet.fwTake (chanIx ch)

theorem OnlyRegs.onlyMail (h : OnlyRegs mailboxPage s t) : OnlyMail s t := ⟨by rw [h.1], h.2⟩

theorem OnlyMail.trans (h : OnlyMail s t) (g : OnlyMail t u) : OnlyMail s u :=
  ⟨by rw [g.1, h.1], fun k hk => (g.2 k hk).trans (h.2 k hk)⟩

theorem OnlyMail.onlyAsked (h : OnlyMail s t) : OnlyAsked s t := by
  obtain ⟨heq, hget⟩ := h
  refine ⟨hget, ?_⟩
  rw [heq]
  exact ⟨rfl, rfl, rfl, rfl, rfl, rfl, rfl, rfl, rfl, rfl, rfl, rfl, rfl, rfl, rfl, rfl, rfl⟩

theorem chanIx_ne_one (h : ch ≠ .link) : chanIx ch ≠ 1 := by cases ch <;> simp_all [chanIx]

theorem inChan_lt (d : Fin 3) : inChan d < 8 := by unfold inChan; omega

theorem outChan_lt (d : Fin 3) : outChan d < 8 := by unfold outChan; omega

/-- A request of a channel that holds none outranks nothing, and the verdict, the opcode and the rest have been checked. -/
theorem Waits.hasReq (h : Waits s ch op) : s.hasReq (chanIx ch) = true := by
  have hserve := h.serve
  simp only [State.mayServe, Bool.and_eq_true] at hserve
  exact hserve.1.1.1.2

theorem Waits.full (h : Waits s ch op) : s.bFull (inChan (chanIx ch)) = true ∧ s.rcvOf (inChan (chanIx ch)) = 1 := by
  have := h.hasReq
  simpa [State.hasReq] using this

/-- Firmware takes a request of HOST or MAINT: FULL and ORPHAN of its channel clear (R116). -/
theorem taken_eq (h : Waits s ch op) : taken s ch =
    { (s.quiet.setBit (bch (inChan (chanIx ch)) 0x11) 0 false).setBit (bch (inChan (chanIx ch)) 0x11) 1 false with turn := chanIx ch } := by
  obtain ⟨hfull, hrcv⟩ := h.full
  have htake : s.quiet.takeEffect .exec (inChan (chanIx ch)) =
      (s.quiet.setBit (bch (inChan (chanIx ch)) 0x11) 0 false).setBit (bch (inChan (chanIx ch)) 0x11) 1 false :=
    if_pos ⟨hrcv.symm, hfull⟩
  unfold taken State.fwTake
  rw [htake]
  have hd := chanIx_ne_one h.here
  simp [hd]

theorem taken_stat (h : Waits s ch op) : OnlyRegs (· = bch (inChan (chanIx ch)) 0x11) { s.quiet with turn := chanIx ch } (taken s ch) := by
  rw [taken_eq h]
  have hbit {t : State} (i : Nat) (b : Bool) : OnlyRegs (· = bch (inChan (chanIx ch)) 0x11) t (t.setBit (bch (inChan (chanIx ch)) 0x11) i b) :=
    onlyRegs_setBit rfl
  obtain ⟨heq, hget⟩ := (hbit (t := s.quiet) 0 false).trans (hbit 1 false)
  exact ⟨by rw [heq], hget⟩

theorem taken_onlyMail (h : Waits s ch op) : OnlyMail s (taken s ch) := by
  obtain ⟨heq, hget⟩ := taken_stat h
  exact ⟨by rw [heq]; rfl, fun k hk => hget k fun e => hk (by rw [e]; exact bch_page (inChan_lt _) (by decide))⟩

theorem taken_empty (h : Waits s ch op) : (taken s ch).bFull (inChan (chanIx ch)) = false := by
  rw [taken_eq h]
  refine (State.bit_setBit _ _ _ _ _ _ (by decide)).trans ?_
  rw [if_neg (by simp)]
  exact (State.bit_setBit _ _ _ _ _ _ (by decide)).trans (if_pos ⟨rfl, rfl⟩)

theorem bch_stat_inj {m n : Nat} : bch m 0x11 = bch n 0x11 ↔ m = n := by
  unfold bch regKey
  omega

theorem taken_bFull_other (h : Waits s ch op) {n : Nat} (hn : n ≠ inChan (chanIx ch)) : (taken s ch).bFull n = s.bFull n := by
  rw [State.bFull, State.bit, (taken_stat h).2 _ fun e => hn (bch_stat_inj.1 e)]
  rfl

theorem taken_binding (h : Waits s ch op) {e : Nat} (he : e < 16) : (taken s ch).get (R.MBX_BINDB e) = s.get (R.MBX_BINDB e) :=
  (taken_stat h).2 _ fun hk => slotReg_binding he ⟨0x11, by decide, hk⟩

theorem vset_vset {α : Type} {n : Nat} (v : Vector α n) (i : Fin n) (a b : α) : vset (vset v i a) i b = vset v i b := by
  simp [vset]

theorem vset_vget_self {α : Type} {n : Nat} (v : Vector α n) (i : Fin n) {a : α} (h : vget v i = a) : vset v i a = v := by
  subst h
  simp [vset, vget]

/-- A reply of HOST's or MAINT's channel is posted at once when nothing waits before it and the channel is empty. -/
theorem reply_posts (hd : d ≠ 1) (hq : vget s.fw.outq d = []) (hroom : s.bFull (outChan d) = false) (m : Reply) :
    s.reply d m = s.post (outChan d) m.words := by
  have hback : ({ s with fw := { s.fw with outq := vset (vset s.fw.outq d [m]) d [] } } : State) = s := by
    rw [vset_vset, vset_vget_self _ _ hq]
  unfold State.reply State.drainOut
  dsimp only
  rw [hq, List.nil_append, vget_vset_same, if_neg hd]
  exact (if_neg fun h => Bool.false_ne_true (hroom.symm.trans h)).trans (congrArg (State.post · (outChan d) m.words) hback)

/-- The state of firmware in which a request's opcode has been carried out, as far as answering looks at it. -/
theorem Waits.answers_of_served (hw : Waits s ch op) (hx : Served (taken s ch) x) (hlen : ws.length ≤ 14) :
    OnlyRegs mailboxPage x (x.respond (s.reqOf (chanIx ch)) r ws).fwStep ∧ Answers s (x.respond (s.reqOf (chanIx ch)) r ws).fwStep ch r ws := by
  set d := chanIx ch with hd
  have hd1 : d ≠ 1 := chanIx_ne_one hw.here
  obtain ⟨hmail, -⟩ := taken_onlyMail hw
  have hfw : (taken s ch).fw = s.fw := by rw [hmail]
  have hlnk : (taken s ch).lnk = s.lnk := by rw [hmail]
  have houtq : ∀ e, vget x.fw.outq e = [] := fun e => by rw [hx.outq, hfw, hw.outq]
  have hstat {n : Nat} (hn : n < 8) : x.bFull n = (taken s ch).bFull n := by
    rw [State.bFull, State.bit, hx.mail _ (bch_page hn (by decide))]; rfl
  have hbind {e : Nat} (he : e < 16) : x.get (R.MBX_BINDB e) = s.get (R.MBX_BINDB e) := by
    rw [hx.mail _ (by unfold mailboxPage R.MBX_BINDB regKey; omega), taken_binding hw he]
  have hio : outChan d ≠ inChan d := by unfold outChan inChan; omega
  have hroom : x.bFull (outChan d) = false := by rw [hstat (outChan_lt d), taken_bFull_other hw hio, hw.room]
  have hsnd : x.sndOf (outChan d) = 1 := by rw [sndOf_congr (hbind (by have := outChan_lt d; omega)), hw.bound]
  set w := rspHdr (s.reqOf d).h r.code ws.length with hwd
  have hlink : (s.reqOf d).link = none := by simp [State.reqOf, hd1]
  have hresp : x.respond (s.reqOf d) r ws = x.post (outChan d) (w :: ws) := by
    unfold State.respond
    rw [hlink]
    dsimp only
    unfold State.owe
    rw [show (s.reqOf d).d = d from rfl, hx.owed, hfw, hw.owed d]
    simp only [decide_true, Bool.or_true, if_true]
    exact reply_posts hd1 (houtq d) hroom _
  obtain ⟨honly, hfull, hmsg⟩ := post_spec (outChan_lt d) hsnd hroom (w :: ws)
  set p := x.post (outChan d) (w :: ws) with hp
  have hin {n : Nat} (hn : n ≠ outChan d) : p.bFull n = x.bFull n := by
    have hout : ¬slotReg (outChan d) (bch n 0x11) := fun ⟨o, ho, e⟩ => hn (by unfold bch regKey at e; omega)
    rw [State.bFull, State.bit, honly.2 _ hout]
    rfl
  have hempty : p.bFull (inChan d) = false := by rw [hin hio.symm, hstat (inChan_lt d), taken_empty hw]
  have hsettled : Settled p := by
    have hlnkp : p.lnk = s.lnk := by rw [honly.1, ← hlnk, ← hx.lnk]
    have hfwp : p.fw = x.fw := by rw [honly.1]
    refine ⟨fun e => ?_, by rw [hlnkp, hw.inq], fun e => by rw [hfwp, houtq]⟩
    unfold State.hasReq
    by_cases he : e = d
    · rw [he, hempty, Bool.false_and]
    · have hne : inChan e ≠ inChan d := fun h => he (Fin.ext (by unfold inChan at h; omega))
      have hno : inChan e ≠ outChan d := by unfold inChan outChan; omega
      have hbinds : p.get (R.MBX_BINDB (inChan e)) = s.get (R.MBX_BINDB (inChan e)) := by
        have := inChan_lt e
        rw [honly.2 _ (slotReg_binding (by omega)), hbind (by omega)]
      have := hw.alone e he
      rwa [hin hno, hstat (inChan_lt e), taken_bFull_other hw hne, rcvOf_congr hbinds]
  rw [hresp, fwStep_of_settled hsettled]
  exact ⟨honly.mono fun k => slotReg_mailbox (outChan_lt d), hempty, hfull, by rw [hmsg]; exact take_fullMsg _ hlen⟩

end Sys2Proof.Machine
end

section
/-! PROOFS. A request's opcode: its last checks, the ranges of its arguments, and the state that its answer leaves (R135, R141). -/

namespace Sys2Proof.Machine

variable {s t x : State} {ch : ReqChan} {op : Nat} {f : OpFn} {q : Req} {r : Res} {ws : List Word}

/-! ### The checks before the opcode -/

theorem Waits.verdict (h : Waits s ch op) : hdrOp (s.reqOf (chanIx ch)).h = op ∧ s.verdict (s.reqOf (chanIx ch)) = .serve := by
  have hserve := h.serve
  simp only [State.mayServe, Bool.and_eq_true, decide_eq_true_eq] at hserve
  exact ⟨hserve.1.1.2, hserve.1.2⟩

/-- The arguments of a request that waits lie in their ranges (R135). -/
theorem Waits.args (h : Waits s ch op) :
    badArgs op (hdrClass (s.reqOf (chanIx ch)).h) (hdrNarg (s.reqOf (chanIx ch)).h) (s.reqOf (chanIx ch)).ws = false := by
  obtain ⟨hop, hv⟩ := h.verdict
  rw [State.verdict, hop] at hv
  cases hspec : opSpec op with
  | none => rw [hspec] at hv; split at hv <;> cases hv
  | some o =>
    have hgood : s.badReq (s.reqOf (chanIx ch)) o = false := by
      by_contra hbad
      rw [Bool.not_eq_false] at hbad
      simp only [hspec, hbad, if_true] at hv
      split_ifs at hv
    simp only [State.badReq, Bool.or_eq_false_iff, hop] at hgood
    exact hgood.1.2

theorem Waits.motionArgs (h : Waits s ch op) :
    badMotion op (hdrNarg (s.reqOf (chanIx ch)).h) (s.reqOf (chanIx ch)).ws = false := by
  have hargs := h.args
  simp only [badArgs, Bool.or_eq_false_iff] at hargs
  exact hargs.1.1.2

/-- Opcodes of which the state of the device alone decides BADARG, DENIED or UNREACH. -/
def earlyOps : List Nat := [0x13, 0x55, 0x62, 0x05, 0x71, 0x72, 0x73, 0x75, 0x85]

theorem early_of_other (h : op ∉ earlyOps) : s.early op q = none := by
  simp only [earlyOps, List.mem_cons, List.not_mem_nil, not_or, or_false] at h
  obtain ⟨h13, h55, h62, h05, h71, h72, h73, h75, h85⟩ := h
  simp [State.early, h13, h55, h62, h05, h71, h72, h73, h75, h85]

/-- SET_CURRENT is checked against the rated current, which only firmware knows. -/
theorem early_current_congr (h : t.fw = s.fw) : t.early 0x13 q = s.early 0x13 q := by
  simp [State.early, h]

/-- An opcode that asks for no presence. -/
def NeedsNone (op : Nat) : Prop := (opSpec op).map (·.pres) = some .none

theorem runOp_of_free (hpres : NeedsNone op) (hearly : s.early op q = none) : s.runOp op f q = f q s := by
  unfold NeedsNone at hpres
  cases hspec : opSpec op with
  | none => rw [hspec] at hpres; cases hpres
  | some o =>
    have ho : o.pres = .none := by rw [hspec] at hpres; exact Option.some.inj hpres
    unfold State.runOp
    simp only [hearly, hspec, State.presenceOf, ho, if_true]

/-! ### The state after the answer -/

/-- A request whose opcode leaves this state with this result and these words is answered with them. -/
theorem Waits.answered (hw : Waits s ch op) (hrun : (taken s ch).runOp op f (s.reqOf (chanIx ch)) = (x, r, ws)) (hx : Served (taken s ch) x)
    (hlen : ws.length ≤ 14) : OnlyRegs mailboxPage x (s.quiet.serve ch op f) ∧ Answers s (s.quiet.serve ch op f) ch r ws := by
  have heq : s.quiet.serve ch op f = (x.respond (s.reqOf (chanIx ch)) r ws).fwStep := by
    have hmay : s.quiet.mayServe (chanIx ch) op = true := hw.serve
    unfold State.serve State.serveThen
    dsimp only
    rw [hmay]
    change (match (taken s ch).runOp op f (s.reqOf (chanIx ch)) with
      | (t, r, ws) => (t.respond (s.reqOf (chanIx ch)) r ws).fwStep) = _
    rw [hrun]
  rw [heq]
  exact hw.answers_of_served hx hlen

/-- A request whose opcode changes nothing only asks. -/
theorem Waits.asked (hw : Waits s ch op) (hrun : (taken s ch).runOp op f (s.reqOf (chanIx ch)) = (taken s ch, r, ws)) (hlen : ws.length ≤ 14) :
    OnlyAsked s (s.quiet.serve ch op f) ∧ Answers s (s.quiet.serve ch op f) ch r ws := by
  obtain ⟨honly, hans⟩ := hw.answered hrun .refl hlen
  exact ⟨((taken_onlyMail hw).trans honly.onlyMail).onlyAsked, hans⟩

end Sys2Proof.Machine
end

section
/-! PROOFS. What firmware's register writes leave: every part of the state that serves requests, and all register bits but those named. -/

namespace Sys2Proof.Machine

variable {P Q : Nat → Nat → Prop} {s t u : State} {m : Master} {ch : ReqChan} {op k j : Nat} {w : Word} {r : RegRow}

/-! ### The relation -/

/-- The parts of the state beside the blocks' own that firmware serves requests by: the system with its clocks and cores, the link, what firmware
has to send and runs, and the roles. -/
def State.beside (s : State) : Sys × LinkSt × Vector (List Reply) 3 × Vector (List Owed) 3 × Vector (Option LongOp) 8 × Vector AxRole 8 :=
  ({ s.sys with nmiHeld := false, bridged := false }, s.lnk, s.fw.outq, s.fw.owed, s.fw.long, s.roles)

/-- From `s` to `t` every register bit outside `P` stands, what lies beside the blocks stands, and no source comes to reset anything. -/
structure Wrote (P : Nat → Nat → Prop) (s t : State) : Prop where
  bit     : ∀ k i, ¬P k i → t.bit k i = s.bit k i
  beside  : t.beside = s.beside
  noReset : NoReset s → NoReset t

theorem Wrote.refl : Wrote P s s := ⟨fun _ _ _ => rfl, rfl, id⟩

theorem Wrote.trans (h : Wrote P s t) (g : Wrote P t u) : Wrote P s u :=
  ⟨fun k i hk => (g.bit k i hk).trans (h.bit k i hk), g.beside.trans h.beside, g.noReset ∘ h.noReset⟩

theorem Wrote.mono (h : Wrote P s t) (hPQ : ∀ k i, P k i → Q k i) : Wrote Q s t :=
  { h with bit := fun k i hk => h.bit k i fun hp => hk (hPQ k i hp) }

theorem Wrote.ite {c : Prop} {_ : Decidable c} (ht : Wrote P s t) (hu : Wrote P s u) : Wrote P s (if c then t else u) := by
  split <;> assumption

theorem Keeps.wrote {β : Type} {f : PwmAx → β} (h : Keeps f P s t) (hb : t.beside = s.beside) : Wrote P s t := ⟨h.bit, hb, h.noReset⟩

theorem Wrote.long (h : Wrote P s t) : t.fw.long = s.fw.long := congrArg (·.2.2.2.2.1) h.beside

theorem Wrote.roles (h : Wrote P s t) : t.roles = s.roles := congrArg (·.2.2.2.2.2) h.beside

theorem Wrote.fld (h : Wrote P s t) {k hi lo : Nat} (hk : ∀ i, ¬P k i) : t.fld k hi lo = s.fld k hi lo :=
  State.fld_congr_bit fun i _ _ => h.bit k i (hk i)

theorem State.get_eq_of_bit (h : ∀ i, t.bit k i = s.bit k i) : t.get k = s.get k :=
  BitVec.eq_of_getLsbD_eq fun i _ => h i

theorem Wrote.get (h : Wrote P s t) {k : Nat} (hk : ∀ i, ¬P k i) : t.get k = s.get k :=
  State.get_eq_of_bit fun i => h.bit k i (hk i)

/-- No register of the pages below the axes' blocks. -/
def AboveMail (P : Nat → Nat → Prop) : Prop := ∀ k i, P k i → 0x10 ≤ k / 128

theorem Wrote.served (h : Wrote P s t) (hP : AboveMail P) : Served s t :=
  ⟨congrArg (·.2.1) h.beside, congrArg (·.2.2.1) h.beside, congrArg (·.2.2.2.1) h.beside, fun k hk => h.get fun i hp => by have := hP k i hp; unfold mailboxPage at hk; omega⟩

/-! ### Single updates -/

theorem wrote_set (hk : 0x10 ≤ k / 128) (hP : ∀ i, P k i) : Wrote P s (s.set k w) :=
  (keeps_set (f := id) hk hP).wrote rfl

theorem wrote_setBit {i : Nat} {b : Bool} (hk : 0x10 ≤ k / 128) (hi : i < 32) (hP : P k i) : Wrote P s (s.setBit k i b) :=
  (keeps_setBit (f := id) hk hi hP).wrote rfl

theorem wrote_setFld {hi lo v : Nat} (hk : 0x10 ≤ k / 128) (hhi : hi < 32) (hlo : lo ≤ hi) (hP : ∀ i, P k i) :
    Wrote P s (s.setFld k hi lo v) :=
  (keeps_setFld (f := id) hk hhi hlo fun i _ _ => hP i).wrote rfl

/-- An update of a block's own state, in which no register lies. -/
theorem wrote_of_regs (hregs : t.regs = s.regs := by rfl) (hb : t.beside = s.beside := by rfl) (hsafe : t.fcSafe = s.fcSafe := by rfl) :
    Wrote P s t :=
  ⟨fun k i _ => State.bit_of_regs hregs k i, hb, noReset_of_get (congrArg (·.1.chipReset) hb) hsafe fun k _ => State.get_congr hregs k⟩

theorem OnlyCollector.wrote (h : OnlyCollector s t) : Wrote P s t := (h.keeps (f := id)).wrote (by rw [h]; rfl)

theorem wrote_level {src : Nat} {v : Bool} {d : Word} (hs : NoReset s) (hsrc : src < 126) : Wrote P s (s.level src v d) :=
  (level_only ⟨hs.1, hs.2 src hsrc d⟩).wrote

theorem wrote_raise {src : Nat} {d : Word} (hs : NoReset s) (hsrc : src < 126) : Wrote P s (s.raise src d) :=
  (raise_only ⟨hs.1, hs.2 src hsrc d⟩).collector.wrote

theorem wrote_writeIgnored (hs : NoReset s) : Wrote P s (s.writeIgnored m k) := wrote_raise hs (by decide)

theorem wrote_mend : Wrote P s (s.mend k) := by
  rw [mend_frame]
  exact wrote_of_regs

theorem get_mend (s : State) (k j : Nat) : (s.mend k).get j = s.get j := by
  rw [mend_frame]
  rfl

theorem wrote_store (hk : 0x10 ≤ k / 128) (hP : ∀ i, P k i) : Wrote P s (s.store k w) := (wrote_set hk hP).trans wrote_mend

theorem get_store_same (s : State) (k : Nat) (w : Word) : (s.store k w).get k = w := by
  unfold State.store
  rw [get_mend, State.get_set_same]

theorem wrote_foldl_set {l : List Nat} (hl : ∀ k ∈ l, 0x10 ≤ k / 128 ∧ ∀ i, P k i) : Wrote P s (l.foldl (fun s k => s.set k w) s) :=
  List.foldlRecOn l _ .refl fun _ ht k hk => ht.trans (wrote_set (hl k hk).1 (hl k hk).2)

/-! ### A request taken -/

theorem noReset_of_onlyMail (h : OnlyMail s t) (hs : NoReset s) : NoReset t := by
  obtain ⟨heq, hget⟩ := h
  obtain ⟨hrun, hplain⟩ := hs
  refine ⟨by rw [heq]; exact hrun, fun src hsrc d => ?_⟩
  exact (plain_congr (by rw [heq]) (by rw [heq]) (hget _ (by unfold mailboxPage R.FC_CTL regKey; omega))
    (hget _ (by unfold mailboxPage R.FC_SRC regKey; omega)) ⟨hrun, hplain src hsrc d⟩).2

/-- The clocks of the bus run and no block is held in reset. -/
def BusUp (s : State) : Prop := s.sys.pllStop = 0#2 ∧ s.sys.rcsStop = false ∧ s.sys.rchStop = false ∧ s.sys.blockRst = []

theorem BusUp.of_sys (h : t.sys = s.sys) (hs : BusUp s) : BusUp t := by
  unfold BusUp at *
  rwa [h]

theorem Wrote.busUp (h : Wrote P s t) (hs : BusUp s) : BusUp t := by
  have hpll : t.sys.pllStop = s.sys.pllStop := congrArg (·.1.pllStop) h.beside
  have hrcs : t.sys.rcsStop = s.sys.rcsStop := congrArg (·.1.rcsStop) h.beside
  have hrch : t.sys.rchStop = s.sys.rchStop := congrArg (·.1.rchStop) h.beside
  have hrst : t.sys.blockRst = s.sys.blockRst := congrArg (·.1.blockRst) h.beside
  unfold BusUp
  rw [hpll, hrcs, hrch, hrst]
  exact hs

theorem ClocksRun.busUp (h : ClocksRun s) : BusUp s := by
  obtain ⟨hpll, hrcs, hrch, hrst, -, -⟩ := h
  exact ⟨hpll, hrcs, hrch, hrst⟩

/-! ### A register written over the bus -/

/-- A write by firmware reaches a register outside the block channels. -/
theorem fwWrite_eq (hb : BusUp s) (hi : k % 128 ≠ 127) (hp : 0x10 ≤ k / 128) (hrow : regRow k = some r) :
    s.fwWrite k w = { s.regWrite .exec r k w with out := s.out } := by
  obtain ⟨hpll, hrcs, hrch, hrst⟩ := hb
  have hclock : s.clockGone (k / 128) = false := by simp [State.clockGone, hpll, hrcs, hrch]
  have hheld : s.held (k / 128) = false := by simp [State.held, hrst]
  have hchan : bchOf k = none := if_neg (by omega)
  unfold State.fwWrite State.busWrite
  rw [if_neg hi, hclock, hheld, hchan, hrow]
  rfl

/-- What holds of the write of an implemented register holds of firmware's, which hides what a read would answer. -/
theorem fwWrite_wrote (hb : BusUp s) (hi : k % 128 ≠ 127) (hp : 0x10 ≤ k / 128) (hrow : regRow k = some r)
    (h : Wrote P s (s.regWrite .exec r k w)) : Wrote P s (s.fwWrite k w) := by
  rw [fwWrite_eq hb hi hp hrow]
  exact h.trans wrote_of_regs

theorem get_fwWrite (hb : BusUp s) (hi : k % 128 ≠ 127) (hp : 0x10 ≤ k / 128) (hrow : regRow k = some r) :
    (s.fwWrite k w).get j = (s.regWrite .exec r k w).get j := by
  rw [fwWrite_eq hb hi hp hrow]
  rfl

/-- The write of a register without effects of its own: stored, or ignored. -/
theorem wrote_plainWrite (hs : NoReset s) (hp : 0x10 ≤ k / 128) (hP : ∀ i, P k i) : Wrote P s (s.plainWrite m r k w) :=
  .ite (wrote_writeIgnored hs) (wrote_store hp hP)

/-- The write changes no configuration field of an enabled block (R103). -/
def Admits (s : State) (r : RegRow) (k : Nat) (w : Word) : Prop := s.enOf k = false ∨ (r.merge (s.get k) w ^^^ s.get k) &&& r.cfg = 0#32

theorem plainWrite_of_admits (h : Admits s r k w) : s.plainWrite m r k w = s.store k (r.merge (s.get k) w) := by
  refine if_neg ?_
  rcases h with h | h <;> simp [h]

theorem admits_of_no_cfg (h : r.cfg = 0#32) : Admits s r k w := .inr (by simp [h])

/-! ### Pages (R97) -/

theorem not_port (hp : 0x10 ≤ k / 128 ∧ k / 128 < 0x50) : k ≠ R.HSP_CFG ∧ k ≠ R.HSP_READY ∧ k ≠ R.HSP_MODE := by
  refine ⟨?_, ?_, ?_⟩ <;>
  · rintro rfl
    revert hp
    decide

theorem regWrite_me (hp : 0x10 ≤ k / 128 ∧ k / 128 < 0x18) (hacc : r.acc ≠ .ro) :
    s.regWrite m r k w = if r.multi then s.multiWrite m r k w else s.writeMe m r k (k % 128) w := by
  obtain ⟨hcfg, hready, hmode⟩ := not_port (k := k) (by omega)
  unfold State.regWrite
  simp (disch := omega) only [if_neg hacc, if_neg hcfg, if_neg hready, if_neg hmode, if_neg, if_pos]

theorem regWrite_coil (hp : 0x20 ≤ k / 128 ∧ k / 128 < 0x28) (hacc : r.acc ≠ .ro) : s.regWrite m r k w = s.writeCoil m r k (k % 128) w := by
  obtain ⟨hcfg, hready, hmode⟩ := not_port (k := k) (by omega)
  unfold State.regWrite
  simp (disch := omega) only [if_neg hacc, if_neg hcfg, if_neg hready, if_neg hmode, if_neg, if_pos]

theorem regWrite_pwm (hp : 0x28 ≤ k / 128 ∧ k / 128 < 0x30) (hacc : r.acc ≠ .ro) : s.regWrite m r k w = s.writePwm m r k (k % 128) w := by
  obtain ⟨hcfg, hready, hmode⟩ := not_port (k := k) (by omega)
  unfold State.regWrite
  simp (disch := omega) only [if_neg hacc, if_neg hcfg, if_neg hready, if_neg hmode, if_neg, if_pos]

theorem regWrite_gd (hp : 0x30 ≤ k / 128 ∧ k / 128 < 0x38) (hacc : r.acc ≠ .ro) : s.regWrite m r k w = s.writeGd m r k (k % 128) w := by
  obtain ⟨hcfg, hready, hmode⟩ := not_port (k := k) (by omega)
  unfold State.regWrite
  simp (disch := omega) only [if_neg hacc, if_neg hcfg, if_neg hready, if_neg hmode, if_neg, if_pos]

theorem regWrite_csm (hp : k / 128 = 0x40) (hacc : r.acc ≠ .ro) : s.regWrite m r k w = s.writeConv m r k (k % 128) w := by
  obtain ⟨hcfg, hready, hmode⟩ := not_port (k := k) (by omega)
  unfold State.regWrite
  simp (disch := omega) only [if_neg hacc, if_neg hcfg, if_neg hready, if_neg hmode, if_neg, if_pos]

end Sys2Proof.Machine
end

section
/-! PROOFS. Firmware writes a register of an axis's blocks: what it holds then, in its implemented bits, and what else changes (R86, R103). -/

namespace Sys2Proof.Machine

variable {P : Nat → Nat → Prop} {s t : State} {m : Master} {k e : Nat} {w : Word} {r : RegRow} {ax : Axis}

/-! ### Words and implemented bits -/

theorem merge_and_mask (r : RegRow) (old w : Word) : r.merge old w &&& r.mask = w &&& r.mask := by
  unfold RegRow.merge
  ext i hi
  simp only [BitVec.getElem_and, BitVec.getElem_or, BitVec.getElem_not]
  cases r.mask[i] <;> simp

theorem merge_of_full (h : r.mask = 0xFFFFFFFF#32) (old w : Word) : r.merge old w = w := by
  have hfull : (0xFFFFFFFF#32 : Word) = BitVec.allOnes 32 := by decide
  have := merge_and_mask r old w
  rwa [h, hfull, BitVec.and_allOnes, BitVec.and_allOnes] at this

theorem and_ones_of_lt {n : Nat} (hn : n ≤ 32) (h : w.toNat < 2 ^ n) : w &&& BitVec.ofNat 32 (2 ^ n - 1) = w := by
  have hpow : 2 ^ n ≤ 2 ^ 32 := Nat.pow_le_pow_right (by decide) hn
  apply BitVec.eq_of_toNat_eq
  rw [BitVec.toNat_and, BitVec.toNat_ofNat, Nat.mod_eq_of_lt (by omega), Nat.and_two_pow_sub_one_eq_mod, Nat.mod_eq_of_lt h]

theorem bitOf_merge (r : RegRow) (old w : Word) (i : Nat) : bitOf (r.merge old w) i = if bitOf r.mask i then bitOf w i else bitOf old i := by
  unfold RegRow.merge bitOf
  by_cases hi : i < 32
  · simp only [BitVec.getLsbD_or, BitVec.getLsbD_and, BitVec.getLsbD_not, hi, decide_true, Bool.true_and]
    cases r.mask.getLsbD i <;> simp
  · simp [BitVec.getLsbD_of_ge, Nat.le_of_not_lt hi]

/-- A word that differs from a register in bits of no configuration field. -/
theorem merge_xor_cfg (h : ∀ i, bitOf r.cfg i = true → bitOf w i = bitOf (s.get k) i) :
    (r.merge (s.get k) w ^^^ s.get k) &&& r.cfg = 0#32 := by
  apply BitVec.eq_of_getLsbD_eq
  intro i hi
  have hm := bitOf_merge r (s.get k) w i
  have hw := h i
  unfold bitOf at hm hw
  simp only [BitVec.getLsbD_and, BitVec.getLsbD_xor, BitVec.getLsbD_zero, hm]
  cases hc : r.cfg.getLsbD i
  · simp
  · simp [hw hc]

/-! ### Registers without effects of their own -/

/-- A register that firmware may write, and its row. -/
def FwReg (k : Nat) (r : RegRow) : Prop := regRow k = some r ∧ 0x10 ≤ k / 128 ∧ k % 128 ≠ 127 ∧ r.acc ≠ .ro

/-- The registers of the motion engines', coils' and modulators' pages whose write does no more than store. -/
def plainKey (k : Nat) : Prop :=
  ((0x10 ≤ k / 128 ∧ k / 128 < 0x18) ∧ k % 128 ∉ [0x00, 0x01, 0x11])
  ∨ ((0x20 ≤ k / 128 ∧ k / 128 < 0x28) ∧ k % 128 ∉ [0x00, 0x09, 0x20, 0x21, 0x40])
  ∨ (k / 128 = 0x40 ∧ 0x20 ≤ k % 128)

theorem regWrite_plain (hk : plainKey k) (hacc : r.acc ≠ .ro) (hmulti : r.multi = false) : s.regWrite m r k w = s.plainWrite m r k w := by
  simp only [plainKey, List.mem_cons, List.not_mem_nil, not_or, or_false] at hk
  rcases hk with ⟨hp, h0, h1, h11⟩ | ⟨hp, h0, h9, h20, h21, h40⟩ | ⟨hp, hi⟩
  · rw [regWrite_me hp hacc, hmulti]
    simp [State.writeMe, h0, h1, h11]
  · rw [regWrite_coil hp hacc]
    simp [State.writeCoil, h0, h9, h20, h21, h40]
  · rw [regWrite_csm hp hacc]
    unfold State.writeConv
    dsimp only
    rw [if_neg (by omega), if_neg (by omega), if_neg (by omega), if_neg (by omega), if_neg (by omega)]

theorem wrote_fwWrite_of (hk : FwReg k r) (hb : BusUp s) (h : Wrote P s (s.regWrite .exec r k w)) : Wrote P s (s.fwWrite k w) :=
  fwWrite_wrote hb hk.2.2.1 hk.2.1 hk.1 h

theorem get_fwWrite_of (hk : FwReg k r) (hb : BusUp s) (j : Nat) : (s.fwWrite k w).get j = (s.regWrite .exec r k w).get j :=
  get_fwWrite hb hk.2.2.1 hk.2.1 hk.1

/-- The register at `k`, alone. -/
def only (k : Nat) : Nat → Nat → Prop := fun j _ => j = k

theorem wrote_fwWrite_plain (hk : FwReg k r) (hplain : plainKey k) (hmulti : r.multi = false) (hb : BusUp s) (hs : NoReset s) :
    Wrote (only k) s (s.fwWrite k w) := by
  refine wrote_fwWrite_of hk hb ?_
  rw [regWrite_plain hplain hk.2.2.2 hmulti]
  exact wrote_plainWrite hs hk.2.1 fun _ => rfl

theorem get_fwWrite_plain (hk : FwReg k r) (hplain : plainKey k) (hmulti : r.multi = false) (hb : BusUp s) (ha : Admits s r k w) :
    (s.fwWrite k w).get k = r.merge (s.get k) w := by
  rw [get_fwWrite_of hk hb, regWrite_plain hplain hk.2.2.2 hmulti, plainWrite_of_admits ha, get_store_same]

theorem admits_of_off (hen : enReg k = some e) (hoff : s.bit e 31 = false) : Admits s r k w :=
  .inl (by rw [State.enOf, hen]; exact hoff)

/-! ### Registers from which the force constant follows (R219) -/

theorem wrote_report (x u : Int) : Wrote P s (s.report x u).2 := by
  unfold State.report
  split
  · exact .refl
  · exact wrote_of_regs

theorem page_LO_KF (ax : Axis) : 0x10 ≤ R.LO_KF ax / 128 := by unfold R.LO_KF regKey; omega

theorem wrote_forceConst : Wrote (only (R.LO_KF ax)) s (s.forceConst ax) := by
  unfold State.forceConst
  extract_lets psi kpm
  split
  · exact wrote_set (page_LO_KF ax) fun _ => rfl
  · exact (wrote_report _ _).trans (wrote_set (page_LO_KF ax) fun _ => rfl)

theorem axisAt_of (h : k / 128 % 8 = ax) : axisAt (k / 128) = ax := Fin.ext h

theorem regWrite_motor2 (hk : k = R.CR_MOTOR2 ax) (hacc : r.acc ≠ .ro) : s.regWrite m r k w = (s.plainWrite m r k w).forceConst ax := by
  have hp : 0x20 ≤ k / 128 ∧ k / 128 < 0x28 := by subst hk; unfold R.CR_MOTOR2 regKey; omega
  have hi : k % 128 = 0x09 := by subst hk; unfold R.CR_MOTOR2 regKey; omega
  have hax : axisAt (k / 128) = ax := axisAt_of (by subst hk; unfold R.CR_MOTOR2 regKey; omega)
  rw [regWrite_coil hp hacc, hi]
  simp [State.writeCoil, hax]

theorem regWrite_kpm (hk : k = R.ME_KPM ax) (hacc : r.acc ≠ .ro) (hmulti : r.multi = false) :
    s.regWrite m r k w = (s.plainWrite m r k w).forceConst ax := by
  have hp : 0x10 ≤ k / 128 ∧ k / 128 < 0x18 := by subst hk; unfold R.ME_KPM regKey; omega
  have hi : k % 128 = 0x11 := by subst hk; unfold R.ME_KPM regKey; omega
  have hax : axisAt (k / 128) = ax := axisAt_of (by subst hk; unfold R.ME_KPM regKey; omega)
  rw [regWrite_me hp hacc, hi, hmulti]
  simp [State.writeMe, hax]

/-- A register from which the force constant follows: it is stored, and the constant set. -/
theorem fwWrite_constant (hk : FwReg k r) (hne : k ≠ R.LO_KF ax) (heq : ∀ s : State, s.regWrite .exec r k w = (s.plainWrite .exec r k w).forceConst ax)
    (hb : BusUp s) (hs : NoReset s) (ha : Admits s r k w) :
    Wrote (fun j i => only k j i ∨ only (R.LO_KF ax) j i) s (s.fwWrite k w) ∧ (s.fwWrite k w).get k = r.merge (s.get k) w := by
  have hstore : Wrote (only k) s (s.plainWrite .exec r k w) := wrote_plainWrite hs hk.2.1 fun _ => rfl
  have hconst : Wrote (only (R.LO_KF ax)) (s.plainWrite .exec r k w) ((s.plainWrite .exec r k w).forceConst ax) := wrote_forceConst
  refine ⟨wrote_fwWrite_of hk hb ?_, ?_⟩
  · rw [heq]
    exact (hstore.mono fun _ _ => .inl).trans (hconst.mono fun _ _ => .inr)
  · rw [get_fwWrite_of hk hb, heq, hconst.get fun _ => hne, plainWrite_of_admits ha, get_store_same]

/-! ### Registers that hold a block's EN (R103) -/

theorem enWrite_fall (hon : s.bit k 31 = true) (hoff : bitOf w 31 = false) : s.enWrite m r k w = s.clearEn k := by
  unfold State.enWrite
  simp [hon, hoff]

/-- EN stays as it is, and the probe's permission is not withdrawn. -/
theorem enWrite_keep (hp : 0x10 ≤ k / 128 ∧ k / 128 < 0x40) (hen : bitOf w 31 = s.bit k 31)
    (hlo : ¬((0x20 ≤ k / 128 ∧ k / 128 < 0x28) ∧ k % 128 = 0x40 ∧ bitOf w 30 = false)) : s.enWrite m r k w = s.plainWrite m r k w := by
  have hkeep : (s.bit k 31 && !bitOf w 31) = false := by rw [hen]; cases s.bit k 31 <;> rfl
  have hrise : (!s.bit k 31 && bitOf w 31) = false := by rw [hen]; cases s.bit k 31 <;> rfl
  unfold State.enWrite
  dsimp only
  rw [hkeep, hrise, if_neg (by decide), if_neg (by simp), if_neg (by omega), if_neg (by omega), if_neg (by omega), if_neg (by simp),
    if_neg (by simp only [Bool.not_eq_true']; tauto), if_neg (by omega)]

/-- EN rises where the write does no more than store it. -/
theorem enWrite_rise (hp : 0x10 ≤ k / 128 ∧ k / 128 < 0x38 ∧ ¬(0x20 ≤ k / 128 ∧ k / 128 < 0x30)) (hoff : s.bit k 31 = false) :
    s.enWrite m r k w = s.plainWrite m r k w := by
  unfold State.enWrite
  dsimp only
  rw [hoff, if_neg (by simp), if_neg (by omega), if_neg (by omega), if_neg (by omega), if_neg (by omega), if_neg (by omega), if_neg (by omega),
    if_neg (by omega)]

end Sys2Proof.Machine
end

section
/-! PROOFS. The gates, bridges, regulators and modulators under firmware's writes: what each operation leaves (R185, R221, R251, R252, R258, R277). -/

namespace Sys2Proof.Machine

variable {P : Nat → Nat → Prop} {s t : State} {m : Master} {w : Word} {ax : Axis} {br : Bridge} {j : Leg} {c : Coil}

theorem wrote_forAll {n : Nat} {g : State → Fin n → State} (hs : NoReset s) (hg : ∀ t i, NoReset t → Wrote P t (g t i)) : Wrote P s (forAll n s g) :=
  forAll_keeps (P := Wrote P s) .refl fun _ _ h => h.trans (hg _ _ (h.noReset hs))

/-! ### Gates (R258) -/

theorem wrote_settleGd (hs : NoReset s) : Wrote P s (s.settleGd ax) := (settleGd_only hs).wrote

theorem wrote_onLeg {g : LegSt → LegSt} : Wrote P s (s.onLeg ax j g) := wrote_of_regs

theorem wrote_fltBit {i : Nat} {b : Bool} (hi : i < 32) : Wrote gateBits s (s.setBit (R.GD_FLT ax) i b) :=
  wrote_setBit (page_flt ax) hi (gateBits_flt ax i)

theorem wrote_disarm (hs : NoReset s) : Wrote gateBits s (s.disarm ax j) := by
  have hclear : Wrote gateBits s (s.vdsClear ax j) := (wrote_fltBit (by omega)).trans (wrote_fltBit (by omega))
  have hleg : Wrote gateBits s ((s.vdsClear ax j).onLeg ax j fun l => { l with armed := false }) := hclear.trans wrote_onLeg
  exact .ite (hleg.trans (wrote_settleGd (hleg.noReset hs))) hleg

theorem wrote_unstick (hs : NoReset s) : Wrote gateBits s (s.unstick ax j) := by
  have hbit : Wrote gateBits s (s.setBit (R.GD_FLT ax) (20 + j) false) := wrote_fltBit (by omega)
  exact .ite (hbit.trans (wrote_settleGd (hbit.noReset hs))) .refl

theorem wrote_raiseBst (hs : NoReset s) : Wrote P s (s.raiseBst ax) := by
  have hraise : Wrote P s (s.raise (80 + ax) (s.gdStat ax)) := wrote_raise hs (by omega)
  exact .ite (hraise.trans (.ite .refl wrote_of_regs)) .refl

theorem wrote_legCommand {cmd : Option Bool} (hs : NoReset s) : Wrote gateBits s (s.legCommand ax j cmd) := by
  cases cmd with
  | none =>
    rw [legCommand_none]
    exact (wrote_disarm hs).trans wrote_onLeg
  | some hi =>
    obtain ⟨already, on, low, g, heq⟩ := legCommand_some s ax j hi
    rw [heq]
    extract_lets s1 s2 s3
    have h1 : Wrote gateBits s s1 := .ite .refl (wrote_disarm hs)
    have h2 : Wrote gateBits s s2 := .ite (h1.trans (wrote_unstick (h1.noReset hs))) h1
    have h3 : Wrote gateBits s s3 := h2.trans wrote_onLeg
    exact .ite (h3.trans (wrote_raiseBst (h3.noReset hs))) h3

theorem wrote_allLegs {cmd : Option Bool} (hs : NoReset s) : Wrote gateBits s (s.allLegs ax cmd) :=
  wrote_forAll hs fun _ _ ht => wrote_legCommand ht

theorem wrote_edge {hi : Bool} (hs : NoReset s) : Wrote gateBits s (s.edge ax br j hi) := by
  have hb := brIx_le br
  have hmask : Wrote gateBits s (s.setMask ax br true) := wrote_setBit (page_stat ax) (by omega) (gateBits_mask ax (by omega))
  exact .ite .refl (hmask.trans (wrote_legCommand (hmask.noReset hs)))

theorem wrote_slowNow (hs : NoReset s) : Wrote gateBits s (s.slowNow ax br) := by
  have hidle : Wrote gateBits s (s.onBr ax br fun b => { b with phase := .idle }) := wrote_of_regs
  have hleft := hidle.trans (wrote_edge (ax := ax) (br := br) (j := (legsOf br).1) (hi := false) (hidle.noReset hs))
  exact .ite (hleft.trans (wrote_edge (hleft.noReset hs))) .refl

/-- A gate not recorded as stuck is not recorded as stuck after a command of its bridge. -/
theorem notStuck_legCommand {i : Leg} {hi : Bool} (hs : NoReset s) (h : s.bit (R.GD_FLT ax) (20 + i) = false) :
    (s.legCommand ax j (some hi)).bit (R.GD_FLT ax) (20 + i) = false := by
  obtain ⟨already, on, low, g, heq⟩ := legCommand_some s ax j hi
  rw [heq]
  extract_lets s1 s2 s3
  have h1 : Wrote gateBits s s1 := .ite .refl (wrote_disarm hs)
  have h2 : Wrote gateBits s s2 := .ite (h1.trans (wrote_unstick (h1.noReset hs))) h1
  have hb1 : s1.bit (R.GD_FLT ax) (20 + i) = false := by
    unfold s1
    split
    · exact h
    · rw [(disarm_legs hs).2 _ (by omega)]
      exact h
  have hb2 : s2.bit (R.GD_FLT ax) (20 + i) = false := by
    have hclear : (s1.setBit (R.GD_FLT ax) (20 + j) false).bit (R.GD_FLT ax) (20 + i) = false := by
      rw [State.bit_setBit _ _ _ _ _ _ (by omega), hb1]
      exact ite_self _
    have hnr : NoReset (s1.setBit (R.GD_FLT ax) (20 + j) false) := (wrote_fltBit (by omega)).noReset (h1.noReset hs)
    unfold s2 State.unstick
    split
    · split
      · rw [(settleGd_only hnr).bit]
        exact hclear
      · exact hb1
    · exact hb1
  have hb3 : s3.bit (R.GD_FLT ax) (20 + i) = false := hb2
  split
  · rw [(wrote_raiseBst (P := fun _ _ => False) (h2.noReset hs) : Wrote _ s3 _).bit _ _ not_false]
    exact hb3
  · exact hb3

theorem notStuck_edge {i : Leg} {hi : Bool} (hs : NoReset s) (h : s.bit (R.GD_FLT ax) (20 + i) = false) :
    (s.edge ax br j hi).bit (R.GD_FLT ax) (20 + i) = false := by
  have hb := brIx_le br
  have hmask : Wrote gateBits s (s.setMask ax br true) := wrote_setBit (page_stat ax) (by omega) (gateBits_mask ax (by omega))
  have hne : R.GD_FLT ax ≠ R.PWM_STAT ax := by unfold R.GD_FLT R.PWM_STAT regKey; omega
  refine iteInduction (motive := fun t : State => t.bit (R.GD_FLT ax) (20 + i) = false) (fun _ => h) fun _ =>
    notStuck_legCommand (hmask.noReset hs) ?_
  rw [State.setMask, State.bit_setBit _ _ _ _ _ _ (by omega), if_neg fun e => hne e.1]
  exact h

theorem notStuck_slowNow {i : Leg} (hs : NoReset s) (h : s.bit (R.GD_FLT ax) (20 + i) = false) :
    (s.slowNow ax br).bit (R.GD_FLT ax) (20 + i) = false := by
  have hidle : Wrote gateBits s (s.onBr ax br fun b => { b with phase := .idle }) := wrote_of_regs
  unfold State.slowNow
  split
  · exact notStuck_edge ((wrote_edge (hidle.noReset hs)).noReset (hidle.noReset hs)) (notStuck_edge (hidle.noReset hs) h)
  · exact h

/-! ### Bridges enabled and disabled (R251, R252) -/

theorem wrote_endDiag : Wrote enableBits s (s.endDiag ax) := by
  refine (keeps_endDiag (f := id)).wrote ?_
  unfold State.endDiag
  dsimp only
  split_ifs <;> rfl

theorem wrote_prechargeEnd (hs : NoReset s) : Wrote (fun k i => gateBits k i ∨ k = R.GD_STAT ax) s (s.prechargeEnd ax) := by
  have hbit : Wrote (fun k i => gateBits k i ∨ k = R.GD_STAT ax) s (s.setBit (R.GD_STAT ax) 17 false) :=
    wrote_setBit (by unfold R.GD_STAT regKey; omega) (by decide) (.inr rfl)
  exact .ite (hbit.trans ((wrote_allLegs (hbit.noReset hs)).mono fun _ _ => .inl)) .refl

theorem wrote_zeroDuty : Wrote periodBits s (s.zeroDuty ax br) := by
  have hact : Wrote periodBits s (s.onBr ax br fun b => { b with act := { on := 0, tag := s.per ax } }) := wrote_of_regs
  exact .ite .refl (hact.trans ((keeps_dutySet (f := id)).wrote rfl))

theorem wrote_holdTacks : Wrote periodBits s (s.holdTacks ax) := by
  have hset (br : Bridge) (u : State) (w : Word) : Wrote periodBits u (u.set (tackReg ax br 0) w) :=
    wrote_set (periodBits_tack ax br 0).1 fun i => (periodBits_tack ax br i).2
  exact .ite ((hset .a _ _).trans (hset .b _ _)) .refl

theorem wrote_showDuty : Wrote periodBits s (s.showDuty ax br) := by
  refine (keeps_showDuty (f := id)).wrote ?_
  obtain ⟨u, w, heq, rfl | ⟨o, per, rfl⟩⟩ := showDuty_eq s ax br <;> rw [heq]
  · rfl
  · unfold State.onScaled
    dsimp only
    split <;> rfl

theorem wrote_transfer : Wrote (fun k i => perBits k i ∨ transferBits k i) s (s.transfer ax) := by
  refine (keeps_transfer (f := fun _ => ()) (fun _ _ _ => rfl) fun _ _ => ⟨rfl, rfl⟩).wrote ?_
  unfold State.transfer
  extract_lets s1 take s2 s3 split s4 s5
  have h1 : s1.beside = s.beside := by unfold s1; split <;> rfl
  have h3 : s3.beside = s1.beside := (wrote_zeroDuty.trans wrote_zeroDuty).beside
  have h5 : s5.beside = s3.beside := by unfold s5; split <;> rfl
  have hshow := ((wrote_showDuty (s := s5) (ax := ax) (br := .a)).trans (wrote_showDuty (ax := ax) (br := .b))).trans (wrote_holdTacks (ax := ax))
  rw [hshow.beside, h5, h3, h1]

end Sys2Proof.Machine
end

section
/-! PROOFS. The blocks that a write of EN switches: what changes beside the EN bit, and that it holds what was written (R103, R252, R277). -/

namespace Sys2Proof.Machine

variable {P : Nat → Nat → Prop} {s t : State} {m : Master} {k : Nat} {w : Word} {r : RegRow} {ax : Axis} {br : Bridge} {j : Leg} {c : Coil}

/-! ### Bridges -/

/-- The registers that setting PWM_CFG.EN writes: those of the PWM pages, and the state and the findings of the gate drivers. -/
def pwmEnBits (k _i : Nat) : Prop :=
  (0x28 ≤ k / 128 ∧ k / 128 < 0x30) ∨ (0x30 ≤ k / 128 ∧ (k % 128 = 3 ∨ k % 128 = 4 ∨ k % 128 = 6 ∨ k % 128 = 7))

theorem wrote_enSet (hs : NoReset s) : Wrote pwmEnBits s (enSet s ax) := by
  have hbridged : Wrote pwmEnBits s { s with sys := { s.sys with bridged := true } } := wrote_of_regs
  have hdiag := hbridged.trans ((wrote_endDiag (ax := ax)).mono fun k i h => by unfold enableBits at h; unfold pwmEnBits; omega)
  have hpre := hdiag.trans ((wrote_prechargeEnd (ax := ax) (hdiag.noReset hs)).mono fun k i h => by
    unfold gateBits R.GD_STAT regKey at h; unfold pwmEnBits; omega)
  exact hpre.trans (wrote_setBit (by unfold R.PWM_CFG regKey; omega) (by decide) (by unfold pwmEnBits R.PWM_CFG regKey; omega))

/-- The transfer writes no configuration. -/
theorem wrote_transfer_pwm : Wrote (fun k i => pwmEnBits k i ∧ k % 128 ≠ 0) s (s.transfer ax) :=
  wrote_transfer.mono fun k i h => by unfold perBits transferBits periodBits at h; unfold pwmEnBits; omega

theorem wrote_pwmEnable (hs : NoReset s) : Wrote pwmEnBits s (s.pwmEnable ax) := by
  cases hoff : s.pwmEn ax with
  | true =>
    unfold State.pwmEnable
    rw [hoff]
    exact .refl
  | false =>
    rw [pwmEnable_of_off hoff]
    have htake : Wrote pwmEnBits s ((enSet s ax).transfer ax) := (wrote_enSet hs).trans (wrote_transfer_pwm.mono fun _ _ h => h.1)
    exact htake.trans wrote_of_regs

theorem pwmEn_pwmEnable : (s.pwmEnable ax).pwmEn ax = true := by
  cases hoff : s.pwmEn ax with
  | true =>
    unfold State.pwmEnable
    rw [hoff]
    exact hoff
  | false =>
    rw [pwmEnable_of_off hoff]
    have hset : (enSet s ax).bit (R.PWM_CFG ax) 31 = true := (State.bit_setBit _ _ _ _ _ _ (by decide)).trans (if_pos ⟨rfl, rfl⟩)
    exact ((wrote_transfer_pwm (ax := ax)).bit _ _ fun h => h.2 (by unfold R.PWM_CFG regKey; omega)).trans hset

/-- The registers of the pages from the PWM's on. -/
def pwmOffBits (k _i : Nat) : Prop := 0x28 ≤ k / 128

theorem wrote_pwmDisable (hs : NoReset s) : Wrote pwmOffBits s (s.pwmDisable ax) := by
  cases hon : s.pwmEn ax with
  | false =>
    unfold State.pwmDisable
    rw [hon]
    exact .refl
  | true =>
    rw [pwmDisable_of_on hon]
    have hlegs : Wrote pwmOffBits s (s.allLegs ax none) := (wrote_allLegs hs).mono fun k i h => by unfold gateBits at h; unfold pwmOffBits; omega
    have hcfg := hlegs.trans (wrote_setBit (k := R.PWM_CFG ax) (i := 31) (b := false) (by unfold R.PWM_CFG regKey; omega) (by decide)
      (by unfold pwmOffBits R.PWM_CFG regKey; omega))
    have hstat : Wrote pwmOffBits s (enCleared s ax) := hcfg.trans (wrote_setFld (page_stat ax) (by decide) (by decide)
      fun _ => by unfold pwmOffBits R.PWM_STAT regKey; omega)
    exact (hstat.trans (wrote_settleGd (hstat.noReset hs))).trans wrote_of_regs

/-! ### Regulators and motion -/

/-- The registers that follow CR_CFG.EN: those of the coil pages but for the configuration, and the thresholds of the PWM pages. -/
def crOutBits (k _i : Nat) : Prop :=
  ((0x20 ≤ k / 128 ∧ k / 128 < 0x28) ∧ k % 128 ≠ 0) ∨ ((0x28 ≤ k / 128 ∧ k / 128 < 0x30) ∧ k % 128 = 7)

/-- The regulators' outputs are those of disabled ones. -/
def crOutputs (s : State) (ax : Axis) (g : CoilAx → CoilAx) : State :=
  ((((s.onCoil ax g).set (R.PWM_THR ax) 0#32).set (R.LO_PERR ax) 0#32).zeroDq ax).setFld (R.CR_STAT ax) 7 6 0

/-- Disabling the regulators: the bridges slow down, and EN and the outputs that follow it clear. -/
theorem crDisable_eq (s : State) (ax : Axis) : ∃ g : CoilAx → CoilAx, s.crDisable ax =
    crOutputs ((if s.crEn ax then (s.slowNow ax .a).slowNow ax .b else s).setBit (R.CR_CFG ax) 31 false) ax g := ⟨_, rfl⟩

theorem wrote_zeroDq : Wrote crOutBits s (s.zeroDq ax) := by
  refine wrote_foldl_set fun k hk => ?_
  simp only [List.mem_cons, List.not_mem_nil, or_false, R.CR_ID, R.CR_IQ, R.CR_IDDEM, R.CR_IQDEM, regKey] at hk
  exact ⟨by omega, fun _ => by unfold crOutBits; omega⟩

theorem wrote_crOutputs {g : CoilAx → CoilAx} : Wrote crOutBits s (crOutputs s ax g) := by
  have hcoil : Wrote crOutBits s (s.onCoil ax g) := wrote_of_regs
  have hthr := hcoil.trans (wrote_set (k := R.PWM_THR ax) (w := 0#32) (by unfold R.PWM_THR regKey; omega)
    fun _ => by unfold crOutBits R.PWM_THR regKey; omega)
  have herr := hthr.trans (wrote_set (k := R.LO_PERR ax) (w := 0#32) (by unfold R.LO_PERR regKey; omega)
    fun _ => by unfold crOutBits R.LO_PERR regKey; omega)
  exact (herr.trans wrote_zeroDq).trans (wrote_setFld (by unfold R.CR_STAT regKey; omega) (by decide) (by decide)
    fun _ => by unfold crOutBits R.CR_STAT regKey; omega)

/-- The registers that disabling the regulators writes. -/
def crOffBits (k i : Nat) : Prop := ((0x20 ≤ k / 128 ∧ k / 128 < 0x28) ∧ k % 128 = 0) ∨ crOutBits k i ∨ gateBits k i

theorem wrote_slowBoth (hs : NoReset s) : Wrote gateBits s (if s.crEn ax then (s.slowNow ax .a).slowNow ax .b else s) :=
  have ha : Wrote gateBits s (s.slowNow ax .a) := wrote_slowNow hs
  .ite (ha.trans (wrote_slowNow (ha.noReset hs))) .refl

theorem wrote_crDisable (hs : NoReset s) : Wrote crOffBits s (s.crDisable ax) := by
  obtain ⟨g, heq⟩ := crDisable_eq s ax
  rw [heq]
  have hslow : Wrote crOffBits s _ := (wrote_slowBoth (ax := ax) hs).mono fun _ _ h => .inr (.inr h)
  have hbit := hslow.trans (wrote_setBit (k := R.CR_CFG ax) (i := 31) (b := false) (by unfold R.CR_CFG regKey; omega) (by decide)
    (by unfold crOffBits R.CR_CFG regKey; omega))
  exact hbit.trans (wrote_crOutputs.mono fun _ _ h => .inr (.inl h))

theorem crEn_crDisable : (s.crDisable ax).crEn ax = false := by
  obtain ⟨g, heq⟩ := crDisable_eq s ax
  rw [State.crEn, heq, wrote_crOutputs.bit _ _ (by unfold crOutBits R.CR_CFG regKey; omega), State.bit_setBit _ _ _ _ _ _ (by decide),
    if_pos ⟨rfl, rfl⟩]

theorem notStuck_crDisable {i : Leg} (hs : NoReset s) (h : s.bit (R.GD_FLT ax) (20 + i) = false) :
    (s.crDisable ax).bit (R.GD_FLT ax) (20 + i) = false := by
  obtain ⟨g, heq⟩ := crDisable_eq s ax
  have hslow : (if s.crEn ax then (s.slowNow ax .a).slowNow ax .b else s).bit (R.GD_FLT ax) (20 + i) = false := by
    split
    · exact notStuck_slowNow ((wrote_slowNow hs).noReset hs) (notStuck_slowNow hs h)
    · exact h
  rw [heq, wrote_crOutputs.bit _ _ (by unfold crOutBits R.GD_FLT regKey; omega), State.bit_setBit _ _ _ _ _ _ (by decide), if_neg fun e => ?_]
  · exact hslow
  · have hkey := e.1
    unfold R.GD_FLT R.CR_CFG regKey at hkey
    omega

theorem wrote_meDisable : Wrote (only (R.ME_CFG ax)) s (s.meDisable ax) := by
  cases hon : s.meEn ax with
  | false =>
    unfold State.meDisable
    rw [hon]
    exact .refl
  | true =>
    rw [meDisable_of_on hon]
    have hbit : Wrote (only (R.ME_CFG ax)) s (s.setBit (R.ME_CFG ax) 31 false) :=
      wrote_setBit (by unfold R.ME_CFG regKey; omega) (by decide) rfl
    exact hbit.trans wrote_of_regs

/-! ### Modulators (R277) -/

theorem wrote_settleCsm (hs : NoReset s) : Wrote (only R.CSM_STAT) s s.settleCsm := by
  have hset (w : Word) : Wrote (only R.CSM_STAT) s (s.set R.CSM_STAT w) := wrote_set (by decide) fun _ => rfl
  exact (hset _).trans (wrote_level ((hset _).noReset hs) (by decide))

/-- CSM_CFG holds EN as written, before the modulators that start warm up. -/
def csmEnSet (s : State) (w : Word) : State := (s.setBit R.CSM_CFG 31 (bitOf w 31)).mend R.CSM_CFG

/-- A write of CSM_CFG touches EN, the modulators that start, and CSM_STAT. -/
theorem wrote_csmCfgWrite (hs : NoReset s) : Wrote (only R.CSM_CFG) s (csmEnSet s w) ∧ Wrote (only R.CSM_STAT) (csmEnSet s w) (s.csmCfgWrite w) := by
  have hbit : Wrote (only R.CSM_CFG) s (s.setBit R.CSM_CFG 31 (bitOf w 31)) := wrote_setBit (by decide) (by decide) rfl
  have hen : Wrote (only R.CSM_CFG) s (csmEnSet s w) := hbit.trans wrote_mend
  have hwarm (b : Bool) : Wrote (only R.CSM_STAT) (csmEnSet s w)
      (if b then forAll 16 (csmEnSet s w) fun s c => if s.csmOn c then s.csmWarm c else s else csmEnSet s w) :=
    .ite (wrote_forAll (hen.noReset hs) fun _ _ _ => .ite wrote_of_regs .refl) .refl
  exact ⟨hen, (hwarm _).trans (wrote_settleCsm ((hwarm _).noReset (hen.noReset hs)))⟩

theorem bit_csmEnSet : (csmEnSet s w).bit R.CSM_CFG 31 = bitOf w 31 := by
  unfold csmEnSet
  rw [State.bit, get_mend]
  exact (State.bit_setBit _ _ _ _ _ _ (by decide)).trans (if_pos ⟨rfl, rfl⟩)

/-- A write of CSM_CCFG that leaves its configuration field stores the word, warms the modulator up or rests it, and sets CSM_STAT. -/
theorem wrote_csmCcfgWrite (hs : NoReset s) (h0 : bitOf (s.get (R.CSM_CCFG c)) 0 = bitOf w 0) :
    Wrote (only R.CSM_STAT) (s.store (R.CSM_CCFG c) (w &&& 0xC0000001#32)) (s.csmCcfgWrite m c w) := by
  set u := s.store (R.CSM_CCFG c) (w &&& 0xC0000001#32) with hu
  have hstore : Wrote (only (R.CSM_CCFG c)) s u := wrote_store (by unfold R.CSM_CCFG regKey; omega) fun _ => rfl
  have hwarm (b : Bool) : Wrote (only R.CSM_STAT) u (if b then u.csmWarm c else if u.csmOn c then u else u.onCsm c fun _ => {}) :=
    .ite wrote_of_regs (.ite .refl wrote_of_regs)
  unfold State.csmCcfgWrite
  dsimp only
  rw [if_neg fun h => h.2.2 h0]
  exact (hwarm _).trans (wrote_settleCsm ((hwarm _).noReset (hstore.noReset hs)))

/-! ### The drivers' self-test, the press probe and the wave table (R185, R221, R271) -/

/-- The self-test starts where it may: the gates are off and GD_STAT says that it runs. -/
theorem stestStart_spec (hs : NoReset s) (hmay : s.diagMay ax = true) :
    Wrote (fun k i => gateBits k i ∨ only (R.GD_STAT ax) k i ∨ only (R.GD_STRES ax) k i) s (s.stestStart m ax)
    ∧ (s.stestStart m ax).bit (R.GD_STAT ax) 19 = true := by
  have heq : s.stestStart m ax = ((s.allLegs ax none).setBit (R.GD_STAT ax) 19 true).set (R.GD_STRES ax) 0#32 := if_pos hmay
  rw [heq]
  constructor
  · have hlegs := (wrote_allLegs (ax := ax) (cmd := none) hs).mono
      (Q := fun k i => gateBits k i ∨ only (R.GD_STAT ax) k i ∨ only (R.GD_STRES ax) k i) fun _ _ => .inl
    have hbit := hlegs.trans (wrote_setBit (k := R.GD_STAT ax) (i := 19) (b := true) (by unfold R.GD_STAT regKey; omega) (by decide) (.inr (.inl rfl)))
    exact hbit.trans (wrote_set (by unfold R.GD_STRES regKey; omega) fun _ => .inr (.inr rfl))
  · rw [State.bit_set, if_neg (by unfold R.GD_STAT R.GD_STRES regKey; omega), State.bit_setBit _ _ _ _ _ _ (by decide), if_pos ⟨rfl, rfl⟩]

/-- The probe has stopped, before the condition of a press follows. -/
def probeStopped (s : State) (ax : Axis) : State := (s.setFld (R.LO_STAT ax) 10 8 0).onLo ax fun l => { l with
  ppHalf := none, ppOdd := false, ppSpoil := false, ppN := 0, ppIp := 0, ppC := 0, ppNew := false, pressHi := 0, pressLo := 0 }

theorem settlePress_only (hs : NoReset s) : OnlyCollector s (s.settlePress ax) := level_only ⟨hs.1, hs.2 (48 + ax) (by omega) _⟩

theorem wrote_probeStop (hs : NoReset s) : Wrote (only (R.LO_STAT ax)) s (s.probeStop ax) ∧ (s.probeStop ax).mot = s.mot := by
  by_cases hidle : s.fld (R.LO_STAT ax) 10 8 = 0
  · have heq : s.probeStop ax = s := if_pos hidle
    rw [heq]
    exact ⟨.refl, rfl⟩
  · have heq : s.probeStop ax = (probeStopped s ax).settlePress ax := if_neg hidle
    have hfld : Wrote (only (R.LO_STAT ax)) s (s.setFld (R.LO_STAT ax) 10 8 0) :=
      wrote_setFld (by unfold R.LO_STAT regKey; omega) (by decide) (by decide) fun _ => rfl
    have hstop : Wrote (only (R.LO_STAT ax)) s (probeStopped s ax) := hfld.trans wrote_of_regs
    have hpress := settlePress_only (ax := ax) (hstop.noReset hs)
    rw [heq]
    exact ⟨hstop.trans hpress.wrote, hpress.mot⟩

end Sys2Proof.Machine
end

section
/-! PROOFS. AXIS_EN: the blocks of an axis switched on and off by firmware (R152, R189, R277). -/

namespace Sys2Proof.Machine

variable {P Q : Nat → Nat → Prop} {s t : State} {m : Master} {k : Nat} {w : Word} {r : RegRow} {ax : Axis} {c : Coil}

/-! ### Rows (R7) -/

/-- The row of ME_CFG. -/
def meCfgRow : RegRow := ⟨0x00, 1, 0x00000000#32, 0x83FFE000#32, 0x03FFE000#32, true, .rw, false⟩

/-- The row of CR_CFG. -/
def crCfgRow : RegRow := ⟨0x00, 1, 0x00001C00#32, 0x873FFC03#32, 0x073FFC03#32, true, .rw, false⟩

/-- The row of PWM_CFG. -/
def pwmCfgRow : RegRow := ⟨0x00, 1, 0x00041000#32, 0xC0FFFF00#32, 0x40FFFF00#32, true, .rw, false⟩

/-- The row of GD_CFG. -/
def gdCfgRow : RegRow := ⟨0x00, 1, 0x000A0300#32, 0x80FF0F00#32, 0x00FF0F00#32, true, .rw, false⟩

/-- The row of CSM_CFG. -/
def csmCfgRow : RegRow := ⟨0x00, 1, 0x00000000#32, 0x80000000#32, 0x00000000#32, true, .rw, false⟩

/-- The row of CSM_CCFG. -/
def csmCcfgRow : RegRow := ⟨0x10, 16, 0x00000000#32, 0xC0000001#32, 0x00000001#32, true, .rw, false⟩

theorem fwReg_ME_CFG : ∀ ax : Axis, FwReg (R.ME_CFG ax) meCfgRow := by unfold FwReg; decide

theorem fwReg_CR_CFG : ∀ ax : Axis, FwReg (R.CR_CFG ax) crCfgRow := by unfold FwReg; decide

theorem fwReg_PWM_CFG : ∀ ax : Axis, FwReg (R.PWM_CFG ax) pwmCfgRow := by unfold FwReg; decide

theorem fwReg_GD_CFG : ∀ ax : Axis, FwReg (R.GD_CFG ax) gdCfgRow := by unfold FwReg; decide

theorem fwReg_CSM_CFG : FwReg R.CSM_CFG csmCfgRow := by unfold FwReg; decide

theorem fwReg_CSM_CCFG : ∀ c : Coil, FwReg (R.CSM_CCFG c) csmCcfgRow := by unfold FwReg; decide

/-- These registers hold the EN of their own block. -/
theorem enReg_own : ∀ ax : Axis, enReg (R.ME_CFG ax) = some (R.ME_CFG ax) ∧ enReg (R.CR_CFG ax) = some (R.CR_CFG ax)
    ∧ enReg (R.PWM_CFG ax) = some (R.PWM_CFG ax) ∧ enReg (R.GD_CFG ax) = some (R.GD_CFG ax) := by decide

/-! ### Writes of EN -/

/-- The registers of the axes' pages that hold an EN bit. -/
def enKey (k : Nat) : Prop :=
  (((0x10 ≤ k / 128 ∧ k / 128 < 0x18) ∨ (0x20 ≤ k / 128 ∧ k / 128 < 0x38)) ∧ k % 128 = 0)
  ∨ ((0x20 ≤ k / 128 ∧ k / 128 < 0x28) ∧ k % 128 = 0x40)

theorem regWrite_en (hk : enKey k) (hacc : r.acc ≠ .ro) (hmulti : r.multi = false) : s.regWrite m r k w = s.enWrite m r k w := by
  unfold enKey at hk
  rcases Nat.lt_or_ge (k / 128) 0x18 with h | h
  · rw [regWrite_me (by omega) hacc, hmulti, show k % 128 = 0 by omega]
    rfl
  · rcases Nat.lt_or_ge (k / 128) 0x28 with h2 | h2
    · rw [regWrite_coil (by omega) hacc]
      exact if_pos (by omega)
    · rcases Nat.lt_or_ge (k / 128) 0x30 with h3 | h3
      · rw [regWrite_pwm (by omega) hacc]
        exact if_pos (by omega)
      · rw [regWrite_gd (by omega) hacc]
        exact if_pos (by omega)

theorem bit_plainWrite (ha : Admits s r k w) (i : Nat) :
    (s.plainWrite m r k w).bit k i = if bitOf r.mask i then bitOf w i else s.bit k i := by
  rw [plainWrite_of_admits ha, State.bit, get_store_same]
  exact bitOf_merge r (s.get k) w i

theorem admits_of_own_off (hen : enReg k = some k) (hoff : s.bit k 31 = false) : Admits s r k w := admits_of_off hen hoff

/-- Firmware sets an EN bit, by whatever the block then does. -/
theorem fwSet_spec (hk : FwReg k r) (hb : BusUp s) (h : s.bit k 31 = false →
      Wrote P s (s.regWrite .exec r k (putBit (s.get k) 31 true)) ∧ (s.regWrite .exec r k (putBit (s.get k) 31 true)).bit k 31 = true) :
    Wrote P s (s.fwSet k 31) ∧ (s.fwSet k 31).bit k 31 = true := by
  cases hoff : s.bit k 31 with
  | true =>
    have heq : s.fwSet k 31 = s := if_pos hoff
    rw [heq]
    exact ⟨.refl, hoff⟩
  | false =>
    have heq : s.fwSet k 31 = s.fwWrite k (putBit (s.get k) 31 true) := if_neg (by rw [hoff]; decide)
    obtain ⟨hw, hbit⟩ := h hoff
    rw [heq]
    refine ⟨wrote_fwWrite_of hk hb hw, ?_⟩
    rw [State.bit, get_fwWrite_of hk hb]
    exact hbit

/-- The EN bit of a motion engine or of the gate drivers: it is stored. -/
theorem fwSet_stored (hk : FwReg k r) (hen : enReg k = some k) (hp : 0x10 ≤ k / 128 ∧ k / 128 < 0x38 ∧ ¬(0x20 ≤ k / 128 ∧ k / 128 < 0x30))
    (hek : enKey k) (hmulti : r.multi = false) (hmask : bitOf r.mask 31 = true) (hb : BusUp s) (hs : NoReset s) :
    Wrote (only k) s (s.fwSet k 31) ∧ (s.fwSet k 31).bit k 31 = true := by
  refine fwSet_spec hk hb fun hoff => ?_
  rw [regWrite_en hek hk.2.2.2 hmulti, enWrite_rise hp hoff]
  refine ⟨wrote_plainWrite hs hk.2.1 fun _ => rfl, ?_⟩
  rw [bit_plainWrite (admits_of_own_off hen hoff), if_pos hmask, bitOf_putBit_same _ _ _ (by decide)]

theorem fwSet_ME_CFG (hb : BusUp s) (hs : NoReset s) : Wrote (only (R.ME_CFG ax)) s (s.fwSet (R.ME_CFG ax) 31) ∧ (s.fwSet (R.ME_CFG ax) 31).meEn ax = true :=
  fwSet_stored (fwReg_ME_CFG ax) (enReg_own ax).1 (by unfold R.ME_CFG regKey; omega) (by unfold enKey R.ME_CFG regKey; omega) rfl (by decide) hb hs

theorem fwSet_GD_CFG (hb : BusUp s) (hs : NoReset s) :
    Wrote (only (R.GD_CFG ax)) s (s.fwSet (R.GD_CFG ax) 31) ∧ (s.fwSet (R.GD_CFG ax) 31).bit (R.GD_CFG ax) 31 = true :=
  fwSet_stored (fwReg_GD_CFG ax) (enReg_own ax).2.2.2 (by unfold R.GD_CFG regKey; omega) (by unfold enKey R.GD_CFG regKey; omega) rfl (by decide) hb hs

/-- EN of the regulators rises: it is stored, and held TACK0s follow. -/
theorem enWrite_rise_cr (hoff : s.crEn ax = false) (hon : bitOf w 31 = true) :
    s.enWrite m r (R.CR_CFG ax) w = (s.plainWrite m r (R.CR_CFG ax) w).crEnable ax := by
  have hp : R.CR_CFG ax / 128 = 0x20 + ax := regKey_div _ _ (by decide)
  have hi : R.CR_CFG ax % 128 = 0 := regKey_mod _ _ (by decide)
  have hax : axisAt (R.CR_CFG ax / 128) = ax := axisAt_of (by omega)
  unfold State.crEn at hoff
  unfold State.enWrite
  dsimp only
  rw [hoff, hon, hax, if_neg (by simp), if_neg (by omega), if_neg (by omega), if_neg (by omega), if_neg (by omega),
    if_pos ⟨by omega, by omega, hi, by decide⟩]

theorem fwSet_CR_CFG (hb : BusUp s) (hs : NoReset s) :
    Wrote (fun k i => only (R.CR_CFG ax) k i ∨ periodBits k i) s (s.fwSet (R.CR_CFG ax) 31) ∧ (s.fwSet (R.CR_CFG ax) 31).crEn ax = true := by
  have hk := fwReg_CR_CFG ax
  refine fwSet_spec hk hb fun hoff => ?_
  rw [regWrite_en (by unfold enKey R.CR_CFG regKey; omega) hk.2.2.2 rfl, enWrite_rise_cr hoff (bitOf_putBit_same _ _ _ (by decide))]
  refine ⟨((wrote_plainWrite hs hk.2.1 fun _ => rfl).mono fun _ _ => .inl).trans (wrote_holdTacks.mono fun _ _ => .inr), ?_⟩
  refine (wrote_holdTacks.bit _ _ (by unfold periodBits R.CR_CFG regKey; omega)).trans ?_
  rw [bit_plainWrite (admits_of_own_off (enReg_own ax).2.1 hoff), if_pos (by decide), bitOf_putBit_same _ _ _ (by decide)]

/-- EN of the bridges rises once the other fields are stored. -/
theorem enWrite_rise_pwm (hoff : s.pwmEn ax = false) (hon : bitOf w 31 = true) :
    s.enWrite m r (R.PWM_CFG ax) w = (s.plainWrite m r (R.PWM_CFG ax) (putBit w 31 false)).pwmEnable ax := by
  have hp : R.PWM_CFG ax / 128 = 0x28 + ax := regKey_div _ _ (by decide)
  have hax : axisAt (R.PWM_CFG ax / 128) = ax := axisAt_of (by omega)
  unfold State.pwmEn at hoff
  unfold State.enWrite
  dsimp only
  rw [hoff, hon, hax, if_neg (by simp), if_pos ⟨by omega, by omega, by decide⟩]

theorem fwSet_PWM_CFG (hb : BusUp s) (hs : NoReset s) :
    Wrote pwmEnBits s (s.fwSet (R.PWM_CFG ax) 31) ∧ (s.fwSet (R.PWM_CFG ax) 31).pwmEn ax = true := by
  have hk := fwReg_PWM_CFG ax
  refine fwSet_spec hk hb fun hoff => ?_
  rw [regWrite_en (by unfold enKey R.PWM_CFG regKey; omega) hk.2.2.2 rfl, enWrite_rise_pwm hoff (bitOf_putBit_same _ _ _ (by decide))]
  have hstore : Wrote pwmEnBits s (s.plainWrite .exec pwmCfgRow (R.PWM_CFG ax) (putBit (putBit (s.get (R.PWM_CFG ax)) 31 true) 31 false)) :=
    wrote_plainWrite hs hk.2.1 fun _ => by unfold pwmEnBits R.PWM_CFG regKey; omega
  exact ⟨hstore.trans (wrote_pwmEnable (hstore.noReset hs)), pwmEn_pwmEnable⟩

theorem fwSet_CSM_CFG (hb : BusUp s) (hs : NoReset s) :
    Wrote (fun k i => only R.CSM_CFG k i ∨ only R.CSM_STAT k i) s (s.fwSet R.CSM_CFG 31) ∧ (s.fwSet R.CSM_CFG 31).bit R.CSM_CFG 31 = true := by
  have hk := fwReg_CSM_CFG
  refine fwSet_spec hk hb fun hoff => ?_
  set w := putBit (s.get R.CSM_CFG) 31 true with hw
  have hon : bitOf w 31 = true := bitOf_putBit_same _ _ _ (by decide)
  have heq : s.regWrite .exec csmCfgRow R.CSM_CFG w = s.csmCfgWrite w := by
    have hconv : s.writeConv .exec csmCfgRow R.CSM_CFG (R.CSM_CFG % 128) w = s.enWrite .exec csmCfgRow R.CSM_CFG w := rfl
    rw [regWrite_csm (by decide) hk.2.2.2, hconv]
    unfold State.enWrite
    dsimp only
    rw [hoff, if_neg (by simp), if_neg (fun h => absurd h.2.1 (by decide)), if_pos (by decide)]
  obtain ⟨hen, hstat⟩ := wrote_csmCfgWrite (w := w) hs
  rw [heq]
  refine ⟨(hen.mono fun _ _ => .inl).trans (hstat.mono fun _ _ => .inr), ?_⟩
  rw [hstat.bit _ _ (by unfold only; decide), bit_csmEnSet, hon]

theorem fwSet_CSM_CCFG (hb : BusUp s) (hs : NoReset s) :
    Wrote (fun k i => only (R.CSM_CCFG c) k i ∨ only R.CSM_STAT k i) s (s.fwSet (R.CSM_CCFG c) 31)
    ∧ (s.fwSet (R.CSM_CCFG c) 31).bit (R.CSM_CCFG c) 31 = true := by
  have hk := fwReg_CSM_CCFG c
  have hp : R.CSM_CCFG c / 128 = 0x40 := regKey_div _ _ (by omega)
  have hi : R.CSM_CCFG c % 128 = 0x10 + c := regKey_mod _ _ (by omega)
  refine fwSet_spec hk hb fun hoff => ?_
  set w := putBit (s.get (R.CSM_CCFG c)) 31 true with hw
  have heq : s.regWrite .exec csmCcfgRow (R.CSM_CCFG c) w = s.csmCcfgWrite .exec c w := by
    rw [regWrite_csm hp hk.2.2.2]
    unfold State.writeConv
    dsimp only
    rw [if_neg (by omega), if_pos (by omega)]
    congr 1
    exact Fin.ext (by simp only [hi]; omega)
  have hstat := wrote_csmCcfgWrite (m := .exec) (c := c) (w := w) hs (bitOf_putBit_ne _ _ _ _ (by decide)).symm
  rw [heq]
  refine ⟨((wrote_store hk.2.1 fun _ => rfl).mono fun _ _ => .inl).trans (hstat.mono fun _ _ => .inr), ?_⟩
  have hon : bitOf w 31 = true := bitOf_putBit_same _ _ _ (by decide)
  rw [hstat.bit _ _ (by unfold only R.CSM_CCFG R.CSM_STAT regKey; omega), State.bit, get_store_same]
  unfold bitOf at hon ⊢
  rw [BitVec.getLsbD_and, hon]
  decide

/-! ### An axis switched on -/

/-- The registers of the axes' and modulators' pages that switch a block or a modulator on. -/
def isSwitch (k : Nat) : Prop := k % 128 = 0 ∨ (k / 128 = 0x40 ∧ 0x10 ≤ k % 128 ∧ k % 128 < 0x20)

/-- Every register of the pages from the motion engines' on but the switches, of which those of `A` alone. -/
def switching (A : Nat → Prop) (k _i : Nat) : Prop := 0x10 ≤ k / 128 ∧ (isSwitch k → A k)

/-- The switches of the motion engines, the regulators and the bridges. -/
def driveSwitch (k : Nat) : Prop := k / 128 < 0x30

/-- The switches of the gate drivers and the modulators. -/
def powerSwitch (k : Nat) : Prop := 0x30 ≤ k / 128

/-- The drivers and the modulators of an axis are on. -/
structure Powered (s : State) (ax : Axis) : Prop where
  drivers : s.bit (R.GD_CFG ax) 31 = true
  block   : s.bit R.CSM_CFG 31 = true
  coilA   : s.bit (R.CSM_CCFG (coilOf ax .a)) 31 = true
  coilB   : s.bit (R.CSM_CCFG (coilOf ax .b)) 31 = true

theorem Powered.of_wrote (h : Powered s ax) (hw : Wrote (switching driveSwitch) s t) : Powered t ax := by
  have hkeep (k : Nat) (hk : isSwitch k) (hp : 0x30 ≤ k / 128) : t.bit k 31 = s.bit k 31 :=
    hw.bit _ _ fun h => absurd (h.2 hk) (Nat.not_lt.2 hp)
  have hc (c : Coil) : t.bit (R.CSM_CCFG c) 31 = s.bit (R.CSM_CCFG c) 31 :=
    hkeep _ (by unfold isSwitch R.CSM_CCFG regKey; omega) (by unfold R.CSM_CCFG regKey; omega)
  exact ⟨(hkeep _ (by unfold isSwitch R.GD_CFG regKey; omega) (by unfold R.GD_CFG regKey; omega)).trans h.drivers,
    (hkeep _ (by unfold isSwitch; decide) (by decide)).trans h.block, (hc _).trans h.coilA, (hc _).trans h.coilB⟩

theorem axisPower_spec (hb : BusUp s) (hs : NoReset s) : Wrote (switching powerSwitch) s (s.axisPower ax) ∧ Powered (s.axisPower ax) ax := by
  have heq : s.axisPower ax = (((s.fwSet (R.GD_CFG ax) 31).fwSet R.CSM_CFG 31).fwSet (R.CSM_CCFG (coilOf ax .a)) 31).fwSet
      (R.CSM_CCFG (coilOf ax .b)) 31 := rfl
  rw [heq]
  obtain ⟨h1, hgd⟩ := fwSet_GD_CFG (ax := ax) hb hs
  set s1 := s.fwSet (R.GD_CFG ax) 31
  obtain ⟨h2, hcsm⟩ := fwSet_CSM_CFG (h1.busUp hb) (h1.noReset hs)
  set s2 := s1.fwSet R.CSM_CFG 31
  have h12 := (h1.mono (Q := switching powerSwitch) fun k i h => ?_).trans (h2.mono fun k i h => ?_)
  · obtain ⟨h3, ha⟩ := fwSet_CSM_CCFG (c := coilOf ax .a) (h12.busUp hb) (h12.noReset hs)
    set s3 := s2.fwSet (R.CSM_CCFG (coilOf ax .a)) 31
    have h13 := h12.trans (h3.mono fun k i h => ?_)
    · obtain ⟨h4, hbb⟩ := fwSet_CSM_CCFG (c := coilOf ax .b) (h13.busUp hb) (h13.noReset hs)
      refine ⟨h13.trans (h4.mono fun k i h => ?_), ?_, ?_, ?_, hbb⟩
      · unfold only R.CSM_CCFG R.CSM_STAT regKey at h
        unfold switching powerSwitch
        omega
      · rw [h4.bit _ _ (by unfold only R.CSM_CCFG R.CSM_STAT R.GD_CFG regKey; omega),
          h3.bit _ _ (by unfold only R.CSM_CCFG R.CSM_STAT R.GD_CFG regKey; omega),
          h2.bit _ _ (by unfold only R.CSM_CFG R.CSM_STAT R.GD_CFG regKey; omega), hgd]
      · rw [h4.bit _ _ (by unfold only R.CSM_CCFG R.CSM_STAT R.CSM_CFG regKey; omega),
          h3.bit _ _ (by unfold only R.CSM_CCFG R.CSM_STAT R.CSM_CFG regKey; omega), hcsm]
      · rw [h4.bit _ _ (by simp only [only, R.CSM_CCFG, R.CSM_STAT, regKey, coilOf]; omega), ha]
    · unfold only R.CSM_CCFG R.CSM_STAT regKey at h
      unfold switching powerSwitch
      omega
  · unfold only R.GD_CFG regKey at h
    unfold switching powerSwitch
    omega
  · unfold only R.CSM_CFG R.CSM_STAT regKey at h
    unfold switching powerSwitch
    omega

theorem fwReg_CR_MOTOR1 : ∀ ax : Axis,
    FwReg (R.CR_MOTOR1 ax) ⟨0x08, 1, 0x00000000#32, 0xFFFFFFFF#32, 0xFFFFFFFF#32, true, .rw, false⟩ := by unfold FwReg; decide

theorem fwReg_CR_GAIN : ∀ ax : Axis,
    FwReg (R.CR_GAIN ax) ⟨0x05, 1, 0x00000000#32, 0xFFFFFFFF#32, 0x00000000#32, true, .rw, false⟩ := by unfold FwReg; decide

theorem fwReg_CSM_OFS : ∀ c : Coil,
    FwReg (R.CSM_OFS c) ⟨0x20, 16, 0x00000000#32, 0x0000FFFF#32, 0x00000000#32, true, .rw, false⟩ := by unfold FwReg; decide

theorem plainKey_motor : ∀ ax : Axis, plainKey (R.CR_MOTOR1 ax) ∧ plainKey (R.CR_GAIN ax) := by unfold plainKey; decide

theorem wrote_onFw {g : FwAx → FwAx} : Wrote P s (s.onFw ax g) := wrote_of_regs

/-- The first enable without settings writes the measured values, which firmware remembers. -/
theorem firstEnable_eq (s : State) (ax : Axis) : s.firstEnable ax = if s.hasSettings || (s.fwAx ax).measured then s else
    ((s.drawWord.2.fwWrite (R.CR_MOTOR1 ax) s.drawWord.1).fwWrite (R.CR_GAIN ax) (gain1k s.drawWord.1)).onFw ax
      fun f => { f with measured := true } := rfl

theorem wrote_firstEnable (hb : BusUp s) (hs : NoReset s) : Wrote (switching driveSwitch) s (s.firstEnable ax) := by
  rw [firstEnable_eq]
  refine .ite .refl ?_
  have hdraw : Wrote (switching driveSwitch) s s.drawWord.2 := wrote_of_regs
  have h1 := hdraw.trans ((wrote_fwWrite_plain (w := s.drawWord.1) (fwReg_CR_MOTOR1 ax) (plainKey_motor ax).1 rfl
    (hdraw.busUp hb) (hdraw.noReset hs)).mono fun k i h => by unfold only R.CR_MOTOR1 regKey at h; unfold switching driveSwitch isSwitch; omega)
  have h2 := h1.trans ((wrote_fwWrite_plain (w := gain1k s.drawWord.1) (fwReg_CR_GAIN ax) (plainKey_motor ax).2 rfl
    (h1.busUp hb) (h1.noReset hs)).mono fun k i h => by unfold only R.CR_GAIN regKey at h; unfold switching driveSwitch isSwitch; omega)
  exact h2.trans wrote_onFw

theorem wrote_zeroOffsets (hb : BusUp s) (hs : NoReset s) : Wrote (switching driveSwitch) s (s.zeroOffsets ax) := by
  have hofs (c : Coil) (t : State) (w : Word) (hb : BusUp t) (hs : NoReset t) : Wrote (switching driveSwitch) t (t.fwWrite (R.CSM_OFS c) w) :=
    (wrote_fwWrite_plain (fwReg_CSM_OFS c) (by unfold plainKey R.CSM_OFS regKey; omega) rfl hb hs).mono fun k i h => by
      unfold only R.CSM_OFS regKey at h; unfold switching driveSwitch isSwitch; omega
  have hdraw : Wrote (switching driveSwitch) s s.drawWord.2.drawWord.2 := wrote_of_regs
  have ha := hdraw.trans (hofs (coilOf ax .a) _ (s.drawWord.1 &&& 0xFFFF#32) (hdraw.busUp hb) (hdraw.noReset hs))
  exact ha.trans (hofs (coilOf ax .b) _ (s.drawWord.2.drawWord.1 &&& 0xFFFF#32) (ha.busUp hb) (ha.noReset hs))

theorem axisDrive_spec (hb : BusUp s) (hs : NoReset s) : Wrote (switching driveSwitch) s (s.axisDrive ax)
    ∧ (s.axisDrive ax).pwmEn ax = true ∧ (s.axisDrive ax).crEn ax = true ∧ (s.axisDrive ax).meEn ax = true := by
  have heq : s.axisDrive ax = ((s.fwSet (R.PWM_CFG ax) 31).fwSet (R.CR_CFG ax) 31).fwSet (R.ME_CFG ax) 31 := rfl
  rw [heq]
  obtain ⟨h1, hpwm⟩ := fwSet_PWM_CFG (ax := ax) hb hs
  have h1' : Wrote (switching driveSwitch) s (s.fwSet (R.PWM_CFG ax) 31) := h1.mono fun k i h => by
    unfold pwmEnBits at h; unfold switching driveSwitch isSwitch; omega
  obtain ⟨h2, hcr⟩ := fwSet_CR_CFG (ax := ax) (h1'.busUp hb) (h1'.noReset hs)
  have h2' := h1'.trans (h2.mono fun k i h => by
    unfold only periodBits R.CR_CFG regKey at h; unfold switching driveSwitch isSwitch; omega)
  obtain ⟨h3, hme⟩ := fwSet_ME_CFG (ax := ax) (h2'.busUp hb) (h2'.noReset hs)
  refine ⟨h2'.trans (h3.mono fun k i h => by unfold only R.ME_CFG regKey at h; unfold switching driveSwitch isSwitch; omega), ?_, ?_, hme⟩
  · rw [State.pwmEn, h3.bit _ _ (by unfold only R.PWM_CFG R.ME_CFG regKey; omega),
      h2.bit _ _ (by unfold only periodBits R.PWM_CFG R.CR_CFG regKey; omega)]
    exact hpwm
  · rw [State.crEn, h3.bit _ _ (by unfold only R.CR_CFG R.ME_CFG regKey; omega)]
    exact hcr

/-- Firmware enables an axis (R152). -/
theorem axisOn_spec (hb : BusUp s) (hs : NoReset s) : Wrote (switching fun _ => True) s (s.axisOn ax) ∧ Powered (s.axisOn ax) ax
    ∧ (s.axisOn ax).pwmEn ax = true ∧ (s.axisOn ax).crEn ax = true ∧ (s.axisOn ax).meEn ax = true := by
  obtain ⟨h1, hpow⟩ := axisPower_spec (ax := ax) hb hs
  have h2 := wrote_firstEnable (ax := ax) (h1.busUp hb) (h1.noReset hs)
  have hb2 := h2.busUp (h1.busUp hb)
  have hs2 := h2.noReset (h1.noReset hs)
  have h3 := h2.trans (wrote_zeroOffsets (ax := ax) hb2 hs2)
  obtain ⟨h4, hpwm, hcr, hme⟩ := axisDrive_spec (ax := ax) (h3.busUp (h1.busUp hb)) (h3.noReset (h1.noReset hs))
  have h34 := h3.trans h4
  exact ⟨(h1.mono fun _ _ h => ⟨h.1, fun _ => trivial⟩).trans (h34.mono fun _ _ h => ⟨h.1, fun _ => trivial⟩), hpow.of_wrote h34, hpwm, hcr, hme⟩

/-! ### An axis switched off -/

theorem clearEn_me : s.clearEn (R.ME_CFG ax) = (s.meDisable ax).mend (R.ME_CFG ax) := by
  have hp : R.ME_CFG ax / 128 = 0x10 + ax := regKey_div _ _ (by decide)
  unfold State.clearEn
  dsimp only
  rw [axisAt_of (ax := ax) (by omega), if_neg (by unfold R.ME_CFG R.SYS_SUPCFG regKey; omega), if_pos (by omega)]

theorem clearEn_cr : s.clearEn (R.CR_CFG ax) = (s.crDisable ax).mend (R.CR_CFG ax) := by
  have hp : R.CR_CFG ax / 128 = 0x20 + ax := regKey_div _ _ (by decide)
  have hi : R.CR_CFG ax % 128 = 0 := regKey_mod _ _ (by decide)
  unfold State.clearEn
  dsimp only
  rw [axisAt_of (ax := ax) (by omega), if_neg (by unfold R.CR_CFG R.SYS_SUPCFG regKey; omega), if_neg (by omega), if_pos (by omega), if_pos hi]

theorem clearEn_pwm : s.clearEn (R.PWM_CFG ax) = (s.pwmDisable ax).mend (R.PWM_CFG ax) := by
  have hp : R.PWM_CFG ax / 128 = 0x28 + ax := regKey_div _ _ (by decide)
  unfold State.clearEn
  dsimp only
  rw [axisAt_of (ax := ax) (by omega), if_neg (by unfold R.PWM_CFG R.SYS_SUPCFG regKey; omega), if_neg (by omega), if_neg (by omega), if_pos (by omega)]

/-- Firmware clears an EN bit: the block is disabled, or nothing but a word equal in EN is stored. -/
theorem fwClear_eq (hk : FwReg k r) (hek : enKey k) (h0 : k % 128 = 0) (hmulti : r.multi = false) (hb : BusUp s) :
    s.fwBit k 31 false = { (if s.bit k 31 then s.clearEn k else s.plainWrite .exec r k (putBit (s.get k) 31 false)) with out := s.out } := by
  have hoff : bitOf (putBit (s.get k) 31 false) 31 = false := bitOf_putBit_same _ _ _ (by decide)
  rw [State.fwBit, fwWrite_eq hb hk.2.2.1 hk.2.1 hk.1, regWrite_en hek hk.2.2.2 hmulti]
  cases hen : s.bit k 31 with
  | true => rw [enWrite_fall hen hoff]; rfl
  | false =>
    rw [enWrite_keep (by unfold enKey at hek; omega) (hoff.trans hen.symm) (by omega)]
    rfl

theorem fwClear_spec (hk : FwReg k r) (hek : enKey k) (h0 : k % 128 = 0) (hmulti : r.multi = false) (hmask : bitOf r.mask 31 = true)
    (hen : enReg k = some k) (hb : BusUp s) (hs : NoReset s) (hP : ∀ i, P k i)
    (hfall : s.bit k 31 = true → Wrote P s (s.clearEn k) ∧ (s.clearEn k).bit k 31 = false) :
    Wrote P s (s.fwBit k 31 false) ∧ (s.fwBit k 31 false).bit k 31 = false := by
  have hstep : Wrote P s (if s.bit k 31 then s.clearEn k else s.plainWrite .exec r k (putBit (s.get k) 31 false))
      ∧ (if s.bit k 31 then s.clearEn k else s.plainWrite .exec r k (putBit (s.get k) 31 false)).bit k 31 = false := by
    cases hon : s.bit k 31 with
    | true => exact hfall hon
    | false =>
      refine ⟨wrote_plainWrite hs hk.2.1 hP, ?_⟩
      exact (bit_plainWrite (admits_of_own_off hen hon) 31).trans ((if_pos hmask).trans (bitOf_putBit_same _ _ _ (by decide)))
  rw [fwClear_eq hk hek h0 hmulti hb]
  exact ⟨hstep.1.trans wrote_of_regs, hstep.2⟩

theorem bit_mend (s : State) (k j i : Nat) : (s.mend k).bit j i = s.bit j i := by
  rw [State.bit, get_mend]
  rfl

theorem fwClear_ME_CFG (hb : BusUp s) (hs : NoReset s) :
    Wrote (only (R.ME_CFG ax)) s (s.fwBit (R.ME_CFG ax) 31 false) ∧ (s.fwBit (R.ME_CFG ax) 31 false).meEn ax = false := by
  refine fwClear_spec (fwReg_ME_CFG ax) (by unfold enKey R.ME_CFG regKey; omega) (by unfold R.ME_CFG regKey; omega) rfl (by decide) (enReg_own ax).1
    hb hs (fun _ => rfl) fun hon => ?_
  rw [clearEn_me]
  refine ⟨wrote_meDisable.trans wrote_mend, ?_⟩
  rw [bit_mend]
  exact (meDisable_spec hon).1

theorem fwClear_CR_CFG (hb : BusUp s) (hs : NoReset s) :
    Wrote crOffBits s (s.fwBit (R.CR_CFG ax) 31 false) ∧ (s.fwBit (R.CR_CFG ax) 31 false).crEn ax = false := by
  refine fwClear_spec (fwReg_CR_CFG ax) (by unfold enKey R.CR_CFG regKey; omega) (by unfold R.CR_CFG regKey; omega) rfl (by decide) (enReg_own ax).2.1
    hb hs (fun _ => by unfold crOffBits R.CR_CFG regKey; omega) fun _ => ?_
  rw [clearEn_cr]
  refine ⟨(wrote_crDisable hs).trans wrote_mend, ?_⟩
  rw [bit_mend]
  exact crEn_crDisable

theorem fwClear_PWM_CFG (hb : BusUp s) (hs : NoReset s) :
    Wrote pwmOffBits s (s.fwBit (R.PWM_CFG ax) 31 false) ∧ (s.fwBit (R.PWM_CFG ax) 31 false).pwmEn ax = false := by
  refine fwClear_spec (fwReg_PWM_CFG ax) (by unfold enKey R.PWM_CFG regKey; omega) (by unfold R.PWM_CFG regKey; omega) rfl (by decide)
    (enReg_own ax).2.2.1 hb hs (fun _ => by unfold pwmOffBits R.PWM_CFG regKey; omega) fun hon => ?_
  rw [clearEn_pwm]
  refine ⟨(wrote_pwmDisable hs).trans wrote_mend, ?_⟩
  rw [bit_mend]
  exact (pwmDisable_spec (br := .a) hs hon).1

/-- Clearing CR_CFG.EN marks no gate as stuck. -/
theorem notStuck_fwClear_CR_CFG {j : Leg} (hb : BusUp s) (hs : NoReset s) (h : s.bit (R.GD_FLT ax) (20 + j) = false) :
    (s.fwBit (R.CR_CFG ax) 31 false).bit (R.GD_FLT ax) (20 + j) = false := by
  have hk := fwReg_CR_CFG ax
  rw [fwClear_eq hk (by unfold enKey R.CR_CFG regKey; omega) (by unfold R.CR_CFG regKey; omega) rfl hb]
  change (if s.bit (R.CR_CFG ax) 31 then s.clearEn (R.CR_CFG ax)
    else s.plainWrite .exec crCfgRow (R.CR_CFG ax) (putBit (s.get (R.CR_CFG ax)) 31 false)).bit (R.GD_FLT ax) (20 + j) = false
  split
  · rw [clearEn_cr, bit_mend]
    exact notStuck_crDisable hs h
  · have hstore : Wrote (only (R.CR_CFG ax)) s (s.plainWrite .exec crCfgRow (R.CR_CFG ax) (putBit (s.get (R.CR_CFG ax)) 31 false)) :=
      wrote_plainWrite hs hk.2.1 fun _ => rfl
    rw [hstore.bit _ _ (by unfold only R.GD_FLT R.CR_CFG regKey; omega)]
    exact h

/-- Clearing PWM_CFG.EN turns the gates off that are not stuck. -/
theorem legs_fwClear_PWM_CFG {j : Leg} (hb : BusUp s) (hs : NoReset s) (hon : s.pwmEn ax = true) (h : s.bit (R.GD_FLT ax) (20 + j) = false) :
    ((s.fwBit (R.PWM_CFG ax) 31 false).leg ax j).hiOn = false ∧ ((s.fwBit (R.PWM_CFG ax) 31 false).leg ax j).loOn = false := by
  obtain ⟨-, hlegs, -⟩ := pwmDisable_spec (br := .a) hs hon
  have hleg : (s.fwBit (R.PWM_CFG ax) 31 false).leg ax j = (s.pwmDisable ax).leg ax j := by
    unfold State.pwmEn at hon
    rw [fwClear_eq (fwReg_PWM_CFG ax) (by unfold enKey R.PWM_CFG regKey; omega) (by unfold R.PWM_CFG regKey; omega) rfl hb, hon, if_pos rfl,
      clearEn_pwm, mend_frame]
    rfl
  rw [hleg]
  exact (hlegs j).2.2 h

/-- Firmware disables an axis (R152). -/
theorem axisOff_spec (hb : BusUp s) (hs : NoReset s) : Wrote (fun k _ => 0x10 ≤ k / 128) s (s.axisOff ax)
    ∧ (s.axisOff ax).meEn ax = false ∧ (s.axisOff ax).crEn ax = false ∧ (s.axisOff ax).pwmEn ax = false
    ∧ (s.pwmEn ax = true → ∀ j : Leg, s.bit (R.GD_FLT ax) (20 + j) = false → ((s.axisOff ax).leg ax j).hiOn = false ∧ ((s.axisOff ax).leg ax j).loOn = false) := by
  have heq : s.axisOff ax = ((s.fwBit (R.ME_CFG ax) 31 false).fwBit (R.CR_CFG ax) 31 false).fwBit (R.PWM_CFG ax) 31 false := rfl
  rw [heq]
  obtain ⟨h1, hme⟩ := fwClear_ME_CFG (ax := ax) hb hs
  have hb1 := h1.busUp hb
  have hs1 := h1.noReset hs
  obtain ⟨h2, hcr⟩ := fwClear_CR_CFG (ax := ax) hb1 hs1
  have hb2 := h2.busUp hb1
  have hs2 := h2.noReset hs1
  obtain ⟨h3, hpwm⟩ := fwClear_PWM_CFG (ax := ax) hb2 hs2
  refine ⟨?_, ?_, ?_, hpwm, fun hon j hj => legs_fwClear_PWM_CFG hb2 hs2 ?_ (notStuck_fwClear_CR_CFG hb1 hs1 ?_)⟩
  · refine ((h1.mono fun k i h => ?_).trans (h2.mono fun k i h => ?_)).trans (h3.mono fun k i h => ?_)
    · unfold only R.ME_CFG regKey at h; omega
    · unfold crOffBits crOutBits gateBits at h; omega
    · unfold pwmOffBits at h; omega
  · rw [State.meEn, h3.bit _ _ (by unfold pwmOffBits R.ME_CFG regKey; omega),
      h2.bit _ _ (by unfold crOffBits crOutBits gateBits R.ME_CFG regKey; omega)]
    exact hme
  · rw [State.crEn, h3.bit _ _ (by unfold pwmOffBits R.CR_CFG regKey; omega)]
    exact hcr
  · rw [State.pwmEn, h2.bit _ _ (by unfold crOffBits crOutBits gateBits R.PWM_CFG regKey; omega),
      h1.bit _ _ (by unfold only R.PWM_CFG R.ME_CFG regKey; omega)]
    exact hon
  · rw [h1.bit _ _ (by unfold only R.GD_FLT R.ME_CFG regKey; omega)]
    exact hj

end Sys2Proof.Machine
end

section
/-! PROOFS. The writes by which firmware sets an axis's parameters: fields, values of two words, the wave table, the log and the probe (R101, R185, R391). -/

namespace Sys2Proof.Machine

variable {P : Nat → Nat → Prop} {s t : State} {m : Master} {k : Nat} {w : Word} {r : RegRow} {ax : Axis}

/-! ### Fields -/

theorem fldOf_congr {v w : Word} {hi lo : Nat} (h : ∀ i, lo ≤ i → i ≤ hi → bitOf v i = bitOf w i) : fldOf v hi lo = fldOf w hi lo := by
  apply Nat.eq_of_testBit_eq
  intro i
  rw [testBit_fldOf, testBit_fldOf]
  by_cases hi' : i < hi + 1 - lo
  · rw [h _ (by omega) (by omega)]
  · simp [hi']

/-- A field that the row implements holds what was written. -/
theorem fldOf_merge {hi lo : Nat} (hmask : ∀ i, lo ≤ i → i ≤ hi → bitOf r.mask i = true) (old w : Word) :
    fldOf (r.merge old w) hi lo = fldOf w hi lo :=
  fldOf_congr fun i hlo hhi => by rw [bitOf_merge, if_pos (hmask i hlo hhi)]

/-- A write that leaves EN of a block at 0. -/
theorem fwWrite_disabled (hk : FwReg k r) (hek : enKey k) (h0 : k % 128 = 0) (hmulti : r.multi = false) (hen : enReg k = some k) (hb : BusUp s)
    (hs : NoReset s) (hoff : s.bit k 31 = false) (hw : bitOf w 31 = false) :
    Wrote (only k) s (s.fwWrite k w) ∧ (s.fwWrite k w).get k = r.merge (s.get k) w := by
  have heq : s.regWrite .exec r k w = s.plainWrite .exec r k w := by
    rw [regWrite_en hek hk.2.2.2 hmulti, enWrite_keep (by unfold enKey at hek; omega) (hw.trans hoff.symm) (by omega)]
  refine ⟨wrote_fwWrite_of hk hb ?_, ?_⟩
  · rw [heq]
    exact wrote_plainWrite hs hk.2.1 fun _ => rfl
  · rw [get_fwWrite_of hk hb, heq, plainWrite_of_admits (admits_of_own_off hen hoff), get_store_same]

/-- A field of a disabled block's own register is set, and the register's other bits stand. -/
theorem fwFld_disabled {hi lo v : Nat} (hk : FwReg k r) (hek : enKey k) (h0 : k % 128 = 0) (hmulti : r.multi = false) (hen : enReg k = some k)
    (hhi : hi < 31) (hlo : lo ≤ hi) (hmask : ∀ i, lo ≤ i → i ≤ hi → bitOf r.mask i = true) (hb : BusUp s) (hs : NoReset s) (hoff : s.bit k 31 = false) :
    Wrote (only k) s (s.fwFld k hi lo v) ∧ (s.fwFld k hi lo v).fld k hi lo = v % 2 ^ (hi + 1 - lo)
    ∧ ∀ i, ¬(lo ≤ i ∧ i ≤ hi) → (s.fwFld k hi lo v).bit k i = s.bit k i := by
  have hput (i : Nat) (hi' : ¬(lo ≤ i ∧ i ≤ hi)) : bitOf (putFld (s.get k) hi lo v) i = s.bit k i := by
    rw [bitOf_putFld _ _ _ _ _ (by omega) hlo, if_neg (by omega)]
    rfl
  obtain ⟨hwrote, hget⟩ := fwWrite_disabled hk hek h0 hmulti hen hb hs hoff ((hput 31 (by omega)).trans hoff)
  refine ⟨hwrote, ?_, fun i hi' => ?_⟩
  · rw [State.fld, State.fwFld, hget, fldOf_merge hmask, fldOf_putFld_same _ _ _ _ (by omega) hlo]
  · rw [State.bit, State.fwFld, hget, bitOf_merge, hput i hi']
    exact ite_self _

/-! ### Values of two words (R99, R101) -/

theorem hiWord_ofHiLo (hi lo : Word) : hiWord (ofHiLo hi lo) = hi := by
  have hlo := lo.isLt
  unfold hiWord ofHiLo wordOfInt
  rw [show (hi.toInt * 4294967296 + lo.toNat) / 4294967296 = hi.toInt by omega, BitVec.ofInt_toInt]

theorem loWord_ofHiLo (hi lo : Word) : loWord (ofHiLo hi lo) = lo := by
  have hlo := lo.isLt
  unfold loWord ofHiLo wordOfInt
  apply BitVec.eq_of_toNat_eq
  rw [BitVec.toNat_ofInt]
  omega

theorem sextN_lowBits {x : Int} (h : fits48 x = true) : sextN 48 (lowBits 48 x) = x := by
  unfold fits48 at h
  simp only [Bool.and_eq_true, decide_eq_true_eq] at h
  unfold sextN lowBits
  dsimp only
  split <;> omega

/-- The row of a value of two words of a motion engine that its position and size are configured by. -/
structure WideReg (k : Nat) (r : RegRow) : Prop where
  hi    : FwReg k r
  lo    : FwReg (k + 1) r
  multi : r.multi = true
  page  : (0x10 ≤ k / 128 ∧ k / 128 < 0x18) ∧ (k + 1) / 128 = k / 128
  index : k % 128 = r.index ∧ 0x04 < k % 128 ∧ k % 128 < 0x20

theorem multiOf_hi (h : WideReg k r) : multiOf r k = (k, 0) := by
  unfold multiOf
  rw [h.index.1]
  simp

theorem multiOf_lo (h : WideReg k r) : multiOf r (k + 1) = (k, 1) := by
  have hi := h.index
  unfold multiOf
  dsimp only
  rw [show ((k + 1) % 128 - r.index) % 3 = 1 by omega]
  rfl

theorem not_TIM_TIME (h : WideReg k r) : k ≠ R.TIM_TIME := by
  have hp := h.page
  rintro rfl
  revert hp
  decide

/-- LO is staged, HI applies both, while the engine is disabled. -/
theorem fwWide_spec {x : Int} (hk : WideReg k r) {e : Nat} (hen : enReg k = some e) (hb : BusUp s) (hoff : s.bit e 31 = false)
    (hi lo : Word) (hx : x = ofHiLo hi lo) (hfits : fits48 x = true) :
    Wrote (fun j i => only k j i ∨ only (k + 1) j i) s (s.fwWide k x) ∧ (s.fwWide k x).wide k = x := by
  have hhi : hiWord x = hi := by rw [hx, hiWord_ofHiLo]
  have hlo : loWord x = lo := by rw [hx, loWord_ofHiLo]
  set u := s.fwWrite (k + 1) lo with hu
  have hstage : s.regWrite .exec r (k + 1) lo = { s with staged := spPut s.staged k lo } := by
    rw [regWrite_me (by have := hk.page; omega) hk.lo.2.2.2, hk.multi, if_pos rfl]
    unfold State.multiWrite
    rw [multiOf_lo hk]
    dsimp only
    rw [if_pos rfl, if_neg fun h => not_TIM_TIME hk h.1]
  have hueq : u = { s with staged := spPut s.staged k lo } := by
    rw [hu, fwWrite_eq hb hk.lo.2.2.1 hk.lo.2.1 hk.lo.1, hstage]
  have hwu : Wrote (fun j i => only k j i ∨ only (k + 1) j i) s u := by
    rw [hueq]
    exact wrote_of_regs
  have hfind : spFind u.staged k = some lo := by
    rw [hueq]
    exact (spFind_spPut _ _ _ _).trans (if_pos rfl)
  have hnarrow : (if (0x10 ≤ k / 128 ∧ k / 128 < 0x18 ∧ k % 128 < 0x20) then sextN 48 (lowBits 48 (ofHiLo hi lo)) else ofHiLo hi lo) = x := by
    have hp := hk.page
    have hi := hk.index
    rw [if_pos (by omega), ← hx, sextN_lowBits hfits]
  have happly : u.regWrite .exec r k hi = ((u.unstage k).store k hi).store (k + 1) lo := by
    have hp := hk.page
    have hix := hk.index
    have hdis : (u.unstage k).enOf k = false := by
      rw [State.enOf, hen, hueq]
      exact hoff
    rw [regWrite_me hp.1 hk.hi.2.2.2, hk.multi, if_pos rfl]
    unfold State.multiWrite
    rw [multiOf_hi hk]
    dsimp only
    rw [if_neg (by decide), if_neg (by decide), if_neg (not_TIM_TIME hk), if_neg (by omega), hfind, Option.getD_some, hnarrow, hdis, hhi, hlo]
    rfl
  have heq : s.fwWide k x = u.fwWrite k hi := by rw [State.fwWide, hhi, hlo]
  have hstore : Wrote (fun j i => only k j i ∨ only (k + 1) j i) u (u.regWrite .exec r k hi) := by
    rw [happly]
    have h0 : Wrote (fun j i => only k j i ∨ only (k + 1) j i) u (u.unstage k) := wrote_of_regs
    have h1 := h0.trans (wrote_store (w := hi) hk.hi.2.1 fun _ => .inl rfl)
    exact h1.trans (wrote_store (w := lo) hk.lo.2.1 fun _ => .inr rfl)
  rw [heq]
  refine ⟨hwu.trans (wrote_fwWrite_of hk.hi (hwu.busUp hb) hstore), ?_⟩
  have hread (j : Nat) : (u.fwWrite k hi).get j = (((u.unstage k).store k hi).store (k + 1) lo).get j := by
    rw [get_fwWrite_of hk.hi (hwu.busUp hb), happly]
  have hk1 : (u.fwWrite k hi).get k = hi := by
    rw [hread, (wrote_store (P := only (k + 1)) hk.lo.2.1 fun _ => rfl).get fun _ => by unfold only; omega, get_store_same]
  have hk2 : (u.fwWrite k hi).get (k + 1) = lo := by rw [hread, get_store_same]
  rw [State.wide, hk1, hk2, hx]

/-! ### The wave table (R185) -/

/-- With no entry in error the table's parity is as it was but for the collector's condition. -/
theorem settleWave_frame (h : (vget s.coil ax).waveBad = []) :
    s.settleWave ax = { s with parityBad := (s.settleWave ax).parityBad, fcPresent := (s.settleWave ax).fcPresent } := by
  have heq : s.settleWave ax = State.settleParity { s with parityBad := s.parityBad.filter (· ≠ R.CR_WDATA ax) } (0x20 + ax) := if_pos h
  rw [heq]
  unfold State.settleParity
  split <;> rfl

/-- The coil's state once entry `i` holds `v`. -/
def wavePutCoil (i v : Nat) (c : CoilAx) : CoilAx :=
  { c with wave := spSet (waveDefault i) c.wave i v, waveBad := c.waveBad.filter (· ≠ i) }

/-- The row of CR_WDATA. -/
def wdataRow : RegRow := ⟨0x20, 1, 0x00000000#32, 0x0000FFFF#32, 0x0000FFFF#32, false, .rw, false⟩

theorem fwReg_CR_WDATA : ∀ ax : Axis, FwReg (R.CR_WDATA ax) wdataRow := by unfold FwReg; decide

/-- With the regulators disabled an entry is stored, and CR_WADDR advances. -/
theorem wdataWrite_of_off (hoff : s.crEn ax = false) (w : Word) : s.wdataWrite m ax w =
    ((s.onCoil ax (wavePutCoil (s.fld (R.CR_WADDR ax) 9 0) (fldOf w 15 0))).settleWave ax).waveNext ax := by
  unfold State.wdataWrite
  rw [hoff]
  rfl

theorem fwWrite_wdata (hb : BusUp s) (hoff : s.crEn ax = false) (hbad : (vget s.coil ax).waveBad = []) (w : Word) :
    Wrote (only (R.CR_WADDR ax)) s (s.fwWrite (R.CR_WDATA ax) w)
    ∧ vget (s.fwWrite (R.CR_WDATA ax) w).coil ax = wavePutCoil (s.fld (R.CR_WADDR ax) 9 0) (fldOf w 15 0) (vget s.coil ax)
    ∧ (s.fwWrite (R.CR_WDATA ax) w).fld (R.CR_WADDR ax) 9 0 = (s.fld (R.CR_WADDR ax) 9 0 + 1) % 1024 := by
  set i := s.fld (R.CR_WADDR ax) 9 0 with hi
  set u := s.onCoil ax (wavePutCoil i (fldOf w 15 0)) with hu
  have hcoil : vget u.coil ax = wavePutCoil i (fldOf w 15 0) (vget s.coil ax) := vget_vset_same _ _ _
  have hclean : (vget u.coil ax).waveBad = [] := by rw [hcoil, wavePutCoil, hbad]; rfl
  have hframe := settleWave_frame hclean
  have hp : R.CR_WDATA ax / 128 = 0x20 + ax := regKey_div _ _ (by decide)
  have hx : R.CR_WDATA ax % 128 = 0x20 := regKey_mod _ _ (by decide)
  have hwrite : s.regWrite .exec wdataRow (R.CR_WDATA ax) w = (u.settleWave ax).waveNext ax := by
    rw [regWrite_coil (by omega) (fwReg_CR_WDATA ax).2.2.2, hx, hu, hi, ← wdataWrite_of_off (m := .exec) hoff w]
    unfold State.writeCoil
    dsimp only
    rw [if_neg (by decide), if_neg (by decide), if_pos rfl, axisAt_of (ax := ax) (by omega)]
  have hsettled : Wrote (only (R.CR_WADDR ax)) s (u.settleWave ax) := by
    rw [hframe]
    exact wrote_of_regs
  have heq := fwWrite_eq hb (fwReg_CR_WDATA ax).2.2.1 (fwReg_CR_WDATA ax).2.1 (fwReg_CR_WDATA ax).1 (w := w)
  rw [hwrite] at heq
  rw [heq]
  have hregs : (u.settleWave ax).fld (R.CR_WADDR ax) 9 0 = i := by rw [hframe]; rfl
  refine ⟨?_, ?_, ?_⟩
  · have hnext : Wrote (only (R.CR_WADDR ax)) s ((u.settleWave ax).waveNext ax) :=
      hsettled.trans (wrote_setFld (by unfold R.CR_WADDR regKey; omega) (by decide) (by decide) fun _ => rfl)
    exact hnext.trans wrote_of_regs
  · change vget (u.settleWave ax).coil ax = _
    rw [hframe]
    exact hcoil
  · change ((u.settleWave ax).waveNext ax).fld (R.CR_WADDR ax) 9 0 = _
    rw [State.waveNext, State.fld_setFld_same _ _ _ _ _ (by decide) (by decide), hregs]
    exact Nat.mod_mod _ _

theorem wave_wavePutCoil (i v j : Nat) (c : CoilAx) :
    (spFind (wavePutCoil i v c).wave j).getD (waveDefault j) = if j = i then v else (spFind c.wave j).getD (waveDefault j) := by
  unfold wavePutCoil
  dsimp only
  by_cases h : j = i
  · subst h
    exact spFind_spSet _ _ _ _ _
  · rw [spFind_spSet_ne _ _ _ h, if_neg h]

/-! ### The logbook (R391 to R395) -/

/-- The registers of the spool's and the wear journal's pages and above. -/
def spoolBits (k _i : Nat) : Prop := 0x60 ≤ k / 128

theorem wrote_spoolWide {x : Int} (h : k = R.SPL_LOGHEAD ∨ k = R.SPL_LOGTAIL) : Wrote spoolBits s (s.setWide k x) := by
  have hk : 0x60 ≤ k / 128 ∧ 0x60 ≤ (k + 1) / 128 := by rcases h with rfl | rfl <;> decide
  have hhi : Wrote spoolBits s (s.set k (hiWord x)) := wrote_set (by omega) fun _ => hk.1
  exact hhi.trans (wrote_set (by omega) fun _ => hk.2)

theorem wrote_darnUe_wj {word : Nat} (hs : NoReset s) : Wrote P s (s.darnUe .wj word) := by
  have heq : s.darnUe .wj word = s.raise 23 (wordOfNat word) := rfl
  rw [heq]
  exact wrote_raise hs (by decide)

theorem wrote_wjCheck {base : Nat} (hs : NoReset s) : Wrote P s (s.wjCheck base) := by
  unfold State.wjCheck
  extract_lets u
  have hu : Wrote P s u := .ite (wrote_darnUe_wj hs) .refl
  exact .ite (hu.trans (wrote_darnUe_wj (hu.noReset hs))) hu

theorem wrote_wjPut {word : Nat} {ws : List Word} : Wrote spoolBits s (s.wjPut word ws) := by
  have hput : Wrote spoolBits s (s.darnPut .wj word (joinWords ws)) := wrote_of_regs
  have hfld (u : State) (v : Nat) : Wrote spoolBits u (u.setFld R.WJ_WCNT 31 0 v) :=
    wrote_setFld (by decide) (by decide) (by decide) fun _ => by unfold spoolBits; decide
  exact .ite (hput.trans (hfld _ _)) hput

theorem wrote_wjPair {base : Nat} {ws : List Word} (hs : NoReset s) : Wrote spoolBits s (s.wjPair base ws) :=
  have hcheck : Wrote spoolBits s (s.wjCheck base) := wrote_wjCheck hs
  .ite hcheck (hcheck.trans wrote_wjPut)

theorem wrote_spool {x : Spool} : Wrote P s { s with spool := x } := wrote_of_regs

theorem wrote_flashErase {a n : Nat} : Wrote P s (s.flashErase a n) := wrote_spool

theorem wrote_flashPut {a : Nat} {bs : List Byte} : Wrote P s (s.flashPut a bs) := wrote_spool

theorem wrote_logFlush (hs : NoReset s) : Wrote spoolBits s s.logFlush := by
  unfold State.logFlush
  extract_lets g p spool first seq addr erase s1 s2 s3 s4 spool' s5
  have h1 : Wrote spoolBits s s1 := .ite wrote_flashErase .refl
  have h2 : Wrote spoolBits s s2 := .ite (h1.trans (wrote_spoolWide (.inr rfl))) h1
  have h3 : Wrote spoolBits s s3 := h2.trans wrote_flashPut
  have h4 : Wrote spoolBits s s4 := h3.trans (wrote_spoolWide (.inl rfl))
  have h5 : Wrote spoolBits s s5 := h4.trans wrote_spool
  exact .ite .refl (.ite wrote_spool (.ite (h5.trans (wrote_wjPair (h5.noReset hs))) h5))

theorem wrote_logAdd {type : Nat} {body : List Word} (hs : NoReset s) : Wrote spoolBits s (s.logAdd type body) := by
  unfold State.logAdd
  extract_lets spool s1 s2
  have h1 : Wrote spoolBits s s1 := wrote_spool
  have h2 : Wrote spoolBits s s2 := h1.trans (wrote_spoolWide (.inl rfl))
  exact .ite .refl (.ite (h2.trans (wrote_logFlush (h2.noReset hs))) h2)

theorem wrote_logEvent {type time : Nat} {body : List Word} (hs : NoReset s) : Wrote spoolBits s (s.logEvent type time body) := wrote_logAdd hs

/-! ### The press probe's permission (R221) -/

theorem mot_store (s : State) (k : Nat) (w : Word) : (s.store k w).mot = s.mot := by
  unfold State.store
  rw [mend_frame]
  rfl

theorem mot_fwWrite_of (hk : FwReg k r) (hb : BusUp s) : (s.fwWrite k w).mot = (s.regWrite .exec r k w).mot := by
  rw [fwWrite_eq hb hk.2.2.1 hk.2.1 hk.1]

/-- The row of LO_CFG. -/
def loCfgRow : RegRow := ⟨0x40, 1, 0x00000A00#32, 0xC000FF00#32, 0x0000FF00#32, true, .rw, false⟩

theorem fwReg_LO_CFG : ∀ ax : Axis, FwReg (R.LO_CFG ax) loCfgRow := by unfold FwReg; decide

/-- Firmware gives or withdraws the permission: a probe that runs stops without it. -/
theorem enWrite_probe (b : Bool) (hw : w = putBit (s.get (R.LO_CFG ax)) 30 b) : s.enWrite .exec loCfgRow (R.LO_CFG ax) w =
    if b then s.plainWrite .exec loCfgRow (R.LO_CFG ax) w else (s.plainWrite .exec loCfgRow (R.LO_CFG ax) w).probeStop ax := by
  have hp : R.LO_CFG ax / 128 = 0x20 + ax := regKey_div _ _ (by decide)
  have hi : R.LO_CFG ax % 128 = 0x40 := regKey_mod _ _ (by decide)
  have h31 : bitOf w 31 = s.bit (R.LO_CFG ax) 31 := by rw [hw, bitOf_putBit_ne _ _ _ _ (by decide)]; rfl
  have h30 : bitOf w 30 = b := by rw [hw, bitOf_putBit_same _ _ _ (by decide)]
  cases b with
  | true => exact enWrite_keep (by omega) h31 (by rw [h30]; simp)
  | false =>
    have hkeep : (s.bit (R.LO_CFG ax) 31 && !bitOf w 31) = false := by rw [h31]; cases s.bit (R.LO_CFG ax) 31 <;> rfl
    unfold State.enWrite
    dsimp only
    rw [hkeep, axisAt_of (ax := ax) (by omega), if_neg (by decide), if_neg (by omega), if_neg (by omega), if_neg (by omega), if_neg (by omega),
      if_neg (by omega), if_pos ⟨by omega, by omega, hi, by rw [h30]; rfl⟩]
    rfl

/-- PRESS_PROBE's write: the permission reads as written, and no axis moves. -/
theorem fwBit_probe (hb : BusUp s) (hs : NoReset s) (b : Bool) :
    Wrote (fun k i => only (R.LO_CFG ax) k i ∨ only (R.LO_STAT ax) k i) s (s.fwBit (R.LO_CFG ax) 30 b)
    ∧ (s.fwBit (R.LO_CFG ax) 30 b).bit (R.LO_CFG ax) 30 = b ∧ (s.fwBit (R.LO_CFG ax) 30 b).mot = s.mot := by
  have hk := fwReg_LO_CFG ax
  set w := putBit (s.get (R.LO_CFG ax)) 30 b with hw
  set u := s.plainWrite .exec loCfgRow (R.LO_CFG ax) w with hu
  have hadmits : Admits s loCfgRow (R.LO_CFG ax) w := .inr (merge_xor_cfg fun i hi => by
    have h30 : i ≠ 30 := by rintro rfl; exact absurd hi (by decide)
    rw [hw, bitOf_putBit_ne _ _ _ _ h30])
  have hstore : Wrote (fun k i => only (R.LO_CFG ax) k i ∨ only (R.LO_STAT ax) k i) s u := wrote_plainWrite hs hk.2.1 fun _ => .inl rfl
  have hbit : u.bit (R.LO_CFG ax) 30 = b := by
    rw [hu, bit_plainWrite hadmits, if_pos (by decide), hw, bitOf_putBit_same _ _ _ (by decide)]
  have hmot : u.mot = s.mot := by rw [hu, plainWrite_of_admits hadmits, mot_store]
  obtain ⟨hstop, hstopmot⟩ := wrote_probeStop (ax := ax) (hstore.noReset hs)
  have hreg : s.regWrite .exec loCfgRow (R.LO_CFG ax) w = if b then u else u.probeStop ax := by
    rw [regWrite_en (by unfold enKey R.LO_CFG regKey; omega) hk.2.2.2 rfl, enWrite_probe b hw]
  have hne : R.LO_CFG ax ≠ R.LO_STAT ax := by unfold R.LO_CFG R.LO_STAT regKey; omega
  have hres : Wrote (fun k i => only (R.LO_CFG ax) k i ∨ only (R.LO_STAT ax) k i) s (if b then u else u.probeStop ax)
      ∧ (if b then u else u.probeStop ax).bit (R.LO_CFG ax) 30 = b ∧ (if b then u else u.probeStop ax).mot = s.mot := by
    split
    · exact ⟨hstore, hbit, hmot⟩
    · exact ⟨hstore.trans (hstop.mono fun _ _ => .inr), by rw [hstop.bit _ _ hne, hbit], hstopmot.trans hmot⟩
  rw [← hreg] at hres
  refine ⟨wrote_fwWrite_of hk hb hres.1, ?_, (mot_fwWrite_of hk hb).trans hres.2.2⟩
  rw [State.bit, State.fwBit, get_fwWrite_of hk hb]
  exact hres.2.1

end Sys2Proof.Machine
end

section
/-! PROOFS. Axis and motor requests: what the opcode of each does in the state in which it is carried out, and what the answered state holds. -/

namespace Sys2Proof.Machine

variable {P : Nat → Nat → Prop} {s t u x : State} {ch : ReqChan} {op : Nat} {f : OpFn} {q : Req} {ax : Axis} {r : Res} {ws : List Word}

/-! ### The state in which an opcode is carried out -/

/-- An opcode whose checks the message alone decides. -/
def Unchecked (op : Nat) : Prop := NeedsNone op ∧ op ∉ earlyOps

theorem runOp_of_unchecked (h : Unchecked op) : s.runOp op f q = f q s := runOp_of_free h.1 (early_of_other h.2)

theorem OnlyMail.bit (h : OnlyMail s t) {k i : Nat} (hk : ¬mailboxPage k) : t.bit k i = s.bit k i := by
  rw [State.bit, h.2 k hk]
  rfl

theorem OnlyMail.fld (h : OnlyMail s t) {k hi lo : Nat} (hk : ¬mailboxPage k) : t.fld k hi lo = s.fld k hi lo := by
  rw [State.fld, h.2 k hk]
  rfl

theorem OnlyMail.me (h : OnlyMail s t) (ax : Axis) : t.me ax = s.me ax := by rw [h.1]; rfl

theorem OnlyMail.fwAx (h : OnlyMail s t) (ax : Axis) : t.fwAx ax = s.fwAx ax := by rw [h.1]; rfl

theorem OnlyMail.long (h : OnlyMail s t) : t.fw.long = s.fw.long := by rw [h.1]

theorem OnlyMail.meEn (h : OnlyMail s t) (ax : Axis) : t.meEn ax = s.meEn ax := h.bit (by unfold mailboxPage R.ME_CFG regKey; omega)

theorem OnlyMail.crEn (h : OnlyMail s t) (ax : Axis) : t.crEn ax = s.crEn ax := h.bit (by unfold mailboxPage R.CR_CFG regKey; omega)

theorem OnlyMail.pwmEn (h : OnlyMail s t) (ax : Axis) : t.pwmEn ax = s.pwmEn ax := h.bit (by unfold mailboxPage R.PWM_CFG regKey; omega)

theorem OnlyMail.axisBusy (h : OnlyMail s t) (ax : Axis) : t.axisBusy ax = s.axisBusy ax := by
  unfold State.axisBusy
  rw [h.me]

theorem OnlyMail.moving (h : OnlyMail s t) (ax : Axis) : t.moving ax = s.moving ax := by
  unfold State.moving
  rw [h.me]

theorem OnlyMail.isetBars (h : OnlyMail s t) : t.isetBars = s.isetBars := by
  unfold State.isetBars State.hasSettings
  rw [h.fld (by decide), h.bit (by decide)]

theorem OnlyMail.torqueBarred (h : OnlyMail s t) (ax : Axis) : t.torqueBarred ax = s.torqueBarred ax := by
  rw [h.1]
  rfl

theorem OnlyMail.longBusy (h : OnlyMail s t) (ax : Axis) : t.longBusy (.axis ax) = (vget s.fw.long ax).isSome := by
  rw [h.1]
  rfl

theorem OnlyMail.ceilingBars (h : OnlyMail s t) (ax : Axis) (n : Nat) : t.ceilingBars ax n = s.ceilingBars ax n := by
  have hshunt : t.shunt ax = s.shunt ax := by
    unfold State.shunt
    rw [h.fld (by unfold mailboxPage R.CR_SHUNT regKey; omega)]
  have hsaf : t.saf = s.saf := by rw [h.1]
  unfold State.ceilingBars State.safCeilWord
  rw [hshunt, hsaf]

theorem OnlyMail.diagMay (h : OnlyMail s t) (ax : Axis) : t.diagMay ax = s.diagMay ax := by
  unfold State.diagMay
  rw [h.moving, h.bit (by unfold mailboxPage R.GD_CFG regKey; omega), h.bit (by unfold mailboxPage R.PWM_CFG regKey; omega)]

theorem Waits.busUp (h : Waits s ch op) (hc : ClocksRun s) : BusUp (taken s ch) := hc.busUp.of_sys (by rw [(taken_onlyMail h).1])

theorem Waits.noReset (h : Waits s ch op) (hs : NoReset s) : NoReset (taken s ch) := noReset_of_onlyMail (taken_onlyMail h) hs

/-! ### The state once the request is answered -/

theorem OnlyRegs.bit {P : Nat → Prop} (h : OnlyRegs P s t) {k i : Nat} (hk : ¬P k) : t.bit k i = s.bit k i := by
  rw [State.bit, h.2 k hk]
  rfl

theorem OnlyRegs.fld {P : Nat → Prop} (h : OnlyRegs P s t) {k hi lo : Nat} (hk : ¬P k) : t.fld k hi lo = s.fld k hi lo := by
  rw [State.fld, h.2 k hk]
  rfl

/-- A request whose opcode answers without words, in the state that its opcode left. -/
theorem Waits.done_served (hw : Waits s ch op) (hq : q = s.reqOf (chanIx ch)) (ht : t = s.quiet.serve ch op f)
    (hrun : (taken s ch).runOp op f q = (x, r, [])) (hx : Served (taken s ch) x) : OnlyRegs mailboxPage x t ∧ Answers s t ch r [] := by
  subst hq ht
  exact hw.answered hrun hx (by decide)

/-- A request carried out by writes to the axes' blocks is answered. -/
theorem Waits.done (hw : Waits s ch op) (hq : q = s.reqOf (chanIx ch)) (ht : t = s.quiet.serve ch op f)
    (hrun : (taken s ch).runOp op f q = (x, r, [])) (hx : Wrote P (taken s ch) x) (hP : AboveMail P) :
    OnlyRegs mailboxPage x t ∧ Answers s t ch r [] :=
  hw.done_served hq ht hrun (hx.served hP)

/-! ### AXIS_EN -/

theorem unchecked_axisEn : Unchecked 0x10 := by unfold Unchecked NeedsNone; decide

theorem opAxisEn_no_motor (hon : q.n 2 = 1) (hm : (u.fwAx q.ax).motor = false) : opAxisEn q u = (u, .state, []) := by
  unfold opAxisEn
  dsimp only
  rw [if_pos hon, hm]
  rfl

theorem opAxisEn_safety (hon : q.n 2 = 1) (hm : (u.fwAx q.ax).motor = true) (hiset : u.isetBars = false) (hsto : u.torqueBarred q.ax = true) :
    opAxisEn q u = (u, .safety, []) := by
  unfold opAxisEn
  dsimp only
  rw [if_pos hon, hm, hiset, hsto]
  rfl

theorem opAxisEn_on (hon : q.n 2 = 1) (hm : (u.fwAx q.ax).motor = true) (hiset : u.isetBars = false) (hsto : u.torqueBarred q.ax = false) :
    opAxisEn q u = ((u.axisOn q.ax).startAlign q.ax, .ok, []) := by
  unfold opAxisEn
  dsimp only
  rw [if_pos hon, hm, hiset, hsto]
  rfl

theorem opAxisEn_off (hoff : q.n 2 = 0) (hidle : u.axisBusy q.ax = false) : opAxisEn q u = (u.axisOff q.ax, .ok, []) := by
  unfold opAxisEn
  dsimp only
  rw [if_neg (by omega), hidle]
  rfl

theorem opAxisEn_busy (hoff : q.n 2 = 0) (hbusy : u.axisBusy q.ax = true) : opAxisEn q u = (u, .state, []) := by
  unfold opAxisEn
  dsimp only
  rw [if_neg (by omega), hbusy]
  rfl

theorem wrote_startPlan {steps : List DriveStep} {speed : Nat} : Wrote P s (s.startPlan ax steps speed) := wrote_of_regs

theorem wrote_startAlign : Wrote P s (s.startAlign ax) := .ite wrote_startPlan .refl

/-- An axis with known motor parameters and torque is enabled. -/
theorem axisEn_enables (hc : ClocksRun s) (hs : NoReset s) (hw : Waits s ch 0x10) (hq : q = s.reqOf (chanIx ch))
    (ht : t = s.quiet.serve ch 0x10 opAxisEn) (hon : q.n 2 = 1) (hm : (s.fwAx q.ax).motor = true) (hiset : s.isetBars = false)
    (hsto : s.torqueBarred q.ax = false) :
    Answers s t ch .ok [] ∧ t.meEn q.ax = true ∧ t.crEn q.ax = true ∧ t.pwmEn q.ax = true ∧ Powered t q.ax := by
  have hmail := taken_onlyMail hw
  obtain ⟨hwrote, hpow, hpwm, hcr, hme⟩ := axisOn_spec (ax := q.ax) (hw.busUp hc) (hw.noReset hs)
  have halign : Wrote (fun _ _ => False) ((taken s ch).axisOn q.ax) (((taken s ch).axisOn q.ax).startAlign q.ax) := wrote_startAlign
  have hrun := (runOp_of_unchecked (f := opAxisEn) unchecked_axisEn).trans
    (opAxisEn_on hon ((congrArg FwAx.motor (hmail.fwAx q.ax)).trans hm) (hmail.isetBars.trans hiset) ((hmail.torqueBarred _).trans hsto))
  obtain ⟨honly, hans⟩ := hw.done hq ht hrun (hwrote.trans (halign.mono fun _ _ h => h.elim)) fun _ _ h => h.1
  have hbit (k : Nat) (hk : ¬mailboxPage k) : t.bit k 31 = ((taken s ch).axisOn q.ax).bit k 31 :=
    (honly.bit hk).trans (halign.bit _ _ not_false)
  obtain ⟨hgd, hblock, ha, hb⟩ := hpow
  exact ⟨hans, (hbit _ (by unfold mailboxPage R.ME_CFG regKey; omega)).trans hme, (hbit _ (by unfold mailboxPage R.CR_CFG regKey; omega)).trans hcr,
    (hbit _ (by unfold mailboxPage R.PWM_CFG regKey; omega)).trans hpwm, (hbit _ (by unfold mailboxPage R.GD_CFG regKey; omega)).trans hgd,
    (hbit _ (by decide)).trans hblock, (hbit _ (by unfold mailboxPage R.CSM_CCFG regKey; omega)).trans ha,
    (hbit _ (by unfold mailboxPage R.CSM_CCFG regKey; omega)).trans hb⟩

/-- An idle axis is disabled. -/
theorem axisEn_disables (hc : ClocksRun s) (hs : NoReset s) (hw : Waits s ch 0x10) (hq : q = s.reqOf (chanIx ch))
    (ht : t = s.quiet.serve ch 0x10 opAxisEn) (hoff : q.n 2 = 0) (hidle : s.axisBusy q.ax = false) :
    Answers s t ch .ok [] ∧ t.meEn q.ax = false ∧ t.crEn q.ax = false ∧ t.pwmEn q.ax = false
    ∧ (s.pwmEn q.ax = true → ∀ j : Leg, s.bit (R.GD_FLT q.ax) (20 + j) = false → (t.leg q.ax j).hiOn = false ∧ (t.leg q.ax j).loOn = false) := by
  have hmail := taken_onlyMail hw
  obtain ⟨hwrote, hme, hcr, hpwm, hlegs⟩ := axisOff_spec (ax := q.ax) (hw.busUp hc) (hw.noReset hs)
  have hrun := (runOp_of_unchecked (f := opAxisEn) unchecked_axisEn).trans (opAxisEn_off hoff ((hmail.axisBusy _).trans hidle))
  obtain ⟨honly, hans⟩ := hw.done hq ht hrun hwrote fun _ _ h => h
  refine ⟨hans, (honly.bit (by unfold mailboxPage R.ME_CFG regKey; omega)).trans hme,
    (honly.bit (by unfold mailboxPage R.CR_CFG regKey; omega)).trans hcr, (honly.bit (by unfold mailboxPage R.PWM_CFG regKey; omega)).trans hpwm,
    fun hon j hj => ?_⟩
  have hleg : t.leg q.ax j = ((taken s ch).axisOff q.ax).leg q.ax j := leg_congr (by rw [honly.stands.2.1]) j
  rw [hleg]
  exact hlegs ((hmail.pwmEn _).trans hon) j ((hmail.bit (by unfold mailboxPage R.GD_FLT regKey; omega)).trans hj)

end Sys2Proof.Machine
end

section
/-! PROOFS. SET_ROLE, SET_MOTOR, SET_CURRENT, SET_COMMUT and SET_DOOR: the parameters of an axis (R45, R149, R152, R186, R189). -/

namespace Sys2Proof.Machine

variable {P : Nat → Nat → Prop} {s t u x : State} {ch : ReqChan} {op : Nat} {q : Req} {ax : Axis} {w : Word}

/-! ### SET_ROLE -/

theorem unchecked_setRole : Unchecked 0x11 := by unfold Unchecked NeedsNone; decide

/-- The input that a role moves by (R181). -/
def insrcOf : AxRole → Nat
  | .stepDir => 1
  | .door => 2
  | .encoder => 0

theorem setRole_eq (s : State) (ax : Axis) (r : AxRole) : s.setRole ax r =
    { s.fwFld (R.ME_CFG ax) 25 24 (insrcOf r) with roles := vset (s.fwFld (R.ME_CFG ax) 25 24 (insrcOf r)).roles ax r } := by
  cases r <;> rfl

theorem opSetRole_plain (hen : u.meEn q.ax = false) (hdoor : q.n 2 ≠ 1) (htmpl : (u.fwAx q.ax).tmpl = none) :
    opSetRole q u = (u.setRole q.ax (roleOf (q.n 2)), .ok, []) := by
  have hrole : roleOf (q.n 2) ≠ .door := by unfold roleOf; split_ifs <;> simp
  unfold opSetRole
  dsimp only
  rw [hen, if_neg (by decide), if_neg hrole, htmpl]
  rfl

theorem insrcOf_roleOf {n : Nat} (h : n ≠ 1) : insrcOf (roleOf n) = if n = 0 then 1 else 0 := by
  unfold roleOf
  split_ifs <;> rfl

theorem fwFld_insrc {v : Nat} (hb : BusUp s) (hs : NoReset s) (hoff : s.meEn ax = false) :
    Wrote (only (R.ME_CFG ax)) s (s.fwFld (R.ME_CFG ax) 25 24 v) ∧ (s.fwFld (R.ME_CFG ax) 25 24 v).fld (R.ME_CFG ax) 25 24 = v % 4 :=
  have ⟨hwrote, hfld, _⟩ := fwFld_disabled (v := v) (fwReg_ME_CFG ax) (by unfold enKey R.ME_CFG regKey; omega) (by unfold R.ME_CFG regKey; omega) rfl
    (enReg_own ax).1 (by decide) (by decide) (fun i hlo hhi => by interval_cases i <;> decide) hb hs hoff
  ⟨hwrote, hfld⟩

theorem setRole_served (hc : ClocksRun s) (hs : NoReset s) (hw : Waits s ch 0x11) (hq : q = s.reqOf (chanIx ch))
    (ht : t = s.quiet.serve ch 0x11 opSetRole) (hen : s.meEn q.ax = false) (hdoor : q.n 2 ≠ 1) (htmpl : (s.fwAx q.ax).tmpl = none) :
    Answers s t ch .ok [] ∧ vget t.roles q.ax = roleOf (q.n 2) ∧ t.fld (R.ME_CFG q.ax) 25 24 = (if q.n 2 = 0 then 1 else 0)
    ∧ ∀ bx : Axis, bx ≠ q.ax → vget t.roles bx = vget s.roles bx := by
  have hmail := taken_onlyMail hw
  have hoff : (taken s ch).meEn q.ax = false := (hmail.meEn _).trans hen
  obtain ⟨hwrote, hfld⟩ := fwFld_insrc (v := insrcOf (roleOf (q.n 2))) (hw.busUp hc) (hw.noReset hs) hoff
  have hrun := (runOp_of_unchecked (f := opSetRole) unchecked_setRole).trans
    (opSetRole_plain hoff hdoor ((congrArg FwAx.tmpl (hmail.fwAx q.ax)).trans htmpl))
  rw [setRole_eq] at hrun
  set u := (taken s ch).fwFld (R.ME_CFG q.ax) 25 24 (insrcOf (roleOf (q.n 2))) with hu
  obtain ⟨hlnk, houtq, howed, hmbx⟩ := hwrote.served fun k _ h => by unfold only R.ME_CFG regKey at h; omega
  obtain ⟨honly, hans⟩ := hw.done_served hq ht hrun ⟨hlnk, houtq, howed, hmbx⟩
  have hroles : t.roles = vset s.roles q.ax (roleOf (q.n 2)) := by
    have hstand : u.roles = s.roles := by rw [hwrote.roles, hmail.1]
    rw [honly.1, ← hstand]
  refine ⟨hans, ?_, ?_, fun bx hb => ?_⟩
  · rw [hroles, vget_vset_same]
  · refine (honly.fld (by unfold mailboxPage R.ME_CFG regKey; omega)).trans (hfld.trans ?_)
    rw [insrcOf_roleOf hdoor]
    split <;> rfl
  · rw [hroles, vget_vset_ne _ _ hb]

/-! ### SET_MOTOR -/

theorem unchecked_setMotor : Unchecked 0x12 := by unfold Unchecked NeedsNone; decide

/-- The row of CR_MOTOR2. -/
def motor2Row : RegRow := ⟨0x09, 1, 0x32000000#32, 0x7FFFFFFF#32, 0x7FFFFFFF#32, true, .rw, false⟩

/-- The row of CR_SHUNT. -/
def shuntRow : RegRow := ⟨0x02, 1, 0x00002710#32, 0x00FFFFFF#32, 0x00FFFFFF#32, true, .rw, false⟩

theorem fwReg_CR_MOTOR2 : ∀ ax : Axis, FwReg (R.CR_MOTOR2 ax) motor2Row := by unfold FwReg; decide

theorem fwReg_CR_SHUNT : ∀ ax : Axis, FwReg (R.CR_SHUNT ax) shuntRow ∧ plainKey (R.CR_SHUNT ax) := by unfold FwReg plainKey; decide

theorem enReg_coil : ∀ ax : Axis, enReg (R.CR_MOTOR1 ax) = some (R.CR_CFG ax) ∧ enReg (R.CR_MOTOR2 ax) = some (R.CR_CFG ax)
    ∧ enReg (R.CR_SHUNT ax) = some (R.CR_CFG ax) ∧ enReg (R.CR_XUP ax) = some (R.CR_CFG ax) ∧ enReg (R.CR_XDN ax) = some (R.CR_CFG ax)
    ∧ enReg (R.CR_WADDR ax) = some (R.CR_CFG ax) := by decide

theorem opSetMotor_on (hen : u.meEn q.ax = true) : opSetMotor q u = (u, .state, []) := by
  unfold opSetMotor
  dsimp only
  rw [hen]
  rfl

/-- The motor's parameters in their registers. -/
def motorSet (u : State) (q : Req) : State :=
  ((u.fwWrite (R.CR_MOTOR2 q.ax) (wordOfNat (q.n 2 * 16777216 + q.n 7))).fwWrite (R.CR_SHUNT q.ax) (q.w 4)).fwWrite (R.CR_MOTOR1 q.ax)
    (wordOfNat (q.n 6 * 65536 + q.n 5))

theorem opSetMotor_off (hen : u.meEn q.ax = false) :
    opSetMotor q u = ((motorSet u q).onFw q.ax fun f => { f with motor := true, rated := some (q.n 3) }, .ok, []) := by
  unfold opSetMotor
  dsimp only
  rw [hen]
  rfl

theorem merge_and_of_lt {r : RegRow} {n : Nat} (hmask : r.mask = BitVec.ofNat 32 (2 ^ n - 1)) (hn : n ≤ 32) (hw : w.toNat < 2 ^ n) (old : Word) :
    r.merge old w &&& BitVec.ofNat 32 (2 ^ n - 1) = w := by
  have h := merge_and_mask r old w
  rw [hmask, and_ones_of_lt hn hw] at h
  exact h

/-- A parameter that fits the register's implemented bits is held there. -/
theorem fwWrite_low {k n : Nat} {r : RegRow} (hk : FwReg k r ∧ plainKey k) (hmulti : r.multi = false) (hmask : r.mask = BitVec.ofNat 32 (2 ^ n - 1))
    (hn : n ≤ 32) (hb : BusUp s) (hs : NoReset s) (ha : Admits s r k w) (hw : w.toNat < 2 ^ n) :
    Wrote (only k) s (s.fwWrite k w) ∧ (s.fwWrite k w).get k &&& BitVec.ofNat 32 (2 ^ n - 1) = w ∧ (s.fwWrite k w).mot = s.mot := by
  refine ⟨wrote_fwWrite_plain hk.1 hk.2 hmulti hb hs, ?_, ?_⟩
  · rw [get_fwWrite_plain hk.1 hk.2 hmulti hb ha]
    exact merge_and_of_lt hmask hn hw _
  · rw [mot_fwWrite_of hk.1 hb, regWrite_plain hk.2 hk.1.2.2.2 hmulti, plainWrite_of_admits ha, mot_store]

/-- The registers of the motor's parameters hold them while the regulators are disabled. -/
theorem motorSet_spec (hb : BusUp u) (hs : NoReset u) (hoff : u.crEn q.ax = false) (hargs : badMotion 0x12 0 q.ws = false) :
    Wrote (fun k _ => 0x20 ≤ k / 128) u (motorSet u q)
    ∧ (motorSet u q).get (R.CR_MOTOR2 q.ax) &&& 0x7FFFFFFF#32 = wordOfNat (q.n 2 * 16777216 + q.n 7)
    ∧ (motorSet u q).get (R.CR_MOTOR1 q.ax) = wordOfNat (q.n 6 * 65536 + q.n 5)
    ∧ (motorSet u q).get (R.CR_SHUNT q.ax) &&& 0xFFFFFF#32 = q.w 4 := by
  set ax := q.ax with hax
  simp only [badMotion, Bool.or_eq_false_iff, decide_eq_false_iff_not] at hargs
  obtain ⟨⟨⟨⟨⟨⟨h2z, h2⟩, h4lo⟩, h4⟩, h5⟩, h6⟩, h7⟩ := hargs
  set w2 := wordOfNat (q.n 2 * 16777216 + q.n 7) with hw2
  set w1 := wordOfNat (q.n 6 * 65536 + q.n 5) with hw1
  obtain ⟨hen1, hen2, hen3, -⟩ := enReg_coil ax
  have hne : R.CR_MOTOR2 ax ≠ R.LO_KF ax := by unfold R.CR_MOTOR2 R.LO_KF regKey; omega
  obtain ⟨hA, hgetA⟩ := fwWrite_constant (w := w2) (fwReg_CR_MOTOR2 ax) hne (fun s => regWrite_motor2 rfl (fwReg_CR_MOTOR2 ax).2.2.2) hb hs
    (admits_of_off hen2 hoff)
  set uA := u.fwWrite (R.CR_MOTOR2 ax) w2 with huA
  have hoffA : uA.crEn ax = false := (hA.bit _ _ (by unfold only R.CR_MOTOR2 R.CR_CFG R.LO_KF regKey; omega)).trans hoff
  have h4' : (q.w 4).toNat = argN q.ws 4 := rfl
  obtain ⟨hB, hgetB, -⟩ := fwWrite_low (n := 24) (w := q.w 4) (fwReg_CR_SHUNT ax) rfl rfl (by decide) (hA.busUp hb) (hA.noReset hs)
    (admits_of_off hen3 hoffA) (by omega)
  set uB := uA.fwWrite (R.CR_SHUNT ax) (q.w 4) with huB
  have hAB : Wrote (fun k _ => 0x20 ≤ k / 128) u uB := (hA.mono fun k i h => by unfold only R.CR_MOTOR2 R.LO_KF regKey at h; omega).trans
    (hB.mono fun k i h => by unfold only R.CR_SHUNT regKey at h; omega)
  have hoffB : uB.crEn ax = false := (hB.bit _ _ (by unfold only R.CR_SHUNT R.CR_CFG regKey; omega)).trans hoffA
  have hC := wrote_fwWrite_plain (w := w1) (fwReg_CR_MOTOR1 ax) (plainKey_motor ax).1 rfl (hAB.busUp hb) (hAB.noReset hs)
  have hgetC := get_fwWrite_plain (w := w1) (fwReg_CR_MOTOR1 ax) (plainKey_motor ax).1 rfl (hAB.busUp hb) (admits_of_off hen1 hoffB)
  have heq : motorSet u q = uB.fwWrite (R.CR_MOTOR1 ax) w1 := rfl
  rw [heq]
  refine ⟨hAB.trans (hC.mono fun k i h => by unfold only R.CR_MOTOR1 regKey at h; omega), ?_, ?_, ?_⟩
  · rw [hC.get fun _ => by unfold only R.CR_MOTOR1 R.CR_MOTOR2 regKey; omega, hB.get fun _ => by unfold only R.CR_SHUNT R.CR_MOTOR2 regKey; omega,
      hgetA]
    refine merge_and_of_lt (n := 31) rfl (by decide) ?_ _
    rw [hw2, wordOfNat, BitVec.toNat_ofNat]
    unfold Req.n
    omega
  · rw [hgetC]
    exact merge_of_full rfl _ _
  · rw [hC.get fun _ => by unfold only R.CR_MOTOR1 R.CR_SHUNT regKey; omega]
    exact hgetB

theorem OnlyRegs.fwAx {P : Nat → Prop} (h : OnlyRegs P s t) (ax : Axis) : t.fwAx ax = s.fwAx ax := by rw [h.1]; rfl

/-- Firmware notes what it knows of an axis. -/
theorem onFw_spec {g : FwAx → FwAx} : Wrote P s (s.onFw ax g) ∧ (s.onFw ax g).fwAx ax = g (s.fwAx ax) ∧ ∀ k, (s.onFw ax g).get k = s.get k :=
  ⟨wrote_onFw, vget_vset_same _ _ _, fun _ => rfl⟩

theorem setMotor_served (hc : ClocksRun s) (hs : NoReset s) (hw : Waits s ch 0x12) (hq : q = s.reqOf (chanIx ch))
    (ht : t = s.quiet.serve ch 0x12 opSetMotor) (hme : s.meEn q.ax = false) (hcr : s.crEn q.ax = false) :
    Answers s t ch .ok [] ∧ (t.fwAx q.ax).motor = true ∧ (t.fwAx q.ax).rated = some (q.n 3)
    ∧ t.get (R.CR_MOTOR2 q.ax) &&& 0x7FFFFFFF#32 = wordOfNat (q.n 2 * 16777216 + q.n 7)
    ∧ t.get (R.CR_MOTOR1 q.ax) = wordOfNat (q.n 6 * 65536 + q.n 5) ∧ t.get (R.CR_SHUNT q.ax) &&& 0xFFFFFF#32 = q.w 4 := by
  have hmail := taken_onlyMail hw
  have hargs := hw.motionArgs
  rw [← hq] at hargs
  obtain ⟨hset, hmotor2, hmotor1, hshunt⟩ := motorSet_spec (q := q) (hw.busUp hc) (hw.noReset hs) ((hmail.crEn _).trans hcr) hargs
  obtain ⟨hknow, hax, hregs⟩ := onFw_spec (P := fun k _ => 0x20 ≤ k / 128) (s := motorSet (taken s ch) q) (ax := q.ax)
    (g := fun f => { f with motor := true, rated := some (q.n 3) })
  have hrun := (runOp_of_unchecked (f := opSetMotor) unchecked_setMotor).trans (opSetMotor_off (q := q) ((hmail.meEn _).trans hme))
  obtain ⟨honly, hans⟩ := hw.done hq ht hrun (hset.trans hknow) fun _ _ h => by omega
  have hfw := (honly.fwAx q.ax).trans hax
  have hget (k : Nat) (hk : ¬mailboxPage k) : t.get k = (motorSet (taken s ch) q).get k :=
    (honly.2 k hk).trans (hregs k)
  refine ⟨hans, by rw [hfw], by rw [hfw], ?_, ?_, ?_⟩
  · rw [hget _ (by unfold mailboxPage R.CR_MOTOR2 regKey; omega), hmotor2]
  · rw [hget _ (by unfold mailboxPage R.CR_MOTOR1 regKey; omega), hmotor1]
  · rw [hget _ (by unfold mailboxPage R.CR_SHUNT regKey; omega), hshunt]

end Sys2Proof.Machine
end

section
/-! PROOFS. SET_CURRENT, SET_COMMUT and SET_DOOR: currents at any time, commutation and door while the axis is disabled (R45, R149, R189). -/

namespace Sys2Proof.Machine

variable {P : Nat → Nat → Prop} {s t u x : State} {ch : ReqChan} {op n : Nat} {q : Req} {ax : Axis} {w : Word}

/-! ### SET_CURRENT -/

theorem fwReg_CR_IRUN : ∀ ax : Axis, FwReg (R.CR_IRUN ax) ⟨0x03, 1, 0x00000000#32, 0x000FFFFF#32, 0x00000000#32, true, .rw, false⟩
    ∧ plainKey (R.CR_IRUN ax) := by unfold FwReg plainKey; decide

theorem fwReg_CR_IREST : ∀ ax : Axis, FwReg (R.CR_IREST ax) ⟨0x04, 1, 0x00000000#32, 0x000FFFFF#32, 0x00000000#32, true, .rw, false⟩
    ∧ plainKey (R.CR_IREST ax) := by unfold FwReg plainKey; decide

theorem fwReg_ME_REST : ∀ ax : Axis, FwReg (R.ME_REST ax) ⟨0x20, 1, 0x000001F4#32, 0x0000FFFF#32, 0x00000000#32, true, .rw, false⟩
    ∧ plainKey (R.ME_REST ax) := by unfold FwReg plainKey; decide

/-- The currents and the rest delay in their registers. -/
def currentSet (u : State) (q : Req) : State :=
  ((u.fwWrite (R.CR_IRUN q.ax) (q.w 2)).fwWrite (R.CR_IREST q.ax) (q.w 3)).fwWrite (R.ME_REST q.ax) (q.w 4)

theorem opSetCurrent_within (h : u.ceilingBars q.ax (q.n 2) = false) : opSetCurrent q u = (currentSet u q, .ok, []) := by
  unfold opSetCurrent
  dsimp only
  rw [h]
  rfl

/-- The currents are no configuration fields: they are taken at any time. -/
theorem currentSet_spec (hb : BusUp u) (hs : NoReset u) (hargs : badMotion 0x13 n q.ws = false) :
    Wrote (fun k _ => 0x10 ≤ k / 128) u (currentSet u q)
    ∧ (currentSet u q).get (R.CR_IRUN q.ax) &&& 0xFFFFF#32 = q.w 2 ∧ (currentSet u q).get (R.CR_IREST q.ax) &&& 0xFFFFF#32 = q.w 3
    ∧ (currentSet u q).get (R.ME_REST q.ax) &&& 0xFFFF#32 = q.w 4 ∧ (currentSet u q).mot = u.mot := by
  simp only [badMotion, Bool.or_eq_false_iff, decide_eq_false_iff_not] at hargs
  obtain ⟨⟨h2, h3⟩, h4⟩ := hargs
  have hw (i : Nat) : (q.w i).toNat = argN q.ws i := rfl
  obtain ⟨hA, hgetA, hmotA⟩ := fwWrite_low (n := 20) (w := q.w 2) (fwReg_CR_IRUN q.ax) rfl rfl (by decide) hb hs (admits_of_no_cfg rfl)
    (by rw [hw]; omega)
  set uA := u.fwWrite (R.CR_IRUN q.ax) (q.w 2) with huA
  obtain ⟨hB, hgetB, hmotB⟩ := fwWrite_low (n := 20) (w := q.w 3) (fwReg_CR_IREST q.ax) rfl rfl (by decide) (hA.busUp hb) (hA.noReset hs)
    (admits_of_no_cfg rfl) (by rw [hw]; omega)
  set uB := uA.fwWrite (R.CR_IREST q.ax) (q.w 3) with huB
  obtain ⟨hC, hgetC, hmotC⟩ := fwWrite_low (n := 16) (w := q.w 4) (fwReg_ME_REST q.ax) rfl rfl (by decide) (hB.busUp (hA.busUp hb))
    (hB.noReset (hA.noReset hs)) (admits_of_no_cfg rfl) (by rw [hw]; omega)
  have heq : currentSet u q = uB.fwWrite (R.ME_REST q.ax) (q.w 4) := rfl
  rw [heq]
  refine ⟨?_, ?_, ?_, hgetC, hmotC.trans (hmotB.trans hmotA)⟩
  · refine ((hA.mono fun k i h => ?_).trans (hB.mono fun k i h => ?_)).trans (hC.mono fun k i h => ?_)
    · unfold only R.CR_IRUN regKey at h; omega
    · unfold only R.CR_IREST regKey at h; omega
    · unfold only R.ME_REST regKey at h; omega
  · rw [hC.get fun _ => by unfold only R.CR_IRUN R.ME_REST regKey; omega, hB.get fun _ => by unfold only R.CR_IRUN R.CR_IREST regKey; omega]
    exact hgetA
  · rw [hC.get fun _ => by unfold only R.CR_IREST R.ME_REST regKey; omega]
    exact hgetB

theorem setCurrent_served (hc : ClocksRun s) (hs : NoReset s) (hw : Waits s ch 0x13) (hq : q = s.reqOf (chanIx ch))
    (ht : t = s.quiet.serve ch 0x13 opSetCurrent) (hearly : s.early 0x13 q = none) (hceil : s.ceilingBars q.ax (q.n 2) = false) :
    Answers s t ch .ok [] ∧ t.get (R.CR_IRUN q.ax) &&& 0xFFFFF#32 = q.w 2 ∧ t.get (R.CR_IREST q.ax) &&& 0xFFFFF#32 = q.w 3
    ∧ t.get (R.ME_REST q.ax) &&& 0xFFFF#32 = q.w 4 ∧ t.mot = s.mot := by
  have hmail := taken_onlyMail hw
  have hfw : (taken s ch).fw = s.fw := by rw [hmail.1]
  have hargs := hw.motionArgs
  rw [← hq] at hargs
  obtain ⟨hset, hrun', hrest, hdelay, hmot⟩ := currentSet_spec (hw.busUp hc) (hw.noReset hs) hargs
  have hrun := (runOp_of_free (f := opSetCurrent) (by unfold NeedsNone; decide) ((early_current_congr hfw).trans hearly)).trans
    (opSetCurrent_within ((hmail.ceilingBars _ _).trans hceil))
  obtain ⟨honly, hans⟩ := hw.done hq ht hrun hset fun _ _ h => h
  refine ⟨hans, ?_, ?_, ?_, ?_⟩
  · rw [honly.2 _ (by unfold mailboxPage R.CR_IRUN regKey; omega), hrun']
  · rw [honly.2 _ (by unfold mailboxPage R.CR_IREST regKey; omega), hrest]
  · rw [honly.2 _ (by unfold mailboxPage R.ME_REST regKey; omega), hdelay]
  · rw [honly.stands.1, hmot, hmail.1]

/-! ### SET_COMMUT -/

theorem unchecked_setCommut : Unchecked 0x14 := by unfold Unchecked NeedsNone; decide

theorem fwReg_CR_XUP : ∀ ax : Axis, FwReg (R.CR_XUP ax) ⟨0x0A, 1, 0x00000000#32, 0x00FFFFFF#32, 0x00FFFFFF#32, true, .rw, false⟩
    ∧ plainKey (R.CR_XUP ax) := by unfold FwReg plainKey; decide

theorem fwReg_CR_XDN : ∀ ax : Axis, FwReg (R.CR_XDN ax) ⟨0x0B, 1, 0x00000000#32, 0x00FFFFFF#32, 0x00FFFFFF#32, true, .rw, false⟩
    ∧ plainKey (R.CR_XDN ax) := by unfold FwReg plainKey; decide

theorem fwReg_CR_ENC : ∀ ax : Axis, FwReg (R.CR_ENC ax) ⟨0x10, 1, 0x00000000#32, 0x80FFFFFF#32, 0x00FFFFFF#32, true, .rw, false⟩
    ∧ plainKey (R.CR_ENC ax) := by unfold FwReg plainKey; decide

/-- The commutation and its crossovers in their registers. -/
def commutSet (u : State) (q : Req) : State :=
  (((u.fwFld (R.CR_CFG q.ax) 26 24 (q.n 2)).fwWrite (R.CR_XUP q.ax) (q.w 3)).fwWrite (R.CR_XDN q.ax) (q.w 4)).fwFld (R.CR_ENC q.ax) 23 0 (q.n 5)

theorem opSetCommut_off (hen : u.meEn q.ax = false) (hmode : q.n 2 < 2) : opSetCommut q u = (commutSet u q, .ok, []) := by
  unfold opSetCommut
  dsimp only
  rw [hen, decide_eq_false (show ¬q.n 2 = 2 by omega), decide_eq_false (show ¬q.n 2 = 3 by omega)]
  rfl

theorem commutSet_spec (hb : BusUp u) (hs : NoReset u) (hoff : u.crEn q.ax = false) (hmode : q.n 2 < 2) (hargs : badMotion 0x14 n q.ws = false) :
    Wrote (fun k _ => 0x10 ≤ k / 128) u (commutSet u q) ∧ (commutSet u q).fld (R.CR_CFG q.ax) 26 24 = q.n 2
    ∧ (commutSet u q).get (R.CR_XUP q.ax) &&& 0xFFFFFF#32 = q.w 3 ∧ (commutSet u q).get (R.CR_XDN q.ax) &&& 0xFFFFFF#32 = q.w 4 := by
  simp only [badMotion, Bool.or_eq_false_iff, decide_eq_false_iff_not] at hargs
  obtain ⟨⟨⟨-, h34⟩, h3⟩, -⟩ := hargs
  have hw (i : Nat) : (q.w i).toNat = argN q.ws i := rfl
  obtain ⟨-, -, -, henU, henD, -⟩ := enReg_coil q.ax
  obtain ⟨hA, hfldA, hbitA⟩ := fwFld_disabled (hi := 26) (lo := 24) (v := q.n 2) (fwReg_CR_CFG q.ax) (by unfold enKey R.CR_CFG regKey; omega)
    (by unfold R.CR_CFG regKey; omega) rfl (enReg_own q.ax).2.1 (by decide) (by decide) (fun i hlo hhi => by interval_cases i <;> decide) hb hs hoff
  set uA := u.fwFld (R.CR_CFG q.ax) 26 24 (q.n 2) with huA
  have hoffA : uA.crEn q.ax = false := (hbitA 31 (by decide)).trans hoff
  obtain ⟨hB, hgetB, -⟩ := fwWrite_low (n := 24) (w := q.w 3) (fwReg_CR_XUP q.ax) rfl rfl (by decide) (hA.busUp hb) (hA.noReset hs)
    (admits_of_off henU hoffA) (by rw [hw]; omega)
  set uB := uA.fwWrite (R.CR_XUP q.ax) (q.w 3) with huB
  have hAB : Wrote (fun k _ => 0x20 ≤ k / 128) u uB := (hA.mono fun k i h => by unfold only R.CR_CFG regKey at h; omega).trans
    (hB.mono fun k i h => by unfold only R.CR_XUP regKey at h; omega)
  have hoffB : uB.crEn q.ax = false := (hB.bit _ _ (by unfold only R.CR_XUP R.CR_CFG regKey; omega)).trans hoffA
  obtain ⟨hC, hgetC, -⟩ := fwWrite_low (n := 24) (w := q.w 4) (fwReg_CR_XDN q.ax) rfl rfl (by decide) (hAB.busUp hb) (hAB.noReset hs)
    (admits_of_off henD hoffB) (by rw [hw]; omega)
  set uC := uB.fwWrite (R.CR_XDN q.ax) (q.w 4) with huC
  have hAC := hAB.trans (hC.mono fun k i h => by unfold only R.CR_XDN regKey at h; omega)
  have hD : Wrote (only (R.CR_ENC q.ax)) uC (uC.fwFld (R.CR_ENC q.ax) 23 0 (q.n 5)) :=
    wrote_fwWrite_plain (fwReg_CR_ENC q.ax).1 (fwReg_CR_ENC q.ax).2 rfl (hAC.busUp hb) (hAC.noReset hs)
  have heq : commutSet u q = uC.fwFld (R.CR_ENC q.ax) 23 0 (q.n 5) := rfl
  rw [heq]
  refine ⟨(hAC.mono fun k i h => by omega).trans (hD.mono fun k i h => by unfold only R.CR_ENC regKey at h; omega), ?_, ?_, ?_⟩
  · rw [hD.fld fun _ => by unfold only R.CR_CFG R.CR_ENC regKey; omega, hC.fld fun _ => by unfold only R.CR_CFG R.CR_XDN regKey; omega,
      hB.fld fun _ => by unfold only R.CR_CFG R.CR_XUP regKey; omega, hfldA]
    exact Nat.mod_eq_of_lt (hmode.trans (by decide))
  · rw [hD.get fun _ => by unfold only R.CR_XUP R.CR_ENC regKey; omega, hC.get fun _ => by unfold only R.CR_XUP R.CR_XDN regKey; omega]
    exact hgetB
  · rw [hD.get fun _ => by unfold only R.CR_XDN R.CR_ENC regKey; omega]
    exact hgetC

theorem setCommut_served (hc : ClocksRun s) (hs : NoReset s) (hw : Waits s ch 0x14) (hq : q = s.reqOf (chanIx ch))
    (ht : t = s.quiet.serve ch 0x14 opSetCommut) (hme : s.meEn q.ax = false) (hcr : s.crEn q.ax = false) (hmode : q.n 2 < 2) :
    Answers s t ch .ok [] ∧ t.cmode q.ax = q.n 2 ∧ t.get (R.CR_XUP q.ax) &&& 0xFFFFFF#32 = q.w 3 ∧ t.get (R.CR_XDN q.ax) &&& 0xFFFFFF#32 = q.w 4 := by
  have hmail := taken_onlyMail hw
  have hargs := hw.motionArgs
  rw [← hq] at hargs
  obtain ⟨hset, hfld, hup, hdn⟩ := commutSet_spec (hw.busUp hc) (hw.noReset hs) ((hmail.crEn _).trans hcr) hmode hargs
  have hrun := (runOp_of_unchecked (f := opSetCommut) unchecked_setCommut).trans (opSetCommut_off ((hmail.meEn _).trans hme) hmode)
  obtain ⟨honly, hans⟩ := hw.done hq ht hrun hset fun _ _ h => h
  refine ⟨hans, ?_, ?_, ?_⟩
  · rw [State.cmode, honly.fld (by unfold mailboxPage R.CR_CFG regKey; omega), hfld, if_neg (by omega)]
  · rw [honly.2 _ (by unfold mailboxPage R.CR_XUP regKey; omega), hup]
  · rw [honly.2 _ (by unfold mailboxPage R.CR_XDN regKey; omega), hdn]

/-! ### SET_DOOR -/

theorem fwReg_ME_MASS : ∀ ax : Axis, FwReg (R.ME_MASS ax) ⟨0x10, 1, 0x00000000#32, 0xFFFFFFFF#32, 0xFFFFFFFF#32, true, .rw, false⟩
    ∧ plainKey (R.ME_MASS ax) := by unfold FwReg plainKey; decide

/-- The row of ME_KPM. -/
def kpmRow : RegRow := ⟨0x11, 1, 0x00000000#32, 0xFFFFFFFF#32, 0xFFFFFFFF#32, true, .rw, false⟩

theorem fwReg_ME_KPM : ∀ ax : Axis, FwReg (R.ME_KPM ax) kpmRow := by unfold FwReg; decide

/-- The row of ME_OPEN. -/
def openRow : RegRow := ⟨0x1A, 3, 0x00000000#32, 0xFFFFFFFF#32, 0xFFFFFFFF#32, true, .rw, true⟩

/-- The row of ME_CLOSED. -/
def closedRow : RegRow := ⟨0x1D, 3, 0x00000000#32, 0xFFFFFFFF#32, 0xFFFFFFFF#32, true, .rw, true⟩

theorem fwReg_door : ∀ ax : Axis, (FwReg (R.ME_OPEN ax) openRow ∧ FwReg (R.ME_OPEN ax + 1) openRow)
    ∧ (FwReg (R.ME_CLOSED ax) closedRow ∧ FwReg (R.ME_CLOSED ax + 1) closedRow) := by unfold FwReg; decide

theorem wideReg_ME_OPEN (ax : Axis) : WideReg (R.ME_OPEN ax) openRow :=
  have hk : R.ME_OPEN ax = (0x10 + ax) * 128 + 0x1A := rfl
  ⟨(fwReg_door ax).1.1, (fwReg_door ax).1.2, rfl, by omega, by rw [hk, show openRow.index = 0x1A from rfl]; omega⟩

theorem wideReg_ME_CLOSED (ax : Axis) : WideReg (R.ME_CLOSED ax) closedRow :=
  have hk : R.ME_CLOSED ax = (0x10 + ax) * 128 + 0x1D := rfl
  ⟨(fwReg_door ax).2.1, (fwReg_door ax).2.2, rfl, by omega, by rw [hk, show closedRow.index = 0x1D from rfl]; omega⟩

theorem enReg_engine : ∀ ax : Axis, enReg (R.ME_MASS ax) = some (R.ME_CFG ax) ∧ enReg (R.ME_KPM ax) = some (R.ME_CFG ax)
    ∧ enReg (R.ME_OPEN ax) = some (R.ME_CFG ax) ∧ enReg (R.ME_CLOSED ax) = some (R.ME_CFG ax) := by decide

/-- The door's mass, constant and ends of travel in their registers. -/
def doorSet (u : State) (q : Req) : State :=
  (((u.fwWrite (R.ME_MASS q.ax) (q.w 2)).fwWrite (R.ME_KPM q.ax) (q.w 3)).fwWide (R.ME_OPEN q.ax) (argWide q.ws 4)).fwWide (R.ME_CLOSED q.ax)
    (argWide q.ws 6)

theorem opSetDoor_off (hen : u.meEn q.ax = false) : opSetDoor q u = (doorSet u q, .ok, []) := by
  unfold opSetDoor
  dsimp only
  rw [hen]
  rfl

theorem doorSet_spec (hb : BusUp u) (hs : NoReset u) (hoff : u.meEn q.ax = false) (hargs : badMotion 0x15 n q.ws = false) :
    Wrote (fun k _ => 0x10 ≤ k / 128) u (doorSet u q) ∧ (doorSet u q).get (R.ME_MASS q.ax) = q.w 2 ∧ (doorSet u q).get (R.ME_KPM q.ax) = q.w 3
    ∧ (doorSet u q).wide (R.ME_OPEN q.ax) = argWide q.ws 4 ∧ (doorSet u q).wide (R.ME_CLOSED q.ax) = argWide q.ws 6 := by
  simp only [badMotion, Bool.or_eq_false_iff, Bool.not_eq_false'] at hargs
  obtain ⟨hopen, hclosed⟩ := hargs
  obtain ⟨henM, henK, henO, henC⟩ := enReg_engine q.ax
  obtain ⟨hkM, hpM⟩ := fwReg_ME_MASS q.ax
  have hA := wrote_fwWrite_plain (w := q.w 2) hkM hpM rfl hb hs
  have hgetA := (get_fwWrite_plain (w := q.w 2) hkM hpM rfl hb (admits_of_off henM hoff)).trans (merge_of_full rfl _ _)
  set uA := u.fwWrite (R.ME_MASS q.ax) (q.w 2) with huA
  have hoffA : uA.meEn q.ax = false := (hA.bit _ _ (by unfold only R.ME_MASS R.ME_CFG regKey; omega)).trans hoff
  obtain ⟨hB, hgetB⟩ := fwWrite_constant (ax := q.ax) (w := q.w 3) (fwReg_ME_KPM q.ax) (by unfold R.ME_KPM R.LO_KF regKey; omega)
    (fun s => regWrite_kpm rfl (fwReg_ME_KPM q.ax).2.2.2 rfl) (hA.busUp hb) (hA.noReset hs) (admits_of_off henK hoffA)
  set uB := uA.fwWrite (R.ME_KPM q.ax) (q.w 3) with huB
  have hAB : Wrote (fun k _ => 0x10 ≤ k / 128) u uB := (hA.mono fun k i h => by unfold only R.ME_MASS regKey at h; omega).trans
    (hB.mono fun k i h => by unfold only R.ME_KPM R.LO_KF regKey at h; omega)
  have hoffB : uB.meEn q.ax = false := (hB.bit _ _ (by unfold only R.ME_KPM R.LO_KF R.ME_CFG regKey; omega)).trans hoffA
  obtain ⟨hC, hwideC⟩ := fwWide_spec (x := argWide q.ws 4) (wideReg_ME_OPEN q.ax) henO (hAB.busUp hb) hoffB (arg q.ws 4) (arg q.ws 5) rfl hopen
  set uC := uB.fwWide (R.ME_OPEN q.ax) (argWide q.ws 4) with huC
  have hAC := hAB.trans (hC.mono fun k i h => by unfold only R.ME_OPEN regKey at h; omega)
  have hoffC : uC.meEn q.ax = false := (hC.bit _ _ (by unfold only R.ME_OPEN R.ME_CFG regKey; omega)).trans hoffB
  obtain ⟨hD, hwideD⟩ := fwWide_spec (x := argWide q.ws 6) (wideReg_ME_CLOSED q.ax) henC (hAC.busUp hb) hoffC (arg q.ws 6) (arg q.ws 7) rfl hclosed
  have heq : doorSet u q = uC.fwWide (R.ME_CLOSED q.ax) (argWide q.ws 6) := rfl
  rw [heq]
  refine ⟨hAC.trans (hD.mono fun k i h => by unfold only R.ME_CLOSED regKey at h; omega), ?_, ?_, ?_, hwideD⟩
  · rw [hD.get fun _ => by unfold only R.ME_CLOSED R.ME_MASS regKey; omega, hC.get fun _ => by unfold only R.ME_OPEN R.ME_MASS regKey; omega,
      hB.get fun _ => by unfold only R.ME_KPM R.LO_KF R.ME_MASS regKey; omega, hgetA]
  · rw [hD.get fun _ => by unfold only R.ME_CLOSED R.ME_KPM regKey; omega, hC.get fun _ => by unfold only R.ME_OPEN R.ME_KPM regKey; omega, hgetB]
    exact merge_of_full rfl _ _
  · rw [State.wide, hD.get fun _ => by unfold only R.ME_CLOSED R.ME_OPEN regKey; omega,
      hD.get fun _ => by unfold only R.ME_CLOSED R.ME_OPEN regKey; omega]
    exact hwideC

/-- SET_DOOR asks for presence at this device, and logs it (R141, R391). -/
theorem runOp_setDoor : u.runOp 0x15 opSetDoor q =
    if u.presence then opSetDoor q (u.logEvent 0x0A u.sys.time [0#32, 0x15#32]) else (u, .nopres, []) := by
  have hearly : u.early 0x15 q = none := early_of_other (by decide)
  have hpres : (opSpec 0x15).map (·.pres) = some .local_ := by decide
  cases hspec : opSpec 0x15 with
  | none => rw [hspec] at hpres; cases hpres
  | some o =>
    have ho : o.pres = .local_ := by rw [hspec] at hpres; exact Option.some.inj hpres
    unfold State.runOp
    simp only [hearly, hspec, State.presenceOf, ho]
    cases u.presence <;> rfl

theorem OnlyMail.presence (h : OnlyMail s t) : t.presence = s.presence := by rw [h.1]; rfl

theorem setDoor_served (hc : ClocksRun s) (hs : NoReset s) (hw : Waits s ch 0x15) (hq : q = s.reqOf (chanIx ch))
    (ht : t = s.quiet.serve ch 0x15 opSetDoor) (hpres : s.presence = true) (hme : s.meEn q.ax = false) :
    Answers s t ch .ok [] ∧ t.get (R.ME_MASS q.ax) = q.w 2 ∧ t.get (R.ME_KPM q.ax) = q.w 3 ∧ t.wide (R.ME_OPEN q.ax) = argWide q.ws 4
    ∧ t.wide (R.ME_CLOSED q.ax) = argWide q.ws 6 := by
  have hmail := taken_onlyMail hw
  have hargs := hw.motionArgs
  rw [← hq] at hargs
  set u := (taken s ch).logEvent 0x0A (taken s ch).sys.time [0#32, 0x15#32] with hu
  have hlog : Wrote spoolBits (taken s ch) u := wrote_logEvent (hw.noReset hs)
  have hoff : u.meEn q.ax = false := (hlog.bit _ _ (by unfold spoolBits R.ME_CFG regKey; omega)).trans ((hmail.meEn _).trans hme)
  obtain ⟨hset, hmass, hkpm, hopen, hclosed⟩ := doorSet_spec (hlog.busUp (hw.busUp hc)) (hlog.noReset (hw.noReset hs)) hoff hargs
  have hrun : (taken s ch).runOp 0x15 opSetDoor q = (doorSet u q, .ok, []) := by
    rw [runOp_setDoor, if_pos (hmail.presence.trans hpres)]
    exact opSetDoor_off hoff
  obtain ⟨honly, hans⟩ := hw.done hq ht hrun ((hlog.mono fun k i h => by unfold spoolBits at h; omega).trans hset) fun _ _ h => h
  have hwide (k : Nat) (hk : ¬mailboxPage k) (hk1 : ¬mailboxPage (k + 1)) : t.wide k = (doorSet u q).wide k := by
    rw [State.wide, honly.2 _ hk, honly.2 _ hk1]
    rfl
  refine ⟨hans, ?_, ?_, ?_, ?_⟩
  · rw [honly.2 _ (by unfold mailboxPage R.ME_MASS regKey; omega), hmass]
  · rw [honly.2 _ (by unfold mailboxPage R.ME_KPM regKey; omega), hkpm]
  · rw [hwide _ (by unfold mailboxPage R.ME_OPEN regKey; omega) (by unfold mailboxPage R.ME_OPEN regKey; omega), hopen]
  · rw [hwide _ (by unfold mailboxPage R.ME_CLOSED regKey; omega) (by unfold mailboxPage R.ME_CLOSED regKey; omega), hclosed]

end Sys2Proof.Machine
end

section
/-! PROOFS. GET_AXIS, IDENTIFY, GET_IDENT, LOAD_WAVE, WIRING_CHECK, GD_SELFTEST and PRESS_PROBE (R185, R209, R210, R221, R229, R271). -/

namespace Sys2Proof.Machine

variable {P : Nat → Nat → Prop} {s t u x : State} {ch : ReqChan} {op n : Nat} {q : Req} {ax : Axis} {w : Word} {r : RegRow} {k : Nat}

/-! ### GET_AXIS -/

/-- The first word of GET_AXIS. -/
def axisWord (s : State) (ax : Axis) : Word :=
  wordOfNat (s.mode ax + b2n (s.meEn ax) * 8 + b2n (bitOf (s.meStat ax) 0) * 16 + b2n (bitOf (s.meStat ax) 6) * 32 + b2n (bitOf (s.meStat ax) 4) * 64
    + b2n (bitOf (s.meStat ax) 2) * 128 + fldOf (s.meStat ax) 31 24 * 256 + b2n (bitOf (s.meStat ax) 1) * 65536)

/-- The eight words of GET_AXIS. -/
def axisWords (s : State) (ax : Axis) (w1 w8 : Word) : List Word :=
  [w1, hiWord (s.me ax).rpos, loWord (s.me ax).rpos, hiWord (s.me ax).rvel, loWord (s.me ax).rvel, s.get (R.LO_LA ax), s.get (R.LO_FORCE ax), w8]

theorem opGetAxis_eq : opGetAxis q u = (u, .ok, axisWords u q.ax (axisWord u q.ax) (wordOfNat (u.vectorMa q.ax))) := rfl

theorem OnlyMail.axisWords (h : OnlyMail s t) (ax : Axis) (w1 w8 : Word) : axisWords t ax w1 w8 = axisWords s ax w1 w8 := by
  unfold Machine.axisWords
  rw [h.me, h.2 _ (by unfold mailboxPage R.LO_LA regKey; omega), h.2 _ (by unfold mailboxPage R.LO_FORCE regKey; omega)]

theorem getAxis_served (hw : Waits s ch 0x16) (hq : q = s.reqOf (chanIx ch)) (ht : t = s.quiet.serve ch 0x16 opGetAxis) :
    OnlyAsked s t ∧ Answers s t ch .ok (axisWords s q.ax (axisWord (taken s ch) q.ax) (wordOfNat ((taken s ch).vectorMa q.ax))) := by
  subst hq ht
  rw [← (taken_onlyMail hw).axisWords]
  exact hw.asked ((runOp_of_unchecked (by unfold Unchecked NeedsNone; decide)).trans opGetAxis_eq) (by simp [axisWords])

/-! ### Long operations that drive the coils (R209, R229) -/

theorem Served.trans (h : Served s t) (g : Served t u) : Served s u :=
  ⟨g.lnk.trans h.lnk, g.outq.trans h.outq, g.owed.trans h.owed, fun k hk => (g.mail k hk).trans (h.mail k hk)⟩

theorem served_startLong {o : LongOp} : Served u (u.startLong (.axis ax) o) := ⟨rfl, rfl, rfl, fun _ _ => rfl⟩

theorem long_startLong {o : LongOp} : vget (u.startLong (.axis ax) o).fw.long ax = some o := vget_vset_same _ _ _

theorem planDone_startPlan {steps : List DriveStep} {speed : Nat} (h : steps ≠ []) : (u.startPlan ax steps speed).planDone ax = false := by
  unfold State.planDone State.startPlan
  dsimp only
  rw [vget_vset_same]
  simp [h]

/-- A long operation waits for its drives. -/
def driven (u : State) (ax : Axis) (o : LongOp) (steps : List DriveStep) (speed : Nat) : State := (u.startLong (.axis ax) o).startPlan ax steps speed

theorem driven_spec {o : LongOp} {steps : List DriveStep} {speed : Nat} (h : steps ≠ []) :
    Served u (driven u ax o steps speed) ∧ vget (driven u ax o steps speed).fw.long ax = some o ∧ (driven u ax o steps speed).planDone ax = false
    ∧ (driven u ax o steps speed).fwAx ax = u.fwAx ax ∧ ∀ k, (driven u ax o steps speed).get k = u.get k :=
  ⟨⟨rfl, rfl, rfl, fun _ _ => rfl⟩, long_startLong, planDone_startPlan h, rfl, fun _ => rfl⟩

theorem OnlyRegs.longAt {P : Nat → Prop} (h : OnlyRegs P s t) (ax : Axis) : vget t.fw.long ax = vget s.fw.long ax := by rw [h.1]

theorem OnlyRegs.planDone {P : Nat → Prop} (h : OnlyRegs P s t) (ax : Axis) : t.planDone ax = s.planDone ax := by rw [h.1]; rfl

/-- A request answered in a state that keeps the registers changes none but the mailboxes'. -/
theorem regsStand_of (hw : Waits s ch op) (hx : ∀ k, x.get k = (taken s ch).get k) (honly : OnlyRegs mailboxPage x t) : RegsStand s t := fun k hk => by
  rw [honly.2 k hk, hx, (taken_onlyMail hw).2 k hk]

/-! ### IDENTIFY and GET_IDENT -/

theorem unchecked_identify : Unchecked 0x18 := by unfold Unchecked NeedsNone; decide

theorem unchecked_getIdent : Unchecked 0x19 := by unfold Unchecked NeedsNone; decide

theorem identSteps_ne_nil (want : Nat) : identSteps want ≠ [] := by
  unfold identSteps
  simp

/-- The operation of an IDENTIFY. -/
def identOp (q : Req) : LongOp := { op := 0x18, args := [q.w 1, q.w 2, q.w 3] }

theorem opIdentify_idle (hon : u.meEn q.ax = true) (hidle : u.axisBusy q.ax = false) (hwant : q.n 2 < 4) :
    opIdentify q u = if u.longBusy (.axis q.ax) then (u, .busy, [])
      else (driven (u.onFw q.ax fun f => { f with ident := [] }) q.ax (identOp q) (identSteps (q.n 2)) (q.n 3), .ok, []) := by
  unfold opIdentify
  dsimp only
  rw [hon, hidle, decide_eq_false (show ¬4 ≤ q.n 2 by omega)]
  rfl

theorem identify_served (hw : Waits s ch 0x18) (hq : q = s.reqOf (chanIx ch)) (ht : t = s.quiet.serve ch 0x18 opIdentify)
    (hon : s.meEn q.ax = true) (hidle : s.axisBusy q.ax = false) (hwant : q.n 2 < 4) (hfree : vget s.fw.long q.ax = none) :
    Answers s t ch .ok [] ∧ vget t.fw.long q.ax = some (identOp q) ∧ (t.fwAx q.ax).ident = [] ∧ t.planDone q.ax = false ∧ RegsStand s t := by
  have hmail := taken_onlyMail hw
  have hbusy : (taken s ch).longBusy (.axis q.ax) = false := by rw [hmail.longBusy, hfree]; rfl
  have hrun := (runOp_of_unchecked (f := opIdentify) unchecked_identify).trans
    (opIdentify_idle ((hmail.meEn _).trans hon) ((hmail.axisBusy _).trans hidle) hwant)
  rw [hbusy, if_neg (by decide)] at hrun
  obtain ⟨-, hax, hregs⟩ := onFw_spec (P := fun _ _ => False) (s := taken s ch) (ax := q.ax) (g := fun f => { f with ident := [] })
  set u := (taken s ch).onFw q.ax fun f => { f with ident := [] } with hu
  have hknow : Served (taken s ch) u := ⟨rfl, rfl, rfl, fun k _ => hregs k⟩
  obtain ⟨hserved, hlong, hplan, hfw, hget⟩ := driven_spec (u := u) (ax := q.ax) (o := identOp q) (speed := q.n 3) (identSteps_ne_nil (q.n 2))
  obtain ⟨honly, hans⟩ := hw.done_served hq ht hrun (hknow.trans hserved)
  refine ⟨hans, (honly.longAt _).trans hlong, ?_, (honly.planDone _).trans hplan, regsStand_of hw (fun k => (hget k).trans (hregs k)) honly⟩
  rw [honly.fwAx, hfw, hax]

theorem identify_busy (hw : Waits s ch 0x18) (hq : q = s.reqOf (chanIx ch)) (ht : t = s.quiet.serve ch 0x18 opIdentify)
    (hon : s.meEn q.ax = true) (hidle : s.axisBusy q.ax = false) (hwant : q.n 2 < 4) (hlong : vget s.fw.long q.ax ≠ none) :
    OnlyAsked s t ∧ Answers s t ch .busy [] := by
  have hmail := taken_onlyMail hw
  have hbusy : (taken s ch).longBusy (.axis q.ax) = true := by rw [hmail.longBusy, Option.isSome_iff_ne_none]; exact hlong
  have hrun := (runOp_of_unchecked (f := opIdentify) unchecked_identify).trans
    (opIdentify_idle ((hmail.meEn _).trans hon) ((hmail.axisBusy _).trans hidle) hwant)
  rw [hbusy, if_pos rfl] at hrun
  subst hq ht
  exact hw.asked hrun (by decide)

theorem opGetIdent_done (h : (u.fwAx q.ax).ident.getD 0 0#32 ≠ 0#32) : opGetIdent q u = (u, .ok, (u.fwAx q.ax).ident) := if_neg h

theorem opGetIdent_none (h : (u.fwAx q.ax).ident.getD 0 0#32 = 0#32) : opGetIdent q u = (u, .state, []) := if_pos h

/-! ### WIRING_CHECK -/

theorem unchecked_wiringCheck : Unchecked 0x80 := by unfold Unchecked NeedsNone; decide

theorem opWiringCheck_idle (hon : u.meEn q.ax = true) (hidle : u.axisBusy q.ax = false) (hfree : u.longBusy (.axis q.ax) = false) :
    opWiringCheck q u = (driven u q.ax { op := 0x80, args := [q.w 1] } wireSteps 0, .ok, []) := by
  unfold opWiringCheck
  dsimp only
  rw [hon, hidle, hfree]
  rfl

theorem wiringCheck_served (hw : Waits s ch 0x80) (hq : q = s.reqOf (chanIx ch)) (ht : t = s.quiet.serve ch 0x80 opWiringCheck)
    (hon : s.meEn q.ax = true) (hidle : s.axisBusy q.ax = false) (hfree : vget s.fw.long q.ax = none) :
    Answers s t ch .ok [] ∧ vget t.fw.long q.ax = some { op := 0x80, args := [q.w 1] } ∧ t.planDone q.ax = false ∧ RegsStand s t := by
  have hmail := taken_onlyMail hw
  have hrun := (runOp_of_unchecked (f := opWiringCheck) unchecked_wiringCheck).trans
    (opWiringCheck_idle ((hmail.meEn _).trans hon) ((hmail.axisBusy _).trans hidle) (by rw [hmail.longBusy, hfree]; rfl))
  obtain ⟨hserved, hlong, hplan, -, hget⟩ := driven_spec (u := taken s ch) (ax := q.ax) (o := { op := 0x80, args := [q.w 1] }) (speed := 0)
    (steps := wireSteps) (by decide)
  obtain ⟨honly, hans⟩ := hw.done_served hq ht hrun hserved
  exact ⟨hans, (honly.longAt _).trans hlong, (honly.planDone _).trans hplan, regsStand_of hw hget honly⟩

/-! ### LOAD_WAVE -/

theorem unchecked_loadWave : Unchecked 0x1A := by unfold Unchecked NeedsNone; decide

theorem fwReg_CR_WADDR : ∀ ax : Axis, FwReg (R.CR_WADDR ax) ⟨0x1F, 1, 0x00000000#32, 0x000003FF#32, 0x00000000#32, false, .rw, false⟩
    ∧ plainKey (R.CR_WADDR ax) := by unfold FwReg plainKey; decide

theorem coil_fwWrite_plain (hk : FwReg k r) (hplain : plainKey k) (hmulti : r.multi = false) (hb : BusUp s) (ha : Admits s r k w) :
    (s.fwWrite k w).coil = s.coil := by
  rw [fwWrite_eq hb hk.2.2.1 hk.2.1 hk.1, regWrite_plain hplain hk.2.2.2 hmulti, plainWrite_of_admits ha]
  unfold State.store
  rw [mend_frame]
  rfl

/-- Two entries of the wave table written from one word. -/
def waveLoad (u : State) (q : Req) : State :=
  ((u.fwWrite (R.CR_WADDR q.ax) (q.w 2)).fwWrite (R.CR_WDATA q.ax) (wordOfNat (fldOf (q.w 3) 15 0))).fwWrite (R.CR_WDATA q.ax)
    (wordOfNat (fldOf (q.w 3) 31 16))

theorem opLoadWave_word (hen : u.meEn q.ax = false) (hn : hdrNarg q.h = 3) (hlen : 3 < q.ws.length) : opLoadWave q u = (waveLoad u q, .ok, []) := by
  have hword : (q.ws.drop 3).take 1 = [q.w 3] := by
    rw [List.drop_eq_getElem_cons hlen]
    exact congrArg (fun w => [w]) (List.getD_eq_getElem _ _ hlen).symm
  unfold opLoadWave
  dsimp only
  rw [hen, hn, hword]
  rfl

theorem fldOf_wordOfNat_low {v : Nat} (h : v < 65536) : fldOf (wordOfNat v) 15 0 = v := by
  unfold fldOf wordOfNat
  rw [BitVec.toNat_ofNat, Nat.shiftRight_zero]
  omega

theorem waveLoad_spec (hb : BusUp u) (hs : NoReset u) (hoff : u.crEn q.ax = false) (hclean : (vget u.coil q.ax).waveBad = [])
    (hargs : badMotion 0x1A n q.ws = false) :
    Wrote (only (R.CR_WADDR q.ax)) u (waveLoad u q) ∧ (waveLoad u q).waveStored q.ax (q.n 2) = fldOf (q.w 3) 15 0
    ∧ (waveLoad u q).waveStored q.ax ((q.n 2 + 1) % 1024) = fldOf (q.w 3) 31 16 := by
  simp only [badMotion, Bool.or_eq_false_iff, decide_eq_false_iff_not] at hargs
  have hn : q.n 2 < 1024 := by have := hargs.1; unfold Req.n; omega
  obtain ⟨hk, hp⟩ := fwReg_CR_WADDR q.ax
  have hA := wrote_fwWrite_plain (w := q.w 2) hk hp rfl hb hs
  have hgetA := get_fwWrite_plain (w := q.w 2) hk hp rfl hb (admits_of_no_cfg rfl)
  have hcoilA := coil_fwWrite_plain (w := q.w 2) hk hp rfl hb (admits_of_no_cfg rfl)
  set uA := u.fwWrite (R.CR_WADDR q.ax) (q.w 2) with huA
  have haddr : uA.fld (R.CR_WADDR q.ax) 9 0 = q.n 2 := by
    rw [State.fld, hgetA, fldOf_merge fun i hlo hhi => by interval_cases i <;> decide]
    exact Nat.mod_eq_of_lt hn
  have hoffA : uA.crEn q.ax = false := (hA.bit _ _ (by unfold only R.CR_WADDR R.CR_CFG regKey; omega)).trans hoff
  obtain ⟨hB, hcoilB, haddrB⟩ := fwWrite_wdata (hA.busUp hb) hoffA (by rw [hcoilA]; exact hclean) (wordOfNat (fldOf (q.w 3) 15 0))
  rw [haddr, hcoilA, fldOf_wordOfNat_low (fldOf_lt _ _ _)] at hcoilB
  rw [haddr] at haddrB
  set uB := uA.fwWrite (R.CR_WDATA q.ax) (wordOfNat (fldOf (q.w 3) 15 0)) with huB
  have hoffB : uB.crEn q.ax = false := (hB.bit _ _ (by unfold only R.CR_WADDR R.CR_CFG regKey; omega)).trans hoffA
  have hcleanB : (vget uB.coil q.ax).waveBad = [] := by rw [hcoilB, wavePutCoil, hclean]; rfl
  obtain ⟨hC, hcoilC, -⟩ := fwWrite_wdata (hB.busUp (hA.busUp hb)) hoffB hcleanB (wordOfNat (fldOf (q.w 3) 31 16))
  rw [haddrB, hcoilB, fldOf_wordOfNat_low (fldOf_lt _ _ _)] at hcoilC
  have heq : waveLoad u q = uB.fwWrite (R.CR_WDATA q.ax) (wordOfNat (fldOf (q.w 3) 31 16)) := rfl
  rw [heq]
  refine ⟨(hA.trans hB).trans hC, ?_, ?_⟩
  · rw [State.waveStored, hcoilC, wave_wavePutCoil, if_neg (by omega), wave_wavePutCoil, if_pos rfl]
  · rw [State.waveStored, hcoilC, wave_wavePutCoil, if_pos rfl]

theorem loadWave_served (hc : ClocksRun s) (hs : NoReset s) (hw : Waits s ch 0x1A) (hq : q = s.reqOf (chanIx ch))
    (ht : t = s.quiet.serve ch 0x1A opLoadWave) (hme : s.meEn q.ax = false) (hcr : s.crEn q.ax = false) (hn : hdrNarg q.h = 3)
    (hclean : (vget s.coil q.ax).waveBad = []) :
    Answers s t ch .ok [] ∧ t.waveStored q.ax (q.n 2) = fldOf (q.w 3) 15 0 ∧ t.waveStored q.ax ((q.n 2 + 1) % 1024) = fldOf (q.w 3) 31 16 := by
  have hmail := taken_onlyMail hw
  have hcoil : (taken s ch).coil = s.coil := by rw [hmail.1]
  have hargs := hw.motionArgs
  have hlen : 3 < q.ws.length := by rw [hq]; simp [State.reqOf, State.msg]
  rw [← hq] at hargs
  obtain ⟨hset, hlo, hhi⟩ := waveLoad_spec (hw.busUp hc) (hw.noReset hs) ((hmail.crEn _).trans hcr) (by rw [hcoil]; exact hclean) hargs
  have hrun := (runOp_of_unchecked (f := opLoadWave) unchecked_loadWave).trans (opLoadWave_word ((hmail.meEn _).trans hme) hn hlen)
  obtain ⟨honly, hans⟩ := hw.done hq ht hrun hset fun k i h => by unfold only R.CR_WADDR regKey at h; omega
  obtain ⟨-, -, -, -, hcoil', -⟩ := honly.stands
  have hwave (i : Nat) : t.waveStored q.ax i = (waveLoad (taken s ch) q).waveStored q.ax i := by rw [State.waveStored, hcoil', State.waveStored]
  exact ⟨hans, (hwave _).trans hlo, (hwave _).trans hhi⟩

/-! ### GD_SELFTEST -/

theorem unchecked_gdSelftest : Unchecked 0x81 := by unfold Unchecked NeedsNone; decide

/-- The row of GD_CTL. -/
def gdCtlRow : RegRow := ⟨0x05, 1, 0x00000000#32, 0x00000007#32, 0x00000000#32, false, .wo, false⟩

theorem fwReg_GD_CTL : ∀ ax : Axis, FwReg (R.GD_CTL ax) gdCtlRow := by unfold FwReg; decide

theorem fwWrite_selftest (hb : BusUp u) (hs : NoReset u) (hmay : u.diagMay ax = true) :
    Wrote (fun k _ => 0x10 ≤ k / 128) u (u.fwWrite (R.GD_CTL ax) 4#32) ∧ (u.fwWrite (R.GD_CTL ax) 4#32).bit (R.GD_STAT ax) 19 = true := by
  have hk := fwReg_GD_CTL ax
  have hp : R.GD_CTL ax / 128 = 0x30 + ax := regKey_div _ _ (by decide)
  have hi : R.GD_CTL ax % 128 = 0x05 := regKey_mod _ _ (by decide)
  have heq : u.regWrite .exec gdCtlRow (R.GD_CTL ax) 4#32 = u.stestStart .exec ax := by
    rw [regWrite_gd (by omega) hk.2.2.2, hi]
    unfold State.writeGd
    dsimp only
    rw [axisAt_of (ax := ax) (by omega)]
    rfl
  obtain ⟨hstart, hbit⟩ := stestStart_spec (m := .exec) hs hmay
  rw [← heq] at hstart hbit
  refine ⟨wrote_fwWrite_of hk hb (hstart.mono fun k i h => ?_), ?_⟩
  · unfold gateBits only R.GD_STAT R.GD_STRES regKey at h
    omega
  · rw [State.bit, get_fwWrite_of hk hb]
    exact hbit

/-- The operation of a GD_SELFTEST of drivers that were enabled. -/
def selftestOp (q : Req) : LongOp := { op := 0x81, args := [q.w 1, 1#32] }

theorem opGdSelftest_on (hen : u.meEn q.ax = false) (hfree : u.longBusy (.axis q.ax) = false) (hgd : u.bit (R.GD_CFG q.ax) 31 = true) :
    opGdSelftest q u = ((u.startLong (.axis q.ax) (selftestOp q)).fwWrite (R.GD_CTL q.ax) 4#32, .ok, []) := by
  have hset (o : LongOp) : (u.startLong (.axis q.ax) o).fwSet (R.GD_CFG q.ax) 31 = u.startLong (.axis q.ax) o := if_pos hgd
  unfold opGdSelftest
  dsimp only
  rw [hen, hfree, hset, hgd]
  rfl

theorem gdSelftest_served (hc : ClocksRun s) (hs : NoReset s) (hw : Waits s ch 0x81) (hq : q = s.reqOf (chanIx ch))
    (ht : t = s.quiet.serve ch 0x81 opGdSelftest) (hme : s.meEn q.ax = false) (hfree : vget s.fw.long q.ax = none)
    (hgd : s.bit (R.GD_CFG q.ax) 31 = true) (hmay : s.diagMay q.ax = true) :
    Answers s t ch .ok [] ∧ t.bit (R.GD_STAT q.ax) 19 = true ∧ vget t.fw.long q.ax = some (selftestOp q) := by
  have hmail := taken_onlyMail hw
  set u := (taken s ch).startLong (.axis q.ax) (selftestOp q) with hu
  have hb : BusUp u := (hw.busUp hc).of_sys rfl
  have hnr : NoReset u := noReset_of_get rfl rfl (fun _ _ => rfl) (hw.noReset hs)
  obtain ⟨htest, hbit⟩ := fwWrite_selftest (ax := q.ax) hb hnr ((hmail.diagMay _).trans hmay)
  have hrun := (runOp_of_unchecked (f := opGdSelftest) unchecked_gdSelftest).trans
    (opGdSelftest_on ((hmail.meEn _).trans hme) (by rw [hmail.longBusy, hfree]; rfl) ((hmail.bit (by unfold mailboxPage R.GD_CFG regKey; omega)).trans hgd))
  obtain ⟨honly, hans⟩ := hw.done_served hq ht hrun (served_startLong.trans (htest.served fun _ _ h => h))
  refine ⟨hans, (honly.bit (by unfold mailboxPage R.GD_STAT regKey; omega)).trans hbit, ?_⟩
  rw [honly.longAt, htest.long]
  exact long_startLong

/-! ### PRESS_PROBE -/

theorem unchecked_pressProbe : Unchecked 0x82 := by unfold Unchecked NeedsNone; decide

theorem opPressProbe_may (h : q.n 2 = 0 ∨ u.moving q.ax = false) : opPressProbe q u = (u.fwBit (R.LO_CFG q.ax) 30 (decide (q.n 2 = 1)), .ok, []) := by
  refine if_neg ?_
  rcases h with h | h <;> simp [h]

theorem pressProbe_served (hc : ClocksRun s) (hs : NoReset s) (hw : Waits s ch 0x82) (hq : q = s.reqOf (chanIx ch))
    (ht : t = s.quiet.serve ch 0x82 opPressProbe) (hmay : q.n 2 = 0 ∨ s.moving q.ax = false) :
    Answers s t ch .ok [] ∧ t.bit (R.LO_CFG q.ax) 30 = decide (q.n 2 = 1) ∧ t.mot = s.mot := by
  have hmail := taken_onlyMail hw
  obtain ⟨hset, hbit, hmot⟩ := fwBit_probe (ax := q.ax) (hw.busUp hc) (hw.noReset hs) (decide (q.n 2 = 1))
  have hrun := (runOp_of_unchecked (f := opPressProbe) unchecked_pressProbe).trans
    (opPressProbe_may (q := q) (u := taken s ch) (hmay.imp_right (hmail.moving _).trans))
  obtain ⟨honly, hans⟩ := hw.done hq ht hrun hset fun k i h => by unfold only R.LO_CFG R.LO_STAT regKey at h; omega
  refine ⟨hans, (honly.bit (by unfold mailboxPage R.LO_CFG regKey; omega)).trans hbit, ?_⟩
  rw [honly.stands.1, hmot, hmail.1]

end Sys2Proof.Machine
end

section
/-! PROOFS. The requests for axes and motors, settled from what each opcode leaves in the answered state. -/

namespace Sys2Proof.Machine

/-- Settles O47: firmware takes the request, carries out its opcode by writes over the bus of which each register's rule is known, and answers;
what the opcode left stands in the answered state, and a refusal leaves only the answer. -/
theorem axisAndMotorRequests : Obligations.AxisAndMotorRequests := by
  intro s ch hc hs _ q ax
  refine ⟨?_, ?_, ?_, ?_, ?_, ?_, ?_, ?_, ?_, ?_, ?_, ?_, ?_, ?_, ?_, ?_, ?_, ?_, ?_, ?_, ?_⟩
  · intro hw hon hm
    exact ⟨_, rfl, hw.asked ((runOp_of_unchecked unchecked_axisEn).trans
      (opAxisEn_no_motor hon ((congrArg FwAx.motor ((taken_onlyMail hw).fwAx ax)).trans hm))) (by decide)⟩
  · intro hw hon hm hiset hsto
    have hmail := taken_onlyMail hw
    exact ⟨_, rfl, hw.asked ((runOp_of_unchecked unchecked_axisEn).trans (opAxisEn_safety hon
      ((congrArg FwAx.motor (hmail.fwAx ax)).trans hm) (hmail.isetBars.trans hiset) ((hmail.torqueBarred _).trans hsto))) (by decide)⟩
  · intro hw hon hm hiset hsto
    obtain ⟨hans, hme, hcr, hpwm, hgd, hblock, ha, hb⟩ := axisEn_enables hc hs hw rfl rfl hon hm hiset hsto
    exact ⟨_, rfl, hans, hme, hcr, hpwm, hgd, by rw [State.csmOn, hblock, ha]; rfl, by rw [State.csmOn, hblock, hb]; rfl⟩
  · exact fun hw hoff hidle => ⟨_, rfl, axisEn_disables hc hs hw rfl rfl hoff hidle⟩
  · exact fun hw hoff hbusy => ⟨_, rfl, hw.asked ((runOp_of_unchecked unchecked_axisEn).trans
      (opAxisEn_busy hoff (((taken_onlyMail hw).axisBusy _).trans hbusy))) (by decide)⟩
  · exact fun hw hen hdoor htmpl => ⟨_, rfl, setRole_served hc hs hw rfl rfl hen hdoor htmpl⟩
  · exact fun hw hme hcr => ⟨_, rfl, setMotor_served hc hs hw rfl rfl hme hcr⟩
  · exact fun hw hme => ⟨_, rfl, hw.asked ((runOp_of_unchecked unchecked_setMotor).trans
      (opSetMotor_on (((taken_onlyMail hw).meEn _).trans hme))) (by decide)⟩
  · exact fun hw hearly hceil => ⟨_, rfl, setCurrent_served hc hs hw rfl rfl hearly hceil⟩
  · exact fun hw hme hcr hmode => ⟨_, rfl, setCommut_served hc hs hw rfl rfl hme hcr hmode⟩
  · exact fun hw hpres hme => ⟨_, rfl, setDoor_served hc hs hw rfl rfl hpres hme⟩
  · exact fun hw hpres => ⟨_, rfl, hw.asked (runOp_setDoor.trans
      (if_neg (by rw [(taken_onlyMail hw).presence, hpres]; decide))) (by decide)⟩
  · exact fun hw => ⟨_, _, _, rfl, getAxis_served hw rfl rfl⟩
  · exact fun hw hon hidle hwant hfree => ⟨_, rfl, identify_served hw rfl rfl hon hidle hwant hfree⟩
  · exact fun hw hon hidle hwant hlong => ⟨_, rfl, identify_busy hw rfl rfl hon hidle hwant hlong⟩
  · intro hw hlen hdone
    have hfw := (taken_onlyMail hw).fwAx ax
    rw [← hfw] at hlen hdone ⊢
    exact ⟨_, rfl, hw.asked ((runOp_of_unchecked unchecked_getIdent).trans (opGetIdent_done hdone)) (by rw [hlen]; decide)⟩
  · intro hw hnone
    rw [← (taken_onlyMail hw).fwAx ax] at hnone
    exact ⟨_, rfl, hw.asked ((runOp_of_unchecked unchecked_getIdent).trans (opGetIdent_none hnone)) (by decide)⟩
  · exact fun hw hme hcr hn hclean => ⟨_, rfl, loadWave_served hc hs hw rfl rfl hme hcr hn hclean⟩
  · exact fun hw hon hidle hfree => ⟨_, rfl, wiringCheck_served hw rfl rfl hon hidle hfree⟩
  · exact fun hw hme hfree hgd hmay => ⟨_, rfl, gdSelftest_served hc hs hw rfl rfl hme hfree hgd hmay⟩
  · exact fun hw hmay => ⟨_, rfl, pressProbe_served hc hs hw rfl rfl hmay⟩

end Sys2Proof.Machine
end

section
/-! PROOFS. A record of the logbook that fills a page whose pointers in the wear journal no longer decode: the request it announces resets the
chip. -/

namespace Sys2Proof.Machine

/-- The header of a SET_ENERGY request for the device itself, with its three arguments. -/
def setEnergyHeader : Word := wordOfNat (0x31 * 2 ^ 24 + 2 ^ 22 + 0x7FE * 2 ^ 11 + 3 * 128 + 5)

/-- Firmware runs under presence and has gathered six records; a word of the wear journal's pair for the logbook holds a double-bit error,
UE_WJ's reaction is CRST, axis 0 is not at its reset position, and the host asks SET_ENERGY for axis 0. -/
def energyAtFullPage : State :=
  let s := { State.reset with
    sys := { State.reset.sys with chipReset := false, exec := .firmware }
    spool := { State.reset.spool with presLow := true, gathered := List.replicate 6 ([], 0) }
    ue := [darnKey .wj 16] }
  let s := ((s.set R.SPL_LOGPAGES 100#32).setWide R.SPL_LOGHEAD 6).onMot 0 fun m => { m with pos := 1 }
  let s := (s.setBit R.FC_CTL 31 true).set (R.FC_SRC 23) 4#32
  (((s.set (bch 0 0) setEnergyHeader).set (bch 0 2) 5#32).set (bch 0 3) 6#32).setBit (bch 0 0x11) 0 true

theorem waits_energyAtFullPage : Waits energyAtFullPage .host 0x31 where
  serve := by decide +kernel
  here := by decide
  alone := by decide +kernel
  inq := rfl
  outq := by decide +kernel
  owed := by decide +kernel
  room := by decide +kernel
  bound := by decide +kernel

/-- The record of the service under presence is the seventh: its page is programmed, the pair is read, UE_WJ is raised and the chip resets, the
axis's position with it (R25, R146, R393, R395). -/
theorem me_serve_energyAtFullPage : ((energyAtFullPage.quiet.serve .host 0x31 opSetEnergy).me 0).pos = 0 := by
  decide +kernel

/-- Refutes O49: the record of a SET_ENERGY served under presence can fill a page of the logbook, whose pointers' pair in the wear journal is then
read; where that raises UE_WJ and its reaction is CRST, the chip resets and the axes do not stand. -/
theorem not_limitAndSafetyRequests : ¬ Obligations.LimitAndSafetyRequests := by
  unfold Obligations.LimitAndSafetyRequests
  intro h
  obtain ⟨_, hpresent, _⟩ := h energyAtFullPage .host
  obtain ⟨henergy, _⟩ := hpresent rfl
  obtain ⟨t, hexec, _, _, hmot⟩ := henergy waits_energyAtFullPage
  have ht : energyAtFullPage.quiet.serve .host 0x31 opSetEnergy = t := Host.Outcome.next.inj hexec
  have hme : t.me 0 = energyAtFullPage.me 0 := by unfold State.me; rw [hmot]
  rw [← ht] at hme
  exact absurd (me_serve_energyAtFullPage.symm.trans (congrArg MotAx.pos hme)) (by decide)

end Sys2Proof.Machine
end

section
/-! PROOFS. The start of a chip reset: what every kind of it leaves, and the commands that cause one. -/

namespace Sys2Proof.Machine

variable {s t u : State} {c : ResetCause} {m : Master} {w : Word}

/-! ### What a chip reset leaves -/

/-- A chip reset returns every register to its reset value, but for those that a warm one keeps and the supplies' levels (R30, R70, R79). -/
theorem get_chipReset (k : Nat) :
    (s.chipReset c).get k = if k = R.SYS_SUPSTAT then s.get R.SYS_SUPSTAT &&& 0x7B#32
      else if c.cold ∨ keptWarm k = false then regReset k else s.get k := by
  unfold State.chipReset
  rw [State.get_set]
  refine if_congr Iff.rfl rfl ?_
  unfold State.get
  dsimp only
  cases c.cold
  · simp only [Bool.false_eq_true, if_false, false_or, spFind_filter keptWarm]
    cases keptWarm k <;> rfl
  · simp

theorem startsReset_chipReset : StartsReset s (s.chipReset c) c := by
  refine ⟨rfl, ?_, fun ax j => ?_, fun ax => ?_, rfl, rfl, rfl, rfl, fun k hk hlost => ?_, fun hwarm k hk hkept => ?_⟩
  · simp [State.chipReset, State.set]
  · simp only [State.leg, State.chipReset, State.set, vget_replicate]
  · simp only [State.me, State.chipReset, State.set, vget_replicate]
  · rw [get_chipReset, if_neg hk, if_pos hlost]
  · rw [get_chipReset, if_neg hk, if_neg (by simp [hwarm, hkept])]

/-- What the supplies' levels then read is no part of it. -/
theorem StartsReset.set_supstat (h : StartsReset s t c) (v : Word) : StartsReset s (t.set R.SYS_SUPSTAT v) c := by
  obtain ⟨hreset, hpend, hleg, hme, hctx, hfc, hflash, hwj, hlost, hkept⟩ := h
  exact ⟨hreset, hpend, hleg, hme, hctx, hfc, hflash, hwj,
    fun k hk hl => (State.get_set_ne _ _ hk).trans (hlost k hk hl), fun hw k hk hl => (State.get_set_ne _ _ hk).trans (hkept hw k hk hl)⟩

/-- Nor is the way round in which the supply is connected. -/
theorem StartsReset.set_reversed (h : StartsReset s t c) (b : Bool) : StartsReset s { t with sys := { t.sys with reversed := b } } c := h

/-- A port's access changes nothing that a chip reset looks at. -/
theorem StartsReset.of_opened (h : StartsReset (s.opened m) t c) : StartsReset s t c := by
  cases m <;> exact h

theorem brownMask_keeps (u : Supply) (w : Word) : w &&& 0x7B#32 &&& brownMask u = w &&& brownMask u := by
  rw [BitVec.and_assoc]
  cases u <;> rfl

/-! ### SYS_RSTCTL, the watchdog and the wake -/

/-- CRST of EXEC or MAINT, which may set every bit of SYS_RSTCTL (R78). -/
theorem rstctl_chip (hm : m = .exec ∨ m = .maint) (hkey : fldOf w 31 16 = 0x9E37) (hbit : bitOf w 0 = true) :
    s.rstctl m w = s.chipReset .swrst := by
  have hall : fldOf w 2 0 &&& 7 = fldOf w 2 0 := by
    have hlt : fldOf w 2 0 < 2 ^ 3 := by unfold fldOf; omega
    exact (Nat.and_two_pow_sub_one_eq_mod _ 3).trans (Nat.mod_eq_of_lt hlt)
  unfold State.rstctl
  rcases hm with rfl | rfl <;> simp [hkey, hbit, hall]

theorem exec_crst (h : s.opens m 0x01 = true) : exec (.crst m w) s = .next ((s.opened m).rstctl m w) :=
  congrArg _ (access_of_opens _ h)

theorem exec_watchdogExpiry : exec .watchdogExpiry s = .next (if s.wdExpired then s.quiet.chipReset .wdt else s.quiet) := rfl

theorem exec_wake (src : Word) (ns : Nat) : exec (.wake src ns) s = .next (s.quiet.wakeUp src ns) := rfl

theorem exec_wakeTimerExpiry (ns : Nat) : exec (.wakeTimerExpiry ns) s = .next (s.quiet.wakeUp 0x200000#32 ns) := rfl

/-- A wake by an enabled source that can wake (R76, R77). -/
theorem wakeUp_wakes {src : Word} {ns : Nat} (hasleep : s.sys.asleep = true) (hhit : src &&& s.get R.SYS_WAKECFG &&& s.wakeable ≠ 0#32) :
    StartsReset s (s.wakeUp src ns) .wake ∧ (s.wakeUp src ns).sys.wakeHeld = src &&& s.get R.SYS_WAKECFG &&& s.wakeable
      ∧ (s.wakeUp src ns).sys.wakeTime = some (s.sys.time + ns) := by
  have hgo : ¬(!s.sys.asleep || decide (src &&& s.get R.SYS_WAKECFG &&& s.wakeable = 0#32)) = true := by simp [hasleep, hhit]
  unfold State.wakeUp
  dsimp only
  rw [if_neg hgo]
  exact ⟨startsReset_chipReset, rfl, rfl⟩

theorem wakeUp_awake {src : Word} {ns : Nat} (h : s.sys.asleep = false) : s.wakeUp src ns = s := by
  simp [State.wakeUp, h]

/-- The wake timer can always wake, so it does where it is enabled. -/
theorem wakeTimer_hits (h : s.bit R.SYS_WAKECFG 21 = true) : 0x200000#32 &&& s.get R.SYS_WAKECFG &&& s.wakeable = 0x200000#32 := by
  have hbit : (s.get R.SYS_WAKECFG).getLsbD 21 = true := h
  have hcan : s.wakeable.getLsbD 21 = true := by simp [State.wakeable]
  have htwo : (0x200000#32 : Word) = BitVec.twoPow 32 21 := by decide
  rw [htwo, BitVec.twoPow_and, if_pos hbit, BitVec.twoPow_and, if_pos hcan]

/-- Settles O4: every cause comes to one operation, of which one lemma says what it leaves. -/
theorem chipResetStarts : Obligations.ChipResetStarts := by
  unfold Obligations.ChipResetStarts
  refine fun s => ⟨⟨_, rfl, (startsReset_chipReset.set_supstat _).set_reversed _, rfl,
      (s.quiet.chipReset .por).get_set_same R.SYS_SUPSTAT 3#32⟩,
    fun u => ⟨_, rfl, startsReset_chipReset.set_supstat _, ?_⟩,
    ⟨_, rfl, (startsReset_chipReset.set_supstat _).set_reversed _, rfl⟩, ⟨_, rfl, startsReset_chipReset⟩,
    fun m w hm hopen hkey hbit => ?_, fun w hopen hw => ?_, fun hport hen hexec hlate => ?_, fun hearly => ?_, fun src ns hasleep hhit => ?_, fun ns hasleep hen => ?_, fun src ns hawake => ?_⟩
  · rw [State.get_set_same, get_chipReset, if_pos rfl, brownMask_keeps]
    cases u <;> rfl
  · exact ⟨_, (exec_crst hopen).trans (congrArg _ (rstctl_chip hm hkey hbit)), startsReset_chipReset.of_opened⟩
  · refine ⟨_, exec_watchdogKick_exec hopen, ?_⟩
    rw [State.wdKick, if_neg (by decide), if_neg hw]
    exact startsReset_chipReset.of_opened
  · refine ⟨_, exec_watchdogExpiry.trans (congrArg _ (if_pos ?_)), startsReset_chipReset⟩
    simp [State.wdExpired, hport, hen, hexec, hlate]
  · refine exec_watchdogExpiry.trans (congrArg _ (if_neg ?_))
    simp only [State.wdExpired, Bool.and_eq_true, decide_eq_true_eq]
    omega
  · exact ⟨_, exec_wake src ns, wakeUp_wakes (s := s.quiet) hasleep hhit⟩
  · have hhit := wakeTimer_hits (s := s.quiet) hen
    obtain ⟨hstarts, hheld, _⟩ := wakeUp_wakes (s := s.quiet) (src := 0x200000#32) (ns := ns) hasleep (by rw [hhit]; decide)
    exact ⟨_, exec_wakeTimerExpiry ns, hstarts, hheld.trans hhit⟩
  · rw [exec_wake, wakeUp_awake (s := s.quiet) hawake]

end Sys2Proof.Machine
end

section
/-! PROOFS. Supply supervision: the VSUP warning, ride-through, and the levels of VG and VIO. -/

namespace Sys2Proof.Machine

variable {s t : State} {mv src : Nat} {d : Word}

/-! ### What supervision writes -/

/-- `t` differs from `s` at most in SYS_SUPSTAT and in the time at which ride-through ends. -/
def OnlySupplies (s t : State) : Prop :=
  t = { s with regs := t.regs, sys := { s.sys with rtEnd := t.sys.rtEnd } } ∧ ∀ k, k ≠ R.SYS_SUPSTAT → t.get k = s.get k

theorem onlySupplies_setBit (i : Nat) (b : Bool) : OnlySupplies s (s.setBit R.SYS_SUPSTAT i b) :=
  ⟨rfl, fun _ hk => State.get_set_ne _ _ hk⟩

theorem OnlySupplies.bit (h : OnlySupplies s t) {k : Nat} (hk : k ≠ R.SYS_SUPSTAT) (i : Nat) : t.bit k i = s.bit k i := by
  unfold State.bit
  rw [h.2 k hk]

/-- A bit of SYS_SUPSTAT after a write of one. -/
theorem bit_supstat_setBit {i : Nat} (hi : i < 32) (b : Bool) (j : Nat) :
    (s.setBit R.SYS_SUPSTAT i b).bit R.SYS_SUPSTAT j = if j = i then b else s.bit R.SYS_SUPSTAT j := by
  rw [State.bit_setBit _ _ _ _ _ _ hi]
  exact if_congr (and_iff_right rfl) rfl rfl

theorem OnlySupplies.plain (h : OnlySupplies s t) (hp : Plain s src d) : Plain t src d := by
  refine plain_congr (by rw [h.1]) (by rw [h.1]) (h.2 _ (by decide)) (h.2 _ ?_) hp
  unfold R.FC_SRC R.SYS_SUPSTAT regKey
  omega

/-- A level of the supplies starts after its bit is written: the source is raised, and nothing but the collector follows. -/
theorem OnlySupplies.raiseLevel (h : OnlySupplies s t) (hsrc : src < 126) (ha : s.present src = false) (hp : Plain s src d) :
    RaisedIn s (t.raiseLevel src d) src d ∧ (t.raiseLevel src d).present src = true ∧ OnlyCollector t (t.raiseLevel src d) := by
  have ha' : t.present src = false := by rw [h.1]; exact ha
  obtain ⟨hraised, hpresent, honly⟩ := raiseLevel_spec ha' (h.plain hp) hsrc
  exact ⟨raisedIn_congr (by rw [h.1]) (by rw [h.1]) hraised, hpresent, honly⟩

/-! ### The warning -/

/-- The state as a warning starts, before its source is raised: WARN reads 1, and ride-through goes on where SYS_SUPCFG enables it (R65,
R68). -/
def warnMarked (s : State) : State :=
  let s := s.setBit R.SYS_SUPSTAT 2 true
  if s.bit R.SYS_SUPCFG 30 then { s.setBit R.SYS_SUPSTAT 7 true with sys := { s.sys with rtEnd := none } } else s

theorem vsupWarn_of_warns (h : s.warns mv = true) : s.vsupWarn mv = (warnMarked s).raiseLevel 6 ((warnMarked s).get R.SYS_SUPSTAT) := by
  rw [State.vsupWarn, h]
  rfl

theorem warnMarked_spec (s : State) : OnlySupplies s (warnMarked s) ∧ (warnMarked s).bit R.SYS_SUPSTAT 2 = true
    ∧ (warnMarked s).rideThrough = (s.bit R.SYS_SUPCFG 30 || s.rideThrough) := by
  have hmarked : OnlySupplies s (s.setBit R.SYS_SUPSTAT 2 true) := onlySupplies_setBit 2 true
  have hwarn : (s.setBit R.SYS_SUPSTAT 2 true).bit R.SYS_SUPSTAT 2 = true := by rw [bit_supstat_setBit (by decide), if_pos rfl]
  unfold warnMarked
  dsimp only
  rw [hmarked.bit (by decide)]
  cases s.bit R.SYS_SUPCFG 30 with
  | true =>
    rw [if_pos rfl]
    refine ⟨⟨rfl, fun k hk => ((onlySupplies_setBit 7 true).2 k hk).trans (hmarked.2 k hk)⟩, ?_, ?_⟩
    · exact ((bit_supstat_setBit (by decide) true 2).trans (if_neg (by decide))).trans hwarn
    · exact (bit_supstat_setBit (by decide) true 7).trans (if_pos rfl)
  | false =>
    rw [if_neg Bool.false_ne_true]
    exact ⟨hmarked, hwarn, (bit_supstat_setBit (by decide) true 7).trans (if_neg (by decide))⟩

theorem exec_vsupWarnAssert_plain (h : (s.quiet.vsupWarn mv).fwRuns = false) :
    exec (.vsupWarnAssert mv) s = .next (s.quiet.vsupWarn mv) := by
  show Host.Outcome.next (if s.warns mv && (s.quiet.vsupWarn mv).fwRuns then _ else _) = _
  rw [h, Bool.and_false, if_neg Bool.false_ne_true]

/-- A warning that starts outside firmware (R65, R67, R68). -/
theorem vsupWarn_starts (hen : s.bit R.SYS_SUPCFG 31 = true) (hlow : mv < s.warnLevel) (hcore : s.sys.exec ≠ .firmware)
    (ha : s.present 6 = false) (hp : ∀ d, Plain s 6 d) :
    ∃ t d, exec (.vsupWarnAssert mv) s = .next t ∧ t.bit R.SYS_SUPSTAT 2 = true ∧ RaisedIn s t 6 d ∧ t.present 6 = true
      ∧ (s.bit R.SYS_SUPCFG 30 = true → t.rideThrough = true) ∧ (s.bit R.SYS_SUPCFG 30 = false → t.rideThrough = s.rideThrough)
      ∧ (∀ k, k ≠ R.SYS_SUPSTAT → t.get k = s.get k) ∧ t.mot = s.mot ∧ t.pwm = s.pwm := by
  have hwarns : s.quiet.warns mv = true := by
    show (s.bit R.SYS_SUPCFG 31 && decide (mv < s.warnLevel)) = true
    rw [hen, decide_eq_true hlow]
    rfl
  obtain ⟨hmark, hwarn, hride⟩ := warnMarked_spec s.quiet
  obtain ⟨hraised, hpresent, honly⟩ := hmark.raiseLevel (d := (warnMarked s.quiet).get R.SYS_SUPSTAT) (by decide) ha (hp _)
  rw [← vsupWarn_of_warns hwarns] at hraised hpresent honly
  have hexec : (s.quiet.vsupWarn mv).fwRuns = false := by
    have hsys : (s.quiet.vsupWarn mv).sys.exec = s.sys.exec := by rw [honly, hmark.1]; rfl
    simp [State.fwRuns, hsys, hcore]
  obtain ⟨hmot, hpwm, _⟩ := honly.stands
  have hrideThrough : (s.quiet.vsupWarn mv).rideThrough = (s.bit R.SYS_SUPCFG 30 || s.rideThrough) := (honly.bit _ _).trans hride
  refine ⟨_, _, exec_vsupWarnAssert_plain hexec, (honly.bit _ _).trans hwarn, hraised, hpresent, fun h => ?_, fun h => ?_,
    fun k hk => (honly.get k).trans (hmark.2 k hk), ?_, ?_⟩
  · rw [hrideThrough, h, Bool.true_or]
  · rw [hrideThrough, h, Bool.false_or]
  · rw [hmot, hmark.1]; rfl
  · rw [hpwm, hmark.1]; rfl

theorem vsupWarnAssert_above (h : s.warnLevel ≤ mv) : exec (.vsupWarnAssert mv) s = .next s.quiet := by
  have hoff : s.warns mv = false := by simp [State.warns, h]
  have hkeep : s.quiet.vsupWarn mv = s.quiet := by
    rw [State.vsupWarn, show s.quiet.warns mv = false from hoff]
    rfl
  show Host.Outcome.next (if s.warns mv && (s.quiet.vsupWarn mv).fwRuns then _ else _) = _
  rw [hoff, Bool.false_and, if_neg Bool.false_ne_true, hkeep]

/-! ### Its end -/

theorem exec_vsupWarnRelease :
    exec (.vsupWarnRelease mv) s = .next (if s.warnLevel + 500 < mv then s.quiet.vsupWarnEnd else s.quiet) := rfl

theorem exec_rideThroughEnd : exec .rideThroughEnd s = .next s.quiet.rtEnd := rfl

/-- WARN ends: the source's condition ends with it, and ride-through will end RTEXT ms later, unless an end stands already (R67, R68). -/
theorem vsupWarnEnd_spec (h : s.bit R.SYS_SUPSTAT 2 = true) :
    s.vsupWarnEnd.bit R.SYS_SUPSTAT 2 = false ∧ s.vsupWarnEnd.present 6 = false ∧ s.vsupWarnEnd.rideThrough = s.rideThrough
    ∧ (s.rideThrough = true → s.sys.rtEnd = none → s.vsupWarnEnd.sys.rtEnd = some (s.sys.cyc + s.fld R.SYS_SUPCFG 23 16 * 200000))
    ∧ s.vsupWarnEnd.fc = s.fc ∧ ∀ k, k ≠ R.SYS_SUPSTAT → s.vsupWarnEnd.get k = s.get k := by
  have hride : ((s.setBit R.SYS_SUPSTAT 2 false).drop 6).rideThrough = s.rideThrough :=
    (bit_supstat_setBit (by decide) false 7).trans (if_neg (by decide))
  unfold State.vsupWarnEnd
  rw [h]
  refine ⟨(bit_supstat_setBit (by decide) false 2).trans (if_pos rfl), present_drop _ 6 (by decide), hride, fun hr hnone => ?_, rfl,
    (onlySupplies_setBit 2 false).2⟩
  show (if ((s.setBit R.SYS_SUPSTAT 2 false).drop 6).rideThrough = true then _ else none) = _
  rw [hride, if_pos hr, if_pos hr, hnone]
  rfl

/-- Ride-through ends once WARN is 0 and its time has come; until then it stands (R68). -/
theorem rtEnd_spec (s : State) :
    s.rtEnd.rideThrough = (s.rideThrough && (s.bit R.SYS_SUPSTAT 2 || s.sys.rtEnd.any (s.sys.cyc < ·)))
    ∧ s.rtEnd.bit R.SYS_SUPSTAT 2 = s.bit R.SYS_SUPSTAT 2 ∧ ∀ k, k ≠ R.SYS_SUPSTAT → s.rtEnd.get k = s.get k := by
  unfold State.rtEnd
  cases s.bit R.SYS_SUPSTAT 2 || s.sys.rtEnd.any (s.sys.cyc < ·) with
  | true =>
    rw [if_pos rfl, Bool.and_true]
    exact ⟨rfl, rfl, fun _ _ => rfl⟩
  | false =>
    rw [if_neg Bool.false_ne_true, Bool.and_false]
    exact ⟨(bit_supstat_setBit (by decide) false 7).trans (if_pos rfl), (bit_supstat_setBit (by decide) false 2).trans (if_neg (by decide)),
      (onlySupplies_setBit 7 false).2⟩

/-! ### VIO -/

/-- VIO_LIM starts (R62). -/
theorem vioLimit_starts (ha : s.present 8 = false) (hp : ∀ d, Plain s 8 d) :
    ∃ t d, exec (.vioLimit true) s = .next t ∧ t.bit R.SYS_SUPSTAT 6 = true ∧ t.present 8 = true ∧ RaisedIn s t 8 d
      ∧ ∀ k, k ≠ R.SYS_SUPSTAT → t.get k = s.get k := by
  have hset : OnlySupplies s.quiet (s.quiet.setBit R.SYS_SUPSTAT 6 true) := onlySupplies_setBit 6 true
  obtain ⟨hraised, hpresent, honly⟩ :=
    hset.raiseLevel (d := (s.quiet.setBit R.SYS_SUPSTAT 6 true).get R.SYS_SUPSTAT) (by decide) ha (hp _)
  exact ⟨_, _, rfl, (honly.bit _ _).trans ((bit_supstat_setBit (by decide) true 6).trans (if_pos rfl)), hpresent, hraised,
    fun k hk => (honly.get k).trans (hset.2 k hk)⟩

/-- Settles O6: supervision writes SYS_SUPSTAT and ride-through's end, and a level that starts raises its source. -/
theorem supplySupervisionActs : Obligations.SupplySupervisionActs := by
  unfold Obligations.SupplySupervisionActs
  refine fun s => ⟨fun mv hen hlow hcore ha hp => vsupWarn_starts hen hlow hcore ha hp, fun mv hwarn hhigh => ?_,
    ⟨_, exec_rideThroughEnd, rtEnd_spec s.quiet⟩, fun mv h => vsupWarnAssert_above h, fun mv hlow => ?_,
    ⟨_, rfl, (bit_supstat_setBit (by decide) true 3).trans (if_pos rfl), present_drop _ 7 (by decide), rfl, (onlySupplies_setBit 3 true).2⟩,
    ⟨_, rfl, (bit_supstat_setBit (by decide) false 6).trans (if_pos rfl), present_drop _ 8 (by decide), rfl⟩, vioLimit_starts⟩
  · refine ⟨_, exec_vsupWarnRelease.trans (congrArg _ (if_pos ?_)), vsupWarnEnd_spec (s := s.quiet) hwarn⟩
    unfold State.warnLevel
    omega
  · refine exec_vsupWarnRelease.trans (congrArg _ (if_neg ?_))
    unfold State.warnLevel
    omega

end Sys2Proof.Machine
end

section
/-! PROOFS. The block reset: which registers it returns to reset, and which stand. -/

namespace Sys2Proof.Machine

variable {s t u v : State} {m : Master} {w : Word} {p : Nat} {ax : Axis}

/-! ### Registers -/

/-- Registers that the block reset of page `p`, the page of axis `ax`, does not settle by its page alone: those that it keeps or only partly
resets in the page, and those of the axis beside it (R73, R79, R398). -/
def exempt (p : Nat) (ax : Axis) (k : Nat) : Prop :=
  if k / 128 = p then k = R.ME_EOFS ax ∨ k = R.LNK_ADDR ∨ k = R.LNK_STAT ∨ k = R.SPL_CORE
  else k = R.PWM_THR ax ∨ k = R.LO_KF ax ∨ k = R.GD_FLT ax

/-- The registers of page `p` read their reset values in `t`, and those of other pages what they read in `s`. -/
def ReturnsPage (p : Nat) (ax : Axis) (s t : State) : Prop :=
  ∀ k, ¬exempt p ax k → t.get k = if k / 128 = p then regReset k else s.get k

theorem returnsPage_resetPage {keep : Nat → Bool} (hkeep : ∀ k, k / 128 = p → keep (k % 128) = true → exempt p ax k) :
    ReturnsPage p ax s (s.resetPage p keep) := by
  intro k hk
  rw [get_resetPage]
  by_cases hp : k / 128 = p
  · rw [if_neg (not_or.2 ⟨not_not.2 hp, fun h => hk (hkeep k hp h)⟩), if_pos hp]
  · rw [if_pos (.inl hp), if_neg hp]

/-- Writes of exempt registers, before or after, change nothing of it. -/
theorem ReturnsPage.congr (h : ReturnsPage p ax u v) (hbefore : ∀ k, k / 128 ≠ p → u.get k = s.get k)
    (hafter : ∀ k, ¬exempt p ax k → t.get k = v.get k) : ReturnsPage p ax s t := by
  intro k hk
  rw [hafter k hk, h k hk]
  by_cases hp : k / 128 = p
  · rw [if_pos hp, if_pos hp]
  · rw [if_neg hp, if_neg hp, hbefore k hp]

theorem get_set_exempt {j k : Nat} (x : Word) (hj : exempt p ax j) (hk : ¬exempt p ax k) : (s.set j x).get k = s.get k :=
  State.get_set_ne _ _ fun h => hk (h ▸ hj)

/-! ### One page -/

/-- What the block reset of page `p` does besides its entry among the resets in progress: the page returns to reset, and a bridge or gate
driver's page turns the axis's gates off (R73). -/
structure ResetsBlock (p : Nat) (ax : Axis) (s t : State) : Prop where
  sys  : t.sys = s.sys
  page : ReturnsPage p ax s t
  legs : 0x28 ≤ p → p < 0x38 → ∀ j : Leg, t.leg ax j = {}

theorem resetsBlock_resetPage {keep : Nat → Bool} (hp : p < 0x28 ∨ 0x38 ≤ p)
    (hkeep : ∀ k, k / 128 = p → keep (k % 128) = true → exempt p ax k) :
    ResetsBlock p ax s (s.resetPage p keep) where
  sys := rfl
  page := returnsPage_resetPage hkeep
  legs h1 h2 := by omega

theorem resetsBlock_resetMe (s : State) (hp : p = 0x10 + ax) : ResetsBlock p ax s (s.resetMe ax) := by
  subst hp
  exact {
    sys := rfl
    page := by
      have hEofs : exempt (0x10 + ax) ax (R.ME_EOFS ax) := by
        rw [exempt, if_pos (by unfold R.ME_EOFS regKey; omega)]
        exact .inl rfl
      have hKf : exempt (0x10 + ax) ax (R.LO_KF ax) := by
        rw [exempt, if_neg (by unfold R.LO_KF regKey; omega)]
        exact .inr (.inl rfl)
      refine ReturnsPage.congr (u := s.movePos ax 0) (returnsPage_resetPage (keep := fun _ => false) (by simp)) (fun k hk => ?_) fun k hk => ?_
      · exact get_set_far _ _ (by unfold R.ME_EOFS regKey; omega)
      · exact (get_set_exempt _ hKf hk).trans (get_set_exempt _ hEofs hk)
    legs h1 h2 := by omega }

theorem resetsBlock_resetCoil (s : State) (hp : p = 0x20 + ax) : ResetsBlock p ax s (s.resetCoil ax) := by
  subst hp
  exact {
    sys := rfl
    page := by
      have hThr : exempt (0x20 + ax) ax (R.PWM_THR ax) := by
        rw [exempt, if_neg (by unfold R.PWM_THR regKey; omega)]
        exact .inl rfl
      exact ReturnsPage.congr (u := s) (returnsPage_resetPage (keep := fun _ => false) (by simp)) (fun k _ => rfl)
        fun k hk => get_set_exempt _ hThr hk
    legs h1 h2 := by omega }

theorem resetsBlock_resetPwm (s : State) (hp : p = 0x28 + ax) : ResetsBlock p ax s (s.resetPwm ax) := by
  subst hp
  exact {
    sys := rfl
    page := by
      have hFlt : exempt (0x28 + ax) ax (R.GD_FLT ax) := by
        rw [exempt, if_neg (by unfold R.GD_FLT regKey; omega)]
        exact .inr (.inr rfl)
      exact ReturnsPage.congr (u := s.gatesOff ax) (returnsPage_resetPage (keep := fun _ => false) (by simp)) (fun k _ => rfl)
        fun k hk => get_set_exempt _ hFlt hk
    legs _ _ j := by
      show vget (PwmAx.legs (vget (vset _ ax _) ax)) j = _
      rw [vget_vset_same]
      exact vget_replicate _ _ _ }

theorem resetsBlock_resetGd (s : State) (hp : p = 0x30 + ax) : ResetsBlock p ax s (s.resetGd ax) := by
  subst hp
  exact {
    sys := rfl
    page := ReturnsPage.congr (u := s.gatesOff ax) (returnsPage_resetPage (keep := fun _ => false) (by simp)) (fun _ _ => rfl) fun _ _ => rfl
    legs _ _ j := by
      show vget (PwmAx.legs (vget (vset _ ax _) ax)) j = _
      rw [vget_vset_same]
      exact vget_replicate _ _ _ }

/-- Blocks whose state is of their page alone. -/
theorem ResetsBlock.of_regs (h : ResetsBlock p ax s t) (hsys : v.sys = t.sys) (hregs : v.regs = t.regs) (hp : p < 0x28 ∨ 0x38 ≤ p) :
    ResetsBlock p ax s v where
  sys := hsys.trans h.sys
  page := h.page.congr (fun _ _ => rfl) fun k _ => State.get_congr hregs k
  legs h1 h2 := by omega

theorem resetsBlock_resetCsm (s : State) (ax : Axis) : ResetsBlock 0x40 ax s s.resetCsm :=
  (resetsBlock_resetPage (keep := fun _ => false) (by omega) (by simp)).of_regs rfl rfl (by omega)

theorem resetsBlock_resetPc (s : State) {c : Conv} (hp : p = 0x41 + c) : ResetsBlock p ax s (s.resetPc c) := by
  subst hp
  exact (resetsBlock_resetPage (keep := fun _ => false) (by omega) (by simp)).of_regs rfl rfl (by omega)

theorem resetsBlock_resetMsp (s : State) (ax : Axis) : ResetsBlock 0x60 ax s s.resetMsp :=
  (resetsBlock_resetPage (keep := fun _ => false) (by omega) (by simp)).of_regs rfl rfl (by omega)

theorem resetsBlock_resetSpl (s : State) (ax : Axis) : ResetsBlock 0x61 ax s s.resetSpl := by
  refine resetsBlock_resetPage (by omega) fun k hk hkeep => ?_
  have hindex : k % 128 = 0x04 := of_decide_eq_true hkeep
  rw [exempt, if_pos hk]
  exact .inr (.inr (.inr (by unfold R.SPL_CORE regKey; omega)))

theorem foldl_drop_stands {α : Type} (f : α → Nat) (l : List α) (s : State) :
    (l.foldl (fun s a => s.drop (f a)) s).sys = s.sys ∧ (l.foldl (fun s a => s.drop (f a)) s).regs = s.regs :=
  List.foldlRecOn l _ (motive := fun t : State => t.sys = s.sys ∧ t.regs = s.regs) ⟨rfl, rfl⟩ fun _ h _ _ => h

theorem resetsBlock_resetCmp (s : State) (ax : Axis) : ResetsBlock 0x48 ax s s.resetCmp := by
  obtain ⟨hsys, hregs⟩ := foldl_drop_stands (fun w : Fin 8 => 104 + w.val) (List.finRange 8)
    ({ (s.resetPage 0x48 fun _ => false) with cmp := Vector.replicate 16 {} })
  exact (resetsBlock_resetPage (keep := fun _ => false) (by omega) (by simp)).of_regs hsys hregs (by omega)

theorem resetsBlock_resetLink (s : State) (ax : Axis) : ResetsBlock 0x58 ax s s.resetLink := by
  have hkept {k : Nat} (h : k = R.LNK_ADDR ∨ k = R.LNK_STAT) : exempt 0x58 ax k := by
    rw [exempt, if_pos (by rcases h with rfl | rfl <;> rfl)]
    exact .inr (h.imp_right .inl)
  have hpage : ResetsBlock 0x58 ax s (s.resetPage 0x58 fun i => i = 0x02) :=
    resetsBlock_resetPage (by omega) fun k hk hkeep => hkept (.inl (by
      have hindex : k % 128 = 0x02 := of_decide_eq_true hkeep
      unfold R.LNK_ADDR regKey
      omega))
  have hrole (x : Nat) : ResetsBlock 0x58 ax s ((s.resetPage 0x58 fun i => i = 0x02).setFld R.LNK_STAT 1 0 x) :=
    ⟨hpage.sys, hpage.page.congr (fun _ _ => rfl) fun k hk => get_set_exempt _ (hkept (.inr rfl)) hk, fun h1 h2 => by omega⟩
  unfold State.resetLink
  dsimp only
  obtain ⟨hsys, hregs⟩ := foldl_drop_stands (fun i : Nat => 112 + i) (List.range 7) _
  exact (hrole _).of_regs hsys hregs (by omega)

/-! ### The operation -/

/-- The block reset of an admitted page, outside a chip reset. -/
theorem blockReset_spec (hrun : s.sys.chipReset = false) (hadm : brstAdmits p = true) :
    p ∈ (s.blockReset p).sys.blockRst ∧ ReturnsPage p (axisAt p) s (s.blockReset p)
      ∧ (0x28 ≤ p → p < 0x38 → ∀ j : Leg, (s.blockReset p).leg (axisAt p) j = {}) := by
  have hgo : ¬((s.sys.chipReset = true) ∨ (!brstAdmits p) = true) := by simp [hrun, hadm]
  have hfrom {u t : State} (hu : u = { s with sys := { s.sys with blockRst := p :: s.sys.blockRst.filter (· ≠ p) } })
      (h : ResetsBlock p (axisAt p) u t) : p ∈ (t.settleParity p).sys.blockRst ∧ ReturnsPage p (axisAt p) s (t.settleParity p)
        ∧ (0x28 ≤ p → p < 0x38 → ∀ j : Leg, (t.settleParity p).leg (axisAt p) j = {}) := by
    have hsame : (t.settleParity p).sys = t.sys ∧ ∀ j : Leg, (t.settleParity p).leg (axisAt p) j = t.leg (axisAt p) j := by
      unfold State.settleParity
      split <;> exact ⟨rfl, fun _ => rfl⟩
    refine ⟨?_, h.page.congr (fun k _ => by rw [hu]; rfl) fun k _ => get_settleParity _ _ _, fun h1 h2 j => (hsame.2 j).trans (h.legs h1 h2 j)⟩
    rw [hsame.1, h.sys, hu]
    exact List.mem_cons_self
  have hax : (axisAt p : Nat) = p % 8 := rfl
  have hadm' := hadm
  simp only [brstAdmits, Bool.or_eq_true, Bool.and_eq_true, decide_eq_true_eq] at hadm'
  unfold State.blockReset
  rw [if_neg hgo]
  refine hfrom rfl ?_
  generalize ({ s with sys := { s.sys with blockRst := p :: s.sys.blockRst.filter (· ≠ p) } } : State) = u
  split_ifs with hme hcoil hpwm hgd hcsm hpc hcmp hlink hmsp
  · exact resetsBlock_resetMe u (by omega)
  · exact resetsBlock_resetCoil u (by omega)
  · exact resetsBlock_resetPwm u (by omega)
  · exact resetsBlock_resetGd u (by omega)
  · subst hcsm
    exact resetsBlock_resetCsm u _
  · exact resetsBlock_resetPc u (by show p = 0x41 + (p - 0x41) % 4; omega)
  · subst hcmp
    exact resetsBlock_resetCmp u _
  · subst hlink
    exact resetsBlock_resetLink u _
  · subst hmsp
    exact resetsBlock_resetMsp u _
  · obtain rfl : p = 0x61 := by omega
    exact resetsBlock_resetSpl u _

/-- A write of SYS_BRST by EXEC or MAINT with the key and an admitted page (R78). -/
theorem brstWrite_admitted (hm : m = .exec ∨ m = .maint) (hkey : fldOf w 31 16 = 0x9E37) (hadm : brstAdmits (fldOf w 6 0) = true) :
    s.brstWrite m w = s.blockReset (fldOf w 6 0) := by
  have hmaster : ¬(m ≠ .exec ∧ m ≠ .maint) := by rcases hm with rfl | rfl <;> simp
  unfold State.brstWrite
  exact if_neg (by simp [hmaster, hkey, hadm])

theorem exec_blockReset (h : s.opens m 0x01 = true) : exec (.blockReset m w) s = .next ((s.opened m).brstWrite m w) :=
  congrArg _ (access_of_opens _ h)

/-- A write reaches its register outside a chip reset alone. -/
theorem running_of_opens {page : Nat} (h : s.opens m page = true) : s.sys.chipReset = false := by
  unfold State.opens State.opensRead State.portOpen at h
  cases hreset : s.sys.chipReset with
  | false => rfl
  | true => simp [hreset] at h

/-- Settles O8: each page's block reset returns that page's registers, and what it writes besides are the axis's exempt ones. -/
theorem blockResetReturnsItsPage : Obligations.BlockResetReturnsItsPage := by
  unfold Obligations.BlockResetReturnsItsPage
  refine ⟨fun s m w p hopen hm hkey hp hadm => ?_, fun _ _ => rfl⟩
  subst hp
  obtain ⟨hin, hpage, hlegs⟩ := blockReset_spec (s := s.opened m) ((congrArg Sys.chipReset (opened_sys s m)).trans (running_of_opens hopen)) hadm
  have hwithin := blockReset_within (s.opened m) (fldOf w 6 0)
  refine ⟨_, (exec_blockReset hopen).trans (congrArg _ (brstWrite_admitted hm hkey hadm)), hin, fun i hi hEofs hAddr hStat hCore => ?_,
    fun k hk hThr hKf hFlt => ?_, hlegs, ?_, ?_, ?_, ?_, ?_, ?_⟩
  · have hk : regKey (fldOf w 6 0) i / 128 = fldOf w 6 0 := regKey_div _ i hi
    rw [hpage _ (by rw [exempt, if_pos hk]; simp [hEofs, hAddr, hStat, hCore]), if_pos hk]
  · rw [hpage _ (by rw [exempt, if_neg hk]; simp [hThr, hKf, hFlt]), if_neg hk, opened_get]
  · rw [hwithin]; exact opened_ctxRam s m
  · rw [hwithin]; exact opened_fc s m
  · rw [hwithin]; exact opened_spool s m
  · rw [hwithin]; exact opened_saf s m
  · rw [hwithin]; exact opened_fw s m
  · rw [hwithin]; cases m <;> rfl

end Sys2Proof.Machine
end

section
/-! PROOFS. The power states: requests by SYS_PWRCTL, IDLE, and the return of PLL-B. -/

namespace Sys2Proof.Machine

variable {s t u : State} {m : Master} {w : Word} {ax : Axis}

/-! ### Requests -/

theorem exec_runRequest (h : s.opens m 0x01 = true) : exec (.runRequest m w) s = .next ((s.opened m).pwrctl m w) :=
  congrArg _ (access_of_opens _ h)

theorem exec_standbyRequest (h : s.opens m 0x01 = true) : exec (.standbyRequest m w) s = .next ((s.opened m).pwrctl m w) :=
  congrArg _ (access_of_opens _ h)

/-- Before firmware runs, a SLEEP request is the write alone (R74). -/
theorem exec_sleepRequest (h : s.opens m 0x01 = true) (hcore : s.sys.exec ≠ .firmware) :
    exec (.sleepRequest m w) s = .next ((s.opened m).pwrctl m w) := by
  have hstill : (s.opened m).fwRuns = false := by simp [State.fwRuns, hcore]
  show Host.Outcome.next (s.access m R.SYS_PWRCTL _) = _
  rw [access_of_opens _ h, hstill]
  simp

section
variable (hkey : fldOf w 31 16 = 0x9E37)
include hkey

theorem pwrctl_run (hreq : fldOf w 1 0 = 0) : s.pwrctl .exec w = s.pwrAccept 0 := by
  simp [State.pwrctl, hkey, hreq]

theorem pwrctl_standby (hreq : fldOf w 1 0 = 2) : s.pwrctl .exec w = if (List.finRange 8).any s.axisBusy then s.setFld R.SYS_PWRSTAT 18 16 1
    else if s.standby then s.pwrAccept 2 else (s.pwrAccept 2).enterStandby := by
  simp only [State.pwrctl, hkey, hreq]
  rfl

theorem pwrctl_sleep_elsewhere (hreq : fldOf w 1 0 = 3) (hstandby : s.standby = false) : s.pwrctl .exec w = s.setFld R.SYS_PWRSTAT 18 16 2 := by
  simp [State.pwrctl, hkey, hreq, hstandby]

theorem pwrctl_sleep_standby (hreq : fldOf w 1 0 = 3) (hstandby : s.standby = true) (hidle : ∀ k d, s.spool.wjOp ≠ .write k d) :
    s.pwrctl .exec w = if s.get R.SYS_WAKECFG = 0#32 then s.setFld R.SYS_PWRSTAT 18 16 4 else (s.pwrAccept 3).enterSleep := by
  cases hop : s.spool.wjOp with
  | write k d => exact absurd hop (hidle k d)
  | _ => simp [State.pwrctl, hkey, hreq, hstandby, hop]

end

theorem pwrctl_ignored (hkey : fldOf w 31 16 ≠ 0x9E37) : s.pwrctl m w = s.writeIgnored m R.SYS_PWRCTL := by
  simp [State.pwrctl, hkey]

/-- A request accepted (R75). -/
theorem pwrAccept_spec (n : Nat) : (s.pwrAccept n).get R.SYS_PWRCTL = wordOfNat n ∧ (s.pwrAccept n).fld R.SYS_PWRSTAT 18 16 = 0
    ∧ (s.pwrAccept n).fld R.SYS_PWRSTAT 1 0 = s.fld R.SYS_PWRSTAT 1 0
    ∧ OnlyRegs (fun k => k = R.SYS_PWRCTL ∨ k = R.SYS_PWRSTAT) s (s.pwrAccept n) := by
  unfold State.pwrAccept
  refine ⟨?_, State.fld_setFld_same _ _ _ _ _ (by decide) (by decide), ?_,
    (onlyRegs_set (.inl rfl)).trans (onlyRegs_setFld (.inr rfl))⟩
  · rw [State.get_setFld, if_neg (by decide), State.get_set_same]
  · rw [State.fld_setFld_other _ _ _ _ _ _ _ _ (by decide) (by decide) (by decide), State.fld_set, if_neg (by decide)]

/-- A request refused for reason `n`. -/
theorem refused_spec {n : Nat} (hn : n < 8) : (s.setFld R.SYS_PWRSTAT 18 16 n).fld R.SYS_PWRSTAT 18 16 = n
    ∧ (s.setFld R.SYS_PWRSTAT 18 16 n).standby = s.standby := by
  refine ⟨(State.fld_setFld_same _ _ _ _ _ (by decide) (by decide)).trans (Nat.mod_eq_of_lt hn), ?_⟩
  unfold State.standby
  rw [State.fld_setFld_other _ _ _ _ _ _ _ _ (by decide) (by decide) (by decide)]

/-! ### STANDBY -/

/-- `t` differs from `s` at most in the modulators and converters. -/
def OnlyConverters (s t : State) : Prop := t = { s with csm := t.csm, pc := t.pc }

theorem OnlyConverters.refl (s : State) : OnlyConverters s s := rfl

theorem OnlyConverters.trans (h : OnlyConverters s t) (g : OnlyConverters t u) : OnlyConverters s u := by
  unfold OnlyConverters at *
  rw [g, h]

theorem OnlyConverters.regs (h : OnlyConverters s t) : t.regs = s.regs := by rw [h]

/-- A bridge pair as STANDBY leaves it: its gates off, its EN 0, and nothing found (R74). -/
def bridgesDisabled (s : State) (ax : Axis) : State := (((s.gatesOff ax).setBit (R.PWM_CFG ax) 31 false).mend (R.PWM_CFG ax)).dropVds ax

/-- A converter as STANDBY leaves it: what ran ends without results (R286). -/
def conversionsEnded (s : State) (p : Conv) : State := s.onPc p fun c =>
  { c with held := c.rrun, rrun := false, iIdx := none, calPend := none, calRun := none, settle := false
           calAb := c.calAb || c.calRun.isSome || c.calPend.isSome }

theorem enterStandby_eq (s : State) : s.enterStandby
    = (forAll 4 ((forAll 8 s bridgesDisabled).setBit R.CLK_STAT 2 false) conversionsEnded).setFld R.SYS_PWRSTAT 1 0 2 := rfl

theorem bridgesDisabled_stands : (bridgesDisabled s ax).mot = s.mot ∧ (bridgesDisabled s ax).saf = s.saf
    ∧ (bridgesDisabled s ax).pwm = (s.gatesOff ax).pwm := by
  unfold bridgesDisabled
  rw [mend_frame]
  exact ⟨rfl, rfl, rfl⟩

theorem leg_gatesOff (bx : Axis) (j : Leg) : (s.gatesOff ax).leg bx j = if bx = ax then {} else s.leg bx j := by
  show (vget (PwmAx.legs (vget (vset s.pwm ax _) bx)) j) = _
  rw [vget_vset]
  split
  · exact vget_replicate _ _ _
  · rfl

theorem leg_bridgesDisabled (bx : Axis) (j : Leg) : (bridgesDisabled s ax).leg bx j = if bx = ax then {} else s.leg bx j := by
  rw [← leg_gatesOff, State.leg, bridgesDisabled_stands.2.2]
  rfl

theorem get_bridgesDisabled {k : Nat} (hk : k ≠ R.GD_FLT ax) :
    (bridgesDisabled s ax).get k = if k = R.PWM_CFG ax then putBit (s.get (R.PWM_CFG ax)) 31 false else s.get k := by
  unfold bridgesDisabled State.dropVds State.setFld
  rw [State.get_drop, State.get_set_ne _ _ hk, get_mend, State.get_setBit]
  rfl

theorem pwmEn_bridgesDisabled (bx : Axis) :
    (bridgesDisabled s ax).bit (R.PWM_CFG bx) 31 = if bx = ax then false else s.bit (R.PWM_CFG bx) 31 := by
  have hflt : R.PWM_CFG bx ≠ R.GD_FLT ax := by unfold R.PWM_CFG R.GD_FLT regKey; omega
  rw [State.bit, get_bridgesDisabled hflt]
  by_cases h : bx = ax
  · subst h
    rw [if_pos rfl, if_pos rfl, bitOf_putBit_same _ _ _ (by decide)]
  · rw [if_neg (fun hcfg => h (Fin.ext (by unfold R.PWM_CFG regKey at hcfg; omega))), if_neg h, State.bit]

/-- Every bridge as STANDBY leaves it. -/
theorem bridgesDisabled_all (s : State) : (∀ (ax : Axis) (j : Leg), (forAll 8 s bridgesDisabled).leg ax j = {})
    ∧ (∀ ax : Axis, (forAll 8 s bridgesDisabled).bit (R.PWM_CFG ax) 31 = false)
    ∧ (forAll 8 s bridgesDisabled).mot = s.mot ∧ (forAll 8 s bridgesDisabled).saf = s.saf := by
  refine ⟨fun ax j => ?_, fun ax => ?_, ?_⟩
  · exact forAll_reaches (P := fun t => t.leg ax j = {}) ax (fun t => by rw [leg_bridgesDisabled, if_pos rfl])
      fun t bx h => by rw [leg_bridgesDisabled, h, ite_self]
  · exact forAll_reaches (P := fun t => t.bit (R.PWM_CFG ax) 31 = false) ax (fun t => by rw [pwmEn_bridgesDisabled, if_pos rfl])
      fun t bx h => by rw [pwmEn_bridgesDisabled, h, ite_self]
  · exact forAll_keeps (P := fun t => t.mot = s.mot ∧ t.saf = s.saf) ⟨rfl, rfl⟩
      fun t ax h => ⟨bridgesDisabled_stands.1.trans h.1, bridgesDisabled_stands.2.1.trans h.2⟩

theorem pc_conversionsEnded (p q : Conv) : ((vget (conversionsEnded s q).pc p).rrun = if p = q then false else (vget s.pc p).rrun)
    ∧ (vget (conversionsEnded s q).pc p).iIdx = if p = q then none else (vget s.pc p).iIdx := by
  unfold conversionsEnded State.onPc
  dsimp only
  rw [vget_vset]
  split <;> exact ⟨rfl, rfl⟩

/-- Every converter as STANDBY leaves it. -/
theorem conversionsEnded_all (s : State) : OnlyConverters s (forAll 4 s conversionsEnded)
    ∧ ∀ p : Conv, (vget (forAll 4 s conversionsEnded).pc p).rrun = false ∧ (vget (forAll 4 s conversionsEnded).pc p).iIdx = none := by
  refine ⟨forAll_keeps (.refl _) fun t p h => h.trans rfl, fun p => ?_⟩
  refine forAll_reaches (P := fun t => (vget t.pc p).rrun = false ∧ (vget t.pc p).iIdx = none) p (fun t => ?_) fun t q h => ?_
  · obtain ⟨hrun, hidx⟩ := pc_conversionsEnded (s := t) p p
    exact ⟨hrun.trans (if_pos rfl), hidx.trans (if_pos rfl)⟩
  · obtain ⟨hrun, hidx⟩ := pc_conversionsEnded (s := t) p q
    exact ⟨hrun.trans (by rw [h.1, ite_self]), hidx.trans (by rw [h.2, ite_self])⟩

/-- Entering STANDBY (R74). -/
theorem enterStandby_spec (s : State) :
    s.enterStandby.standby = true ∧ (∀ (ax : Axis) (j : Leg), s.enterStandby.leg ax j = {})
    ∧ (∀ ax : Axis, s.enterStandby.bit (R.PWM_CFG ax) 31 = false)
    ∧ (∀ p : Conv, (vget s.enterStandby.pc p).rrun = false ∧ (vget s.enterStandby.pc p).iIdx = none)
    ∧ s.enterStandby.mot = s.mot ∧ s.enterStandby.saf = s.saf := by
  obtain ⟨hleg, hen, hmot, hsaf⟩ := bridgesDisabled_all s
  rw [enterStandby_eq]
  generalize forAll 8 s bridgesDisabled = u at hleg hen hmot hsaf ⊢
  obtain ⟨honly, hended⟩ := conversionsEnded_all (u.setBit R.CLK_STAT 2 false)
  generalize forAll 4 (u.setBit R.CLK_STAT 2 false) conversionsEnded = v at honly hended ⊢
  have hpwm : v.pwm = u.pwm := by rw [honly]; rfl
  refine ⟨?_, fun ax j => ?_, fun ax => ?_, hended, ?_, ?_⟩
  · rw [State.standby, State.fld_setFld_same _ _ _ _ _ (by decide) (by decide)]
    rfl
  · exact (congrArg (fun x => vget (PwmAx.legs (vget x ax)) j) hpwm).trans (hleg ax j)
  · rw [State.bit_setFld _ _ _ _ _ _ _ (by decide) (by decide), if_neg (by unfold R.PWM_CFG R.SYS_PWRSTAT regKey; omega),
      State.bit_of_regs honly.regs, State.bit_setBit _ _ _ _ _ _ (by decide), if_neg (by unfold R.PWM_CFG R.CLK_STAT regKey; omega), hen]
  · exact (congrArg State.mot honly).trans hmot
  · exact (congrArg State.saf honly).trans hsaf

/-! ### SLEEP -/

theorem packBits_congr {n : Nat} {f g : Nat → Bool} (h : ∀ i < n, f i = g i) : packBits n f = packBits n g := by
  induction n with
  | zero => rfl
  | succ n ih => rw [packBits, packBits, ih fun i hi => h i (by omega), h n (by omega)]

/-- The comparators that can wake are a matter of page 0x48 alone. -/
theorem cmpWakes_congr (hcmp : t.cmp = s.cmp) (hget : ∀ k, k / 128 = 0x48 → t.get k = s.get k) : t.cmpWakes = s.cmpWakes := by
  have hbit (k i : Nat) (hk : k / 128 = 0x48) : t.bit k i = s.bit k i := by rw [State.bit, hget k hk]; rfl
  have hccfg (c : Nat) (hc : c < 16) (i : Nat) : t.bit (R.CMP_CCFG c) i = s.bit (R.CMP_CCFG c) i :=
    hbit _ _ (by unfold R.CMP_CCFG regKey; omega)
  refine congrArg wordOfNat (packBits_congr fun c hc => ?_)
  unfold State.cmpSeen
  rw [hcmp]
  simp only [hccfg c hc, hbit R.CMP_CFG 31 rfl, hbit R.CMP_OUT _ rfl]

/-- Sleep that nothing ends at once (R76). -/
theorem enterSleep_stays (hcmp : s.cmpWakes = 0#32) (htimer : s.get R.SYS_WAKETMR ≠ 0#32) :
    s.enterSleep = { s with sys := { s.sys with asleep := true } } := by
  have hsrc : (s.cmpWakes ||| if s.get R.SYS_WAKETMR = 0#32 then 0x200000#32 else 0#32) = 0#32 := by
    rw [hcmp, if_neg htimer]; rfl
  show State.wakeUp { s with sys := { s.sys with asleep := true } } (s.cmpWakes ||| if s.get R.SYS_WAKETMR = 0#32 then 0x200000#32 else 0#32) 0 = _
  rw [hsrc]
  unfold State.wakeUp
  exact if_pos (by simp)

/-! ### The return of PLL-B -/

/-- With no failing monitor and no lost lock every clock source ends, and nothing is raised. -/
theorem settleClocks_of_sound (hfail : s.sys.monFail = 0#6) (hlost : s.sys.pllLost = 0#2) :
    s.settleClocks = withSources s (pllSources false false) := by
  have hsources : clockSources s.sys.monFail s.sys.pllLost = pllSources false false := by rw [hfail, hlost]; decide
  have hxtal : ((pllSources false false).any fun e => e.1 = 11 && e.2) = false := by simp [pllSources]
  have hnone : (pllSources false false).filter (fun e => e.2 && !s.present e.1) = [] := by simp [pllSources]
  unfold State.settleClocks
  simp only [hsources, hxtal, hnone, List.map_nil, List.any_nil, Bool.false_eq_true, if_false, Bool.or_self]
  exact raises_nil

/-- The state as PLL-B locks, before the clock sources follow. -/
def lockFound (s : State) : State := { s.setBit R.CLK_STAT 2 true with sys := { s.sys with
  pllLost := bvPut s.sys.pllLost 1 false, pllStop := bvPut s.sys.pllStop 1 false } }

/-- The modulators that are ON start afresh (R278). -/
def modulatorRestarts (s : State) (c : Fin 16) : State :=
  if s.bit (R.CSM_CCFG c) 31 then s.onCsm c fun x => { x with fastWarm := 3, fineWarm := 36 } else s

/-- A regular sequence that was running starts again at entry 0 (R286). -/
def sequenceRestarts (s : State) (p : Conv) : State :=
  if (vget s.pc p).held || (vget s.pc p).rrun then (s.onPc p fun c => { c with rrun := true, rIdx := 0, held := false }).convStart p 0 else s

theorem pllbRelock_eq (h : (lockFound s).settleClocks.standby = true ∧ (lockFound s).settleClocks.fld R.SYS_PWRCTL 1 0 = 0) :
    s.pllbRelock = forAll 4 (forAll 16 ((lockFound s).settleClocks.setFld R.SYS_PWRSTAT 1 0 0) modulatorRestarts) sequenceRestarts :=
  if_pos h

theorem restarts_only (s : State) : OnlyConverters s (forAll 4 (forAll 16 s modulatorRestarts) sequenceRestarts) := by
  refine OnlyConverters.trans (forAll_keeps (.refl s) fun t c h => h.trans ?_) (forAll_keeps (.refl _) fun t p h => h.trans ?_)
  · unfold modulatorRestarts
    split <;> rfl
  · unfold sequenceRestarts
    split <;> rfl

/-- PLL-B's lock with a RUN request pending (R74). -/
theorem pllbRelock_runs (hstandby : s.standby = true) (hreq : s.fld R.SYS_PWRCTL 1 0 = 0) (hfail : s.sys.monFail = 0#6)
    (hlost : s.sys.pllLost.getLsbD 0 = false) :
    s.pllbRelock.fld R.SYS_PWRSTAT 1 0 = 0 ∧ s.pllbRelock.bit R.CLK_STAT 2 = true ∧ s.pllbRelock.sys.pllStop.getLsbD 1 = false
    ∧ s.pllbRelock.mot = s.mot ∧ s.pllbRelock.pwm = s.pwm := by
  have hfound {k hi lo : Nat} (hk : k ≠ R.CLK_STAT) : (lockFound s).fld k hi lo = s.fld k hi lo := State.fld_setBit_other _ _ _ _ _ _ _ (.inl hk)
  have hclear : bvPut s.sys.pllLost 1 false = 0#2 := by
    apply BitVec.eq_of_getLsbD_eq
    intro i hi
    rw [getLsbD_bvPut _ _ _ _ (by decide)]
    interval_cases i
    · exact hlost
    · rfl
  set u := (lockFound s).settleClocks with hu
  have honly : OnlyCollector (lockFound s) u := by
    rw [hu, settleClocks_of_sound (s := lockFound s) hfail hclear]
    exact withSources_only _
  have hgo : u.standby = true ∧ u.fld R.SYS_PWRCTL 1 0 = 0 := by
    refine ⟨?_, ?_⟩
    · rw [State.standby, honly.fld, hfound (by decide)]
      exact hstandby
    · rw [honly.fld, hfound (by decide), hreq]
  have hrest := restarts_only (u.setFld R.SYS_PWRSTAT 1 0 0)
  rw [pllbRelock_eq hgo, ← hu]
  obtain ⟨hmot, hpwm, _⟩ := honly.stands
  refine ⟨?_, ?_, ?_, ?_, ?_⟩
  · rw [State.fld_of_regs hrest.regs, State.fld_setFld_same _ _ _ _ _ (by decide) (by decide)]
    rfl
  · rw [State.bit_of_regs hrest.regs, State.bit_setFld _ _ _ _ _ _ _ (by decide) (by decide), if_neg (by decide), honly.bit]
    exact (State.bit_setBit _ _ _ _ _ _ (by decide)).trans (if_pos ⟨rfl, rfl⟩)
  · rw [hrest]
    show u.sys.pllStop.getLsbD 1 = false
    rw [honly.pllStop]
    exact (getLsbD_bvPut _ _ _ _ (by decide)).trans (if_pos rfl)
  · rw [hrest]; exact hmot
  · rw [hrest]; exact hpwm

/-! ### IDLE -/

theorem exec_idleEntry : exec .idleEntry s = .next
    (if s.sys.exec = .firmware ∧ s.sys.linkRun ∧ s.fld R.SYS_PWRSTAT 1 0 < 2 ∧ !s.execInt ∧ !s.linkInt then
      ((s.quiet.setBit R.SYS_PWRSTAT 8 true).setBit R.SYS_PWRSTAT 9 true).setFld R.SYS_PWRSTAT 1 0 1 else s.quiet) := rfl

/-- Both cores wait (R74). -/
theorem idleEntry_idles (hcore : s.sys.exec = .firmware) (hlink : s.sys.linkRun = true) (hstate : s.fld R.SYS_PWRSTAT 1 0 < 2)
    (hexec : s.execInt = false) (hlinkInt : s.linkInt = false) : ∃ t, exec .idleEntry s = .next t ∧ t.fld R.SYS_PWRSTAT 1 0 = 1
      ∧ t.bit R.SYS_PWRSTAT 8 = true ∧ t.bit R.SYS_PWRSTAT 9 = true ∧ ∀ k, k ≠ R.SYS_PWRSTAT → t.get k = s.get k := by
  have honly : OnlyRegs (· = R.SYS_PWRSTAT) s.quiet
      (((s.quiet.setBit R.SYS_PWRSTAT 8 true).setBit R.SYS_PWRSTAT 9 true).setFld R.SYS_PWRSTAT 1 0 1) :=
    ((onlyRegs_setBit (P := (· = R.SYS_PWRSTAT)) rfl).trans (onlyRegs_setBit rfl)).trans (onlyRegs_setFld rfl)
  refine ⟨_, exec_idleEntry.trans (congrArg _ (if_pos ⟨hcore, hlink, hstate, by simp [hexec], by simp [hlinkInt]⟩)), ?_, ?_, ?_, honly.2⟩
  · rw [State.fld_setFld_same _ _ _ _ _ (by decide) (by decide)]
    rfl
  · rw [State.bit_setFld _ _ _ _ _ _ _ (by decide) (by decide), if_neg (by decide), State.bit_setBit _ _ _ _ _ _ (by decide), if_neg (by decide),
      State.bit_setBit _ _ _ _ _ _ (by decide), if_pos ⟨rfl, rfl⟩]
  · rw [State.bit_setFld _ _ _ _ _ _ _ (by decide) (by decide), if_neg (by decide), State.bit_setBit _ _ _ _ _ _ (by decide), if_pos ⟨rfl, rfl⟩]

/-- Settles O10: a request is accepted or refused by one write, and what an accepted one brings about is followed step by step. -/
theorem powerStatesFollowRequests : Obligations.PowerStatesFollowRequests := by
  unfold Obligations.PowerStatesFollowRequests
  intro s w hopen hkey
  have hstandby : (s.opened .exec).standby = s.standby := rfl
  refine ⟨fun hreq => ?_, fun hreq hbusy => ?_, fun hreq hidle hst => ?_, fun hreq hcore hst => ?_, fun hreq hcore hst hwj hwake => ?_,
    fun hreq hcore hst hwj hwake hcmp htimer => ?_, fun w' hkey' hp => ?_, idleEntry_idles, ?_, ?_, fun hst hreq hfail hlost => ?_⟩
  · obtain ⟨hctl, hrefuse, hstate, honly⟩ := pwrAccept_spec (s := s.quiet) 0
    exact ⟨_, (exec_runRequest hopen).trans (congrArg _ (pwrctl_run hkey hreq)), hctl, hrefuse, hstate,
      fun k h1 h2 => honly.2 k (by simp [h1, h2])⟩
  · obtain ⟨hrefuse, hstate⟩ := refused_spec (s := s.quiet) (n := 1) (by decide)
    refine ⟨_, (exec_standbyRequest hopen).trans (congrArg _ ((pwrctl_standby hkey hreq).trans (if_pos ?_))), hrefuse, hstate, rfl,
      fun k hk => State.get_set_ne _ _ hk⟩
    obtain ⟨ax, hax⟩ := hbusy
    exact List.any_eq_true.2 ⟨ax, List.mem_finRange ax, hax⟩
  · obtain ⟨hstate, hleg, hen, hconv, hmot, hsaf⟩ := enterStandby_spec (s.quiet.pwrAccept 2)
    refine ⟨_, (exec_standbyRequest hopen).trans (congrArg _ ((pwrctl_standby hkey hreq).trans ((if_neg ?_).trans (if_neg ?_)))), hstate, hleg, hen,
      hconv, hmot, hsaf⟩
    · rw [List.any_eq_true]
      rintro ⟨ax, _, hax⟩
      exact absurd ((hidle ax).symm.trans hax) Bool.false_ne_true
    · rw [hstandby, hst]
      decide
  · obtain ⟨hrefuse, _⟩ := refused_spec (s := s.quiet) (n := 2) (by decide)
    exact ⟨_, (exec_sleepRequest hopen hcore).trans (congrArg _ (pwrctl_sleep_elsewhere hkey hreq hst)), hrefuse, rfl⟩
  · obtain ⟨hrefuse, _⟩ := refused_spec (s := s.quiet) (n := 4) (by decide)
    exact ⟨_, (exec_sleepRequest hopen hcore).trans (congrArg _ ((pwrctl_sleep_standby (s := s.quiet) hkey hreq hst hwj).trans (if_pos hwake))),
      hrefuse, rfl⟩
  · obtain ⟨hctl, _, _, honly⟩ := pwrAccept_spec (s := s.quiet) 3
    have hwakes : (s.quiet.pwrAccept 3).cmpWakes = s.cmpWakes :=
      cmpWakes_congr (s := s.quiet) rfl fun k hk => honly.2 k (by unfold R.SYS_PWRCTL R.SYS_PWRSTAT regKey; omega)
    have hstays : (s.quiet.pwrAccept 3).enterSleep = _ :=
      enterSleep_stays (hwakes.trans hcmp) (by rw [honly.2 _ (by decide)]; exact htimer)
    have hwrite := ((pwrctl_sleep_standby (s := s.quiet) hkey hreq hst hwj).trans (if_neg hwake)).trans hstays
    exact ⟨_, (exec_sleepRequest hopen hcore).trans (congrArg _ hwrite), rfl, hctl⟩
  · obtain ⟨hraised, honly⟩ := writeIgnored_opened (m := .exec) (k := R.SYS_PWRCTL) (hp _)
    exact ⟨_, _, (exec_runRequest hopen).trans (congrArg _ (pwrctl_ignored hkey')), hraised, honly.regs⟩
  · obtain ⟨hgated, _, hrest⟩ := ungate_spec (s := s.quiet) .exec
    exact ⟨_, rfl, hgated, hrest⟩
  · obtain ⟨hgated, _, hrest⟩ := ungate_spec (s := s.quiet) .link
    exact ⟨_, rfl, hgated, hrest⟩
  · exact ⟨_, rfl, pllbRelock_runs (s := s.quiet) hst hreq hfail hlost⟩

end Sys2Proof.Machine
end

section
/-! PROOFS. The gate drivers' monitors: undervoltage of VG, shorts, bootstrap lockout and the gate budget. -/

namespace Sys2Proof.Machine

variable {s t : State} {ax : Axis} {j : Leg} {br : Bridge} {src : Nat} {b : Bool} {d : Word}

/-! ### Levels -/

/-- A level source leaves the conditions of the others. -/
theorem present_level_ne {n : Nat} (hp : Plain s src d) (hsrc : src < 128) (h : n ≠ src) : (s.level src b d).present n = s.present n := by
  have hput (v : Bool) : (bvPut s.fcPresent src v).getLsbD n = s.present n := (getLsbD_bvPut _ _ _ _ hsrc).trans (if_neg h)
  cases b with
  | false => exact hput false
  | true =>
    show (s.raiseLevel src d).present n = _
    cases ha : s.present src with
    | true => rw [raiseLevel_present d ha]
    | false =>
      have hp' : Plain ({ s with fcPresent := bvPut s.fcPresent src true } : State) src d := hp
      rw [raiseLevel_absent d ha, State.present, raise_only hp']
      exact hput true

/-- VDS_n is present exactly while a VDS finding of the axis stands (R265). -/
theorem present_settleGd_vds (hs : NoReset s) : (s.settleGd ax).present (64 + ax) = decide ((s.settleGd ax).fld (R.GD_FLT ax) 15 8 ≠ 0) := by
  have hplain {u : State} (hu : NoReset u) {n : Nat} (hn : n < 126) (d : Word) : Plain u n d := ⟨hu.1, hu.2 n hn d⟩
  have hlevel {u : State} (hu : NoReset u) {n : Nat} (hn : n < 126) (v : Bool) (d : Word) : NoReset (u.level n v d) :=
    (keeps_level (f := id) (P := fun _ _ => False) hu hn).noReset hu
  rw [(settleGd_only hs).fld]
  unfold State.settleGd
  extract_lets flt s1 s2 s3
  have h1 : NoReset s1 := hlevel hs (by omega) _ _
  have h2 : NoReset s2 := hlevel h1 (by omega) _ _
  have h3 : NoReset s3 := hlevel h2 (by omega) _ _
  rw [present_level_ne (hplain h3 (by omega) _) (by omega) (by omega), present_level_ne (hplain h2 (by omega) _) (by omega) (by omega),
    present_level_ne (hplain h1 (by omega) _) (by omega) (by omega), present_level (hplain hs (by omega) _) (by omega)]
  rfl

/-- A finding of GD_FLT is written and the axis's sources follow. -/
theorem fltBit_settled (hs : NoReset s) {i : Nat} (hi : i < 32) (v : Bool) :
    ((s.setBit (R.GD_FLT ax) i v).settleGd ax).bit (R.GD_FLT ax) i = v
    ∧ ((s.setBit (R.GD_FLT ax) i v).settleGd ax).present (64 + ax)
        = decide (((s.setBit (R.GD_FLT ax) i v).settleGd ax).fld (R.GD_FLT ax) 15 8 ≠ 0)
    ∧ ((s.setBit (R.GD_FLT ax) i v).settleGd ax).pwm = s.pwm
    ∧ ∀ k, k ≠ R.GD_FLT ax → ((s.setBit (R.GD_FLT ax) i v).settleGd ax).get k = s.get k := by
  have hset : NoReset (s.setBit (R.GD_FLT ax) i v) := (keeps_fltBit hi).noReset hs
  have honly := settleGd_only (ax := ax) hset
  refine ⟨?_, present_settleGd_vds hset, honly.stands.2.1, fun k hk => (honly.get k).trans (State.get_set_ne _ _ hk)⟩
  rw [honly.bit, State.bit_setBit _ _ _ _ _ _ hi, if_pos ⟨rfl, rfl⟩]

/-! ### VG -/

/-- Register bits of the blocks from page 0x10 on. -/
def blockBits (k _ : Nat) : Prop := 0x10 ≤ k / 128

theorem gateLost_keeps (hs : NoReset s) : Keeps id blockBits (s.gatesHeld ax) (s.gateLost ax) := by
  have hdiag : Keeps id blockBits (s.gatesHeld ax) ((s.gatesHeld ax).endDiag ax) :=
    keeps_endDiag.mono fun k i h => by unfold enableBits at h; unfold blockBits; omega
  have hflt := hdiag.trans (keeps_setFld (v := 0) (page_flt ax) (show 15 < 32 by decide) (show 8 ≤ 15 by decide) fun _ _ _ => page_flt ax)
  exact hflt.trans (settleGd_only (hflt.noReset hs)).keeps

/-- The gates of an axis held off at their drivers: what is commanded stands (R66, R251). -/
theorem leg_gatesHeld (bx : Axis) (i : Leg) : (s.gatesHeld ax).leg bx i
    = if bx = ax then { s.leg ax i with hiOn := false, loOn := false, wait := none, armed := false } else s.leg bx i := by
  simp only [State.leg, State.gatesHeld, State.onPwm, vget_vset]
  split
  · simp [vget]
  · rfl

theorem gateLost_leg (hs : NoReset s) (bx : Axis) (i : Leg) : (s.gateLost ax).leg bx i = (s.gatesHeld ax).leg bx i :=
  leg_congr (congrArg PwmAx.legs ((gateLost_keeps hs).pwm_eq bx)) i

/-- While the lockout takes one axis after another: nothing is set to reset, VG reads absent, and what is commanded and the axes stand. -/
structure LocksOut (s t : State) : Prop where
  noReset : NoReset t
  vgOk    : t.vgOk = false
  mot     : t.mot = s.mot
  cmd     : ∀ (bx : Axis) (i : Leg), (t.leg bx i).hiCmd = (s.leg bx i).hiCmd ∧ (t.leg bx i).loCmd = (s.leg bx i).loCmd

theorem LocksOut.gateLost (h : LocksOut s t) (ax : Axis) : LocksOut s (t.gateLost ax) where
  noReset := (gateLost_keeps h.noReset).noReset h.noReset
  vgOk := ((gateLost_keeps h.noReset).bit _ _ (by unfold blockBits R.SYS_SUPSTAT regKey; omega)).trans h.vgOk
  mot := (gateLost_keeps h.noReset).mot.trans h.mot
  cmd bx i := by
    rw [gateLost_leg h.noReset, leg_gatesHeld, ← (h.cmd bx i).1, ← (h.cmd bx i).2]
    split
    · next hb => subst hb; exact ⟨rfl, rfl⟩
    · exact ⟨rfl, rfl⟩

/-- The gates of an axis are off. -/
def AllOff (t : State) (bx : Axis) : Prop := ∀ i : Leg, (t.leg bx i).hiOn = false ∧ (t.leg bx i).loOn = false

theorem allOff_gateLost_same (ht : NoReset t) : AllOff (t.gateLost ax) ax := fun i => by
  rw [gateLost_leg ht, leg_gatesHeld, if_pos rfl]
  exact ⟨rfl, rfl⟩

theorem allOff_gateLost_other {bx : Axis} (ht : NoReset t) (hne : ax ≠ bx) (h : AllOff t bx) : AllOff (t.gateLost ax) bx := fun i => by
  rw [gateLost_leg ht, leg_gatesHeld, if_neg hne.symm]
  exact h i

/-- VG falls below its undervoltage level: every gate off, every command kept (R66). -/
theorem vgAssert_spec (hs : NoReset s) : s.vgAssert.vgOk = false ∧ s.vgAssert.present 7 = true
    ∧ (∀ (bx : Axis) (i : Leg), (s.vgAssert.leg bx i).hiOn = false ∧ (s.vgAssert.leg bx i).loOn = false
      ∧ (s.vgAssert.leg bx i).hiCmd = (s.leg bx i).hiCmd ∧ (s.vgAssert.leg bx i).loCmd = (s.leg bx i).loCmd)
    ∧ s.vgAssert.mot = s.mot := by
  set u := s.setBit R.SYS_SUPSTAT 3 false with hu
  have hbegin : LocksOut s u := by
    refine ⟨?_, (State.bit_setBit _ _ _ _ _ _ (by decide)).trans (if_pos ⟨rfl, rfl⟩), rfl, fun _ _ => ⟨rfl, rfl⟩⟩
    refine ⟨hs.1, fun src hsrc d => (plain_congr (s := s) (t := u) rfl rfl (State.get_set_ne _ _ (by decide)) (State.get_set_ne _ _ ?_)
      ⟨hs.1, hs.2 src hsrc d⟩).2⟩
    unfold R.FC_SRC R.SYS_SUPSTAT regKey
    omega
  have hlock : LocksOut s (forAll 8 u fun s ax => s.gateLost ax) := forAll_keeps hbegin fun t ax h => h.gateLost ax
  have hoff (bx : Axis) : AllOff (forAll 8 u fun s ax => s.gateLost ax) bx :=
    forAll_reaches_under (I := LocksOut s) (R := fun t => AllOff t bx) bx hbegin (fun t ax h => h.gateLost ax)
      (fun t h => allOff_gateLost_same h.noReset) fun t ax hne h hR => allOff_gateLost_other h.noReset hne hR
  have hplain (d : Word) : Plain (forAll 8 u fun s ax => s.gateLost ax) 7 d := ⟨hlock.noReset.1, hlock.noReset.2 7 (by decide) d⟩
  have honly := raiseLevel_only (hplain ((forAll 8 u fun s ax => s.gateLost ax).get R.SYS_SUPSTAT))
  unfold State.vgAssert
  refine ⟨(honly.bit _ _).trans hlock.vgOk, present_raiseLevel (hplain _) (by decide), fun bx i => ?_, honly.mot.trans hlock.mot⟩
  rw [honly.leg]
  exact ⟨(hoff bx i).1, (hoff bx i).2, hlock.cmd bx i⟩

/-! ### Bootstrap -/

theorem disarm_only (hs : NoReset s) : OnlyCollector ((s.vdsClear ax j).onLeg ax j fun l => { l with armed := false }) (s.disarm ax j) := by
  have hclear : KeepsGates s (s.vdsClear ax j) := (keeps_fltBit (by omega)).trans (keeps_fltBit (by omega))
  unfold State.disarm
  dsimp only
  split
  · exact settleGd_only ((hclear.trans keeps_onLeg).noReset hs)
  · exact .refl _

theorem raiseBst_stands (hs : NoReset s) : (s.raiseBst ax).pwm = s.pwm ∧ (s.raiseBst ax).regs = s.regs ∧ (s.raiseBst ax).mot = s.mot := by
  have honly := (raise_only (d := s.gdStat ax) ⟨hs.1, hs.2 (80 + ax) (by omega) _⟩).collector
  have hlook (u : State) : (u.lookGd ax).pwm = u.pwm ∧ (u.lookGd ax).regs = u.regs ∧ (u.lookGd ax).mot = u.mot := by
    unfold State.lookGd
    split <;> exact ⟨rfl, rfl, rfl⟩
  unfold State.raiseBst
  split
  · obtain ⟨hpwm, hregs, hmot⟩ := hlook (s.raise (80 + ax) (s.gdStat ax))
    exact ⟨hpwm.trans honly.stands.2.1, hregs.trans honly.regs, hmot.trans honly.mot⟩
  · exact ⟨rfl, rfl, rfl⟩

/-- A bootstrap that asserts (R263). -/
theorem bstAssert_spec (hs : NoReset s) (h : s.bit (R.GD_STAT ax) j = false) : (s.bstAssert ax j).bit (R.GD_STAT ax) j = true
    ∧ ((s.bstAssert ax j).leg ax j).hiOn = false ∧ ((s.bstAssert ax j).leg ax j).loOn = (s.leg ax j).loOn
    ∧ ((s.bstAssert ax j).leg ax j).bstHeld = (s.leg ax j).hiCmd ∧ (∀ i : Leg, i ≠ j → (s.bstAssert ax j).leg ax i = s.leg ax i)
    ∧ (s.bstAssert ax j).mot = s.mot := by
  set u := s.setBit (R.GD_STAT ax) j true with hu
  set v := if (s.leg ax j).hiOn then u.disarm ax j else u with hv
  set x := v.onLeg ax j fun l => { l with hiOn := false, bstHeld := l.hiCmd } with hx
  have hpage : 0x10 ≤ R.GD_STAT ax / 128 := by unfold R.GD_STAT regKey; omega
  have hunr : NoReset u := (keeps_setBit (f := id) (P := blockBits) hpage (by omega) hpage).noReset hs
  have hgates : KeepsGates u v := .ite (keeps_disarm hunr) .refl
  have hleg (i : Leg) : (v.leg ax i) = if i = j ∧ (s.leg ax j).hiOn = true then { s.leg ax i with armed := false } else s.leg ax i := by
    rw [hv]
    by_cases hon : (s.leg ax j).hiOn = true
    · rw [if_pos hon, (disarm_only hunr).leg, leg_onLeg]
      by_cases hij : i = j
      · subst hij
        rw [if_pos rfl, if_pos ⟨rfl, hon⟩]
        rfl
      · rw [if_neg hij, if_neg (fun h => hij h.1)]
        rfl
    · rw [if_neg hon, if_neg (fun h => hon h.2)]
      rfl
  have hbit : v.bit (R.GD_STAT ax) j = true := by
    rw [hgates.bit _ _ (by unfold gateBits R.GD_STAT regKey; omega), hu, State.bit_setBit _ _ _ _ _ _ (by omega), if_pos ⟨rfl, rfl⟩]
  have hend : (s.bstAssert ax j).pwm = x.pwm ∧ (s.bstAssert ax j).regs = x.regs ∧ (s.bstAssert ax j).mot = x.mot := by
    unfold State.bstAssert
    rw [h, if_neg Bool.false_ne_true]
    dsimp only
    by_cases hon : (s.leg ax j).hiOn = true
    · rw [if_pos hon]
      exact raiseBst_stands (s := x) (hgates.noReset hunr)
    · rw [if_neg hon]
      exact ⟨rfl, rfl, rfl⟩
  have hxleg (i : Leg) : (s.bstAssert ax j).leg ax i = x.leg ax i := by unfold State.leg; rw [hend.1]
  refine ⟨(State.bit_of_regs hend.2.1 _ _).trans hbit, ?_, ?_, ?_, fun i hij => ?_, hend.2.2.trans hgates.mot⟩
  · rw [hxleg, hx, leg_onLeg, if_pos rfl]
  · rw [hxleg, hx, leg_onLeg, if_pos rfl, hleg]
    split <;> rfl
  · rw [hxleg, hx, leg_onLeg, if_pos rfl, hleg]
    split <;> rfl
  · rw [hxleg, hx, leg_onLeg, if_neg hij, hleg, if_neg (fun h => hij h.1)]

/-! ### The gate budget -/

/-- The budget's window stored: the mean, and whether it lies above 500 mA (R255). -/
def budgetStored (s : State) (mA : Nat) : State :=
  (s.set R.GDG_IGATE (wordOfNat (min mA 65535))).set R.GDG_STAT (wordOfNat (b2n (500 < mA)))

theorem exec_gateBudgetWindow (mA : Nat) : exec (.gateBudgetWindow mA) s
    = .next ((budgetStored s.quiet mA).level 9 (500 < mA) ((budgetStored s.quiet mA).get R.GDG_IGATE)) := rfl

theorem gateBudget_spec (hs : NoReset s) (mA : Nat) : ∃ t, exec (.gateBudgetWindow mA) s = .next t
    ∧ t.get R.GDG_IGATE = wordOfNat (min mA 65535) ∧ t.bit R.GDG_STAT 0 = decide (500 < mA)
    ∧ t.present 9 = decide (500 < mA) ∧ t.pwm = s.pwm ∧ ∀ k, k ≠ R.GDG_IGATE → k ≠ R.GDG_STAT → t.get k = s.get k := by
  have hkeep : Keeps id blockBits s.quiet (budgetStored s.quiet mA) :=
    Keeps.trans (t := s.quiet.set R.GDG_IGATE (wordOfNat (min mA 65535))) (keeps_set (by decide) fun _ => by unfold blockBits; decide)
      (keeps_set (by decide) fun _ => by unfold blockBits; decide)
  have hset : NoReset (budgetStored s.quiet mA) := hkeep.noReset hs
  have hp (d : Word) : Plain (budgetStored s.quiet mA) 9 d := ⟨hset.1, hset.2 9 (by decide) d⟩
  have honly : OnlyCollector _ ((budgetStored s.quiet mA).level 9 (500 < mA) ((budgetStored s.quiet mA).get R.GDG_IGATE)) := level_only (hp _)
  refine ⟨_, exec_gateBudgetWindow mA, ?_, ?_, present_level (hp _) (by decide), honly.stands.2.1, fun k h1 h2 => ?_⟩
  · rw [honly.get]
    exact (State.get_set_ne _ _ (by decide)).trans (State.get_set_same _ _ _)
  · rw [honly.bit]
    refine (State.bit_set _ _ _ _ _).trans ((if_pos rfl).trans ?_)
    rw [bitOf_wordOfNat]
    cases decide (500 < mA) <;> rfl
  · rw [honly.get]
    exact (State.get_set_ne _ _ h2).trans (State.get_set_ne _ _ h1)

/-! ### Shorts -/

theorem exec_vdsShort (high active : Bool) : exec (.vdsShort ax j high active) s = .next (s.quiet.vdsShort ax j high active) := rfl

/-- A VDS finding counts while its gate is on and armed (R265). -/
theorem vdsShort_armed {high active : Bool} (harmed : (s.leg ax j).armed = true)
    (hon : (if high then (s.leg ax j).hiOn else (s.leg ax j).loOn) = true) :
    s.vdsShort ax j high active = (s.setBit (R.GD_FLT ax) (if high then 8 + j else 12 + j) active).settleGd ax :=
  if_pos (by rw [harmed, hon]; rfl)

theorem vdsShort_ignored {high active : Bool} (h : (s.leg ax j).armed = false ∨ (if high then (s.leg ax j).hiOn else (s.leg ax j).loOn) = false) :
    s.vdsShort ax j high active = s :=
  if_neg (by rcases h with h | h <;> simp [h])

/-- The hard-short comparator counts while GD_CFG.EN is 1, outside the self-test (R266). -/
theorem exec_hardShort (active : Bool) : exec (.hardShort ax br active) s
    = .next ((s.quiet.setBit (R.GD_FLT ax) (18 + brIx br) (active && s.bit (R.GD_CFG ax) 31 && !s.bit (R.GD_STAT ax) 19)).settleGd ax) := by
  cases br <;> rfl

/-- Settles O39: the findings are written and the collector follows them, and no gate goes off but those that the lockout names. -/
theorem gateMonitorsAndLockouts : Obligations.GateMonitorsAndLockouts := by
  unfold Obligations.GateMonitorsAndLockouts
  intro s ax j hs
  have hs' : NoReset s.quiet := hs
  refine ⟨⟨_, rfl, vgAssert_spec hs'⟩, fun high active harmed hon => ?_, fun high active hoff => ?_, fun br active => ?_,
    fun h => ⟨_, rfl, bstAssert_spec hs' h⟩, ⟨_, rfl, ?_, rfl, fun k hk => State.get_set_ne _ _ hk⟩, gateBudget_spec hs⟩
  · exact ⟨_, (exec_vdsShort high active).trans (congrArg _ (vdsShort_armed (s := s.quiet) harmed hon)),
      fltBit_settled hs' (by split <;> omega) active⟩
  · exact (exec_vdsShort high active).trans (congrArg _ (vdsShort_ignored (s := s.quiet) hoff))
  · obtain ⟨hbit, _, hpwm, hget⟩ := fltBit_settled (ax := ax) hs' (i := 18 + brIx br) (by have := brIx_le br; omega)
      (active && s.bit (R.GD_CFG ax) 31 && !s.bit (R.GD_STAT ax) 19)
    exact ⟨_, exec_hardShort active, hbit, hpwm, hget⟩
  · rw [State.bit_setBit _ _ _ _ _ _ (by omega), if_pos ⟨rfl, rfl⟩]

end Sys2Proof.Machine
end

section
/-! PROOFS. The system's requests: identity, status, time, power and reset. -/

namespace Sys2Proof.Machine

variable {s t u x : State} {ch : ReqChan} {op : Nat} {f : OpFn} {q : Req} {r : Res} {ws : List Word} {g : Req → Res → State → State}

/-! ### What the requests read stands while a request is taken -/

section
variable (h : OnlyMail s t)
include h

theorem OnlyMail.versionWord : t.versionWord = s.versionWord := by
  have hslot (n : Nat) : t.slotWords n = s.slotWords n := by rw [h.1]; rfl
  unfold State.versionWord State.baseline
  rw [h.bit (by decide), h.fld (by decide), hslot]

theorem OnlyMail.linkAddr : t.linkAddr = s.linkAddr := by
  unfold State.linkAddr
  rw [h.fld (by decide)]

theorem OnlyMail.isWorker : t.isWorker = s.isWorker := by
  unfold State.isWorker State.linkRole
  rw [h.fld (by decide)]

theorem OnlyMail.mot : t.mot = s.mot := by rw [h.1]

theorem OnlyMail.sys : t.sys = s.sys := by rw [h.1]

theorem OnlyMail.opMode : t.opMode = s.opMode := by
  unfold State.opMode State.ready
  rw [h.sys, h.bit (by decide), h.bit (by decide)]

theorem OnlyMail.baseline : t.baseline = s.baseline := h.bit (by decide)

theorem OnlyMail.axisFault (ax : Axis) : t.axisFault ax = s.axisFault ax := by rw [h.1]; rfl

theorem OnlyMail.nlatch : t.nlatch = s.nlatch := by rw [h.1]; rfl

theorem OnlyMail.splPres : t.splPres = s.splPres := by rw [h.1]; rfl

end

/-- HALT-ALL and its rights lie beside the channels that a request is taken from. -/
theorem haltAll_taken (h : Waits s ch op) : (taken s ch).haltAll = s.haltAll := by
  have hne {k : Nat} (hk : k / 128 = 0x03) : (taken s ch).get k = s.get k := (taken_stat h).2 k (by unfold bch regKey; omega)
  unfold State.haltAll
  rw [hne rfl, hne rfl]

theorem axisHalted_taken (h : Waits s ch op) (ax : Axis) : (taken s ch).axisHalted ax = s.axisHalted ax := by
  unfold State.axisHalted
  rw [haltAll_taken h, (taken_onlyMail h).bit (by unfold mailboxPage R.ME_CTL regKey; omega)]

/-! ### Requests that only ask -/

theorem unchecked_getId : Unchecked 0x00 := by unfold Unchecked NeedsNone; decide

theorem unchecked_getStatus : Unchecked 0x01 := by unfold Unchecked NeedsNone; decide

theorem unchecked_setPower : Unchecked 0x02 := by unfold Unchecked NeedsNone; decide

theorem unchecked_reset : Unchecked 0x03 := by unfold Unchecked NeedsNone; decide

theorem unchecked_getTime : Unchecked 0x04 := by unfold Unchecked NeedsNone; decide

theorem unchecked_ping : Unchecked 0x06 := by unfold Unchecked NeedsNone; decide

theorem unchecked_setEvents : Unchecked 0x07 := by unfold Unchecked NeedsNone; decide

theorem opGetId_taken (h : Waits s ch op) : opGetId q (taken s ch)
    = (taken s ch, .ok, [s.get R.HSP_ID, s.get R.HSP_STEP, s.versionWord, s.get R.SYS_STRAP, wordOfNat s.linkAddr.toNat]) := by
  have hmail := taken_onlyMail h
  unfold opGetId State.yes
  rw [hmail.2 _ (by decide), hmail.2 _ (by decide), hmail.2 _ (by decide), hmail.versionWord, hmail.linkAddr]

theorem opGetStatus_taken (h : Waits s ch op) : opGetStatus q (taken s ch) = (taken s ch, .ok,
    [wordOfNat (s.opMode + s.fld R.SYS_PWRSTAT 1 0 * 4 + b2n s.baseline * 16 + b2n s.presence * 32)
    , wordOfNat (axisBits s.meEn + axisBits s.axisFault * 256 + axisBits s.axisHalted * 65536)
    , wordOfNat s.nlatch, hiWord s.sys.time, loWord s.sys.time, s.splPres &&& 0xFFFF#32]) := by
  have hmail := taken_onlyMail h
  unfold opGetStatus State.yes
  dsimp only
  rw [hmail.opMode, hmail.fld (by decide), hmail.baseline, hmail.presence, funext hmail.meEn, funext hmail.axisFault,
    funext (axisHalted_taken h), hmail.nlatch, hmail.sys, hmail.splPres]

theorem opGetTime_taken (h : Waits s ch op) : opGetTime q (taken s ch) = (taken s ch, .ok, [hiWord s.sys.time, loWord s.sys.time]) := by
  unfold opGetTime State.yes
  rw [(taken_onlyMail h).sys]

/-- A request that waits has at most 14 arguments (R131). -/
theorem Waits.narg_le (h : Waits s ch op) : hdrNarg (s.reqOf (chanIx ch)).h ≤ 14 := by
  obtain ⟨hop, hv⟩ := h.verdict
  have hlt : hdrNarg (s.reqOf (chanIx ch)).h < 2 ^ 4 := fldOf_lt _ _ _
  have hne : hdrNarg (s.reqOf (chanIx ch)).h ≠ 15 := by
    intro h15
    rw [State.verdict, hop] at hv
    cases hspec : opSpec op with
    | none => rw [hspec] at hv; split at hv <;> cases hv
    | some o =>
      have hbad : s.badReq (s.reqOf (chanIx ch)) o = true := by simp [State.badReq, h15]
      simp only [hspec, hbad, if_true] at hv
      split_ifs at hv
  omega

/-! ### SET_POWER -/

/-- A request whose opcode has nothing to follow its answer. -/
theorem Waits.answered_then (hw : Waits s ch op) (hrun : (taken s ch).runOp op f (s.reqOf (chanIx ch)) = (x, r, ws))
    (hx : Served (taken s ch) x) (hlen : ws.length ≤ 14) (hg : ∀ y, g (s.reqOf (chanIx ch)) r y = y) :
    OnlyRegs mailboxPage x (s.quiet.serveThen ch op f g) ∧ Answers s (s.quiet.serveThen ch op f g) ch r ws := by
  have heq : s.quiet.serveThen ch op f g = s.quiet.serve ch op f := by
    have hmay : s.quiet.mayServe (chanIx ch) op = true := hw.serve
    unfold State.serve State.serveThen
    dsimp only
    rw [hmay]
    change (match (taken s ch).runOp op f (s.reqOf (chanIx ch)) with
      | (t, r, ws) => (g (s.reqOf (chanIx ch)) r (t.respond (s.reqOf (chanIx ch)) r ws)).fwStep)
      = match (taken s ch).runOp op f (s.reqOf (chanIx ch)) with
      | (t, r, ws) => (t.respond (s.reqOf (chanIx ch)) r ws).fwStep
    rw [hrun]
    exact congrArg State.fwStep (hg _)
  rw [heq]
  exact hw.answered hrun hx hlen

/-- Registers outside the mailboxes do not concern answering. -/
theorem OnlyRegs.served {P : Nat → Prop} (h : OnlyRegs P s t) (hP : ∀ k, P k → ¬mailboxPage k) : Served s t :=
  ⟨by rw [h.1], by rw [h.1], by rw [h.1], fun k hk => h.2 k fun hp => hP k hp hk⟩

theorem pwrWord_key : ∀ req < 4, fldOf (pwrWord req) 31 16 = 0x9E37 ∧ fldOf (pwrWord req) 1 0 = req := by decide

theorem opSetPower_run (hreq : q.n 1 = 0) : opSetPower q u = (u.pwrAccept 0, .ok, []) := by
  obtain ⟨hkey, hfield⟩ := pwrWord_key 0 (by decide)
  obtain ⟨_, hrefuse, _⟩ := pwrAccept_spec (s := u) 0
  simp [opSetPower, hreq, pwrctl_run hkey hfield, hrefuse, State.yes]

theorem opSetPower_standby_busy (hreq : q.n 1 = 2) (hbusy : ∃ ax : Axis, u.axisBusy ax = true) :
    opSetPower q u = (u.setFld R.SYS_PWRSTAT 18 16 1, .state, [1#32]) := by
  obtain ⟨hkey, hfield⟩ := pwrWord_key 2 (by decide)
  obtain ⟨ax, hax⟩ := hbusy
  have hwrite : u.pwrctl .exec (pwrWord 2) = u.setFld R.SYS_PWRSTAT 18 16 1 :=
    (pwrctl_standby hkey hfield).trans (if_pos (List.any_eq_true.2 ⟨ax, List.mem_finRange ax, hax⟩))
  obtain ⟨hrefuse, _⟩ := refused_spec (s := u) (n := 1) (by decide)
  simp [opSetPower, hreq, hwrite, hrefuse]
  rfl

theorem setPower_run (hw : Waits s ch 0x02) (hreq : (s.reqOf (chanIx ch)).n 1 = 0) :
    ∃ t, exec (.opSetPower ch) s = .next t ∧ Answers s t ch .ok [] ∧ t.fld R.SYS_PWRCTL 1 0 = 0 ∧ t.fld R.SYS_PWRSTAT 18 16 = 0
      ∧ t.mot = s.mot ∧ t.pwm = s.pwm := by
  obtain ⟨hctl, hrefuse, _, honly⟩ := pwrAccept_spec (s := taken s ch) 0
  have hserved : Served (taken s ch) ((taken s ch).pwrAccept 0) := honly.served (by rintro k (rfl | rfl) <;> decide)
  obtain ⟨hans, hanswer⟩ := hw.answered_then (g := afterSetPower) ((runOp_of_unchecked unchecked_setPower).trans (opSetPower_run hreq)) hserved
    (by decide) fun y => if_neg (by simp [hreq])
  have hmail := taken_onlyMail hw
  obtain ⟨hmot, hpwm, _⟩ := hans.stands
  obtain ⟨hmot', hpwm', _⟩ := honly.stands
  refine ⟨_, rfl, hanswer, ?_, ?_, ?_, ?_⟩
  · rw [hans.fld (by decide), State.fld, hctl]
    rfl
  · rw [hans.fld (by decide), hrefuse]
  · rw [hmot, hmot', hmail.1]
  · rw [hpwm, hpwm', hmail.1]

theorem setPower_standby_busy (hw : Waits s ch 0x02) (hreq : (s.reqOf (chanIx ch)).n 1 = 2) (hbusy : ∃ ax : Axis, s.axisBusy ax = true) :
    ∃ t, exec (.opSetPower ch) s = .next t ∧ Answers s t ch .state [1#32] ∧ t.standby = s.standby ∧ t.mot = s.mot ∧ t.pwm = s.pwm := by
  have hmail := taken_onlyMail hw
  obtain ⟨_, hstandby⟩ := refused_spec (s := taken s ch) (n := 1) (by decide)
  have honly : OnlyRegs (· = R.SYS_PWRSTAT) (taken s ch) ((taken s ch).setFld R.SYS_PWRSTAT 18 16 1) := onlyRegs_setFld rfl
  obtain ⟨ax, hax⟩ := hbusy
  obtain ⟨hans, hanswer⟩ := hw.answered_then (g := afterSetPower) ((runOp_of_unchecked unchecked_setPower).trans
    (opSetPower_standby_busy hreq ⟨ax, (hmail.axisBusy ax).trans hax⟩)) (honly.served (by rintro k rfl; decide)) (by decide)
    fun y => if_neg (by simp)
  obtain ⟨hmot, hpwm, _⟩ := hans.stands
  obtain ⟨hmot', hpwm', _⟩ := honly.stands
  refine ⟨_, rfl, hanswer, ?_, ?_, ?_⟩
  · have hsame : (taken s ch).standby = s.standby := by rw [State.standby, hmail.fld (by decide)]; rfl
    rw [← hsame, ← hstandby, State.standby, hans.fld (by decide)]
    rfl
  · rw [hmot, hmot', hmail.1]
  · rw [hpwm, hpwm', hmail.1]

/-! ### RESET -/

/-- `t` differs from `s` at most in the spool and in registers outside the mailboxes. -/
def OnlyBook (s t : State) : Prop := t = { s with regs := t.regs, spool := t.spool } ∧ ∀ k, mailboxPage k → t.get k = s.get k

theorem OnlyBook.refl : OnlyBook s s := ⟨rfl, fun _ _ => rfl⟩

theorem OnlyBook.trans (h : OnlyBook s t) (g : OnlyBook t u) : OnlyBook s u :=
  ⟨by rw [g.1, h.1], fun k hk => (g.2 k hk).trans (h.2 k hk)⟩

theorem OnlyBook.ite {c : Prop} {_ : Decidable c} (ht : OnlyBook s t) (hu : OnlyBook s u) : OnlyBook s (if c then t else u) := by
  split <;> assumption

theorem onlyBook_set {k : Nat} {w : Word} (hk : ¬mailboxPage k) : OnlyBook s (s.set k w) :=
  ⟨rfl, fun _ hj => State.get_set_ne _ _ fun e => hk (e ▸ hj)⟩

theorem onlyBook_setWide {k : Nat} {v : Int} (hk : ¬mailboxPage k) (hk' : ¬mailboxPage (k + 1)) : OnlyBook s (s.setWide k v) :=
  (onlyBook_set hk).trans (onlyBook_set hk')

theorem onlyBook_spool {y : Spool} : OnlyBook s { s with spool := y } := ⟨rfl, fun _ _ => rfl⟩

theorem onlyBook_flashErase {a n : Nat} : OnlyBook s (s.flashErase a n) := onlyBook_spool

theorem onlyBook_flashPut {a : Nat} {bs : List Byte} : OnlyBook s (s.flashPut a bs) := onlyBook_spool

theorem OnlyBook.isUe (h : OnlyBook s t) (mem : DarnMem) (word : Nat) : t.isUe mem word = s.isUe mem word := by
  rw [h.1]
  rfl

/-- The same with the errors that the memories are known to hold. -/
def OnlyJournal (s t : State) : Prop :=
  t = { s with regs := t.regs, spool := t.spool, ue := t.ue, scrubLast := t.scrubLast } ∧ ∀ k, mailboxPage k → t.get k = s.get k

theorem OnlyBook.journal (h : OnlyBook s t) : OnlyJournal s t := ⟨by rw [h.1], h.2⟩

theorem OnlyJournal.trans (h : OnlyJournal s t) (g : OnlyJournal t u) : OnlyJournal s u :=
  ⟨by rw [g.1, h.1], fun k hk => (g.2 k hk).trans (h.2 k hk)⟩

theorem OnlyJournal.ite {c : Prop} {_ : Decidable c} (ht : OnlyJournal s t) (hu : OnlyJournal s u) : OnlyJournal s (if c then t else u) := by
  split <;> assumption

theorem onlyJournal_wjPut {word : Nat} : OnlyJournal s (s.wjPut word ws) :=
  have hput : OnlyJournal s (s.darnPut .wj word (joinWords ws)) := ⟨rfl, fun _ _ => rfl⟩
  .ite (hput.trans (onlyBook_set (by decide)).journal) hput

/-- A pair of the wear journal that decodes is read without a fault. -/
theorem wjCheck_clean {base : Nat} (h : s.isUe .wj base = false) (h' : s.isUe .wj (base + 1) = false) : s.wjCheck base = s := by
  simp [State.wjCheck, h, h']

theorem onlyJournal_wjPair {base : Nat} (h : s.isUe .wj base = false) (h' : s.isUe .wj (base + 1) = false) : OnlyJournal s (s.wjPair base ws) := by
  unfold State.wjPair
  rw [wjCheck_clean h h']
  exact .ite OnlyBook.refl.journal onlyJournal_wjPut

/-- The gathered records are programmed; where the logbook's pair decodes, nothing is raised (R392, R393). -/
theorem onlyJournal_logFlush (h : s.isUe .wj 16 = false) (h' : s.isUe .wj 17 = false) : OnlyJournal s s.logFlush := by
  unfold State.logFlush
  extract_lets g p spool first seq addr erase s1 s2 s3 s4 spool' s5
  have h1 : OnlyBook s s1 := .ite onlyBook_flashErase .refl
  have h2 : OnlyBook s s2 := .ite (h1.trans (onlyBook_setWide (by decide) (by decide))) h1
  have h3 : OnlyBook s s3 := h2.trans onlyBook_flashPut
  have h4 : OnlyBook s s4 := h3.trans (onlyBook_setWide (by decide) (by decide))
  have h5 : OnlyBook s s5 := h4.trans onlyBook_spool
  have hpair : OnlyJournal s5 s5.wjLog := onlyJournal_wjPair ((h5.isUe _ _).trans h) ((h5.isUe _ _).trans h')
  exact .ite OnlyBook.refl.journal (.ite onlyBook_spool.journal (.ite (h5.journal.trans hpair) h5.journal))

/-- RESET: the records are programmed, and the reset is left to follow the response (R152, R393). -/
theorem reset_deferred (hw : Waits s ch 0x03) (h : s.isUe .wj 16 = false) (h' : s.isUe .wj 17 = false) :
    ∃ t, exec (.opReset ch) s = .next t ∧ Answers s t ch .ok [] ∧ t.mot = s.mot ∧ t.sys = s.sys
      ∧ t.fw.deferred = some (match (s.reqOf (chanIx ch)).n 1 with | 0 => .crst | 1 => .execCore | _ => .linkCore, (chanIx ch).val) := by
  have hmail := taken_onlyMail hw
  have hue (n : Nat) : (taken s ch).isUe .wj n = s.isUe .wj n := by rw [hmail.1]; rfl
  obtain ⟨heq, hget⟩ := onlyJournal_logFlush ((hue 16).trans h) ((hue 17).trans h')
  obtain ⟨hlnk, hmot, hsys, houtq, howed⟩ : (taken s ch).logFlush.lnk = (taken s ch).lnk ∧ (taken s ch).logFlush.mot = (taken s ch).mot
      ∧ (taken s ch).logFlush.sys = (taken s ch).sys ∧ (taken s ch).logFlush.fw.outq = (taken s ch).fw.outq
      ∧ (taken s ch).logFlush.fw.owed = (taken s ch).fw.owed := by
    rw [heq]
    exact ⟨rfl, rfl, rfl, rfl, rfl⟩
  obtain ⟨hans, hanswer⟩ := hw.answered (f := opReset) (runOp_of_unchecked unchecked_reset) ⟨hlnk, houtq, howed, hget⟩ (by decide)
  refine ⟨_, rfl, hanswer, ?_, ?_, ?_⟩
  · rw [hans.1]
    exact hmot.trans hmail.mot
  · rw [hans.1]
    exact hsys.trans hmail.sys
  · rw [hans.1]
    rfl

/-! ### SET_TIME and SET_EVENTS -/

theorem runOp_setTime (h : u.isWorker = false) : u.runOp 0x05 opSetTime q = opSetTime q u :=
  runOp_of_free (by unfold NeedsNone; decide) (by simp [State.early, h])

theorem runOp_setTime_worker (h : u.isWorker = true) : u.runOp 0x05 opSetTime q = (u, .denied, []) := by
  have hearly : u.early 0x05 q = some .denied := by simp [State.early, h]
  simp [State.runOp, hearly, State.no]

theorem setTime_set (hw : Waits s ch 0x05) (hrole : s.isWorker = false) :
    ∃ t, exec (.opSetTime ch) s = .next t ∧ Answers s t ch .ok []
      ∧ t.sys.time = ofHiLoU ((s.reqOf (chanIx ch)).w 1) ((s.reqOf (chanIx ch)).w 2) / 5 * 5 ∧ t.mot = s.mot ∧ RegsStand s t := by
  have hmail := taken_onlyMail hw
  set q := s.reqOf (chanIx ch) with hq
  have hrun : (taken s ch).runOp 0x05 opSetTime q = (((taken s ch).unstage R.TIM_TIME).setTime (ofHiLoU (q.w 1) (q.w 2)), .ok, []) := by
    rw [runOp_setTime (hmail.isWorker.trans hrole)]
    unfold opSetTime
    rw [timeWrite_of_core _ _ (.inl rfl)]
    rfl
  obtain ⟨hans, hanswer⟩ := hw.answered hrun ⟨rfl, rfl, rfl, fun _ _ => rfl⟩ (by decide)
  refine ⟨_, rfl, hanswer, ?_, ?_, fun k hk => (hans.2 k hk).trans (hmail.2 k hk)⟩
  · rw [hans.1]
    show ofHiLoU (q.w 1) (q.w 2) % 2 ^ 64 / 5 * 5 = _
    rw [Nat.mod_eq_of_lt (ofHiLoU_lt _ _)]
  · rw [hans.1]
    exact hmail.mot

theorem setEvents_set (hw : Waits s ch 0x07) :
    ∃ t, exec (.opSetEvents ch) s = .next t ∧ Answers s t ch .ok []
      ∧ t.fw.masks = #v[(s.reqOf (chanIx ch)).w 1, (s.reqOf (chanIx ch)).w 2, (s.reqOf (chanIx ch)).w 3]
      ∧ t.fw.ax = s.fw.ax ∧ t.mot = s.mot ∧ RegsStand s t := by
  have hmail := taken_onlyMail hw
  obtain ⟨hans, hanswer⟩ := hw.answered (f := opSetEvents) (runOp_of_unchecked unchecked_setEvents)
    ⟨rfl, rfl, rfl, fun _ _ => rfl⟩ (by decide)
  refine ⟨_, rfl, hanswer, ?_, ?_, ?_, fun k hk => (hans.2 k hk).trans (hmail.2 k hk)⟩
  · rw [hans.1]
  · rw [hans.1]
    show (taken s ch).fw.ax = s.fw.ax
    rw [hmail.1]
  · rw [hans.1]
    exact hmail.mot

/-- Settles O46: a request is taken, its opcode reads or sets what it names, and it is answered; what it asks about stands meanwhile. -/
theorem identityAndSystemRequests : Obligations.IdentityAndSystemRequests := by
  unfold Obligations.IdentityAndSystemRequests
  intro s ch q
  refine ⟨fun hw => ?_, fun hw => ?_, setPower_run, setPower_standby_busy, reset_deferred, fun hw => ?_, setTime_set, fun hw hrole => ?_,
    fun hw => ?_, setEvents_set⟩
  · exact ⟨_, rfl, hw.asked ((runOp_of_unchecked unchecked_getId).trans (opGetId_taken hw)) (by simp)⟩
  · exact ⟨_, rfl, hw.asked ((runOp_of_unchecked unchecked_getStatus).trans (opGetStatus_taken hw)) (by simp)⟩
  · exact ⟨_, rfl, hw.asked ((runOp_of_unchecked unchecked_getTime).trans (opGetTime_taken hw)) (by simp)⟩
  · exact ⟨_, rfl, hw.asked (runOp_setTime_worker ((taken_onlyMail hw).isWorker.trans hrole)) (by decide)⟩
  · refine ⟨_, rfl, hw.asked (runOp_of_unchecked unchecked_ping) ?_⟩
    exact (List.length_take_le _ _).trans hw.narg_le

end Sys2Proof.Machine
end

section
/-! PROOFS. REG_WRITE under presence while the record of that presence fills a page of the logbook whose pointers no longer decode. -/

namespace Sys2Proof.Machine

/-- The header of a REG_WRITE request for the device itself, with its two arguments. -/
def regWriteHeader : Word := wordOfNat (0x85 * 2 ^ 24 + 2 ^ 22 + 0x7FE * 2 ^ 11 + 2 * 128 + 5)

/-- As `energyAtFullPage`, but that the one request is MAINT's: REG_WRITE of ME_HDEC of axis 0, outside maintenance mode. -/
def regWriteAtFullPage : State :=
  let s := energyAtFullPage.setBit (bch 0 0x11) 0 false
  ((s.set (bch 4 0) regWriteHeader).set (bch 4 1) (wordOfNat (0x40000000 + 4 * R.ME_HDEC 0))).setBit (bch 4 0x11) 0 true

theorem waits_regWriteAtFullPage : Waits regWriteAtFullPage .maint 0x85 where
  serve := by decide +kernel
  here := by decide
  alone := by decide +kernel
  inq := rfl
  outq := by decide +kernel
  owed := by decide +kernel
  room := by decide +kernel
  bound := by decide +kernel

/-- The record of the request under presence is the seventh: its page is programmed, the pair of the wear journal is read, UE_WJ is raised and
the chip resets, the axis's position with it, before the request is refused (R25, R146, R393, R395). -/
theorem me_serve_regWriteAtFullPage : ((regWriteAtFullPage.quiet.serve .maint 0x85 opRegWrite).me 0).pos = 0 := by
  decide +kernel

/-- The request meets all that the statement asks of a REG_WRITE outside maintenance mode. -/
theorem regWriteAtFullPage_outside_maintenance : regWriteAtFullPage.sndOf 4 = 4 ∧ regWriteAtFullPage.presence = true
    ∧ regWriteBars ((regWriteAtFullPage.reqOf (chanIx .maint)).n 1) = false ∧ regWriteAtFullPage.bit R.HSP_MODE 0 = false := by
  decide +kernel

/-- Refutes O51: the record of a REG_WRITE served under presence can fill a page of the logbook, whose pointers' pair in the wear journal is then
read; where that raises UE_WJ and its reaction is CRST, the chip resets before STATE is answered, and the axes do not stand. -/
theorem not_faultLogAndRegisterRequests : ¬ Obligations.FaultLogAndRegisterRequests := by
  unfold Obligations.FaultLogAndRegisterRequests
  intro h
  obtain ⟨_, _, _, _, _, _, _, _, _, _, _, _, _, hregWrite, _⟩ := h regWriteAtFullPage .maint
  obtain ⟨hsnd, hpres, hbars, hmode⟩ := regWriteAtFullPage_outside_maintenance
  obtain ⟨t, hexec, _, hmot, _⟩ := hregWrite waits_regWriteAtFullPage rfl hsnd hpres hbars hmode
  have ht : regWriteAtFullPage.quiet.serve .maint 0x85 opRegWrite = t := Host.Outcome.next.inj hexec
  have hme : t.me 0 = regWriteAtFullPage.me 0 := by unfold State.me; rw [hmot]
  rw [← ht] at hme
  exact absurd (me_serve_regWriteAtFullPage.symm.trans (congrArg MotAx.pos hme)) (by decide)

end Sys2Proof.Machine
end

section
/-! PROOFS. The registers of which each master writes its own: bindings, LOCK, flags, ATTN, doorbell masks, HALT-ALL, READY and the maintenance
mode (R106, R107, R113, R114, R121 to R125, R129). -/

namespace Sys2Proof.Machine

variable {s t : State} {m : Master} {w : Word} {e : Nat}

/-! ### Words under a mask -/

theorem bitOf_and (v w : Word) (i : Nat) : bitOf (v &&& w) i = (bitOf v i && bitOf w i) := BitVec.getLsbD_and

theorem fldOf_and_mask {mask : Word} {hi lo : Nat} (h : ∀ i, lo ≤ i → i ≤ hi → bitOf mask i = true) : fldOf (w &&& mask) hi lo = fldOf w hi lo :=
  fldOf_congr fun i hlo hhi => by rw [bitOf_and, h i hlo hhi, Bool.and_true]

theorem State.get_store (s : State) (k j : Nat) (v : Word) : (s.store k v).get j = if j = k then v else s.get j := by
  rw [State.store, get_mend, State.get_set]

/-! ### Bindings and LOCK (R113, R114) -/

theorem fld_bindMask (e : Nat) (w : Word) :
    fldOf (w &&& bindMask e) 2 0 = fldOf w 2 0 ∧ fldOf (w &&& bindMask e) 6 4 = fldOf w 6 4 := by
  have hmask : ∀ i < 7, i ≠ 3 → bitOf (bindMask e) i = true := by
    unfold bindMask
    split
    · decide
    · decide
  exact ⟨fldOf_and_mask fun i _ hhi => hmask i (by omega) (by omega), fldOf_and_mask fun i hlo hhi => hmask i (by omega) (by omega)⟩

/-- A binding's ends read as the fields of its entry, unless one of them is 7. -/
theorem ends_of_bound (hsnd : s.fld (R.MBX_BINDB e) 2 0 < 5) (hrcv : s.fld (R.MBX_BINDB e) 6 4 < 5) :
    s.sndOf e = s.fld (R.MBX_BINDB e) 2 0 ∧ s.rcvOf e = s.fld (R.MBX_BINDB e) 6 4 := by
  have hbound : s.isBound e = true := by
    simp only [State.isBound, Bool.and_eq_true, decide_eq_true_eq]
    omega
  exact ⟨if_pos hbound, if_pos hbound⟩

/-- Before LOCK, EXEC binds an empty channel to two masters. -/
theorem bindWrite_stores (he : e < 8 ∨ 12 ≤ e) (hlock : s.bit R.MBX_LOCK 0 = false)
    (hempty : (if e < 8 then s.bFull e else s.wFull (e - 8)) = false) (hne : fldOf w 2 0 ≠ fldOf w 6 4) (hsnd : fldOf w 2 0 < 5)
    (hrcv : fldOf w 6 4 < 5) : s.bindWrite .exec e w = s.store (R.MBX_BINDB e) (w &&& bindMask e) := by
  unfold State.bindWrite
  dsimp only
  rw [hlock, hempty, if_neg (by decide), if_neg (by decide), if_neg (by simp; omega), if_neg (by omega)]

theorem bindWrite_stores_spec :
    ((s.store (R.MBX_BINDB e) (w &&& bindMask e)).fld (R.MBX_BINDB e) 2 0 = fldOf w 2 0
      ∧ (s.store (R.MBX_BINDB e) (w &&& bindMask e)).fld (R.MBX_BINDB e) 6 4 = fldOf w 6 4)
    ∧ ∀ k, k ≠ R.MBX_BINDB e → (s.store (R.MBX_BINDB e) (w &&& bindMask e)).get k = s.get k := by
  refine ⟨?_, fun k hk => by rw [State.get_store, if_neg hk]⟩
  simp only [State.fld, State.get_store, if_true]
  exact fld_bindMask e w

/-- Under LOCK every binding write raises LOCK_VIOLATION. -/
theorem bindWrite_locked (h : s.bit R.MBX_LOCK 0 = true) : s.bindWrite m e w = s.raise 3 (accessDetail m (R.MBX_BINDB e)) := by
  unfold State.bindWrite
  dsimp only
  rw [h, if_pos rfl]

theorem lockWrite_exec (hlock : s.bit R.MBX_LOCK 0 = false) (hw : bitOf w 0 = true) : s.lockWrite .exec w = s.set R.MBX_LOCK 1#32 := by
  unfold State.lockWrite
  rw [hlock, hw]
  rfl

/-! ### ATTN and HALT-ALL (R121, R124, R125) -/

theorem Master.id_lt (m : Master) : m.id < 5 := by cases m <;> decide

/-- A master writes its five bits of ATTN. -/
theorem bit_attnWrite {i : Nat} : (s.attnWrite m w).bit R.MBX_ATTN i = if i / 5 = m.id then bitOf w i else s.bit R.MBX_ATTN i := by
  have hid := Master.id_lt m
  unfold State.attnWrite
  rw [State.bit_setFld _ _ _ _ _ _ _ (by omega) (by omega), testBit_fldOf]
  by_cases hi : i / 5 = m.id
  · rw [if_pos ⟨rfl, by omega⟩, if_pos hi, show 5 * m.id + (i - 5 * m.id) = i by omega]
    simp
    omega
  · rw [if_neg (by omega), if_neg hi]

theorem haltWrite_of_right (h : s.bit R.MBX_HALTRT m.id = true) (w : Word) : s.haltWrite m w = s.setBit R.MBX_HALT m.id (bitOf w m.id) := if_pos h

/-- HALT-ALL reads held while a master with halt rights holds its bit. -/
theorem haltAll_of_held {i : Nat} (hright : s.bit R.MBX_HALTRT i = true) (hheld : s.bit R.MBX_HALT i = true) : s.haltAll = true := by
  have hbit : bitOf (s.get R.MBX_HALT &&& s.get R.MBX_HALTRT) i = true := by
    rw [bitOf_and]
    exact Bool.and_eq_true_iff.2 ⟨hheld, hright⟩
  refine decide_eq_true fun h => ?_
  rw [h] at hbit
  simp [bitOf] at hbit

/-! ### READY and the maintenance mode (R106) -/

theorem readyWrite_exec (h : s.ready = false) (hw : bitOf w 0 = true) : s.readyWrite .exec w = (s.set R.HSP_READY 1#32).set R.MBX_LOCK 1#32 := by
  unfold State.readyWrite
  rw [h, hw]
  rfl

theorem modeWrite_maint (h : s.presence = true) : s.modeWrite .maint w = s.set R.HSP_MODE (w &&& 1#32) := by
  unfold State.modeWrite
  rw [h]
  rfl

/-! ### The obligation -/

/-- A page's write that reaches it acts on the register. -/
theorem access_at {k p : Nat} (f : State → State) (hk : k / 128 = p) (h : s.opens m p = true) : s.access m k f = f (s.opened m) :=
  access_of_opens f (by rw [hk]; exact h)

theorem exec_bindingWrite {n : Fin 16} (h : s.opens m 0x03 = true) : exec (.bindingWrite m n w) s = .next ((s.opened m).bindWrite m n w) :=
  congrArg _ (access_at _ (by unfold R.MBX_BINDB regKey; omega) h)

theorem exec_flagWrite {sn u : Fin 5} (h : s.opens m 0x03 = true) : exec (.flagWrite m sn u w) s = .next ((s.opened m).flagWrite m sn u w) :=
  congrArg _ (access_at _ (by unfold R.MBX_FLAG regKey; omega) h)

theorem exec_dbmaskWrite {u : Fin 5} (h : s.opens m 0x03 = true) : exec (.dbmaskWrite m u w) s = .next ((s.opened m).dbmaskWrite m u w) :=
  congrArg _ (access_at _ (by unfold R.MBX_DBMASK regKey; omega) h)

theorem exec_haltAllHold (h : s.opens m 0x03 = true) : exec (.haltAllHold m) s = .next ((s.opened m).haltWrite m 0x1F#32) :=
  congrArg _ (access_at _ (by decide) h)

theorem exec_haltAllRelease (h : s.opens m 0x03 = true) : exec (.haltAllRelease m) s = .next ((s.opened m).haltWrite m 0#32) :=
  congrArg _ (access_at _ (by decide) h)

theorem exec_attnWrite (h : s.opens m 0x03 = true) : exec (.attnWrite m w) s = .next ((s.opened m).attnWrite m w) :=
  congrArg _ (access_at _ (by decide) h)

theorem exec_bindingLock (h : s.opens m 0x03 = true) : exec (.bindingLock m w) s = .next ((s.opened m).lockWrite m w) :=
  congrArg _ (access_at _ (by decide) h)

theorem exec_maintenanceModeWrite (h : s.opens m 0x00 = true) : exec (.maintenanceModeWrite m w) s = .next ((s.opened m).modeWrite m w) :=
  congrArg _ (access_at _ (by decide) h)

/-- READY by EXEC while firmware does not run: nothing follows the write. -/
theorem exec_hspReadyWrite (h : s.opens .exec 0x00 = true) (hready : s.ready = false) (hw : bitOf w 0 = true) (hrun : s.fwRuns = false) :
    exec (.hspReadyWrite .exec w) s = .next ((s.quiet.set R.HSP_READY 1#32).set R.MBX_LOCK 1#32) := by
  refine congrArg _ ((access_at _ (by decide) h).trans ?_)
  have hwrite : (s.opened .exec).readyWrite .exec w = (s.quiet.set R.HSP_READY 1#32).set R.MBX_LOCK 1#32 :=
    readyWrite_exec (s := s.quiet) hready hw
  have hrest : ((s.quiet.set R.HSP_READY 1#32).set R.MBX_LOCK 1#32).fwRuns = false := hrun
  dsimp only
  rw [hwrite, hrest, Bool.and_false]
  exact if_neg Bool.false_ne_true

/-- Settles O24: each write comes to one operation on its register, which the master's own bits alone enter. -/
theorem bindingsFlagsAndHaltAll : Obligations.BindingsFlagsAndHaltAll := by
  unfold Obligations.BindingsFlagsAndHaltAll
  intro s m w
  refine ⟨?_, ?_, ?_, ?_, ?_, ?_, ?_, ?_, ?_, ?_⟩
  · intro e hopen he hlock hempty hne hsnd hrcv
    refine ⟨_, exec_bindingWrite hopen, ?_⟩
    rw [bindWrite_stores (s := s.opened .exec) he hlock hempty hne hsnd hrcv]
    obtain ⟨⟨hs, hr⟩, hget⟩ := bindWrite_stores_spec (s := s.opened .exec) (e := e) (w := w)
    obtain ⟨hsndOf, hrcvOf⟩ := ends_of_bound (s := (s.opened .exec).store (R.MBX_BINDB e) (w &&& bindMask e)) (e := e) (by omega) (by omega)
    exact ⟨hsndOf.trans hs, hrcvOf.trans hr, hget⟩
  · intro e hopen hlock hp
    refine ⟨_, exec_bindingWrite hopen, ?_⟩
    rw [bindWrite_locked ((opened_bit ..).trans hlock)]
    have hplain : Plain (s.opened m) 3 (accessDetail m (R.MBX_BINDB e)) := plain_opened (hp _)
    exact ⟨(raise_only hplain).regs.trans (opened_regs s m), raisedIn_congr (opened_fc s m) (by simp) (raise_raised hplain (by decide))⟩
  · intro hopen hlock hw
    refine ⟨_, exec_bindingLock hopen, ?_⟩
    rw [lockWrite_exec ((opened_bit ..).trans hlock) hw]
    exact ⟨by rw [State.bit_set, if_pos rfl]; rfl, fun k hk => State.get_set_ne _ _ hk⟩
  · intro sn u hopen hid
    have hwrite : (s.opened m).flagWrite m sn u w = (s.opened m).set (R.MBX_FLAG (5 * sn + u)) (w &&& 0x3FFF0000#32) := if_pos hid
    refine ⟨_, exec_flagWrite hopen, ?_⟩
    rw [hwrite]
    exact ⟨State.get_set_same _ _ _, fun k hk => (State.get_set_ne _ _ hk).trans (opened_get s m k)⟩
  · intro hopen
    refine ⟨_, exec_attnWrite hopen, fun i _ => ?_, fun k hk => ?_⟩
    · rw [bit_attnWrite, opened_bit]
    · exact (State.get_set_ne _ _ hk).trans (opened_get s m k)
  · intro u hopen hid
    have hwrite : (s.opened m).dbmaskWrite m u w = (s.opened m).set (R.MBX_DBMASK u) w := if_pos hid
    refine ⟨_, exec_dbmaskWrite hopen, ?_⟩
    rw [hwrite]
    exact ⟨State.get_set_same _ _ _, fun k hk => (State.get_set_ne _ _ hk).trans (opened_get s m k)⟩
  · intro hopen hright
    have hid := Master.id_lt m
    have hright' : (s.opened m).bit R.MBX_HALTRT m.id = true := (opened_bit ..).trans hright
    refine ⟨_, exec_haltAllHold hopen, ?_⟩
    rw [haltWrite_of_right hright']
    have hheld : ((s.opened m).setBit R.MBX_HALT m.id (bitOf 0x1F#32 m.id)).bit R.MBX_HALT m.id = true := by
      rw [State.bit_setBit _ _ _ _ _ _ (by omega), if_pos ⟨rfl, rfl⟩]
      cases m <;> rfl
    refine ⟨haltAll_of_held ?_ hheld, hheld, fun k hk => (State.get_set_ne _ _ hk).trans (opened_get s m k)⟩
    rw [State.bit_setBit _ _ _ _ _ _ (by omega), if_neg fun h => absurd h.1 (by decide)]
    exact hright'
  · intro hopen hright
    have hid := Master.id_lt m
    refine ⟨_, exec_haltAllRelease hopen, ?_⟩
    rw [haltWrite_of_right ((opened_bit ..).trans hright)]
    refine ⟨?_, fun i _ hi => ?_, fun k hk => (State.get_set_ne _ _ hk).trans (opened_get s m k)⟩
    · rw [State.bit_setBit _ _ _ _ _ _ (by omega), if_pos ⟨rfl, rfl⟩]
      simp [bitOf]
    · rw [State.bit_setBit _ _ _ _ _ _ (by omega), if_neg fun h => hi h.2, opened_bit]
  · intro hopen hready hw hrun
    refine ⟨_, exec_hspReadyWrite hopen hready hw hrun, ?_, ?_, fun k hk hk' => ?_⟩
    · rw [State.ready, State.bit_set, if_neg (by decide), State.bit_set, if_pos rfl]
      rfl
    · rw [State.bit_set, if_pos rfl]
      rfl
    · rw [State.get_set_ne _ _ hk', State.get_set_ne _ _ hk, State.get_quiet]
  · intro hopen hpres
    refine ⟨_, exec_maintenanceModeWrite hopen, ?_⟩
    rw [modeWrite_maint (s := s.opened .maint) hpres]
    exact ⟨by rw [State.bit_set, if_pos rfl, bitOf_and]; exact Bool.and_true _, fun k hk => State.get_set_ne _ _ hk⟩

end Sys2Proof.Machine
end

section
/-! PROOFS. The waveform table written and checked, the override of an axis's current, and the edges of its encoder (R103, R170, R184, R185, R194,
R208). -/

namespace Sys2Proof.Machine

variable {s t u : State} {m : Master} {w : Word} {ax bx : Axis} {k : Nat}

/-! ### The table's parity (R102, R185) -/

/-- `t` differs from `s` at most in the collector and in the registers known to mismatch. -/
def OnlyParity (s t : State) : Prop :=
  t = { s with parityBad := t.parityBad, fc := t.fc, fcLast := t.fcLast, fcPresent := t.fcPresent, sys := { s.sys with nmiHeld := t.sys.nmiHeld } }

theorem OnlyParity.trans (h : OnlyParity s t) (g : OnlyParity t u) : OnlyParity s u := by
  unfold OnlyParity at *
  rw [g, h]

theorem OnlyCollector.parity (h : OnlyCollector s t) : OnlyParity s t := by
  unfold OnlyCollector at h
  unfold OnlyParity
  rw [h]

theorem OnlyParity.regs (h : OnlyParity s t) : t.regs = s.regs := by rw [h]

theorem OnlyParity.coil (h : OnlyParity s t) : t.coil = s.coil := by rw [h]

theorem OnlyParity.noReset (h : OnlyParity s t) (hs : NoReset s) : NoReset t :=
  noReset_of_get (by rw [h]) (by rw [h]) (fun k _ => State.get_congr h.regs k) hs

theorem settleParity_onlyParity (p : Nat) : OnlyParity s (s.settleParity p) := by
  unfold State.settleParity
  split <;> rfl

/-- CFG_PARITY of the axis follows its table: the collector alone is concerned. -/
theorem settleWave_onlyParity (hs : NoReset s) : OnlyParity s (s.settleWave ax) := by
  unfold State.settleWave
  extract_lets k rest
  have hparity (l : List Nat) : OnlyParity s { s with parityBad := l } := rfl
  split
  · exact (hparity rest).trans (settleParity_onlyParity _)
  · have hplain : Plain ({ s with parityBad := k :: rest } : State) (32 + ax) (parityDetail k) :=
      ⟨((hparity _).noReset hs).1, ((hparity _).noReset hs).2 _ (by omega) _⟩
    exact (hparity (k :: rest)).trans (raiseLevel_only hplain).parity

/-! ### CR_WDATA (R103, R184, R185) -/

theorem exec_crWdataWrite (h : s.opens m (R.CR_WDATA ax / 128) = true) : exec (.crWdataWrite m ax w) s = .next ((s.opened m).wdataWrite m ax w) :=
  congrArg _ (access_of_opens _ h)

/-- An entry stored while the regulators are disabled, and CR_WADDR advanced. -/
theorem wdataWrite_spec (hs : NoReset s) (hoff : s.crEn ax = false) :
    (∀ i, (s.wdataWrite m ax w).waveStored ax i = if i = s.fld (R.CR_WADDR ax) 9 0 then fldOf w 15 0 else s.waveStored ax i)
    ∧ (s.wdataWrite m ax w).fld (R.CR_WADDR ax) 9 0 = (s.fld (R.CR_WADDR ax) 9 0 + 1) % 1024
    ∧ (∀ k, k ≠ R.CR_WADDR ax → (s.wdataWrite m ax w).get k = s.get k)
    ∧ ∀ bx, bx ≠ ax → vget (s.wdataWrite m ax w).coil bx = vget s.coil bx := by
  rw [wdataWrite_of_off hoff]
  set i := s.fld (R.CR_WADDR ax) 9 0
  set g := wavePutCoil i (fldOf w 15 0)
  have hput : NoReset (s.onCoil ax g) := noReset_of_get rfl rfl (fun _ _ => rfl) hs
  have hwave := settleWave_onlyParity (ax := ax) hput
  have hcoil : (((s.onCoil ax g).settleWave ax).waveNext ax).coil = vset s.coil ax (g (vget s.coil ax)) := hwave.coil
  have haddr : ((s.onCoil ax g).settleWave ax).fld (R.CR_WADDR ax) 9 0 = i := State.fld_of_regs hwave.regs _ _ _
  refine ⟨fun j => ?_, ?_, fun k hk => ?_, fun bx hbx => by rw [hcoil, vget_vset_ne _ _ hbx]⟩
  · rw [State.waveStored, hcoil, vget_vset_same, wave_wavePutCoil]
    rfl
  · rw [State.waveNext, State.fld_setFld_same _ _ _ _ _ (by decide) (by decide), haddr]
    exact Nat.mod_mod _ _
  · exact (State.get_set_ne _ _ hk).trans (State.get_congr hwave.regs k)

/-- While they are enabled another value than the stored is ignored. -/
theorem wdataWrite_of_on (hon : s.crEn ax = true) (hne : s.waveStored ax (s.fld (R.CR_WADDR ax) 9 0) ≠ fldOf w 15 0) :
    s.wdataWrite m ax w = s.writeIgnored m (R.CR_WDATA ax) := by
  unfold State.wdataWrite
  rw [hon]
  exact if_pos (by simp [hne])

theorem OnlyRecords.coil (h : OnlyRecords s t) : t.coil = s.coil := by rw [h]

/-! ### WAVE_TABLE_CHECK (R185) -/

/-- The check of one axis's entry. -/
def waveLook (e : Nat) (bad : List Axis) (s : State) (ax : Axis) : State :=
  if bad.contains ax == (vget s.coil ax).waveBad.contains e then s
  else (s.onCoil ax fun c =>
    { c with waveBad := if bad.contains ax then e :: (vget s.coil ax).waveBad else (vget s.coil ax).waveBad.filter (· ≠ e) }).settleWave ax

theorem waveCheck_eq (e : Nat) (bad : List Axis) : s.waveCheck e bad = forAll 8 s (waveLook e bad) := rfl

/-- From `s` to `t` no register and no entry of a table has changed, and no source comes to reset anything. -/
def TablesStand (s t : State) : Prop := NoReset t ∧ t.regs = s.regs ∧ ∀ bx : Axis, (vget t.coil bx).wave = (vget s.coil bx).wave

/-- The look at one entry marks it as it was found, and leaves the other axes' tables. -/
theorem waveLook_spec {e : Nat} {bad : List Axis} (hs : NoReset s) : TablesStand s (waveLook e bad s ax)
    ∧ (vget (waveLook e bad s ax).coil ax).waveBad.contains e = bad.contains ax
    ∧ ∀ bx, bx ≠ ax → vget (waveLook e bad s ax).coil bx = vget s.coil bx := by
  unfold waveLook
  split
  next h => exact ⟨⟨hs, rfl, fun _ => rfl⟩, (beq_iff_eq.1 h).symm, fun _ _ => rfl⟩
  next h =>
    set l := if bad.contains ax then e :: (vget s.coil ax).waveBad else (vget s.coil ax).waveBad.filter (· ≠ e) with hl
    have hmark : NoReset (s.onCoil ax fun c => { c with waveBad := l }) := noReset_of_get rfl rfl (fun _ _ => rfl) hs
    have hwave := settleWave_onlyParity (ax := ax) hmark
    have hcoil : ((s.onCoil ax fun c => { c with waveBad := l }).settleWave ax).coil = vset s.coil ax { vget s.coil ax with waveBad := l } :=
      hwave.coil
    refine ⟨⟨hwave.noReset hmark, hwave.regs, fun bx => ?_⟩, ?_, fun bx hbx => by rw [hcoil, vget_vset_ne _ _ hbx]⟩
    · rw [hcoil, vget_vset]
      split
      next hbx => rw [hbx]
      next => rfl
    · rw [hcoil, vget_vset_same, hl]
      cases bad.contains ax <;> simp

/-- After the check the named axes' entry is marked as mismatching, and that of no other axis. -/
theorem waveCheck_spec {e : Nat} {bad : List Axis} (hs : NoReset s) :
    TablesStand s (s.waveCheck e bad) ∧ (vget (s.waveCheck e bad).coil ax).waveBad.contains e = bad.contains ax := by
  rw [waveCheck_eq]
  have hstep (t : State) (bx : Axis) (ht : TablesStand s t) : TablesStand s (waveLook e bad t bx) := by
    obtain ⟨⟨hnr, hregs, hwave⟩, -, -⟩ := waveLook_spec (e := e) (bad := bad) (ax := bx) ht.1
    exact ⟨hnr, hregs.trans ht.2.1, fun cx => (hwave cx).trans (ht.2.2 cx)⟩
  have hrefl : TablesStand s s := ⟨hs, rfl, fun _ => rfl⟩
  refine ⟨forAll_keeps hrefl hstep, ?_⟩
  refine forAll_reaches_under (I := TablesStand s) (R := fun t => (vget t.coil ax).waveBad.contains e = bad.contains ax) ax hrefl hstep
    (fun t ht => (waveLook_spec ht.1).2.1) fun t bx hbx ht hR => ?_
  rw [(waveLook_spec ht.1).2.2 ax hbx.symm]
  exact hR

theorem waveAt_of_bad {e : Nat} (h : (vget s.coil ax).waveBad.contains e = true) : s.waveAt ax e = waveDefault e := if_pos h

theorem waveAt_of_good {e : Nat} (h : (vget s.coil ax).waveBad.contains e = false) : s.waveAt ax e = s.waveStored ax e :=
  if_neg (by rw [h]; exact Bool.false_ne_true)

/-! ### CR_OVR (R208) and the encoder (R170, R194) -/

theorem exec_crOvrWrite (h : s.opens m (R.CR_OVR ax / 128) = true) : exec (.crOvrWrite m ax w) s = .next ((s.opened m).ovrWrite m ax w) :=
  congrArg _ (access_of_opens _ h)

theorem opened_me (s : State) (m : Master) (ax : Axis) : (s.opened m).me ax = s.me ax := by
  unfold State.me
  rw [opened_mot]

theorem opened_moving (s : State) (m : Master) (ax : Axis) : (s.opened m).moving ax = s.moving ax := by
  unfold State.moving
  rw [opened_me]

theorem ovrWrite_stores (h : fldOf w 31 30 = 0 ∨ (s.moving ax = false ∧ (s.me ax).active = none)) :
    s.ovrWrite m ax w = s.set (R.CR_OVR ax) (w &&& 0xC0000FFF#32) := by
  refine if_neg ?_
  rcases h with h | ⟨h, h'⟩
  · simp [h]
  · simp [h, h']

theorem ovrWrite_ignored (hmode : fldOf w 31 30 ≠ 0) (h : s.moving ax = true ∨ (s.me ax).active ≠ none) :
    s.ovrWrite m ax w = s.writeIgnored m (R.CR_OVR ax) :=
  if_pos ⟨hmode, h.imp id Option.isSome_iff_ne_none.2⟩

theorem exec_encoderEdge_of {up : Bool} (h : vget s.roles ax = .encoder ∨ s.cmode ax = 3) : exec (.encoderEdge ax up) s = .next
    (s.quiet.set (R.CR_ENCCNT ax) (if up then s.get (R.CR_ENCCNT ax) + 1#32 else s.get (R.CR_ENCCNT ax) - 1#32)) :=
  congrArg _ (if_pos (by simpa using h))

theorem exec_encoderEdge_other {up : Bool} (h1 : vget s.roles ax ≠ .encoder) (h2 : s.cmode ax ≠ 3) : exec (.encoderEdge ax up) s = .next s.quiet :=
  congrArg _ (if_neg (by simp [h1, h2]))

theorem exec_encoderZEdge_of (h : vget s.roles ax = .encoder ∨ s.cmode ax = 3) : exec (.encoderZEdge ax) s = .next
    ((s.quiet.set (R.CR_ENCZ ax) (s.get (R.CR_ENCCNT ax))).onMot ax fun x => { x with zEdge := true }) :=
  congrArg _ (if_pos (by simpa using h))

/-! ### The obligation -/

/-- Settles O35: an entry and an override are stored or ignored by one write, the check marks what it finds, and the edges count or capture. -/
theorem waveTableOverrideAndEncoder : Obligations.WaveTableOverrideAndEncoder := by
  unfold Obligations.WaveTableOverrideAndEncoder
  intro s ax hs
  have hignored (m : Master) (k : Nat) : RaisedIn s ((s.opened m).writeIgnored m k) 2 (accessDetail m k)
      ∧ OnlyRecords (s.opened m) ((s.opened m).writeIgnored m k) := writeIgnored_opened ⟨hs.1, hs.2 2 (by decide) _⟩
  refine ⟨?_, ?_, ?_, ?_, ?_, ?_, ?_, ?_⟩
  · intro m w hopen hoff
    obtain ⟨hstored, haddr, hget, hcoil⟩ := wdataWrite_spec (m := m) (w := w) (ax := ax) (noReset_opened (m := m) hs) ((opened_bit ..).trans hoff)
    have hold (i : Nat) : (s.opened m).waveStored ax i = s.waveStored ax i := by rw [State.waveStored, opened_coil]; rfl
    rw [opened_fld] at hstored haddr
    refine ⟨_, exec_crWdataWrite hopen, (hstored _).trans (if_pos rfl), haddr, fun i hi => ?_, fun k hk => (hget k hk).trans (opened_get ..),
      fun bx hbx => (hcoil bx hbx).trans (by rw [opened_coil])⟩
    rw [hstored, if_neg hi, hold]
  · intro m w hopen hon hne
    have hwrite : (s.opened m).wdataWrite m ax w = (s.opened m).writeIgnored m (R.CR_WDATA ax) :=
      wdataWrite_of_on ((opened_bit ..).trans hon) (by rw [opened_fld, State.waveStored, opened_coil]; exact hne)
    obtain ⟨hraised, honly⟩ := hignored m (R.CR_WDATA ax)
    rw [← hwrite] at hraised honly
    exact ⟨_, exec_crWdataWrite hopen, honly.coil.trans (opened_coil s m), honly.regs.trans (opened_regs s m), hraised⟩
  · intro e bad
    obtain ⟨⟨-, hregs, hwave⟩, hbad⟩ := waveCheck_spec (s := s.quiet) (ax := ax) (e := e) (bad := bad) (noReset_of_get rfl rfl (fun _ _ => rfl) hs)
    exact ⟨_, rfl, hbad, fun h => waveAt_of_bad (hbad.trans h), fun h => waveAt_of_good (hbad.trans h), hwave ax, hregs⟩
  · intro m w hopen hrest
    refine ⟨_, exec_crOvrWrite hopen, ?_⟩
    rw [ovrWrite_stores (by rwa [opened_moving, opened_me])]
    exact ⟨State.get_set_same _ _ _, fun k hk => (State.get_set_ne _ _ hk).trans (opened_get ..), opened_fc s m, opened_mot s m⟩
  · intro m w hopen hmode hbusy
    refine ⟨_, exec_crOvrWrite hopen, ?_⟩
    rw [ovrWrite_ignored hmode (by rwa [opened_moving, opened_me])]
    obtain ⟨hraised, honly⟩ := hignored m (R.CR_OVR ax)
    exact ⟨honly.regs.trans (opened_regs s m), hraised⟩
  · exact fun up h => ⟨_, exec_encoderEdge_of h, State.get_set_same _ _ _, fun k hk => State.get_set_ne _ _ hk, rfl⟩
  · exact fun up h1 h2 => exec_encoderEdge_other h1 h2
  · intro h
    refine ⟨_, exec_encoderZEdge_of h, State.get_set_same _ _ _, ?_, fun k hk => State.get_set_ne _ _ hk, fun bx hbx => ?_⟩
    · rw [State.me_onMot_same]
    · exact State.me_onMot_other _ hbx

end Sys2Proof.Machine
end

section
/-! PROOFS. Frames of the serial ports in either direction, and their page (R82, R84 to R87, R90 to R97). -/

namespace Sys2Proof.Machine

variable {s : State} {p q : SerialPort} {m : Master} {cmd : Byte} {i n edges tck taken : Nat} {ws : List Word} {w : Word}

/-! ### The record of a port (R94) -/

@[simp] theorem port_setPort (s : State) (p : SerialPort) (f : Port → Port) : (s.setPort p f).port p = f (s.port p) := by cases p <;> rfl

theorem port_setPort_ne (s : State) (f : Port → Port) (h : q ≠ p) : (s.setPort p f).port q = s.port q := by
  cases p with
  | host => cases q with
    | host => exact absurd rfl h
    | maint => rfl
  | maint => cases q with
    | host => rfl
    | maint => exact absurd rfl h

@[simp] theorem setPort_regs (s : State) (p : SerialPort) (f : Port → Port) : (s.setPort p f).regs = s.regs := by cases p <;> rfl

@[simp] theorem setPort_mot (s : State) (p : SerialPort) (f : Port → Port) : (s.setPort p f).mot = s.mot := by cases p <;> rfl

@[simp] theorem setPort_fc (s : State) (p : SerialPort) (f : Port → Port) : (s.setPort p f).fc = s.fc := by cases p <;> rfl

@[simp] theorem setPort_ctxRam (s : State) (p : SerialPort) (f : Port → Port) : (s.setPort p f).ctxRam = s.ctxRam := by cases p <;> rfl

/-- With the port closed neither a frame nor an access has an effect (R96). -/
theorem exec_writeFrame_closed (h : s.portOpen = false) : exec (.writeFrame p cmd ws edges) s = .next s.quiet :=
  if_pos (by have h' : s.quiet.portOpen = false := h; simp [h'])

theorem exec_readFrame_closed (h : s.portOpen = false) : exec (.readFrame p cmd edges tck taken) s = .next s.quiet :=
  if_pos (by have h' : s.quiet.portOpen = false := h; simp [h'])

theorem exec_hspPageWrite_closed (h : s.portOpen = false) : exec (.hspPageWrite p w) s = .next s.quiet :=
  congrArg _ (if_neg (by have h' : s.quiet.portOpen = false := h; simp [h']))

theorem exec_hspPageWrite_open (h : s.portOpen = true) :
    exec (.hspPageWrite p w) s = .next (s.quiet.setPort p fun _ => { page := w.toNat % 128 }) := congrArg _ (if_pos h)

/-! ### Write frames (R84 to R90) -/

/-- A write frame on an open port that meets no word of the test page. -/
theorem exec_writeFrame_open (hopen : s.portOpen = true) (hdir : bitOf (cmd.setWidth 32) 7 = false) (hedges : edges ≠ 0)
    (htest : (legalLength edges 8 1 (cmd.toNat % 128) && s.testAccess (s.port p).page (cmd.toNat % 128) (wordsBegun edges 8)) = false) :
    exec (.writeFrame p cmd ws edges) s = .next { s.quiet.writeFrame p (cmd.toNat % 128) ws edges with out := {} } := by
  have hopen' : s.quiet.portOpen = true := hopen
  refine (if_neg (by simp [hedges, hopen', hdir])).trans (if_neg ?_)
  rw [Bool.not_eq_true]
  exact htest

theorem writeFrame_illegal (h : legalLength edges 8 1 i = false) :
    s.writeFrame p i ws edges = s.setPort p fun q => { page := q.page, rej := true, wrap := wraps i (wordsBegun edges 8) } :=
  if_pos (by simp [h])

/-- A word of a legal frame that rejects it: NAK, and no word is written (R88). -/
theorem port_writeFrame_nak (hlegal : legalLength edges 8 1 i = true) (hserved : s.pageServed (s.port p).page = true) {j : Nat}
    (hj : j < wordsBegun edges 8) (hi : frameIndex i j ≠ 0x7F) (hnak : s.wordNak (portMaster p) (regKey (s.port p).page (frameIndex i j)) = true) :
    ((s.writeFrame p i ws edges).port p).rej = false ∧ ((s.writeFrame p i ws edges).port p).nak = true := by
  have hmem : regKey (s.port p).page (frameIndex i j) ∈
      (((List.range (wordsBegun edges 8)).map (frameIndex i)).filter fun j => j ≠ 0x7F).map (regKey (s.port p).page) :=
    List.mem_map_of_mem (List.mem_filter.2 ⟨List.mem_map_of_mem (List.mem_range.2 hj), decide_eq_true hi⟩)
  unfold State.writeFrame
  dsimp only
  rw [hlegal, hserved, if_neg (by decide), if_pos rfl, if_pos (List.any_eq_true.2 ⟨_, hmem, hnak⟩), port_setPort]
  exact ⟨rfl, rfl⟩

/-- One word that nothing rejects is the bus write of its register. -/
theorem writeFrame_word (hi : i ≠ 0x7F) (hserved : s.pageServed (s.port p).page = true)
    (hnak : s.wordNak (portMaster p) (regKey (s.port p).page i) = false) :
    s.writeFrame p i [w] 40 = ((s.busWrite (portMaster p) (regKey (s.port p).page i) w).setPort p fun q => { page := q.page }).fwStep := by
  have hlegal : legalLength 40 8 1 i = true := by simp [legalLength, hi]
  have hrange : List.range (wordsBegun 40 8) = [0] := rfl
  have hkeys : (([0].map (frameIndex i)).filter fun j => j ≠ 0x7F).map (regKey (s.port p).page) = [regKey (s.port p).page i] := by
    simp [frameIndex, hi]
  have hcommit : s.commitWord p (s.port p).page i w = s.busWrite (portMaster p) (regKey (s.port p).page i) w :=
    (if_neg hi).trans (if_pos hserved)
  unfold State.writeFrame
  dsimp only
  rw [hlegal, hserved, if_neg (by decide), if_pos rfl, hrange, hkeys]
  simp only [List.any_cons, List.any_nil, hnak, Bool.or_self, Bool.false_eq_true, if_false, List.foldl_cons, List.foldl_nil]
  exact congrArg (fun u : State => (u.setPort p fun q => { page := q.page }).fwStep) hcommit

/-! ### Read frames (R84, R85, R91 to R95) -/

/-- A read frame on an open port that meets no word of the test page. -/
theorem exec_readFrame_open (hopen : s.portOpen = true) (hdir : bitOf (cmd.setWidth 32) 7 = true) (hedges : edges ≠ 0)
    (htest : s.testAccess (s.port p).page (cmd.toNat % 128) (wordsBegun edges (16 + 8 * s.padding p)) = false) :
    exec (.readFrame p cmd edges tck taken) s = .next (s.quiet.readFrame p (cmd.toNat % 128) edges tck taken) := by
  have hopen' : s.quiet.portOpen = true := hopen
  refine (if_neg (by simp [hedges, hopen', hdir])).trans (if_neg ?_)
  rw [Bool.not_eq_true]
  exact htest

/-- A read frame that meets a word of the test page stops the model (R106). -/
theorem exec_readFrame_test (hopen : s.portOpen = true) (hdir : bitOf (cmd.setWidth 32) 7 = true) (hedges : edges ≠ 0)
    (htest : s.testAccess (s.port p).page (cmd.toNat % 128) (wordsBegun edges (16 + 8 * s.padding p)) = true) :
    exec (.readFrame p cmd edges tck taken) s = .fault .testPage := by
  have hopen' : s.quiet.portOpen = true := hopen
  exact (if_neg (by simp [hedges, hopen', hdir])).trans (if_pos htest)

/-- The port's record after a read frame, and what the frame has shifted out. -/
theorem readFrame_record : ((s.readFrame p i edges tck taken).port p).rej = !legalLength edges (16 + 8 * s.padding p) 0 i
    ∧ ((s.readFrame p i edges tck taken).port p).undr
      = (s.frameWords p (s.port p).page i (s.padding p) tck (wordsBegun edges (16 + 8 * s.padding p))).2
    ∧ (s.readFrame p i edges tck taken).out.words
      = (s.frameWords p (s.port p).page i (s.padding p) tck (wordsBegun edges (16 + 8 * s.padding p))).1
    ∧ (9 ≤ edges → (s.readFrame p i edges tck taken).out.status = some (BitVec.ofNat 8 (s.statusByte (s.port p)))) := by
  unfold State.readFrame
  dsimp only
  refine ⟨?_, ?_, rfl, fun h => if_pos h⟩
  · cases p <;> rfl
  · cases p <;> rfl

/-- Words in time are shifted out as they are found, lowest index first. -/
theorem frameWords_in_time {page t : Nat} (h : ∀ j < n, s.late page (frameIndex i j) j t tck = false) :
    s.frameWords p page i t tck n = ((List.range n).map fun j => s.frameWord p page (frameIndex i j), false) := by
  unfold State.frameWords
  induction n with
  | zero => rfl
  | succ n ih =>
    have hlast := h n (by omega)
    rw [List.range_succ, List.foldl_append, ih fun j hj => h j (by omega), List.map_append]
    simp [hlast]

/-- An illegal read frame has no side effect (R85). -/
theorem readFrame_illegal (h : legalLength edges (16 + 8 * s.padding p) 0 i = false) : (s.readFrame p i edges tck 0).regs = s.regs
    ∧ (s.readFrame p i edges tck 0).ctxRam = s.ctxRam ∧ (s.readFrame p i edges tck 0).fc = s.fc := by
  unfold State.readFrame
  dsimp only
  rw [h]
  cases p <;> exact ⟨rfl, rfl, rfl⟩

theorem wordsBegun_whole (head n : Nat) : wordsBegun (head + 32 * n) head = n := by
  unfold wordsBegun
  omega

theorem legalLength_whole {head lo : Nat} (hlo : lo ≤ n) (hn : n ≤ if i = 0x7F then 1 else 32) : legalLength (head + 32 * n) head lo i = true := by
  have hwords : (head + 32 * n - head) / 32 = n := by omega
  simp only [legalLength, hwords, decide_true, Bool.true_and, Bool.and_eq_true, decide_eq_true_eq]
  exact ⟨hlo, hn⟩

/-! ### What a register reads does not depend on what the last command answered -/

theorem mspRead_word : (s.mspRead m).1 = s.msp.rxq.headD 0#32 := by
  unfold State.mspRead
  split
  case h_1 hempty => rw [hempty]; rfl
  case h_2 hfront => rw [hfront]; rfl

theorem view_quiet {k : Nat} : s.quiet.view m k = s.view m k := by
  unfold State.view
  simp only [mspRead_word]
  rfl

theorem readWord_quiet {k : Nat} : s.quiet.readWord m k = s.readWord m k := by
  unfold State.readWord
  simp only [view_quiet]
  rfl

theorem frameWord_quiet {page : Nat} : s.quiet.frameWord p page i = s.frameWord p page i := by
  unfold State.frameWord
  rw [readWord_quiet]
  rfl

end Sys2Proof.Machine
end

section
/-! PROOFS. A register write of one master, and the entry to test mode (R90, R97, R103, R106). -/

namespace Sys2Proof.Machine

variable {s : State} {p : SerialPort} {m : Master} {addr w : Word} {width k : Nat}

/-- Firmware that does not run does nothing. -/
theorem fwStep_of_stopped (h : s.fwRuns = false) : s.fwStep = s := if_neg (by rw [h]; exact Bool.false_ne_true)

theorem opened_fwRuns (s : State) (m : Master) : (s.opened m).fwRuns = s.fwRuns := by
  unfold State.fwRuns
  rw [opened_sys]

theorem OnlyRecords.fwRuns {t : State} (h : OnlyRecords s t) : t.fwRuns = s.fwRuns := by
  unfold State.fwRuns
  rw [h]

/-- The write of one master, before firmware acts on what it changed. -/
def written (s : State) (m : Master) (addr : Word) (width : Nat) (w : Word) : State :=
  match m with
  | .host => s.portWrite .host addr w
  | .maint => s.portWrite .maint addr w
  | _ => s.masterWrite m addr width w

theorem exec_registerWrite_closed (h : s.portOpen = false) : exec (.registerWrite m addr width w) s = .next s.quiet :=
  if_pos (by rw [h]; rfl)

/-- A write of an open device that meets no word of the test page. -/
theorem exec_registerWrite_open (hopen : s.portOpen = true)
    (htest : s.sys.testMode = false ∨ ∀ k, keyAt addr = some k → k / 128 ≠ 0x7E ∨ k % 128 = 0x7F) :
    exec (.registerWrite m addr width w) s = .next (written (s.opened m) m addr width w).fwStep := by
  have hany : (s.sys.testMode && (keyAt addr).any fun k => k / 128 = 0x7E && k % 128 ≠ 0x7F) = false := by
    rcases htest with h | h
    · rw [h, Bool.false_and]
    · cases hk : keyAt addr with
      | none => simp
      | some k => rcases h k hk with h | h <;> simp [h]
  refine (if_neg (by rw [hopen]; decide)).trans ((if_neg ?_).trans ?_)
  · rw [opened_sys]
    intro h
    simp only [Bool.and_eq_true] at h
    rw [Bool.and_eq_false_iff] at hany
    rcases hany with hany | hany
    · exact Bool.false_ne_true (hany.symm.trans h.1.1)
    · exact Bool.false_ne_true (hany.symm.trans h.2)
  · cases m <;> rfl

/-- An address outside the register space meets no register. -/
theorem written_of_outside (h : keyAt addr = none) : written s m addr width w = s := by
  cases m <;> simp [written, State.portWrite, State.masterWrite, h]

theorem regKey_div_mod (k : Nat) : regKey (k / 128) (k % 128) = k := by
  unfold regKey
  omega

/-- One word that nothing rejects is a serial port's bus write of its register. -/
theorem portWrite_accepted (hk : keyAt addr = some k) (hi : k % 128 ≠ 0x7F) (hserved : s.pageServed (k / 128) = true)
    (hnak : s.wordNak (portMaster p) k = false) : s.portWrite p addr w = s.busWrite (portMaster p) k w := by
  unfold State.portWrite State.commitWord
  simp only [hk, hnak, Bool.and_false, Bool.false_eq_true, if_false, if_neg hi, hserved, if_true, regKey_div_mod]

/-- An aligned write of 32 bits is an internal master's bus write of its register. -/
theorem masterWrite_aligned (hk : keyAt addr = some k) (ha : fldOf addr 1 0 = 0) : s.masterWrite m addr 4 w = s.busWrite m k w := by
  simp [State.masterWrite, hk, ha]

theorem masterWrite_unsuited (hk : keyAt addr = some k) (h : width ≠ 4 ∨ fldOf addr 1 0 ≠ 0) :
    s.masterWrite m addr width w = (s.raise 0 (wordOfNat (m.id * 536870912 + fldOf addr 15 0))).busError := by
  simp only [State.masterWrite, hk]
  exact if_pos h

theorem opened_wordNak (s : State) (m : Master) (k : Nat) : (s.opened m).wordNak m k = s.wordNak m k := by cases m <;> rfl

theorem opened_pageServed (s : State) (m : Master) (page : Nat) : (s.opened m).pageServed page = s.pageServed page := by cases m <;> rfl

theorem written_busWrite (hk : keyAt addr = some k) (hi : k % 128 ≠ 0x7F) (hint : m.serial = false → fldOf addr 1 0 = 0)
    (hser : m.serial = true → s.pageServed (k / 128) = true ∧ s.wordNak m k = false) :
    written (s.opened m) m addr 4 w = (s.opened m).busWrite m k w := by
  have hport (p : SerialPort) (hp : portMaster p = m) (hm : m.serial = true) :
      (s.opened m).portWrite p addr w = (s.opened m).busWrite m k w := by
    obtain ⟨hserved, hnak⟩ := hser hm
    subst hp
    exact portWrite_accepted hk hi ((opened_pageServed ..).trans hserved) ((opened_wordNak ..).trans hnak)
  cases m with
  | host => exact hport .host rfl rfl
  | maint => exact hport .maint rfl rfl
  | exec => exact masterWrite_aligned hk (hint rfl)
  | link => exact masterWrite_aligned hk (hint rfl)
  | safe => exact masterWrite_aligned hk (hint rfl)

theorem written_internal (hm : m.serial = false) : written s m addr width w = s.masterWrite m addr width w := by
  cases m with
  | host => cases hm
  | maint => cases hm
  | exec => rfl
  | link => rfl
  | safe => rfl

/-- Another width, or an unaligned address, of an internal master (R97). -/
theorem busSize_spec (hk : keyAt addr = some k) (hm : m.serial = false) (hrun : s.fwRuns = false) (hsize : width ≠ 4 ∨ fldOf addr 1 0 ≠ 0)
    (hp : ∀ d, Plain s 0 d) : ∃ t, (written (s.opened m) m addr width w).fwStep = t
      ∧ RaisedIn s t 0 (wordOfNat (m.id * 536870912 + fldOf addr 15 0)) ∧ t.out.busErr = true ∧ t.regs = s.regs ∧ t.mot = s.mot := by
  set d := wordOfNat (m.id * 536870912 + fldOf addr 15 0)
  have hplain : Plain (s.opened m) 0 d := plain_opened (hp d)
  have honly := raise_only hplain
  have hstopped : ((s.opened m).raise 0 d).busError.fwRuns = false := honly.fwRuns.trans ((opened_fwRuns ..).trans hrun)
  refine ⟨((s.opened m).raise 0 d).busError, ?_, raisedIn_congr (opened_fc s m) (by simp) (raise_raised hplain (by decide)), rfl,
    honly.regs.trans (opened_regs s m), honly.mot.trans (opened_mot s m)⟩
  rw [written_internal hm, masterWrite_unsuited hk hsize, fwStep_of_stopped hstopped]

/-! ### Test mode (R106) -/

theorem testEntry_enters (hopen : s.portOpen = true) (hready : s.ready = false) (hoff : ∀ ax : Axis, s.bit (R.PWM_CFG ax) 31 = false) :
    s.testEntry = { s with sys := { s.sys with testMode := true } } :=
  if_pos (by simp [hopen, hready, hoff])

theorem testEntry_barred (h : s.portOpen = false ∨ s.ready = true ∨ ∃ ax : Axis, s.bit (R.PWM_CFG ax) 31 = true) : s.testEntry = s := by
  refine if_neg ?_
  rcases h with h | h | ⟨ax, h⟩
  · simp [h]
  · simp [h]
  · intro hall
    rw [Bool.and_eq_true, List.all_eq_true] at hall
    have := hall.2 ax (List.mem_finRange ax)
    rw [h] at this
    exact Bool.false_ne_true this

/-! ### The obligation -/

/-- Settles O25: a frame and a write complete by one operation each, whose record and words are read off it; a closed port admits none. -/
theorem serialFramesAndRegisterWrites : Obligations.SerialFramesAndRegisterWrites := by
  unfold Obligations.SerialFramesAndRegisterWrites
  refine ⟨fun s p cmd hopen => ⟨?_, ?_, ?_, ?_, ?_, ?_, ?_, ?_⟩, fun s m addr w hopen => ⟨?_, ?_, ?_⟩, ?_, ?_, ?_⟩
  · intro ws edges hdir hedges hlegal
    refine ⟨_, exec_writeFrame_open hopen hdir hedges (by rw [hlegal]; rfl), ?_⟩
    rw [writeFrame_illegal hlegal]
    cases p <;> exact ⟨rfl, rfl, rfl, rfl, rfl⟩
  · intro ws edges hdir hedges hlegal htest
    refine ⟨_, exec_writeFrame_open hopen hdir hedges (by rw [htest, Bool.and_false]), fun hserved j hj hi hnak => ?_⟩
    have hport := port_writeFrame_nak (s := s.quiet) (ws := ws) hlegal hserved hj hi hnak
    cases p <;> exact hport
  · intro w hdir hi hserved htest hnak
    rw [exec_writeFrame_open hopen hdir (by decide) (by rw [show wordsBegun 40 8 = 1 from rfl, htest, Bool.and_false]),
      writeFrame_word (s := s.quiet) hi hserved hnak]
    rfl
  · intro edges tck taken hdir hedges htest
    obtain ⟨hrej, -, -, hstatus⟩ := readFrame_record (s := s.quiet) (p := p) (i := cmd.toNat % 128) (edges := edges) (tck := tck) (taken := taken)
    exact ⟨_, exec_readFrame_open hopen hdir hedges htest, hrej, hstatus⟩
  · intro n tck taken hdir hn htest hlate
    have hwords := wordsBegun_whole (16 + 8 * s.padding p) n
    obtain ⟨hrej, hundr, hout, -⟩ := readFrame_record (s := s.quiet) (p := p) (i := cmd.toNat % 128) (edges := 16 + 8 * s.padding p + 32 * n)
      (tck := tck) (taken := taken)
    have hframe := frameWords_in_time (s := s.quiet) (p := p) hlate
    have hshift : s.quiet.frameWords p (s.quiet.port p).page (cmd.toNat % 128) (s.quiet.padding p) tck
        (wordsBegun (16 + 8 * s.padding p + 32 * n) (16 + 8 * s.quiet.padding p)) = _ := (congrArg _ hwords).trans hframe
    refine ⟨_, exec_readFrame_open hopen hdir (by omega) (by rw [hwords]; exact htest), ?_, ?_, ?_⟩
    · exact (hout.trans (congrArg Prod.fst hshift)).trans (List.map_congr_left fun j _ => frameWord_quiet)
    · rw [hrej]
      exact congrArg (!·) (legalLength_whole (Nat.zero_le n) hn)
    · exact hundr.trans (congrArg Prod.snd hshift)
  · intro edges tck hdir hedges hlegal htest
    obtain ⟨hrej, -, -, -⟩ := readFrame_record (s := s.quiet) (p := p) (i := cmd.toNat % 128) (edges := edges) (tck := tck) (taken := 0)
    exact ⟨_, exec_readFrame_open hopen hdir hedges htest, hrej.trans (congrArg (!·) hlegal), readFrame_illegal (s := s.quiet) hlegal⟩
  · intro w
    refine ⟨_, exec_hspPageWrite_open hopen, by rw [port_setPort], fun q hq => ?_, setPort_regs _ _ _⟩
    rw [port_setPort_ne _ _ hq]
    cases q <;> rfl
  · exact fun edges tck taken hdir hedges htest => exec_readFrame_test hopen hdir hedges htest
  · intro width htest
    refine ⟨_, exec_registerWrite_open hopen htest, fun hrun hkey => ?_⟩
    rw [written_of_outside hkey, fwStep_of_stopped ((opened_fwRuns ..).trans hrun), opened_out]
    exact ⟨opened_regs s m, opened_fc s m, opened_mot s m, rfl⟩
  · intro k htest hkey hi hint hser
    rw [exec_registerWrite_open hopen (htest.imp id fun h k' hk' => .inl (Option.some.inj (hkey.symm.trans hk') ▸ h)),
      written_busWrite hkey hi hint hser]
  · intro width k htest hkey hm hrun hsize hp
    obtain ⟨t, ht, hspec⟩ := busSize_spec (w := w) hkey hm hrun hsize hp
    refine ⟨t, ?_, hspec⟩
    rw [exec_registerWrite_open hopen (htest.imp id fun h k' hk' => .inl (Option.some.inj (hkey.symm.trans hk') ▸ h)), ht]
  · exact fun s hopen hready hoff => congrArg _ (testEntry_enters (s := s.quiet) hopen hready hoff)
  · exact fun s h => congrArg _ (testEntry_barred (s := s.quiet) h)
  · exact fun s p cmd ws addr w m a b c h => ⟨exec_writeFrame_closed h, exec_readFrame_closed h, exec_hspPageWrite_closed h, exec_registerWrite_closed h⟩

end Sys2Proof.Machine
end

section
/-! PROOFS. Firmware writes the registers of the converters and of the reference: what each write stores, starts or ends (R103, R282, R286, R288,
R291). -/

namespace Sys2Proof.Machine

variable {s t u : State} {m : Master} {p : Conv} {k e : Nat} {w : Word} {r : RegRow}

/-! ### What the converters' registers reach -/

/-- The pages of the converters and of the reference. -/
def convPage (k : Nat) : Prop := 0x41 ≤ k / 128 ∧ k / 128 ≤ 0x45

/-- From `s` to `t` the converters and the reference alone have changed: their registers, their parity, their sequences and the reference's age. -/
def OnlyConv (s t : State) : Prop :=
  t = { s with regs := t.regs, parityBad := t.parityBad, fcPresent := t.fcPresent, pc := t.pc, refSince := t.refSince }
  ∧ ∀ k, ¬convPage k → t.get k = s.get k

theorem OnlyConv.refl : OnlyConv s s := ⟨rfl, fun _ _ => rfl⟩

theorem OnlyConv.trans (h : OnlyConv s t) (g : OnlyConv t u) : OnlyConv s u :=
  ⟨by rw [g.1, h.1], fun k hk => (g.2 k hk).trans (h.2 k hk)⟩

theorem OnlyConv.out (h : OnlyConv s t) : t.out = s.out := by rw [h.1]

theorem OnlyConv.mot (h : OnlyConv s t) : t.mot = s.mot := by rw [h.1]

theorem OnlyConv.fw (h : OnlyConv s t) : t.fw = s.fw := by rw [h.1]

theorem OnlyConv.busUp (h : OnlyConv s t) (hb : BusUp s) : BusUp t := hb.of_sys (by rw [h.1])

theorem OnlyConv.served (h : OnlyConv s t) : Served s t :=
  ⟨by rw [h.1], by rw [h.fw], by rw [h.fw], fun k hk => h.2 k fun hc => by unfold mailboxPage at hk; unfold convPage at hc; omega⟩

theorem onlyConv_mend : OnlyConv s (s.mend k) := ⟨by rw [mend_frame], fun j _ => get_mend s k j⟩

theorem onlyConv_set (hk : convPage k) : OnlyConv s (s.set k w) := ⟨rfl, fun j hj => s.get_set_ne w fun e => hj (by rwa [e])⟩

theorem onlyConv_store (hk : convPage k) : OnlyConv s (s.store k w) := (onlyConv_set hk).trans onlyConv_mend

theorem onlyConv_onPc {f : PcConv → PcConv} : OnlyConv s (s.onPc p f) := ⟨rfl, fun _ _ => rfl⟩

theorem pc_mend : (s.mend k).pc = s.pc := by rw [mend_frame]

theorem pc_store : (s.store k w).pc = s.pc := pc_mend

theorem convPage_regKey {i : Nat} (hi : i < 128) : convPage (regKey (0x41 + p) i) := by
  unfold convPage
  rw [regKey_div _ _ hi]
  omega

/-! ### A write of these pages -/

theorem regWrite_conv (hp : (0x40 ≤ k / 128 ∧ k / 128 ≤ 0x45) ∨ k / 128 = 0x48) (hacc : r.acc ≠ .ro) :
    s.regWrite m r k w = s.writeConv m r k (k % 128) w := by
  obtain ⟨hcfg, hready, hmode⟩ := not_port (k := k) (by omega)
  unfold State.regWrite
  simp (disch := omega) only [if_neg hacc, if_neg hcfg, if_neg hready, if_neg hmode, if_neg, if_pos]

/-- What firmware's write hides does not change here. -/
theorem hide_same (h : t.out = s.out) : ({ t with out := s.out } : State) = t := by
  rw [← h]

/-- A write by firmware is the write of the register. -/
theorem fwWrite_conv (hk : FwReg k r) (hp : convPage k) (hb : BusUp s) (h : OnlyConv s (s.writeConv .exec r k (k % 128) w)) :
    s.fwWrite k w = s.writeConv .exec r k (k % 128) w := by
  rw [fwWrite_eq hb hk.2.2.1 hk.2.1 hk.1, regWrite_conv (by unfold convPage at hp; omega) hk.2.2.2]
  exact hide_same h.out

/-- A register without effects of its own holds what is written, in its implemented bits. -/
theorem fwWrite_conv_plain (hk : FwReg k r) (hp : convPage k) (hb : BusUp s) (ha : Admits s r k w)
    (h : s.writeConv .exec r k (k % 128) w = s.plainWrite .exec r k w) : s.fwWrite k w = s.store k (r.merge (s.get k) w) := by
  have heq := h.trans (plainWrite_of_admits ha)
  rw [fwWrite_conv hk hp hb (by rw [heq]; exact onlyConv_store hp), heq]

/-! ### The rows -/

/-- The row of PC_CFG. -/
def pcCfgRow : RegRow := ⟨0x00, 1, 0x00010000#32, 0xC31F0001#32, 0x431F0001#32, true, .rw, false⟩

/-- The row of PC_CTL. -/
def pcCtlRow : RegRow := ⟨0x01, 1, 0x00000000#32, 0x00001F1F#32, 0x00000000#32, false, .wo, false⟩

/-- The row of PC_ENT. -/
def pcEntRow : RegRow := ⟨0x10, 20, 0x00000000#32, 0x00FFF7FF#32, 0x00FFF7FF#32, true, .rw, false⟩

/-- The row of REF_CFG. -/
def refCfgRow : RegRow := ⟨0x00, 1, 0x00000000#32, 0x80000000#32, 0x00000000#32, true, .rw, false⟩

theorem fwReg_PC_CFG : ∀ p : Conv, FwReg (R.PC_CFG p) pcCfgRow := by unfold FwReg; decide

theorem fwReg_PC_CTL : ∀ p : Conv, FwReg (R.PC_CTL p) pcCtlRow := by unfold FwReg; decide

theorem fwReg_PC_ENT : ∀ (p : Conv) (e : Fin 20), FwReg (R.PC_ENT p e) pcEntRow := by unfold FwReg; decide

theorem fwReg_REF_CFG : FwReg R.REF_CFG refCfgRow := by unfold FwReg; decide

theorem enReg_conv : ∀ (p : Conv), enReg (R.PC_CFG p) = some (R.PC_CFG p) ∧ ∀ e : Fin 20, enReg (R.PC_ENT p e) = some (R.PC_CFG p) := by decide

/-! ### EN of a converter (R103, R286) -/

/-- The converter of a page. -/
theorem conv_of_page {n : Nat} (h : n = 0x41 + p) : (⟨(n - 0x41) % 4, by omega⟩ : Conv) = p := Fin.ext (by dsimp only; omega)

theorem clearEn_pc : s.clearEn (R.PC_CFG p) = (s.pcDisable p).mend (R.PC_CFG p) := by
  have hp : R.PC_CFG p / 128 = 0x41 + p := regKey_div _ _ (by decide)
  unfold State.clearEn
  dsimp only
  rw [if_neg (by unfold R.PC_CFG R.SYS_SUPCFG regKey; omega), if_neg (by omega), if_neg (by omega), if_neg (by omega), if_neg (by omega),
    if_neg (by omega), if_pos (by omega), conv_of_page hp]

/-- Nothing but a fall of EN has an effect beside the store. -/
theorem enWrite_pc (h : (s.pcEn p && !bitOf w 31) = false) : s.enWrite m r (R.PC_CFG p) w = s.plainWrite m r (R.PC_CFG p) w := by
  have hp : R.PC_CFG p / 128 = 0x41 + p := regKey_div _ _ (by decide)
  unfold State.pcEn at h
  unfold State.enWrite
  dsimp only
  rw [h, if_neg (by decide), if_neg (by omega), if_neg (by omega), if_neg (by omega), if_neg (by omega), if_neg (by omega), if_neg (by omega),
    if_neg (by omega)]

theorem writeConv_en {i : Nat} (h : i = 0) : s.writeConv m r k i w = s.enWrite m r k w := if_pos h

theorem mod_PC_CFG (p : Conv) : R.PC_CFG p % 128 = 0 := regKey_mod _ _ (by decide)

/-- An enabled converter is disabled. -/
theorem fwClear_PC_CFG (hb : BusUp s) (hon : s.pcEn p = true) :
    OnlyConv s (s.fwBit (R.PC_CFG p) 31 false) ∧ (s.fwBit (R.PC_CFG p) 31 false).pcEn p = false := by
  have hoff : bitOf (putBit (s.get (R.PC_CFG p)) 31 false) 31 = false := bitOf_putBit_same _ _ _ (by decide)
  have hwrite : s.writeConv .exec pcCfgRow (R.PC_CFG p) (R.PC_CFG p % 128) (putBit (s.get (R.PC_CFG p)) 31 false)
      = (s.pcDisable p).mend (R.PC_CFG p) := (writeConv_en (mod_PC_CFG p)).trans ((enWrite_fall hon hoff).trans clearEn_pc)
  have hcleared : OnlyConv s (s.setBit (R.PC_CFG p) 31 false) := onlyConv_set (convPage_regKey (by decide))
  have honly : OnlyConv s ((s.pcDisable p).mend (R.PC_CFG p)) := (hcleared.trans onlyConv_onPc).trans onlyConv_mend
  have heq := fwWrite_conv (w := putBit (s.get (R.PC_CFG p)) 31 false) (fwReg_PC_CFG p) (convPage_regKey (by decide)) hb (by rw [hwrite]; exact honly)
  rw [State.fwBit, heq, hwrite]
  refine ⟨honly, ?_⟩
  rw [State.pcEn, bit_mend]
  exact (State.bit_setBit _ _ _ _ _ _ (by decide)).trans (if_pos ⟨rfl, rfl⟩)

/-- A disabled converter is enabled: its configuration is stored. -/
theorem fwBit_PC_CFG (hb : BusUp s) (hoff : s.pcEn p = false) : s.fwBit (R.PC_CFG p) 31 true =
    s.store (R.PC_CFG p) (pcCfgRow.merge (s.get (R.PC_CFG p)) (putBit (s.get (R.PC_CFG p)) 31 true)) :=
  fwWrite_conv_plain (fwReg_PC_CFG p) (convPage_regKey (by decide)) hb (admits_of_own_off (enReg_conv p).1 hoff)
    ((writeConv_en (mod_PC_CFG p)).trans (enWrite_pc (by rw [hoff, Bool.false_and])))

/-- What enabling leaves: EN, and every sequence as it was. -/
theorem enabled_spec (hb : BusUp s) (hoff : s.pcEn p = false) : OnlyConv s (s.fwBit (R.PC_CFG p) 31 true)
    ∧ (s.fwBit (R.PC_CFG p) 31 true).pcEn p = true ∧ (s.fwBit (R.PC_CFG p) 31 true).pc = s.pc
    ∧ ∀ j, j ≠ R.PC_CFG p → (s.fwBit (R.PC_CFG p) 31 true).get j = s.get j := by
  rw [fwBit_PC_CFG hb hoff]
  refine ⟨onlyConv_store (convPage_regKey (by decide)), ?_, pc_store, fun j hj => by rw [State.get_store, if_neg hj]⟩
  rw [State.pcEn, State.bit, get_store_same, bitOf_merge, if_pos (by decide), bitOf_putBit_same _ _ _ (by decide)]

/-- Firmware enables a converter where it is not. -/
theorem fwSet_PC_CFG (hb : BusUp s) : OnlyConv s (s.fwSet (R.PC_CFG p) 31) ∧ (s.fwSet (R.PC_CFG p) 31).pcEn p = true
    ∧ (s.fwSet (R.PC_CFG p) 31).pc = s.pc := by
  unfold State.fwSet
  cases hen : s.bit (R.PC_CFG p) 31 with
  | true => exact ⟨.refl, hen, rfl⟩
  | false =>
    obtain ⟨honly, hon, hpc, -⟩ := enabled_spec hb hen
    exact ⟨honly, hon, hpc⟩

/-! ### An entry of a disabled converter (R281) -/

theorem fwWrite_PC_ENT (hb : BusUp s) (hoff : s.pcEn p = false) (he : e < 20) :
    s.fwWrite (R.PC_ENT p e) w = s.store (R.PC_ENT p e) (pcEntRow.merge (s.get (R.PC_ENT p e)) w) := by
  have hp : R.PC_ENT p e / 128 = 0x41 + p := regKey_div _ _ (by omega)
  have hi : R.PC_ENT p e % 128 = 0x10 + e := regKey_mod _ _ (by omega)
  refine fwWrite_conv_plain (fwReg_PC_ENT p ⟨e, he⟩) (convPage_regKey (by omega)) hb (admits_of_off ((enReg_conv p).2 ⟨e, he⟩) hoff) ?_
  unfold State.writeConv
  dsimp only
  rw [hi, if_neg (by omega), if_neg (by omega), if_neg (by omega), if_neg (by omega), if_neg (by omega)]

/-! ### PC_CTL (R282, R286, R291) -/

theorem writeConv_PC_CTL : s.writeConv m r (R.PC_CTL p) (R.PC_CTL p % 128) w = s.pcCtlWrite m p w := by
  have hp : R.PC_CTL p / 128 = 0x41 + p := regKey_div _ _ (by decide)
  have hi : R.PC_CTL p % 128 = 1 := regKey_mod _ _ (by decide)
  unfold State.writeConv
  dsimp only
  rw [hi, if_neg (by decide), if_neg (by omega), if_pos (by omega), conv_of_page hp]

theorem fwWrite_PC_CTL (hb : BusUp s) (h : OnlyConv s (s.pcCtlWrite .exec p w)) : s.fwWrite (R.PC_CTL p) w = s.pcCtlWrite .exec p w := by
  rw [fwWrite_conv (fwReg_PC_CTL p) (convPage_regKey (by decide)) hb (by rw [writeConv_PC_CTL]; exact h), writeConv_PC_CTL]

theorem pcCtlWrite_start : s.pcCtlWrite m p 1#32 = s.pcRstart p := rfl

theorem pcCtlWrite_stop : s.pcCtlWrite m p 2#32 = s.pcRstop p := rfl

/-- Whether the regular sequence runs, and what calibrates, of a converter. -/
def runOf (c : PcConv) : Bool × Option CalRun := (c.rrun, c.calRun)

/-- From `s` to `t` one converter moved: the others stand. -/
def OnlyAt (p : Conv) (s t : State) : Prop := OnlyConv s t ∧ ∀ j, j ≠ p → vget t.pc j = vget s.pc j

theorem OnlyAt.trans (h : OnlyAt p s t) (g : OnlyAt p t u) : OnlyAt p s u := ⟨h.1.trans g.1, fun j hj => (g.2 j hj).trans (h.2 j hj)⟩

theorem onlyAt_onPc {f : PcConv → PcConv} : OnlyAt p s (s.onPc p f) := ⟨onlyConv_onPc, fun _ hj => vget_vset_ne _ _ hj⟩

theorem pc_onPc {f : PcConv → PcConv} : vget (s.onPc p f).pc p = f (vget s.pc p) := vget_vset_same _ _ _

theorem runOf_onPc {f : PcConv → PcConv} (hf : ∀ c, runOf (f c) = runOf c) :
    OnlyAt p s (s.onPc p f) ∧ runOf (vget (s.onPc p f).pc p) = runOf (vget s.pc p) :=
  ⟨onlyAt_onPc, by rw [pc_onPc, hf]⟩

theorem convStart_spec : OnlyAt p s (s.convStart p e) ∧ runOf (vget (s.convStart p e).pc p) = runOf (vget s.pc p) := by
  unfold State.convStart
  exact runOf_onPc fun _ => rfl

/-- The start of an entry, or its abandonment, leaves what runs. -/
theorem pcResume_spec : OnlyAt p s (s.pcResume p) ∧ runOf (vget (s.pcResume p).pc p) = runOf (vget s.pc p) := by
  unfold State.pcResume
  dsimp only
  split
  · exact convStart_spec
  · split
    · exact runOf_onPc fun _ => rfl
    · exact ⟨⟨.refl, fun _ _ => rfl⟩, rfl⟩

theorem pcRstart_spec (hon : s.pcEn p = true) : OnlyAt p s (s.pcRstart p) ∧ (vget (s.pcRstart p).pc p).rrun = true := by
  have heq : s.pcRstart p = (s.onPc p fun c => { c with rrun := true, rIdx := 0 }).pcResume p := if_pos hon
  obtain ⟨hat, hrun⟩ := pcResume_spec (s := s.onPc p fun c => { c with rrun := true, rIdx := 0 }) (p := p)
  rw [heq]
  refine ⟨onlyAt_onPc.trans hat, (congrArg Prod.fst hrun).trans ?_⟩
  rw [pc_onPc]
  rfl

theorem pcRstop_spec : OnlyAt p s (s.pcRstop p) ∧ (vget (s.pcRstop p).pc p).rrun = false := by
  obtain ⟨hat, hrun⟩ := pcResume_spec (s := s.onPc p fun c => { c with rrun := false }) (p := p)
  refine ⟨onlyAt_onPc.trans hat, (congrArg Prod.fst hrun).trans ?_⟩
  rw [pc_onPc]
  rfl

/-- Firmware stops a converter's regular sequence. -/
theorem fwStop_spec (hb : BusUp s) : OnlyAt p s (s.fwWrite (R.PC_CTL p) 2#32) ∧ (vget (s.fwWrite (R.PC_CTL p) 2#32).pc p).rrun = false := by
  have h := pcRstop_spec (s := s) (p := p)
  rw [← pcCtlWrite_stop (m := .exec)] at h
  rw [fwWrite_PC_CTL hb h.1.1]
  exact h

/-- Firmware enables a converter and starts its regular sequence. -/
theorem fwStart_spec (hb : BusUp s) : OnlyAt p s ((s.fwSet (R.PC_CFG p) 31).fwWrite (R.PC_CTL p) 1#32)
    ∧ (vget ((s.fwSet (R.PC_CFG p) 31).fwWrite (R.PC_CTL p) 1#32).pc p).rrun = true := by
  obtain ⟨honly, hon, hpc⟩ := fwSet_PC_CFG (p := p) hb
  have hstart := pcRstart_spec hon
  rw [← pcCtlWrite_start (m := .exec)] at hstart
  obtain ⟨hat, hrun⟩ := hstart
  rw [fwWrite_PC_CTL (honly.busUp hb) hat.1]
  exact ⟨⟨honly.trans hat.1, fun j hj => (hat.2 j hj).trans (by rw [hpc])⟩, hrun⟩

/-- The word that starts a calibration starts it, where none runs or waits and no injected sequence runs. -/
theorem pcCal_spec {c : CalRun} (hon : s.pcEn p = true) (hrun : (vget s.pc p).calRun = none) (hpend : (vget s.pc p).calPend = none)
    (hinj : (vget s.pc p).iIdx = none) : OnlyConv s (s.pcCal m p c) ∧ (vget (s.pcCal m p c).pc p).calRun = some c := by
  have heq : s.pcCal m p c = (s.onPc p fun c => { c with calAb := false, calErr := false }).pcCalGo p c := by
    unfold State.pcCal
    dsimp only
    rw [hon, hrun, hpend, hinj]
    rfl
  obtain ⟨hat, hgo⟩ := convStart_spec (s := (s.onPc p fun c => { c with calAb := false, calErr := false }).onPc p fun x =>
    { x with calPend := none, calRun := some c }) (p := p) (e := c.entry)
  rw [heq]
  refine ⟨(onlyConv_onPc.trans onlyConv_onPc).trans hat.1, (congrArg Prod.snd hgo).trans ?_⟩
  rw [pc_onPc]
  rfl

/-- The word by which firmware starts a calibration of an entry. -/
def calWord (e full : Nat) : Word := wordOfNat (e * 256 + full * 16 + 8)

theorem calWord_fields : ∀ (e : Fin 20) (full : Fin 2), fldOf (calWord e full) 12 8 = e ∧ bitOf (calWord e full) 0 = false
    ∧ bitOf (calWord e full) 1 = false ∧ bitOf (calWord e full) 2 = false ∧ bitOf (calWord e full) 3 = true
    ∧ bitOf (calWord e full) 4 = decide (full.val = 1) := by decide

theorem pcCtlWrite_cal {full : Nat} (he : e < 20) (hfull : full < 2) :
    s.pcCtlWrite m p (calWord e full) = s.pcCal m p { entry := e, full := decide (full = 1) } := by
  obtain ⟨hentry, h0, h1, h2, h3, h4⟩ := calWord_fields ⟨e, he⟩ ⟨full, hfull⟩
  dsimp only at hentry h0 h1 h2 h3 h4
  unfold State.pcCtlWrite
  rw [hentry, h0, h1, h2, h3, h4, if_neg (by omega)]
  rfl

/-- Firmware enables a converter and starts a calibration of an entry. -/
theorem fwCal_spec {full : Nat} (hb : BusUp s) (he : e < 20) (hfull : full < 2) (hrun : (vget s.pc p).calRun = none)
    (hpend : (vget s.pc p).calPend = none) (hinj : (vget s.pc p).iIdx = none) :
    OnlyConv s ((s.fwSet (R.PC_CFG p) 31).fwWrite (R.PC_CTL p) (calWord e full))
    ∧ (vget ((s.fwSet (R.PC_CFG p) 31).fwWrite (R.PC_CTL p) (calWord e full)).pc p).calRun = some { entry := e, full := decide (full = 1) } := by
  obtain ⟨honly, hon, hpc⟩ := fwSet_PC_CFG (p := p) hb
  rw [← hpc] at hrun hpend hinj
  have hcal := pcCal_spec (m := .exec) (c := { entry := e, full := decide (full = 1) }) hon hrun hpend hinj
  rw [← pcCtlWrite_cal he hfull] at hcal
  rw [fwWrite_PC_CTL (honly.busUp hb) hcal.1]
  exact ⟨honly.trans hcal.1, hcal.2⟩

/-! ### The reference (R288) -/

theorem refCfgWrite_spec : OnlyConv s (s.refCfgWrite w) ∧ (s.refCfgWrite w).pc = s.pc ∧ (s.refCfgWrite w).bit R.REF_CFG 31 = bitOf w 31 := by
  have honly : OnlyConv s ((s.setBit R.REF_CFG 31 (bitOf w 31)).mend R.REF_CFG) := (onlyConv_set (by unfold convPage; decide)).trans onlyConv_mend
  have hbit : ((s.setBit R.REF_CFG 31 (bitOf w 31)).mend R.REF_CFG).bit R.REF_CFG 31 = bitOf w 31 := by
    rw [bit_mend, State.bit_setBit _ _ _ _ _ _ (by decide), if_pos ⟨rfl, rfl⟩]
  unfold State.refCfgWrite
  dsimp only
  split
  · exact ⟨honly.trans ⟨rfl, fun _ _ => rfl⟩, pc_mend, hbit⟩
  · exact ⟨honly, pc_mend, hbit⟩

/-- A write of REF_CFG's EN takes it over, whether it rises, falls or stands. -/
theorem enWrite_ref : OnlyConv s (s.enWrite m r R.REF_CFG w) ∧ (s.enWrite m r R.REF_CFG w).pc = s.pc
    ∧ (s.enWrite m r R.REF_CFG w).bit R.REF_CFG 31 = bitOf w 31 := by
  have hwrite : s.enWrite m r R.REF_CFG w =
      if s.bit R.REF_CFG 31 && !bitOf w 31 then (s.refCfgWrite 0#32).mend R.REF_CFG else s.refCfgWrite w := rfl
  rw [hwrite]
  split
  next hfall =>
    obtain ⟨honly, hpc, hbit⟩ := refCfgWrite_spec (s := s) (w := 0#32)
    simp only [Bool.and_eq_true, Bool.not_eq_true'] at hfall
    refine ⟨honly.trans onlyConv_mend, pc_mend.trans hpc, ?_⟩
    rw [bit_mend, hbit, hfall.2]
    rfl
  next => exact refCfgWrite_spec

theorem fwBit_REF_CFG (hb : BusUp s) (b : Bool) : OnlyConv s (s.fwBit R.REF_CFG 31 b) ∧ (s.fwBit R.REF_CFG 31 b).pc = s.pc
    ∧ (s.fwBit R.REF_CFG 31 b).bit R.REF_CFG 31 = b := by
  obtain ⟨honly, hpc, hbit⟩ := enWrite_ref (s := s) (m := .exec) (r := refCfgRow) (w := putBit (s.get R.REF_CFG) 31 b)
  rw [bitOf_putBit_same _ _ _ (by decide)] at hbit
  have heq := fwWrite_conv (w := putBit (s.get R.REF_CFG) 31 b) fwReg_REF_CFG (by unfold convPage; decide) hb honly
  rw [State.fwBit, heq]
  exact ⟨honly, hpc, hbit⟩

end Sys2Proof.Machine
end

section
/-! PROOFS. Firmware writes the registers of the comparators and the sources of a wake-up: what each write leaves (R78, R297, R299, R305). -/

namespace Sys2Proof.Machine

variable {P : Nat → Nat → Prop} {s t : State} {m : Master} {c : Cmp} {k : Nat} {w : Word} {r : RegRow}

/-! ### What follows the configuration (R297, R299) -/

/-- The registers in which the comparators report. -/
def cmpOutBits (k _ : Nat) : Prop := k / 128 = 0x48 ∧ k % 128 ≠ 0x00 ∧ k % 128 < 0x10

theorem cmpOutBits_out (i : Nat) : cmpOutBits R.CMP_OUT i := by unfold cmpOutBits; decide

theorem cmpOutBits_alm (i : Nat) : cmpOutBits R.CMP_ALM i := by unfold cmpOutBits; decide

theorem cmpOutBits_not_ccfg (i : Nat) : ¬cmpOutBits (R.CMP_CCFG c) i := by unfold cmpOutBits R.CMP_CCFG regKey; omega

theorem cmpOutBits_not_cfg (i : Nat) : ¬cmpOutBits R.CMP_CFG i := by unfold cmpOutBits; decide

theorem wrote_cmpOff : Wrote cmpOutBits s (s.cmpOff c) := by
  have hput (t : State) (i : Nat) (b : Bool) (hi : i < 32) : Wrote cmpOutBits t (t.setBit R.CMP_OUT i b) :=
    wrote_setBit (by decide) hi (cmpOutBits_out i)
  exact ((hput s c _ (by omega)).trans (hput _ (16 + c) true (by omega))).trans wrote_of_regs

theorem evaluated_cmpOff : (vget (s.cmpOff c).cmp c).evaluated = false := by
  unfold State.cmpOff State.onCmp
  dsimp only
  rw [vget_vset_same]

/-- The alarms and their sources follow, and no comparator moves. -/
theorem settleCmp_spec (hs : NoReset s) : Wrote cmpOutBits s s.settleCmp ∧ s.settleCmp.cmp = s.cmp := by
  have hset : Wrote cmpOutBits s (s.set R.CMP_ALM (wordOfNat (packBits 16 fun c =>
      !s.bit R.CMP_OUT (16 + c) && (s.bit R.CMP_OUT c = s.alarmLevel ⟨c % 16, by omega⟩)))) := wrote_set (by decide) cmpOutBits_alm
  refine forAll_keeps (P := fun t => Wrote cmpOutBits s t ∧ t.cmp = s.cmp) ⟨hset, rfl⟩ fun t i h => ?_
  obtain ⟨hwrote, hcmp⟩ := h
  have hnr := hwrote.noReset hs
  have hlevel : OnlyCollector t (t.level (104 + i) (t.routeAlarm ⟨2 * i.val, by omega⟩ 1 || t.routeAlarm ⟨2 * i.val + 1, by omega⟩ 1)
      (t.get R.CMP_ALM)) := level_only ⟨hnr.1, hnr.2 _ (by omega) _⟩
  exact ⟨hwrote.trans hlevel.wrote, by rw [hlevel]; exact hcmp⟩

theorem wrote_cmpSettleAll (hs : NoReset s) : Wrote cmpOutBits s s.cmpSettleAll := by
  have hoff : Wrote cmpOutBits s (forAll 16 s fun s c => if s.cmpOn c then s else s.cmpOff c) :=
    wrote_forAll hs fun _ _ _ => .ite .refl wrote_cmpOff
  exact hoff.trans (settleCmp_spec (hoff.noReset hs)).1

/-! ### The rows -/

/-- The row of CMP_CFG. -/
def cmpCfgRow : RegRow := ⟨0x00, 1, 0x00000000#32, 0x80000000#32, 0x00000000#32, true, .rw, false⟩

/-- The row of CMP_CCFG. -/
def cmpCcfgRow : RegRow := ⟨0x10, 16, 0x00000000#32, 0xB37333FF#32, 0xB37333FF#32, true, .rw, false⟩

/-- The row of SYS_WAKECFG. -/
def wakeCfgRow : RegRow := ⟨0x07, 1, 0x00010000#32, 0x003FFFFF#32, 0x003FFFFF#32, true, .rw, false⟩

theorem fwReg_CMP_CFG : FwReg R.CMP_CFG cmpCfgRow := by unfold FwReg; decide

theorem fwReg_CMP_CCFG : ∀ c : Cmp, FwReg (R.CMP_CCFG c) cmpCcfgRow := by unfold FwReg; decide

/-! ### CMP_CCFG (R301, R305) -/

/-- The registers that a write of a comparator's configuration changes. -/
def ccfgBits (c : Cmp) (k i : Nat) : Prop := only (R.CMP_CCFG c) k i ∨ cmpOutBits k i

theorem ccfgBits_above : AboveMail (ccfgBits c) := fun k i h => by
  unfold ccfgBits only cmpOutBits R.CMP_CCFG regKey at h
  omega

/-- A comparator's configuration is stored; under a tie-off its routes keep what they saw (R301). -/
def ccfgStored (s : State) (c : Cmp) (w : Word) : State :=
  if fldOf w 17 16 ≠ 0 then
    (s.store (R.CMP_CCFG c) w).onCmp c fun h => { h with held := true, heldOut := (s.cmpSeen c).1, heldUnres := (s.cmpSeen c).2 }
  else s.store (R.CMP_CCFG c) w

theorem ccfgStored_spec : Wrote (ccfgBits c) s (ccfgStored s c w) ∧ (ccfgStored s c w).get (R.CMP_CCFG c) = w
    ∧ (vget (ccfgStored s c w).cmp c).evaluated = (vget s.cmp c).evaluated := by
  have hstore : Wrote (ccfgBits c) s (s.store (R.CMP_CCFG c) w) := wrote_store (by unfold R.CMP_CCFG regKey; omega) fun _ => .inl rfl
  have hcmp : (s.store (R.CMP_CCFG c) w).cmp = s.cmp := by
    rw [State.store, mend_frame]
    rfl
  unfold ccfgStored
  split
  · exact ⟨hstore.trans wrote_of_regs, get_store_same _ _ _, by rw [State.onCmp, vget_vset_same, hcmp]⟩
  · exact ⟨hstore, get_store_same _ _ _, by rw [hcmp]⟩

/-- A comparator that is off takes over its configuration, and one that then is on waits for its first evaluation. -/
theorem cmpCcfgWrite_off (hoff : s.bit (R.CMP_CCFG c) 31 = false) (hwait : bitOf w 31 = false ∨ (vget s.cmp c).evaluated = false) :
    s.cmpCcfgWrite m c w = ((ccfgStored s c (w &&& 0xB37333FF#32)).cmpOff c).settleCmp := by
  obtain ⟨-, hget, heval⟩ := ccfgStored_spec (s := s) (c := c) (w := w &&& 0xB37333FF#32)
  set u := ccfgStored s c (w &&& 0xB37333FF#32) with hu
  have hidle : (u.cmpOn c && (vget u.cmp c).evaluated) = false := by
    rcases hwait with hw | he
    · have hbit : u.bit (R.CMP_CCFG c) 31 = false := by rw [State.bit, hget, bitOf_and, hw, Bool.false_and]
      rw [State.cmpOn, hbit, Bool.false_and, Bool.false_and]
    · rw [heval, he, Bool.and_false]
  have hfree : ¬(s.bit R.CMP_CFG 31 = true ∧ bitOf (s.get (R.CMP_CCFG c)) 31 = true
      ∧ (s.get (R.CMP_CCFG c) ^^^ w &&& 0xB37333FF#32) &&& 0x33003000#32 ≠ 0#32) := fun h => Bool.false_ne_true (hoff.symm.trans h.2.1)
  have hcmpOff : (if u.cmpOn c && (vget u.cmp c).evaluated then u else u.cmpOff c) = u.cmpOff c := if_neg (by rw [hidle]; decide)
  refine (if_neg hfree).trans ((congrArg (fun v : State => if v.cmpOn c && (vget v.cmp c).evaluated && fldOf (w &&& 0xB37333FF#32) 17 16 ≠ 0
    then v.cmpFollow c 0 else v.settleCmp) hcmpOff).trans (if_neg ?_))
  rw [evaluated_cmpOff, Bool.and_false, Bool.false_and]
  decide

theorem cmpCcfgWrite_spec (hs : NoReset s) (hoff : s.bit (R.CMP_CCFG c) 31 = false) (hwait : bitOf w 31 = false ∨ (vget s.cmp c).evaluated = false) :
    Wrote (ccfgBits c) s (s.cmpCcfgWrite m c w) ∧ (s.cmpCcfgWrite m c w).get (R.CMP_CCFG c) = w &&& 0xB37333FF#32
    ∧ (vget (s.cmpCcfgWrite m c w).cmp c).evaluated = false := by
  obtain ⟨hstored, hget, -⟩ := ccfgStored_spec (s := s) (c := c) (w := w &&& 0xB37333FF#32)
  have hoff' : Wrote cmpOutBits _ ((ccfgStored s c (w &&& 0xB37333FF#32)).cmpOff c) := wrote_cmpOff
  have hwrote := hstored.trans (hoff'.mono fun _ _ => .inr)
  obtain ⟨hsettle, hcmp⟩ := settleCmp_spec (hwrote.noReset hs)
  rw [cmpCcfgWrite_off hoff hwait]
  refine ⟨hwrote.trans (hsettle.mono fun _ _ => .inr), ?_, by rw [hcmp]; exact evaluated_cmpOff⟩
  rw [hsettle.get cmpOutBits_not_ccfg, hoff'.get cmpOutBits_not_ccfg, hget]

theorem regWrite_CMP_CCFG (hacc : r.acc ≠ .ro) : s.regWrite m r (R.CMP_CCFG c) w = s.cmpCcfgWrite m c w := by
  have hp : R.CMP_CCFG c / 128 = 0x48 := regKey_div _ _ (by omega)
  have hi : R.CMP_CCFG c % 128 = 0x10 + c := regKey_mod _ _ (by omega)
  have hc : (⟨R.CMP_CCFG c % 128 % 16, by omega⟩ : Cmp) = c := Fin.ext (by dsimp only; omega)
  rw [regWrite_conv (.inr hp) hacc]
  unfold State.writeConv
  dsimp only
  rw [if_neg (by omega), if_neg (by omega), if_neg (by omega), if_neg (by omega), if_pos (by omega), hc]

theorem fwWrite_CMP_CCFG (hb : BusUp s) (hs : NoReset s) (hoff : s.bit (R.CMP_CCFG c) 31 = false)
    (hwait : bitOf w 31 = false ∨ (vget s.cmp c).evaluated = false) :
    Wrote (ccfgBits c) s (s.fwWrite (R.CMP_CCFG c) w) ∧ (s.fwWrite (R.CMP_CCFG c) w).get (R.CMP_CCFG c) = w &&& 0xB37333FF#32
    ∧ (vget (s.fwWrite (R.CMP_CCFG c) w).cmp c).evaluated = false := by
  have hk := fwReg_CMP_CCFG c
  have hspec := cmpCcfgWrite_spec (m := .exec) hs hoff hwait
  rw [← regWrite_CMP_CCFG hk.2.2.2] at hspec
  obtain ⟨hwrote, hget, heval⟩ := hspec
  refine ⟨wrote_fwWrite_of hk hb hwrote, (get_fwWrite_of hk hb _).trans hget, ?_⟩
  rw [fwWrite_eq hb hk.2.2.1 hk.2.1 hk.1]
  exact heval

/-! ### CMP_CFG -/

/-- The registers that a write of the block's EN changes. -/
def cmpCfgBits (k i : Nat) : Prop := only R.CMP_CFG k i ∨ cmpOutBits k i

theorem cmpCfgBits_above : AboveMail cmpCfgBits := fun k i h => by
  unfold cmpCfgBits only cmpOutBits R.CMP_CFG regKey at h
  omega

theorem cmpCfgBits_not_ccfg (i : Nat) : ¬cmpCfgBits (R.CMP_CCFG c) i := by
  unfold cmpCfgBits only cmpOutBits R.CMP_CCFG R.CMP_CFG regKey
  omega

theorem cmpCfgWrite_spec (hs : NoReset s) : Wrote cmpCfgBits s (s.cmpCfgWrite w) ∧ (s.cmpCfgWrite w).bit R.CMP_CFG 31 = bitOf w 31 := by
  have hstore : Wrote cmpCfgBits s (s.store R.CMP_CFG (w &&& 0x80000000#32)) := wrote_store (by decide) fun _ => .inl rfl
  have hsettle := wrote_cmpSettleAll (hstore.noReset hs)
  refine ⟨hstore.trans (hsettle.mono fun _ _ => .inr), ?_⟩
  rw [State.cmpCfgWrite, hsettle.bit _ _ (cmpOutBits_not_cfg _), State.bit, get_store_same, bitOf_and]
  exact Bool.and_true _

/-- Firmware switches the comparators on. -/
theorem fwSet_CMP_CFG (hb : BusUp s) (hs : NoReset s) : Wrote cmpCfgBits s (s.fwSet R.CMP_CFG 31) ∧ (s.fwSet R.CMP_CFG 31).bit R.CMP_CFG 31 = true := by
  refine fwSet_spec fwReg_CMP_CFG hb fun hoff => ?_
  obtain ⟨hwrote, hbit⟩ := cmpCfgWrite_spec (w := putBit (s.get R.CMP_CFG) 31 true) hs
  have hwrite : s.regWrite .exec cmpCfgRow R.CMP_CFG (putBit (s.get R.CMP_CFG) 31 true) = s.cmpCfgWrite (putBit (s.get R.CMP_CFG) 31 true) := by
    rw [regWrite_conv (.inr (by decide)) (by decide)]
    exact if_neg (by rw [hoff, Bool.false_and]; decide)
  rw [hwrite]
  exact ⟨hwrote, hbit.trans (bitOf_putBit_same _ _ _ (by decide))⟩

/-! ### SYS_WAKECFG (R78) -/

/-- SYS_WAKECFG belongs to no block that can be enabled: it is stored. -/
theorem fwWrite_SYS_WAKECFG (hb : BusUp s) : s.fwWrite R.SYS_WAKECFG w = s.store R.SYS_WAKECFG (wakeCfgRow.merge (s.get R.SYS_WAKECFG) w) := by
  obtain ⟨hpll, hrcs, hrch, hrst⟩ := hb
  have hclock : s.clockGone (R.SYS_WAKECFG / 128) = false := by simp [State.clockGone, hpll, hrcs, hrch]
  have hheld : s.held (R.SYS_WAKECFG / 128) = false := by simp [State.held, hrst]
  have hchan : bchOf R.SYS_WAKECFG = none := by decide
  have hrow : regRow R.SYS_WAKECFG = some wakeCfgRow := by decide
  have hwrite : s.regWrite .exec wakeCfgRow R.SYS_WAKECFG w = s.plainWrite .exec wakeCfgRow R.SYS_WAKECFG w := rfl
  have hbus : s.busWrite .exec R.SYS_WAKECFG w = s.store R.SYS_WAKECFG (wakeCfgRow.merge (s.get R.SYS_WAKECFG) w) := by
    unfold State.busWrite
    rw [if_neg (by decide), hclock, hheld, hchan, hrow]
    exact hwrite.trans (plainWrite_of_admits (.inl rfl))
  rw [State.fwWrite, hbus]
  refine hide_same ?_
  rw [State.store, mend_frame]
  rfl

theorem beside_store : (s.store k w).beside = s.beside := by
  rw [State.store, mend_frame]
  rfl

/-- No source comes to reset anything by a register that the collector does not read. -/
theorem noReset_of_fc (hc : t.sys.chipReset = s.sys.chipReset) (hf : t.fcSafe = s.fcSafe)
    (hg : ∀ k, 0x08 ≤ k / 128 → k / 128 ≤ 0x0A → t.get k = s.get k) (h : NoReset s) : NoReset t := by
  obtain ⟨hrun, hplain⟩ := h
  refine ⟨hc.trans hrun, fun src hsrc d => ?_⟩
  exact (plain_congr hc hf (hg _ (by decide) (by decide)) (hg _ (by unfold R.FC_SRC regKey; omega) (by unfold R.FC_SRC regKey; omega))
    ⟨hrun, hplain src hsrc d⟩).2

/-- What a bit of SYS_WAKECFG written by firmware leaves. -/
theorem fwBit_SYS_WAKECFG {i : Nat} {b : Bool} (hb : BusUp s) (hi : i < 22) : Served s (s.fwBit R.SYS_WAKECFG i b) ∧ BusUp (s.fwBit R.SYS_WAKECFG i b)
    ∧ (NoReset s → NoReset (s.fwBit R.SYS_WAKECFG i b)) ∧ (s.fwBit R.SYS_WAKECFG i b).bit R.SYS_WAKECFG i = b
    ∧ (s.fwBit R.SYS_WAKECFG i b).cmp = s.cmp ∧ ∀ k, k ≠ R.SYS_WAKECFG → (s.fwBit R.SYS_WAKECFG i b).get k = s.get k := by
  rw [State.fwBit, fwWrite_SYS_WAKECFG hb]
  set w := wakeCfgRow.merge (s.get R.SYS_WAKECFG) (putBit (s.get R.SYS_WAKECFG) i b) with hw
  have hget (k : Nat) (hk : k ≠ R.SYS_WAKECFG) : (s.store R.SYS_WAKECFG w).get k = s.get k := by rw [State.get_store, if_neg hk]
  have hframe : (s.store R.SYS_WAKECFG w).sys = s.sys ∧ (s.store R.SYS_WAKECFG w).fcSafe = s.fcSafe ∧ (s.store R.SYS_WAKECFG w).cmp = s.cmp := by
    rw [State.store, mend_frame]
    exact ⟨rfl, rfl, rfl⟩
  obtain ⟨hsys, hsafe, hcmp⟩ := hframe
  have hmask : ∀ i < 22, bitOf wakeCfgRow.mask i = true := by decide
  refine ⟨?_, hb.of_sys hsys, noReset_of_fc (by rw [hsys]) hsafe fun k hk _ => hget k ?_, ?_, hcmp, hget⟩
  · have hbeside : (s.store R.SYS_WAKECFG w).beside = s.beside := beside_store
    exact ⟨congrArg (·.2.1) hbeside, congrArg (·.2.2.1) hbeside, congrArg (·.2.2.2.1) hbeside, fun k hk => hget k (by
      rintro rfl
      exact absurd hk (by unfold mailboxPage; decide))⟩
  · rintro rfl
    exact absurd hk (by decide)
  · rw [State.bit, get_store_same, hw, bitOf_merge, if_pos (hmask i hi), bitOf_putBit_same _ _ _ (by omega)]

end Sys2Proof.Machine
end

section
/-! PROOFS. PC_ENTRY to CMP_CHECK: what the opcode of each does in the state in which it is carried out, and what the answered state holds. -/

namespace Sys2Proof.Machine

variable {s t u : State} {ch : ReqChan} {op : Nat} {f : OpFn} {q : Req} {p : Conv} {c : Cmp} {r : Res} {ws : List Word}

/-! ### The state once a converter's request is answered -/

theorem Waits.unitArgs (h : Waits s ch op) : badUnit op (hdrClass (s.reqOf (chanIx ch)).h) (s.reqOf (chanIx ch)).ws = false := by
  have hargs := h.args
  simp only [badArgs, Bool.or_eq_false_iff] at hargs
  exact hargs.1.2

theorem argN_ws (q : Req) (i : Nat) : argN q.ws i = q.n i := rfl

theorem OnlyMail.pc (h : OnlyMail s t) : t.pc = s.pc := by rw [h.1]

theorem OnlyMail.longDev (h : OnlyMail s t) : t.fw.longDev = s.fw.longDev := by rw [h.1]

theorem OnlyMail.pcEn (h : OnlyMail s t) (p : Conv) : t.pcEn p = s.pcEn p := h.bit (by unfold mailboxPage R.PC_CFG regKey; omega)

theorem OnlyMail.pcRuns (h : OnlyMail s t) (p : Conv) : t.pcRuns p = s.pcRuns p := by
  unfold State.pcRuns
  rw [h.pc]

theorem OnlyMail.refAge (h : OnlyMail s t) : t.refAge = s.refAge := by
  unfold State.refAge
  rw [h.bit (by decide), h.1]

theorem OnlyRegs.pc {P : Nat → Prop} (h : OnlyRegs P s t) : t.pc = s.pc := by rw [h.1]

theorem OnlyRegs.mot {P : Nat → Prop} (h : OnlyRegs P s t) : t.mot = s.mot := by rw [h.1]

theorem OnlyRegs.longDev {P : Nat → Prop} (h : OnlyRegs P s t) : t.fw.longDev = s.fw.longDev := by rw [h.1]

/-- A request that is refused, or only reads, in the state in which it was taken. -/
theorem Waits.only_asked (hw : Waits s ch op) (hq : q = s.reqOf (chanIx ch)) (hop : Unchecked op) (hrun : f q (taken s ch) = (taken s ch, r, ws))
    (hlen : ws.length ≤ 14) : OnlyAsked s (s.quiet.serve ch op f) ∧ Answers s (s.quiet.serve ch op f) ch r ws := by
  subst hq
  exact hw.asked ((runOp_of_unchecked hop).trans hrun) hlen

/-- A request that a state which serves requests as before answers. -/
theorem Waits.carried (hw : Waits s ch op) (hq : q = s.reqOf (chanIx ch)) (hop : Unchecked op) (hrun : f q (taken s ch) = (u, r, ws))
    (hu : Served (taken s ch) u) (hlen : ws.length ≤ 14) :
    OnlyRegs mailboxPage u (s.quiet.serve ch op f) ∧ Answers s (s.quiet.serve ch op f) ch r ws := by
  subst hq
  exact hw.answered ((runOp_of_unchecked hop).trans hrun) hu hlen

/-! ### PC_ENTRY (R281) -/

theorem unchecked_pcEntry : Unchecked 0x40 := by unfold Unchecked NeedsNone; decide

/-- A converter's entry written by firmware, which disables the converter for the write. -/
def entryWritten (s : State) (p : Conv) (e : Nat) (w : Word) : State :=
  let off := if s.pcEn p then s.fwBit (R.PC_CFG p) 31 false else s
  let done := off.fwWrite (R.PC_ENT p e) w
  if s.pcEn p then done.fwBit (R.PC_CFG p) 31 true else done

theorem opPcEntry_idle (h : u.pcRuns q.pc = false) : opPcEntry q u =
    (entryWritten u q.pc (q.n 2) (wordOfNat (q.n 6 * 65536 + q.n 5 * 4096 + q.n 4 * 256 + q.n 3)), .ok, []) := if_neg (by rw [h]; decide)

theorem opPcEntry_runs (h : u.pcRuns q.pc = true) : opPcEntry q u = (u, .state, []) := if_pos h

theorem entryWritten_spec {e : Nat} {w : Word} (hb : BusUp s) (he : e < 20) : OnlyConv s (entryWritten s p e w)
    ∧ (entryWritten s p e w).pcEn p = s.pcEn p ∧ (entryWritten s p e w).get (R.PC_ENT p e) &&& 0xFFF7FF#32 = w &&& 0xFFF7FF#32 := by
  have hne : R.PC_ENT p e ≠ R.PC_CFG p := by unfold R.PC_ENT R.PC_CFG regKey; omega
  have hstored {v : State} (hv : BusUp v) (hoff : v.pcEn p = false) : OnlyConv v (v.fwWrite (R.PC_ENT p e) w)
      ∧ (v.fwWrite (R.PC_ENT p e) w).pcEn p = false ∧ (v.fwWrite (R.PC_ENT p e) w).get (R.PC_ENT p e) &&& 0xFFF7FF#32 = w &&& 0xFFF7FF#32 := by
    rw [fwWrite_PC_ENT hv hoff he]
    refine ⟨onlyConv_store (convPage_regKey (by omega)), ?_, ?_⟩
    · rw [State.pcEn, State.bit, State.get_store, if_neg hne.symm]
      exact hoff
    · rw [get_store_same]
      exact merge_and_mask pcEntRow _ _
  unfold entryWritten
  cases hen : s.pcEn p with
  | false => exact hstored hb hen
  | true =>
    obtain ⟨hclear, hoff⟩ := fwClear_PC_CFG hb hen
    obtain ⟨hentry, hstays, hword⟩ := hstored (hclear.busUp hb) hoff
    obtain ⟨henable, hon, -, hother⟩ := enabled_spec ((hclear.trans hentry).busUp hb) hstays
    exact ⟨(hclear.trans hentry).trans henable, hon, (congrArg (· &&& 0xFFF7FF#32) (hother _ hne)).trans hword⟩

/-- An entry's word has no bit outside its fields. -/
theorem entryWord_masked {a b d e : Nat} (ha : a < 256) (hb : b < 16) (hd : d < 8) (he : e < 256) :
    wordOfNat (a * 65536 + b * 4096 + d * 256 + e) &&& 0xFFF7FF#32 = wordOfNat (a * 65536 + b * 4096 + d * 256 + e) := by
  have hmask : ∀ i : Fin 24, i.val ≠ 11 → bitOf 0xFFF7FF#32 i = true := by decide
  apply BitVec.eq_of_getLsbD_eq
  intro i hi
  rw [BitVec.getLsbD_and]
  by_cases hin : i < 24 ∧ i ≠ 11
  · have := hmask ⟨i, hin.1⟩ hin.2
    rw [bitOf] at this
    rw [this, Bool.and_true]
  · have hzero : (a * 65536 + b * 4096 + d * 256 + e).testBit i = false := by
      rcases (by omega : i = 11 ∨ 24 ≤ i) with rfl | hhigh
      · rw [Nat.testBit_eq_decide_div_mod_eq, decide_eq_false_iff_not]
        omega
      · have : 2 ^ 24 ≤ 2 ^ i := Nat.pow_le_pow_right (by decide) hhigh
        exact Nat.testBit_lt_two_pow (by omega)
    have hword : (wordOfNat (a * 65536 + b * 4096 + d * 256 + e)).getLsbD i = false := by
      rw [wordOfNat, BitVec.getLsbD_ofNat, hzero, Bool.and_false]
    rw [hword, Bool.false_and]

theorem inputKnown_lt {n : Nat} (h : inputKnown n = true) : n < 256 := by
  simp only [inputKnown, Bool.or_eq_true, Bool.and_eq_true, decide_eq_true_eq] at h
  omega

theorem pcEntry_idle (hc : ClocksRun s) (hw : Waits s ch 0x40) (hq : q = s.reqOf (chanIx ch)) (hidle : s.pcRuns q.pc = false) :
    ∃ t, exec (.opPcEntry ch) s = .next t ∧ Answers s t ch .ok [] ∧ t.pcEn q.pc = s.pcEn q.pc
      ∧ t.get (R.PC_ENT q.pc (q.n 2)) &&& 0xFFF7FF#32 = wordOfNat (q.n 6 * 65536 + q.n 5 * 4096 + q.n 4 * 256 + q.n 3) ∧ t.mot = s.mot := by
  have hmail := taken_onlyMail hw
  have hargs := hw.unitArgs
  rw [← hq] at hargs
  simp only [badUnit, Bool.or_eq_false_iff, decide_eq_false_iff_not, Bool.not_eq_false'] at hargs
  simp only [argN_ws] at hargs
  obtain ⟨⟨⟨⟨⟨-, h2⟩, h3⟩, h4⟩, h5⟩, h6⟩ := hargs
  have he : q.n 2 < 20 := Nat.lt_succ_of_le (Nat.le_of_not_lt h2)
  obtain ⟨honly, hen, hword⟩ := entryWritten_spec (p := q.pc) (e := q.n 2)
    (w := wordOfNat (q.n 6 * 65536 + q.n 5 * 4096 + q.n 4 * 256 + q.n 3)) (hw.busUp hc) he
  obtain ⟨hregs, hans⟩ := hw.carried hq unchecked_pcEntry (opPcEntry_idle ((hmail.pcRuns _).trans hidle)) honly.served (by decide)
  refine ⟨_, rfl, hans, ?_, ?_, hregs.mot.trans (honly.mot.trans hmail.mot)⟩
  · exact (hregs.bit (by unfold mailboxPage R.PC_CFG regKey; omega)).trans (hen.trans (hmail.pcEn _))
  · rw [hregs.2 _ (by unfold mailboxPage R.PC_ENT regKey; omega), hword]
    exact entryWord_masked (Nat.lt_succ_of_le (Nat.le_of_not_lt h6)) (Nat.lt_succ_of_le (Nat.le_of_not_lt h5))
      (Nat.lt_succ_of_le (Nat.le_of_not_lt h4)) (inputKnown_lt h3)

/-! ### PC_RUN (R282) -/

theorem unchecked_pcRun : Unchecked 0x41 := by unfold Unchecked NeedsNone; decide

/-- PC_RUN's step at one converter. -/
def runStep (q : Req) (s : State) (p : Conv) : State :=
  if !(q.n 1).testBit p then s
  else if q.n 2 = 1 then (s.fwSet (R.PC_CFG p) 31).fwWrite (R.PC_CTL p) 1#32
  else s.fwWrite (R.PC_CTL p) 2#32

theorem opPcRun_eq : opPcRun q u = (forAll 4 u (runStep q), .ok, []) := rfl

theorem runStep_unnamed (h : (q.n 1).testBit p = false) : runStep q s p = s := if_pos (by rw [h]; rfl)

theorem runStep_named (hb : BusUp s) (h : (q.n 1).testBit p = true) :
    OnlyAt p s (runStep q s p) ∧ (vget (runStep q s p).pc p).rrun = decide (q.n 2 = 1) := by
  have heq : runStep q s p = if q.n 2 = 1 then (s.fwSet (R.PC_CFG p) 31).fwWrite (R.PC_CTL p) 1#32 else s.fwWrite (R.PC_CTL p) 2#32 :=
    if_neg (by rw [h]; decide)
  rw [heq]
  split
  next hstart => exact ⟨(fwStart_spec hb).1, (fwStart_spec hb).2.trans (decide_eq_true hstart).symm⟩
  next hstop => exact ⟨(fwStop_spec hb).1, (fwStop_spec hb).2.trans (decide_eq_false hstop).symm⟩

theorem runStep_at (hb : BusUp s) : OnlyAt p s (runStep q s p) := by
  cases h : (q.n 1).testBit p with
  | true => exact (runStep_named hb h).1
  | false =>
    rw [runStep_unnamed h]
    exact ⟨.refl, fun _ _ => rfl⟩

/-- PC_RUN over the four converters: the named ones start or stop, the others stand. -/
theorem runAll_spec (hb : BusUp s) : OnlyConv s (forAll 4 s (runStep q))
    ∧ ((q.n 1).testBit p = true → (vget (forAll 4 s (runStep q)).pc p).rrun = decide (q.n 2 = 1))
    ∧ ((q.n 1).testBit p = false → vget (forAll 4 s (runStep q)).pc p = vget s.pc p) := by
  have hstep (t : State) (j : Conv) (ht : OnlyConv s t) : OnlyConv s (runStep q t j) := ht.trans (runStep_at (ht.busUp hb)).1
  refine ⟨forAll_keeps .refl hstep, fun hnamed => ?_, fun hother => ?_⟩
  · refine forAll_reaches_under (I := OnlyConv s) (R := fun t => (vget t.pc p).rrun = decide (q.n 2 = 1)) p .refl hstep
      (fun t ht => (runStep_named (ht.busUp hb) hnamed).2) fun t j hj ht hrun => ?_
    rw [(runStep_at (ht.busUp hb)).2 p hj.symm]
    exact hrun
  · refine (forAll_keeps (P := fun t => OnlyConv s t ∧ vget t.pc p = vget s.pc p) ⟨.refl, rfl⟩ fun t j ht => ⟨hstep t j ht.1, ?_⟩).2
    by_cases hj : p = j
    · rw [← hj, runStep_unnamed hother]
      exact ht.2
    · exact ((runStep_at (ht.1.busUp hb)).2 p hj).trans ht.2

theorem pcRun_served (hc : ClocksRun s) (hw : Waits s ch 0x41) (hq : q = s.reqOf (chanIx ch)) (p : Conv) :
    ∃ t, exec (.opPcRun ch) s = .next t ∧ Answers s t ch .ok [] ∧ ((q.n 1).testBit p = true → (vget t.pc p).rrun = decide (q.n 2 = 1))
      ∧ ((q.n 1).testBit p = false → vget t.pc p = vget s.pc p) := by
  obtain ⟨honly, hnamed, hother⟩ := runAll_spec (q := q) (p := p) (hw.busUp hc)
  obtain ⟨hregs, hans⟩ := hw.carried hq unchecked_pcRun opPcRun_eq honly.served (by decide)
  refine ⟨_, rfl, hans, ?_, ?_⟩
  · rw [hregs.pc]
    exact hnamed
  · rw [hregs.pc, ← (taken_onlyMail hw).pc]
    exact hother

/-! ### PC_READ and PC_CAL (R291) -/

theorem pcRead_served (hw : Waits s ch 0x42) (hq : q = s.reqOf (chanIx ch)) (hn : q.n 3 ≤ 14) :
    ∃ t, exec (.opPcRead ch) s = .next t ∧ OnlyAsked s t
      ∧ Answers s t ch .ok ((List.range (q.n 3)).map fun i => s.get (R.PC_RES q.pc (q.n 2 + i)) &&& 0x03FFFFFF#32) := by
  have hargs := hw.unitArgs
  rw [← hq] at hargs
  simp only [badUnit, Bool.or_eq_false_iff, decide_eq_false_iff_not] at hargs
  simp only [argN_ws] at hargs
  have hlast := hargs.2
  have hwords : ((List.range (q.n 3)).map fun i => (taken s ch).get (R.PC_RES q.pc (q.n 2 + i)) &&& 0x03FFFFFF#32)
      = (List.range (q.n 3)).map fun i => s.get (R.PC_RES q.pc (q.n 2 + i)) &&& 0x03FFFFFF#32 := by
    refine List.map_congr_left fun i hi => ?_
    have := List.mem_range.1 hi
    rw [(taken_onlyMail hw).2 _ (by unfold mailboxPage R.PC_RES regKey; omega)]
  rw [← hwords]
  exact ⟨_, rfl, hw.only_asked (f := opPcRead) hq (by unfold Unchecked NeedsNone; decide) rfl (by simpa using hn)⟩

theorem unchecked_pcCal : Unchecked 0x43 := by unfold Unchecked NeedsNone; decide

theorem served_startDev {o : LongOp} : Served u (u.startLong .device o) := ⟨rfl, rfl, rfl, fun _ _ => rfl⟩

theorem opPcCal_free (h : u.fw.longDev = none) : opPcCal q u =
    (((u.startLong .device { op := 0x43, args := [q.w 1, q.w 2, q.w 3] }).fwSet (R.PC_CFG q.pc) 31).fwWrite (R.PC_CTL q.pc) (calWord (q.n 2) (q.n 3)),
      .ok, []) := if_neg (by rw [State.longBusy, h]; decide)

theorem opPcCal_busy (h : u.fw.longDev ≠ none) : opPcCal q u = (u, .busy, []) := if_pos (Option.isSome_iff_ne_none.2 h)

theorem pcCal_free (hc : ClocksRun s) (hw : Waits s ch 0x43) (hq : q = s.reqOf (chanIx ch)) (hfree : s.fw.longDev = none)
    (hrun : (vget s.pc q.pc).calRun = none) (hpend : (vget s.pc q.pc).calPend = none) (hinj : (vget s.pc q.pc).iIdx = none) :
    ∃ t, exec (.opPcCal ch) s = .next t ∧ Answers s t ch .ok [] ∧ t.fw.longDev = some { op := 0x43, args := [q.w 1, q.w 2, q.w 3] }
      ∧ (vget t.pc q.pc).calRun = some { entry := q.n 2, full := decide (q.n 3 = 1) } := by
  have hmail := taken_onlyMail hw
  have hargs := hw.unitArgs
  rw [← hq] at hargs
  simp only [badUnit, Bool.or_eq_false_iff, decide_eq_false_iff_not] at hargs
  simp only [argN_ws] at hargs
  rw [← hmail.pc] at hrun hpend hinj
  obtain ⟨honly, hcal⟩ := fwCal_spec (s := (taken s ch).startLong .device { op := 0x43, args := [q.w 1, q.w 2, q.w 3] }) (p := q.pc)
    (e := q.n 2) (full := q.n 3) (hw.busUp hc) (by omega) (by omega) hrun hpend hinj
  obtain ⟨hregs, hans⟩ := hw.carried hq unchecked_pcCal (opPcCal_free (hmail.longDev.trans hfree)) (served_startDev.trans honly.served) (by decide)
  refine ⟨_, rfl, hans, hregs.longDev.trans (by rw [honly.fw]; rfl), ?_⟩
  rw [hregs.pc]
  exact hcal

/-! ### REF_CTL (R288) -/

theorem opRefCtl_eq : opRefCtl q u = (u.fwBit R.REF_CFG 31 (decide (q.n 1 = 1)), .ok, [wordOfNat (u.fwBit R.REF_CFG 31 (decide (q.n 1 = 1))).refAge]) := rfl

theorem refCtl_served (hc : ClocksRun s) (hw : Waits s ch 0x44) (hq : q = s.reqOf (chanIx ch)) :
    ∃ t, exec (.opRefCtl ch) s = .next t ∧ Answers s t ch .ok [wordOfNat t.refAge] ∧ t.bit R.REF_CFG 31 = decide (q.n 1 = 1) ∧ t.mot = s.mot
      ∧ t.pc = s.pc := by
  have hmail := taken_onlyMail hw
  obtain ⟨honly, hpc, hbit⟩ := fwBit_REF_CFG (hw.busUp hc) (decide (q.n 1 = 1))
  obtain ⟨hregs, hans⟩ := hw.carried hq (by unfold Unchecked NeedsNone; decide) opRefCtl_eq honly.served (Nat.le_add_left 1 13)
  refine ⟨_, rfl, ?_, (hregs.bit (by decide)).trans hbit, hregs.mot.trans (honly.mot.trans hmail.mot), hregs.pc.trans (hpc.trans hmail.pc)⟩
  rw [hregs.onlyMail.refAge]
  exact hans

/-! ### COIL_READ (R273) -/

/-- COIL_READ's step at one coil. -/
def readStep (q : Req) (acc : List Word × State) (i : Nat) : List Word × State :=
  let c : Coil := ⟨(q.n 1 + i) % 16, by omega⟩
  let code := acc.2.sfld (R.CSM_FINE c) 15 0
  let num := code * (if acc.2.bit (R.CSM_CCFG c) 0 then 2000 else 8000)
  let (x, s) := acc.2.meanOf num (acc.2.shunt (axisOf c))
  (acc.1 ++ [wordOfInt x], s)

theorem opCoilRead_eq : opCoilRead q u = (((List.range (q.n 2)).foldl (readStep q) ([], u)).2, .ok, ((List.range (q.n 2)).foldl (readStep q) ([], u)).1) := rfl

/-- From `s` to `t` values the spec leaves open have been drawn, and nothing else has changed. -/
def OnlyDrawn (s t : State) : Prop := t = { s with free := t.free }

theorem OnlyDrawn.trans (h : OnlyDrawn s t) (g : OnlyDrawn t u) : OnlyDrawn s u := by
  unfold OnlyDrawn at *
  rw [g, h]

theorem meanOf_drawn (x : Int) (n : Nat) : OnlyDrawn s (s.meanOf x n).2 := by
  unfold State.meanOf
  split
  · rfl
  · rfl

/-- One word for each coil. -/
theorem readAll_spec (n : Nat) : ((List.range n).foldl (readStep q) ([], s)).1.length = n ∧ OnlyDrawn s ((List.range n).foldl (readStep q) ([], s)).2 := by
  induction n with
  | zero => exact ⟨rfl, rfl⟩
  | succ n ih =>
    obtain ⟨hlen, hdrawn⟩ := ih
    rw [List.range_succ, List.foldl_append]
    exact ⟨(List.length_append).trans (congrArg (· + 1) hlen), hdrawn.trans (meanOf_drawn _ _)⟩

theorem onlyAsked_of_drawn (h : OnlyMail s t) (hdrawn : OnlyDrawn t u) {v : State} (hregs : OnlyRegs mailboxPage u v) : OnlyAsked s v := by
  have hget (k : Nat) : u.get k = t.get k := by rw [hdrawn]; rfl
  refine ⟨fun k hk => (hregs.2 k hk).trans ((hget k).trans (h.2 k hk)), ?_⟩
  rw [hregs.1, hdrawn, h.1]
  exact ⟨rfl, rfl, rfl, rfl, rfl, rfl, rfl, rfl, rfl, rfl, rfl, rfl, rfl, rfl, rfl, rfl, rfl⟩

theorem coilRead_served (hw : Waits s ch 0x48) (hq : q = s.reqOf (chanIx ch)) (hn : q.n 2 ≤ 14) :
    ∃ t ws, exec (.opCoilRead ch) s = .next t ∧ ws.length = q.n 2 ∧ Answers s t ch .ok ws ∧ OnlyAsked s t := by
  obtain ⟨hlen, hdrawn⟩ := readAll_spec (q := q) (s := taken s ch) (q.n 2)
  have hserved : Served (taken s ch) ((List.range (q.n 2)).foldl (readStep q) ([], taken s ch)).2 := by
    rw [hdrawn]
    exact ⟨rfl, rfl, rfl, fun _ _ => rfl⟩
  obtain ⟨hregs, hans⟩ := hw.carried hq (by unfold Unchecked NeedsNone; decide) opCoilRead_eq hserved (by omega)
  exact ⟨_, _, rfl, hlen, hans, onlyAsked_of_drawn (taken_onlyMail hw) hdrawn hregs⟩

/-! ### CMP_SET (R300, R305) -/

/-- CMP_SET's configuration. -/
def cmpWord (old : Word) (q : Req) : Word :=
  putBit (putFld (putFld (putFld (putFld old 29 28 (q.n 4)) 25 24 (q.n 3)) 22 20 (q.n 5 % 8)) 9 0 (q.n 2)) 12 (q.n 6 = 1)

/-- The fields that CMP_SET names, as a word holds them. -/
def CmpFields (w : Word) (q : Req) : Prop :=
  fldOf w 9 0 = q.n 2 ∧ fldOf w 25 24 = q.n 3 ∧ fldOf w 29 28 = q.n 4 ∧ fldOf w 22 20 = q.n 5 % 8 ∧ bitOf w 12 = decide (q.n 6 = 1)

theorem cmpWord_fields (old : Word) (h2 : q.n 2 < 1024) (h3 : q.n 3 < 4) (h4 : q.n 4 < 4) : CmpFields (cmpWord old q) q := by
  have h5 : q.n 5 % 8 < 8 := Nat.mod_lt _ (by decide)
  unfold cmpWord
  refine ⟨?_, ?_, ?_, ?_, bitOf_putBit_same _ _ _ (by decide)⟩
  · rw [fldOf_putBit_other _ _ _ _ _ (by omega), fldOf_putFld_same _ _ _ _ (by decide) (by decide)]
    omega
  · rw [fldOf_putBit_other _ _ _ _ _ (by omega), fldOf_putFld_other _ _ _ _ _ _ (by decide) (by decide) (by omega),
      fldOf_putFld_other _ _ _ _ _ _ (by decide) (by decide) (by omega), fldOf_putFld_same _ _ _ _ (by decide) (by decide)]
    omega
  · rw [fldOf_putBit_other _ _ _ _ _ (by omega), fldOf_putFld_other _ _ _ _ _ _ (by decide) (by decide) (by omega),
      fldOf_putFld_other _ _ _ _ _ _ (by decide) (by decide) (by omega), fldOf_putFld_other _ _ _ _ _ _ (by decide) (by decide) (by omega),
      fldOf_putFld_same _ _ _ _ (by decide) (by decide)]
    omega
  · rw [fldOf_putBit_other _ _ _ _ _ (by omega), fldOf_putFld_other _ _ _ _ _ _ (by decide) (by decide) (by omega),
      fldOf_putFld_same _ _ _ _ (by decide) (by decide)]
    omega

theorem bitOf_cmpWord_on (old : Word) : bitOf (cmpWord old q) 31 = bitOf old 31 := by
  unfold cmpWord
  have hfld (v : Word) {hi lo n : Nat} (hhi : hi < 31) (hlo : lo ≤ hi) : bitOf (putFld v hi lo n) 31 = bitOf v 31 := by
    rw [bitOf_putFld _ _ _ _ _ (by omega) hlo, if_neg (by omega)]
  rw [bitOf_putBit_ne _ _ _ _ (by decide), hfld _ (by decide) (by decide), hfld _ (by decide) (by decide), hfld _ (by decide) (by decide),
    hfld _ (by decide) (by decide)]

/-- The fields stand under the mask of the register, and with ON set. -/
theorem CmpFields.masked {w : Word} (h : CmpFields w q) : CmpFields (w &&& 0xB37333FF#32) q := by
  have hmask : ∀ hi lo : Nat, (hi, lo) ∈ [(9, 0), (25, 24), (29, 28), (22, 20)] → fldOf (w &&& 0xB37333FF#32) hi lo = fldOf w hi lo := by
    intro hi lo hmem
    refine fldOf_and_mask fun i hlo hhi => ?_
    simp only [List.mem_cons, List.not_mem_nil, Prod.mk.injEq, or_false] at hmem
    have hbits : ∀ i : Fin 32, i.val ≤ 9 ∨ (24 ≤ i.val ∧ i.val ≤ 25) ∨ (28 ≤ i.val ∧ i.val ≤ 29) ∨ (20 ≤ i.val ∧ i.val ≤ 22) →
      bitOf 0xB37333FF#32 i = true := by decide
    exact hbits ⟨i, by omega⟩ (by dsimp only; omega)
  obtain ⟨hthr, hhyst, hmode, hroute, hpus⟩ := h
  refine ⟨(hmask 9 0 (by decide)).trans hthr, (hmask 25 24 (by decide)).trans hhyst, (hmask 29 28 (by decide)).trans hmode,
    (hmask 22 20 (by decide)).trans hroute, ?_⟩
  rw [bitOf_and, hpus]
  exact Bool.and_true _

theorem CmpFields.on {w : Word} (h : CmpFields w q) : CmpFields (putBit w 31 true) q := by
  obtain ⟨hthr, hhyst, hmode, hroute, hpus⟩ := h
  exact ⟨(fldOf_putBit_other _ _ _ _ _ (by decide)).trans hthr, (fldOf_putBit_other _ _ _ _ _ (by decide)).trans hhyst,
    (fldOf_putBit_other _ _ _ _ _ (by decide)).trans hmode, (fldOf_putBit_other _ _ _ _ _ (by decide)).trans hroute,
    (bitOf_putBit_ne _ _ _ _ (by decide)).trans hpus⟩

theorem unchecked_cmpSet : Unchecked 0x45 := by unfold Unchecked NeedsNone; decide

/-- CMP_SET's writes: the configuration, the source of a wake-up, ON, and the block's EN. -/
def cmpStarted (s : State) (q : Req) : State :=
  let configured := s.fwWrite (R.CMP_CCFG q.cmp) (cmpWord (s.get (R.CMP_CCFG q.cmp)) q)
  let woken := configured.fwBit R.SYS_WAKECFG q.cmp ((q.n 5).testBit 3)
  (woken.fwBit (R.CMP_CCFG q.cmp) 31 true).fwSet R.CMP_CFG 31

theorem opCmpSet_off (h : u.bit (R.CMP_CCFG q.cmp) 31 = false) : opCmpSet q u = (cmpStarted u q, .ok, []) := if_neg (by rw [h]; decide)

theorem opCmpSet_on (h : u.bit (R.CMP_CCFG q.cmp) 31 = true) : opCmpSet q u = (u, .state, []) := if_pos h

theorem cmpStarted_spec (hb : BusUp s) (hs : NoReset s) (hoff : s.bit (R.CMP_CCFG q.cmp) 31 = false) (h2 : q.n 2 < 1024) (h3 : q.n 3 < 4)
    (h4 : q.n 4 < 4) : Served s (cmpStarted s q) ∧ (cmpStarted s q).cmpOn q.cmp = true
    ∧ CmpFields ((cmpStarted s q).get (R.CMP_CCFG q.cmp)) q ∧ (cmpStarted s q).bit R.SYS_WAKECFG q.cmp = (q.n 5).testBit 3 := by
  unfold cmpStarted
  extract_lets s1 s2
  have hword := cmpWord_fields (q := q) (s.get (R.CMP_CCFG q.cmp)) h2 h3 h4
  have hwoff : bitOf (cmpWord (s.get (R.CMP_CCFG q.cmp)) q) 31 = false := (bitOf_cmpWord_on _).trans hoff
  obtain ⟨hw1, hget1, heval1⟩ := fwWrite_CMP_CCFG hb hs hoff (.inl hwoff)
  obtain ⟨hserved2, hb2, hs2, hwake2, hcmp2, hget2⟩ := fwBit_SYS_WAKECFG (s := s1) (i := q.cmp) (b := (q.n 5).testBit 3) (hw1.busUp hb) (by omega)
  have hccfg2 : s2.get (R.CMP_CCFG q.cmp) = cmpWord (s.get (R.CMP_CCFG q.cmp)) q &&& 0xB37333FF#32 :=
    (hget2 _ (by unfold R.CMP_CCFG R.SYS_WAKECFG regKey; omega)).trans hget1
  have hoff2 : s2.bit (R.CMP_CCFG q.cmp) 31 = false := by rw [State.bit, hccfg2, bitOf_and, hwoff, Bool.false_and]
  have hnr2 : NoReset s2 := hs2 (hw1.noReset hs)
  obtain ⟨hw3, hget3, -⟩ := fwWrite_CMP_CCFG (w := putBit (s2.get (R.CMP_CCFG q.cmp)) 31 true) hb2 hnr2 hoff2 (.inr (by rw [hcmp2]; exact heval1))
  set s3 := s2.fwBit (R.CMP_CCFG q.cmp) 31 true
  obtain ⟨hw4, hon4⟩ := fwSet_CMP_CFG (s := s3) (hw3.busUp hb2) (hw3.noReset hnr2)
  have hccfg4 : (s3.fwSet R.CMP_CFG 31).get (R.CMP_CCFG q.cmp) = putBit (s2.get (R.CMP_CCFG q.cmp)) 31 true &&& 0xB37333FF#32 :=
    (hw4.get cmpCfgBits_not_ccfg).trans hget3
  refine ⟨((hw1.served ccfgBits_above).trans hserved2).trans ((hw3.served ccfgBits_above).trans (hw4.served cmpCfgBits_above)), ?_, ?_, ?_⟩
  · rw [State.cmpOn, hon4, Bool.and_true, State.bit, hccfg4, bitOf_and, bitOf_putBit_same _ _ _ (by decide)]
    rfl
  · rw [hccfg4, hccfg2]
    exact hword.masked.on.masked
  · rw [hw4.bit _ _ (by unfold cmpCfgBits only cmpOutBits; simp only [R.SYS_WAKECFG, R.CMP_CFG, regKey]; omega), ← hwake2]
    exact hw3.bit _ _ (by unfold ccfgBits only cmpOutBits R.CMP_CCFG R.SYS_WAKECFG regKey; omega)

theorem cmpSet_off (hc : ClocksRun s) (hs : NoReset s) (hw : Waits s ch 0x45) (hq : q = s.reqOf (chanIx ch)) (hoff : s.bit (R.CMP_CCFG q.cmp) 31 = false) :
    ∃ t, exec (.opCmpSet ch) s = .next t ∧ Answers s t ch .ok [] ∧ t.cmpOn q.cmp = true ∧ CmpFields (t.get (R.CMP_CCFG q.cmp)) q
      ∧ t.bit R.SYS_WAKECFG q.cmp = (q.n 5).testBit 3 := by
  have hargs := hw.unitArgs
  rw [← hq] at hargs
  simp only [badUnit, Bool.or_eq_false_iff, decide_eq_false_iff_not] at hargs
  simp only [argN_ws] at hargs
  have hoff' : (taken s ch).bit (R.CMP_CCFG q.cmp) 31 = false := ((taken_onlyMail hw).bit (by unfold mailboxPage R.CMP_CCFG regKey; omega)).trans hoff
  obtain ⟨hserved, hon, hfields, hwake⟩ := cmpStarted_spec (hw.busUp hc) (hw.noReset hs) hoff' (by omega) (by omega) (by omega)
  obtain ⟨hregs, hans⟩ := hw.carried hq unchecked_cmpSet (opCmpSet_off hoff') hserved (by decide)
  have hccfg := hregs.2 (R.CMP_CCFG q.cmp) (by unfold mailboxPage R.CMP_CCFG regKey; omega)
  refine ⟨_, rfl, hans, ?_, by rw [hccfg]; exact hfields, (hregs.bit (by decide)).trans hwake⟩
  rw [State.cmpOn, State.bit, hccfg, hregs.bit (by decide)]
  exact hon

/-! ### CMP_CHECK (R302) -/

theorem unchecked_cmpCheck : Unchecked 0x47 := by unfold Unchecked NeedsNone; decide

theorem opCmpCheck_early (h : u.refAge < 5) : opCmpCheck q u = (u, .state, []) := if_pos h

/-- The check's long operation, with the third converter stopped. -/
def checkStarted (s : State) (q : Req) : State :=
  let begun := s.startLong .device { op := 0x47, args := [q.w 1, wordOfNat (b2n (vget s.pc (3 : Conv)).rrun)] }
  if (vget s.pc (3 : Conv)).rrun then begun.fwWrite (R.PC_CTL 3) 2#32 else begun

theorem opCmpCheck_settled (hage : 5 ≤ u.refAge) (hfree : u.fw.longDev = none) : opCmpCheck q u = (checkStarted u q, .ok, []) :=
  (if_neg (by omega)).trans (if_neg (by rw [State.longBusy, hfree]; decide))

theorem checkStarted_spec (hb : BusUp s) : Served s (checkStarted s q) ∧ (vget (checkStarted s q).pc (3 : Conv)).rrun = false
    ∧ (checkStarted s q).fw.longDev = some { op := 0x47, args := [q.w 1, wordOfNat (b2n (vget s.pc (3 : Conv)).rrun)] } := by
  unfold checkStarted
  extract_lets begun
  split
  next =>
    obtain ⟨hat, hstopped⟩ := fwStop_spec (s := begun) (p := 3) hb
    exact ⟨served_startDev.trans hat.1.served, hstopped, by rw [show (begun.fwWrite (R.PC_CTL 3) 2#32).fw = begun.fw from hat.1.fw]; rfl⟩
  next hidle => exact ⟨served_startDev, Bool.eq_false_iff.2 hidle, rfl⟩

theorem cmpCheck_settled (hc : ClocksRun s) (hw : Waits s ch 0x47) (hq : q = s.reqOf (chanIx ch)) (hage : 5 ≤ s.refAge) (hfree : s.fw.longDev = none) :
    ∃ t, exec (.opCmpCheck ch) s = .next t ∧ Answers s t ch .ok [] ∧ (vget t.pc (3 : Conv)).rrun = false
      ∧ t.fw.longDev = some { op := 0x47, args := [q.w 1, wordOfNat (b2n (vget s.pc (3 : Conv)).rrun)] } := by
  have hmail := taken_onlyMail hw
  obtain ⟨hserved, hstopped, hlong⟩ := checkStarted_spec (q := q) (hw.busUp hc)
  obtain ⟨hregs, hans⟩ := hw.carried hq unchecked_cmpCheck
    (opCmpCheck_settled (by rw [hmail.refAge]; exact hage) (hmail.longDev.trans hfree)) hserved (by decide)
  refine ⟨_, rfl, hans, by rw [hregs.pc]; exact hstopped, hregs.longDev.trans ?_⟩
  rw [hlong, hmail.pc]

/-! ### The obligation -/

/-- Settles O50: each opcode's writes are carried out in the state in which its request was taken, and the answer leaves their registers. -/
theorem converterAndComparatorRequests : Obligations.ConverterAndComparatorRequests := by
  unfold Obligations.ConverterAndComparatorRequests
  intro s ch hc hs q p c
  refine ⟨fun hw hidle => pcEntry_idle hc hw rfl hidle, fun hw hrun => ⟨_, rfl, ?_⟩, fun p hw => pcRun_served hc hw rfl p,
    fun hw hn => pcRead_served hw rfl hn, fun hw hfree hrun hpend hinj => pcCal_free hc hw rfl hfree hrun hpend hinj, fun hw hbusy => ⟨_, rfl, ?_⟩,
    fun hw => refCtl_served hc hw rfl, fun hw hn => coilRead_served hw rfl hn, fun hw hoff => ?_, fun hw hon => ⟨_, rfl, ?_⟩, fun hw => ⟨_, rfl, ?_⟩,
    fun hw hage => ⟨_, rfl, ?_⟩, fun hw hage hfree => cmpCheck_settled hc hw rfl hage hfree⟩
  · exact hw.only_asked rfl unchecked_pcEntry (opPcEntry_runs (((taken_onlyMail hw).pcRuns _).trans hrun)) (by decide)
  · exact hw.only_asked rfl unchecked_pcCal (opPcCal_busy (by rw [(taken_onlyMail hw).longDev]; exact hbusy)) (by decide)
  · obtain ⟨t, ht, hans, hon, ⟨hthr, hhyst, hmode, hroute, hpus⟩, hwake⟩ := cmpSet_off hc hs hw rfl hoff
    exact ⟨t, ht, hans, hon, hthr, hhyst, hmode, hroute, hpus, hwake⟩
  · exact hw.only_asked rfl unchecked_cmpSet
      (opCmpSet_on (((taken_onlyMail hw).bit (by unfold mailboxPage R.CMP_CCFG regKey; omega)).trans hon)) (by decide)
  · rw [← (taken_onlyMail hw).2 R.CMP_OUT (by decide)]
    exact hw.only_asked (f := opCmpRead) rfl (by unfold Unchecked NeedsNone; decide) rfl (Nat.le_add_left 1 13)
  · exact hw.only_asked rfl unchecked_cmpCheck (opCmpCheck_early (by rw [(taken_onlyMail hw).refAge]; exact hage)) (by decide)

end Sys2Proof.Machine
end

section
/-! PROOFS. HALT-ALL while a master with halt rights holds its bit, under the writes of the other masters (R124, R125). -/

namespace Sys2Proof.Machine

variable {s : State} {m j : Master} {w : Word}

theorem masterOf_id (m : Master) : masterOf m.id = some m := by cases m <;> rfl

/-- Two masters have different IDs (R109). -/
theorem Master.id_ne (h : m ≠ j) : m.id ≠ j.id := fun hid => h (Option.some.inj (by rw [← masterOf_id m, hid, masterOf_id]))

/-- A master writes its own bit of MBX_HALT alone, and none where it lacks halt rights. -/
theorem bit_haltWrite_other (hne : m ≠ j) (hm : s.bit R.MBX_HALTRT m.id = true ∨ Plain s 2 (accessDetail m R.MBX_HALT)) :
    (s.haltWrite m w).bit R.MBX_HALT j.id = s.bit R.MBX_HALT j.id ∧ (s.haltWrite m w).bit R.MBX_HALTRT j.id = s.bit R.MBX_HALTRT j.id := by
  by_cases hright : s.bit R.MBX_HALTRT m.id = true
  · have hid := Master.id_lt m
    have hother : j.id ≠ m.id := (Master.id_ne hne).symm
    rw [haltWrite_of_right hright, State.bit_setBit _ _ _ _ _ _ (by omega), State.bit_setBit _ _ _ _ _ _ (by omega)]
    exact ⟨if_neg fun h => hother h.2, if_neg fun h => hother h.2⟩
  · have hignored : s.haltWrite m w = s.writeIgnored m R.MBX_HALT := if_neg hright
    have hregs : (s.haltWrite m w).regs = s.regs := by
      rw [hignored]
      exact (raise_only (hm.resolve_left hright)).regs
    exact ⟨State.bit_of_regs hregs _ _, State.bit_of_regs hregs _ _⟩

/-- HALT-ALL and the holder's bit stand under another master's write of MBX_HALT. -/
theorem haltAll_haltWrite_other (hright : s.bit R.MBX_HALTRT j.id = true) (hheld : s.bit R.MBX_HALT j.id = true) (hne : m ≠ j)
    (hm : s.bit R.MBX_HALTRT m.id = true ∨ Plain s 2 (accessDetail m R.MBX_HALT)) :
    (s.haltWrite m w).haltAll = true ∧ (s.haltWrite m w).bit R.MBX_HALT j.id = true := by
  obtain ⟨hbit, hrights⟩ := bit_haltWrite_other (w := w) hne hm
  exact ⟨haltAll_of_held (hrights.trans hright) (hbit.trans hheld), hbit.trans hheld⟩

/-- Settles O26: a write of MBX_HALT enters its master's own bit alone, so that the holder's stands and HALT-ALL with it. -/
theorem haltAllStandsWhileHeld : Obligations.HaltAllStandsWhileHeld := by
  unfold Obligations.HaltAllStandsWhileHeld
  intro s j m hright hheld
  refine ⟨haltAll_of_held hright hheld, fun hne hopen hm => ⟨⟨_, exec_haltAllRelease hopen, ?_⟩, fun w => ?_⟩⟩
  · exact haltAll_haltWrite_other ((opened_bit ..).trans hright) ((opened_bit ..).trans hheld) hne
      (hm.imp (opened_bit ..).trans fun hp => plain_opened (hp _))
  · exact haltAll_haltWrite_other hright hheld hne (hm.imp_right fun hp => hp _)

end Sys2Proof.Machine
end

section
/-! PROOFS. Block and word channels: who writes a channel and when, what GO and TAKE leave of its STAT, and the word of a word channel (R115 to
R119). -/

namespace Sys2Proof.Machine

variable {s t : State} {m : Master} {w : Word} {n k : Nat}

/-! ### What a one-word frame's record leaves of the channels -/

@[simp] theorem opened_sndOf (s : State) (m : Master) (e : Nat) : (s.opened m).sndOf e = s.sndOf e := sndOf_congr (opened_get ..)

@[simp] theorem opened_rcvOf (s : State) (m : Master) (e : Nat) : (s.opened m).rcvOf e = s.rcvOf e := rcvOf_congr (opened_get ..)

@[simp] theorem opened_bFull (s : State) (m : Master) (n : Nat) : (s.opened m).bFull n = s.bFull n := opened_bit ..

@[simp] theorem opened_wFull (s : State) (m : Master) (n : Nat) : (s.opened m).wFull n = s.wFull n := opened_bit ..

theorem msg_congr (h : ∀ i < 16, t.get (bch n i) = s.get (bch n i)) : t.msg n = s.msg n :=
  List.map_congr_left fun i hi => h i (List.mem_range.1 hi)

@[simp] theorem opened_msg (s : State) (m : Master) (n : Nat) : (s.opened m).msg n = s.msg n := msg_congr fun _ _ => opened_get ..

@[simp] theorem opened_crcBad (s : State) (m : Master) (n : Nat) : (s.opened m).crcBad n = s.crcBad n := by
  simp only [State.crcBad, opened_bit, opened_msg, opened_get]

theorem OnlyRegs.fwRuns {P : Nat → Prop} (h : OnlyRegs P s t) : t.fwRuns = s.fwRuns := by
  rw [h.1]
  rfl

/-! ### Message words (R115, R118) -/

theorem msgWrite_of_sender (hsnd : m.id = s.sndOf n) (hempty : s.bFull n = false) : s.msgWrite m n k w = s.set (bch n k) w := by
  rw [State.msgWrite, if_neg (not_not.2 hsnd), hempty]
  rfl

theorem msgWrite_of_full (hsnd : m.id = s.sndOf n) (hfull : s.bFull n = true) : s.msgWrite m n k w = s.refuseFull m := by
  rw [State.msgWrite, if_neg (not_not.2 hsnd), if_pos hfull]

theorem msgWrite_of_other (hsnd : m.id ≠ s.sndOf n) : s.msgWrite m n k w = s.writeIgnored m (bch n k) := if_pos hsnd

/-- A refusal shows as a bus error to an internal master and as NAK at a serial port, and changes no register. -/
theorem refuseFull_opened (s : State) (m : Master) :
    ((s.opened m).refuseFull m).regs = s.regs ∧ ((s.opened m).refuseFull m).out.busErr = !m.serial
    ∧ (m = .host → ((s.opened m).refuseFull m).hostPort.nak = true) ∧ (m = .maint → ((s.opened m).refuseFull m).maintPort.nak = true) := by
  cases m
  case host => exact ⟨rfl, rfl, fun _ => rfl, nofun⟩
  case maint => exact ⟨rfl, rfl, nofun, fun _ => rfl⟩
  all_goals exact ⟨rfl, rfl, nofun, nofun⟩

theorem exec_mailboxMsgWrite {ch : Fin 8} {i : Fin 16} (h : s.opens m (bch ch i / 128) = true) :
    exec (.mailboxMsgWrite m ch i w) s = .next ((s.opened m).msgWrite m ch i w) := congrArg _ (access_of_opens _ h)

/-! ### GO and TAKE (R115, R116, R119) -/

/-- The channel after a GO that is accepted. -/
theorem goWrite_accepted (hsnd : m.id = s.sndOf n) (hempty : s.bFull n = false) (hgo : bitOf w 0 = true) : s.goWrite m n w =
    (((s.incFld (bch n 0x11) 23 16).setBit (bch n 0x11) 2 (s.crcBad n)).setBit (bch n 0x11) 1 false).setBit (bch n 0x11) 0 true := by
  rw [State.goWrite, if_neg (not_not.2 hsnd), hempty, hgo]
  rfl

/-- An accepted GO writes STAT alone: FULL, SEQ counted modulo 256, CRCBAD by the check, and no ORPHAN. -/
theorem goWrite_spec (hsnd : m.id = s.sndOf n) (hempty : s.bFull n = false) (hgo : bitOf w 0 = true) :
    OnlyRegs (· = bch n 0x11) s (s.goWrite m n w) ∧ (s.goWrite m n w).bFull n = true
    ∧ (s.goWrite m n w).fld (bch n 0x11) 23 16 = (s.fld (bch n 0x11) 23 16 + 1) % 256
    ∧ (s.goWrite m n w).bit (bch n 0x11) 2 = s.crcBad n ∧ (s.goWrite m n w).bit (bch n 0x11) 1 = false := by
  have hbit {t : State} (i : Nat) (b : Bool) : OnlyRegs (· = bch n 0x11) t (t.setBit (bch n 0x11) i b) := onlyRegs_setBit rfl
  rw [goWrite_accepted hsnd hempty hgo]
  refine ⟨(((onlyRegs_setFld (P := (· = bch n 0x11)) rfl).trans (hbit _ _)).trans (hbit _ _)).trans (hbit _ _), ?_, ?_, ?_, ?_⟩
  · simp [State.bFull, State.bit_setBit]
  · rw [State.fld_setBit_other _ _ _ _ _ _ _ (by omega), State.fld_setBit_other _ _ _ _ _ _ _ (by omega),
      State.fld_setBit_other _ _ _ _ _ _ _ (by omega)]
    exact State.fld_setFld_same _ _ _ _ _ (by decide) (by decide)
  · simp [State.bit_setBit]
  · simp [State.bit_setBit]

theorem exec_mailboxGo_stopped {ch : Fin 8} (h : s.opens m (bch ch 0x10 / 128) = true)
    (hrest : ((s.opened m).goWrite m ch w).fwRuns = false) : exec (.mailboxGo m ch w) s = .next ((s.opened m).goWrite m ch w) := by
  refine congrArg _ ((access_of_opens _ h).trans ?_)
  exact fwStep_of_stopped hrest

/-- TAKE by the receiver of a full channel writes STAT alone: neither FULL nor ORPHAN. -/
theorem takeEffect_spec (hrcv : m.id = s.rcvOf n) (hfull : s.bFull n = true) :
    OnlyRegs (· = bch n 0x11) s (s.takeEffect m n) ∧ (s.takeEffect m n).bFull n = false
    ∧ (s.takeEffect m n).bit (bch n 0x11) 1 = false := by
  have htake : s.takeEffect m n = (s.setBit (bch n 0x11) 0 false).setBit (bch n 0x11) 1 false := if_pos ⟨hrcv, hfull⟩
  rw [htake]
  refine ⟨(onlyRegs_setBit (P := (· = bch n 0x11)) rfl).trans (onlyRegs_setBit rfl), ?_, ?_⟩
  · simp [State.bFull, State.bit_setBit]
  · simp [State.bit_setBit]

theorem takeWord_of_full (hfull : s.bFull n = true) : s.takeWord m n = s.get (bch n 0) := by
  rw [State.takeWord, hfull]
  exact if_neg (by simp)

theorem exec_mailboxTake_stopped {ch : Fin 8} (h : s.opensRead m (bch ch 0x12 / 128) = true)
    (hrest : ((s.opened m).takeEffect m ch).fwRuns = false) : exec (.mailboxTake m ch) s =
      .next { (s.opened m).takeEffect m ch with out := { ((s.opened m).takeEffect m ch).out with words := [(s.opened m).takeWord m ch] } } := by
  refine congrArg _ ((accessRead_of_opensRead _ h).trans ?_)
  dsimp only
  rw [fwStep_of_stopped hrest]

/-! ### Word channels (R117) -/

theorem wdata_ne_wstat (hn : n < 8) : R.MBX_WDATA n ≠ R.MBX_WSTAT := by
  unfold R.MBX_WDATA R.MBX_WSTAT regKey
  omega

/-- A word posted by the sender of an empty word channel is stored and fills it. -/
theorem wordWrite_spec (hn : n < 8) (hsnd : m.id = s.sndOf (8 + n)) (hempty : s.wFull n = false) :
    (s.wordWrite m n w).get (R.MBX_WDATA n) = w ∧ (s.wordWrite m n w).wFull n = true
    ∧ ∀ j, j ≠ R.MBX_WDATA n → j ≠ R.MBX_WSTAT → (s.wordWrite m n w).get j = s.get j := by
  have hpost : s.wordWrite m n w = ((s.set (R.MBX_WDATA n) w).setBit R.MBX_WSTAT n true).setBit R.MBX_WSTAT (8 + n) false := by
    rw [State.wordWrite, if_neg (not_not.2 hsnd), hempty]
    rfl
  have hdata := wdata_ne_wstat hn
  rw [hpost]
  refine ⟨?_, ?_, fun j hj hstat => ?_⟩
  · rw [State.get_setBit, if_neg hdata, State.get_setBit, if_neg hdata, State.get_set_same]
  · rw [State.wFull, State.bit_setBit _ _ _ _ _ _ (by omega), if_neg (by omega), State.bit_setBit _ _ _ _ _ _ (by omega), if_pos ⟨rfl, rfl⟩]
  · rw [State.get_setBit, if_neg hstat, State.get_setBit, if_neg hstat, State.get_set_ne _ _ hj]

/-- A word read by the receiver of a full word channel leaves it empty. -/
theorem wordEffect_spec (hn : n < 8) (hrcv : m.id = s.rcvOf (8 + n)) (hfull : s.wFull n = true) :
    (s.wordEffect m n).wFull n = false ∧ ∀ j, j ≠ R.MBX_WSTAT → (s.wordEffect m n).get j = s.get j := by
  have htake : s.wordEffect m n = (s.setBit R.MBX_WSTAT n false).setBit R.MBX_WSTAT (8 + n) false := if_pos ⟨hrcv, hfull⟩
  rw [htake]
  refine ⟨?_, fun j hj => ?_⟩
  · rw [State.wFull, State.bit_setBit _ _ _ _ _ _ (by omega), if_neg (by omega), State.bit_setBit _ _ _ _ _ _ (by omega), if_pos ⟨rfl, rfl⟩]
  · rw [State.get_setBit, if_neg hj, State.get_setBit, if_neg hj]

theorem exec_wordPost {ch : Fin 8} (h : s.opens m (R.MBX_WDATA ch / 128) = true) :
    exec (.wordPost m ch w) s = .next ((s.opened m).wordWrite m ch w) := congrArg _ (access_of_opens _ h)

theorem exec_wordTake {ch : Fin 8} (h : s.opensRead m (R.MBX_WDATA ch / 128) = true) :
    exec (.wordTake m ch) s = .next (((s.opened m).wordEffect m ch).answer [(s.opened m).get (R.MBX_WDATA ch)]) :=
  congrArg _ (accessRead_of_opensRead _ h)

/-! ### The obligation -/

/-- Settles O23: each access comes to one operation on its channel, which acts for the channel's own sender or receiver alone. -/
theorem channelsPassMessages : Obligations.ChannelsPassMessages := by
  unfold Obligations.ChannelsPassMessages
  intro s m ch w
  refine ⟨?_, ?_, ?_, ?_, ?_, ?_, ?_⟩
  · intro k hopen hsnd hempty
    refine ⟨_, exec_mailboxMsgWrite hopen, ?_⟩
    rw [msgWrite_of_sender (by rw [opened_sndOf, hsnd]) (by rw [opened_bFull, hempty])]
    exact ⟨State.get_set_same _ _ _, fun j hj => (State.get_set_ne _ _ hj).trans (opened_get s m j), opened_fc s m, opened_mot s m,
      opened_out s m⟩
  · intro k hopen hsnd hfull
    refine ⟨_, exec_mailboxMsgWrite hopen, ?_⟩
    rw [msgWrite_of_full (by rw [opened_sndOf, hsnd]) (by rw [opened_bFull, hfull])]
    exact refuseFull_opened s m
  · intro k hopen hsnd hplain
    refine ⟨_, exec_mailboxMsgWrite hopen, ?_⟩
    rw [msgWrite_of_other (by rwa [opened_sndOf])]
    obtain ⟨hraised, honly⟩ := writeIgnored_opened (hplain (accessDetail m (bch ch k)))
    exact ⟨honly.regs.trans (opened_regs s m), hraised⟩
  · intro hopen hsnd hempty hgo hstop
    obtain ⟨honly, hfull, hseq, hcrc, horphan⟩ :=
      goWrite_spec (s := s.opened m) (by rw [opened_sndOf, hsnd]) (by rw [opened_bFull, hempty]) hgo
    have hget : ∀ j, j ≠ bch ch 0x11 → ((s.opened m).goWrite m ch w).get j = s.get j := fun j hj => (honly.2 j hj).trans (opened_get s m j)
    refine ⟨_, exec_mailboxGo_stopped hopen (by rw [honly.fwRuns, opened_fwRuns, hstop]), hfull, ?_, ?_, horphan, ?_, hget⟩
    · rw [hseq, opened_fld]
    · rw [hcrc, opened_crcBad]
    · exact msg_congr fun i hi => hget _ (by rw [Ne, bch_inj]; omega)
  · intro hopen hrcv hfull hstop
    obtain ⟨honly, hempty, horphan⟩ := takeEffect_spec (s := s.opened m) (by rw [opened_rcvOf, hrcv]) (by rw [opened_bFull, hfull])
    refine ⟨_, exec_mailboxTake_stopped hopen (by rw [honly.fwRuns, opened_fwRuns, hstop]), ?_, hempty, horphan, fun j hj => ?_⟩
    · rw [takeWord_of_full (by rw [opened_bFull, hfull]), opened_get]
    · exact (honly.2 j hj).trans (opened_get s m j)
  · intro hopen hsnd hempty
    obtain ⟨hword, hfull, hget⟩ := wordWrite_spec (s := s.opened m) (w := w) ch.isLt (by rw [opened_sndOf, hsnd]) (by rw [opened_wFull, hempty])
    exact ⟨_, exec_wordPost hopen, hword, hfull, fun j hj hstat => (hget j hj hstat).trans (opened_get s m j)⟩
  · intro hopen hrcv hfull
    obtain ⟨hempty, hget⟩ := wordEffect_spec (s := s.opened m) ch.isLt (by rw [opened_rcvOf, hrcv]) (by rw [opened_wFull, hfull])
    exact ⟨_, exec_wordTake hopen, by rw [opened_get]; rfl, hempty, fun j hj => (hget j hj).trans (opened_get s m j)⟩

end Sys2Proof.Machine
end

section
/-! PROOFS. A SET_COMMIT whose record fills a page of the logbook, whose pointers in the wear journal no longer decode. -/

namespace Sys2Proof.Machine

/-- The SET_COMMIT that ends in `commitAtFullPage`: a settings block of its smallest LEN. -/
def commitOp : LongOp := { op := 0x62, args := List.replicate 8 0#32 }

/-- As `energyAtFullPage`, six records gathered and UE_WJ's reaction CRST, while a SET_COMMIT is under way. -/
def commitAtFullPage : State := { energyAtFullPage with fw := { energyAtFullPage.fw with longDev := some commitOp } }

/-- Both blocks are written, and the record of the commit is the seventh: its page is programmed, the pair is read, UE_WJ is raised and the chip
resets, the axis's position with it (R25, R388, R393, R394, R395). -/
theorem me_longEnds_commitAtFullPage : ((commitAtFullPage.quiet.longEnds .device 0 []).me 0).pos = 0 := by
  decide +kernel

/-- Refutes O54: the record of a commit that succeeds can fill a page of the logbook, whose pointers' pair in the wear journal is then read;
where that raises UE_WJ and its reaction is CRST, the chip resets and the axes do not stand. -/
theorem not_longOperationsEndAndFirmwareFollowsUp : ¬ Obligations.LongOperationsEndAndFirmwareFollowsUp := by
  unfold Obligations.LongOperationsEndAndFirmwareFollowsUp
  intro h
  obtain ⟨_, _, _, _, hcommit, _⟩ := h commitAtFullPage (by decide +kernel)
  obtain ⟨t, hexec, _, hmot, _⟩ := hcommit commitOp [] rfl rfl (by decide +kernel) (by decide) (by decide)
  have ht : commitAtFullPage.quiet.longEnds .device 0 [] = t := Host.Outcome.next.inj hexec
  have hme : t.me 0 = commitAtFullPage.me 0 := by unfold State.me; rw [hmot]
  rw [← ht] at hme
  exact absurd (me_longEnds_commitAtFullPage.symm.trans (congrArg MotAx.pos hme)) (by decide)

end Sys2Proof.Machine
end

section
/-! PROOFS. Settings and orphan requests under presence whose record fills a page of the logbook, whose pointers no longer decode. -/

namespace Sys2Proof.Machine

/-- HOST's request waits: one check of each part of the state that serving it looks at. -/
theorem waits_host_of {s : State} {op : Nat} (hserve : s.mayServe 0 op = true) (hinq : s.lnk.inq = [])
    (hrest : ∀ d : Fin 3, (d ≠ 0 → s.hasReq d = false) ∧ vget s.fw.outq d = [] ∧ vget s.fw.owed d = [])
    (hroom : s.bFull 1 = false ∧ s.sndOf 1 = 1) : Waits s .host op :=
  ⟨hserve, by decide, fun d => (hrest d).1, hinq, fun d => (hrest d).2.1, fun d => (hrest d).2.2, hroom.1, hroom.2⟩

/-- As `energyAtFullPage`, but that the one request is HOST's for another opcode, with this header and first two arguments. -/
def requestAtFullPage (header w1 w2 : Word) : State :=
  ((energyAtFullPage.set (bch 0 0) header).set (bch 0 1) w1).set (bch 0 2) w2

/-- A SET_WRITE of one word at offset 0 of the staging image. -/
def setWriteAtFullPage : State := requestAtFullPage (wordOfNat (0x61 * 2 ^ 24 + 2 ^ 22 + 0x7FE * 2 ^ 11 + 2 * 128 + 5)) 0#32 7#32

/-- A SET_ORPHAN with a timeout of 100 ms and ACT 1. -/
def setOrphanAtFullPage : State := requestAtFullPage (wordOfNat (0x74 * 2 ^ 24 + 2 ^ 22 + 0x7FE * 2 ^ 11 + 2 * 128 + 5)) 100#32 1#32

/-- A command that leaves axis 0 at another position has not left the axes as they were. -/
theorem mot_ne_of_exec {i : Instr} {s t u : State} (hi : exec i s = .next u) (ht : exec i s = .next t) (hpos : (u.me 0).pos ≠ (s.me 0).pos) :
    t.mot ≠ s.mot := by
  intro hmot
  obtain rfl : u = t := Host.Outcome.next.inj (hi.symm.trans ht)
  exact hpos (congrArg (fun m => (vget m 0).pos) hmot)

theorem waits_setWriteAtFullPage : Waits setWriteAtFullPage .host 0x61 :=
  waits_host_of (by decide +kernel) rfl (by decide +kernel) (by decide +kernel)

theorem waits_setOrphanAtFullPage : Waits setOrphanAtFullPage .host 0x74 :=
  waits_host_of (by decide +kernel) rfl (by decide +kernel) (by decide +kernel)

theorem clocksRun_setOrphanAtFullPage : ClocksRun setOrphanAtFullPage := ⟨rfl, rfl, rfl, rfl, rfl, rfl⟩

/-- The record of SET_WRITE under presence is the seventh: its page is programmed, the pair of the wear journal is read, UE_WJ is raised and the
chip resets, the axis's position with it (R25, R146, R393, R395). -/
theorem me_serve_setWriteAtFullPage : ((setWriteAtFullPage.quiet.serve .host 0x61 opSetWrite).me 0).pos = 0 := by
  decide +kernel

/-- The record of SET_ORPHAN under presence does the same (R25, R146, R393, R395). -/
theorem me_serve_setOrphanAtFullPage : ((setOrphanAtFullPage.quiet.serve .host 0x74 opSetOrphan).me 0).pos = 0 := by
  decide +kernel

/-- Refutes O52: the record of a SET_WRITE served under presence can fill a page of the logbook, whose pointers' pair in the wear journal is then
read; where that raises UE_WJ and its reaction is CRST, the chip resets and the axes do not stand. -/
theorem not_settingsAndFirmwareRequests : ¬ Obligations.SettingsAndFirmwareRequests := by
  unfold Obligations.SettingsAndFirmwareRequests
  intro h
  obtain ⟨_, _, _, _, hpresent⟩ := h setWriteAtFullPage .host
  obtain ⟨hwrite, _⟩ := hpresent rfl
  obtain ⟨t, hexec, _, hmot, _⟩ := hwrite waits_setWriteAtFullPage
  exact mot_ne_of_exec rfl hexec (by rw [me_serve_setWriteAtFullPage]; decide) hmot

/-- Refutes O53: the record of a SET_ORPHAN served under presence can fill a page of the logbook, whose pointers' pair in the wear journal is then
read; where that raises UE_WJ and its reaction is CRST, the chip resets and the axes do not stand. -/
theorem not_hierarchyRequests : ¬ Obligations.HierarchyRequests := by
  unfold Obligations.HierarchyRequests
  intro h
  obtain ⟨_, _, _, _, horphan⟩ := h setOrphanAtFullPage .host
  obtain ⟨t, hexec, _, _, hmot, _⟩ := horphan waits_setOrphanAtFullPage rfl clocksRun_setOrphanAtFullPage
  exact mot_ne_of_exec rfl hexec (by rw [me_serve_setOrphanAtFullPage]; decide) hmot

end Sys2Proof.Machine
end

section
/-! PROOFS. HALT ends a self-test of drivers that were off: they are disabled again, and a finding of the wiring is raised with it. -/

namespace Sys2Proof.Machine

/-- The header of a HALT request for the device itself, with its bitmap. -/
def haltHeader : Word := wordOfNat (0x29 * 2 ^ 24 + 2 ^ 22 + 0x7FE * 2 ^ 11 + 1 * 128 + 5)

/-- Firmware runs, and a GD_SELFTEST that switched axis 0's drivers on is under way; GD_WREP of the axis names a wiring fault that the collector
does not hold yet, the reaction of its source GD_WIRE is CRST, and the host asks HALT of axis 0. -/
def haltAtSelftest : State :=
  let s := { State.reset with
    sys := { State.reset.sys with chipReset := false, exec := .firmware }
    fw := { State.reset.fw with long := vset State.reset.fw.long 0 (some { op := 0x81, args := [0#32, 0#32] }) } }
  let s := (s.setBit (R.GD_CFG 0) 31 true).set (R.GD_WREP 0) 1#32
  let s := (s.setBit R.FC_CTL 31 true).set (R.FC_SRC 96) 4#32
  ((s.set (bch 0 0) haltHeader).set (bch 0 1) 1#32).setBit (bch 0 0x11) 0 true

theorem waits_haltAtSelftest : Waits haltAtSelftest .host 0x29 :=
  waits_host_of (by decide +kernel) rfl (by decide +kernel) (by decide +kernel)

/-- The self-test ends with the HALT and its drivers are disabled: the finding of the wiring is raised and the chip resets, ME_CTL.HALT with it
(R149, R173, R270, R271, R333). -/
theorem halt_serve_haltAtSelftest : (haltAtSelftest.quiet.serve .host 0x29 opHalt).bit (R.ME_CTL 0) 0 = false := by
  decide +kernel

/-- Refutes O48: a HALT ends the self-test of an axis, whose drivers are disabled again; where that raises GD_WIRE and its reaction is CRST, the
chip resets and ME_CTL.HALT of the named axis does not read 1. -/
theorem not_contextAndMoveRequests : ¬ Obligations.ContextAndMoveRequests := by
  unfold Obligations.ContextAndMoveRequests
  intro h
  obtain ⟨_, _, _, _, _, _, _, _, _, _, _, _, _, hhalt, _⟩ := h haltAtSelftest .host
  obtain ⟨t, hexec, _, hnamed, _⟩ := hhalt waits_haltAtSelftest
  have ht : haltAtSelftest.quiet.serve .host 0x29 opHalt = t := Host.Outcome.next.inj hexec
  have hbit : t.bit (R.ME_CTL 0) 0 = true := hnamed 0 (by decide +kernel)
  rw [← ht, halt_serve_haltAtSelftest] at hbit
  cases hbit

end Sys2Proof.Machine
end

section
/-! PROOFS. A request of HOST that fails a check is taken and answered as it is posted, and a service command serves only the request whose turn
it is (R131, R141, R147). -/

namespace Sys2Proof.Machine

variable {s u : State} {w : Word} {r : Res}

/-! ### The order of service (R147) -/

/-- A fold whose steps leave `u` or bring it to `v`, and then leave `v`, comes to `v` once a step of its list does. -/
theorem foldl_absorbs {α : Type} {g : State → α → State} {u v : State} {a : α} (hv : ∀ b, g v b = v) (hu : ∀ b, g u b = u ∨ g u b = v)
    (ha : g u a = v) {l : List α} (hl : a ∈ l) : l.foldl g u = v := by
  induction l with
  | nil => cases hl
  | cons b l ih =>
    rw [List.foldl_cons]
    rcases hu b with hb | hb
    · rw [hb]
      rcases List.mem_cons.1 hl with rfl | hl
      · rw [← hb, ha]
        exact List.foldl_fixed' hv l
      · exact ih hl
    · rw [hb]
      exact List.foldl_fixed' hv l

/-- One request waits for firmware, HOST's on BCH0, and firmware has nothing else to send. -/
structure LoneRequest (u : State) : Prop where
  only  : ∀ d, u.hasReq d = decide (d = 0)
  inq   : u.lnk.inq = []
  outq  : ∀ d, vget u.fw.outq d = []
  owed  : ∀ d, vget u.fw.owed d = []
  room  : u.bFull 1 = false
  bound : u.sndOf 1 = 1

/-- HOST's request refused with a result. -/
def refused (u : State) (r : Res) : State := (u.fwTake 0).respond (u.reqOf 0) r []

theorem mem_inTurn (s : State) : (0 : Fin 3) ∈ [s.inTurn 0, s.inTurn 1, s.inTurn 2] := by
  simp only [State.inTurn, List.mem_cons, List.not_mem_nil, or_false, Fin.ext_iff, Fin.val_zero]
  omega

/-- The turn of a channel within a class. -/
def turnOf (c : Fin 4) (s : State) (d : Fin 3) : State := if s.hasReq d && hdrClass (s.reqOf d).h = c.val then s.triageOne d else s

/-- The turns of the channels within a class. -/
def classTurns (s : State) (c : Fin 4) : State := [s.inTurn 0, s.inTurn 1, s.inTurn 2].foldl (turnOf c) s

theorem triageRound_eq (s : State) : s.triageRound = forAll 4 s.linkPosts classTurns := rfl

theorem classTurns_of_settled (h : Settled s) (c : Fin 4) : classTurns s c = s := by
  unfold classTurns turnOf
  simp [h.reqs]

theorem LoneRequest.turnOf_zero (h : LoneRequest u) (hv : u.verdict (u.reqOf 0) = .fail r) (c : Fin 4) :
    turnOf c u 0 = if hdrClass (u.reqOf 0).h = c.val then refused u r else u := by
  have hone : u.triageOne 0 = refused u r := by
    unfold State.triageOne
    dsimp only
    rw [h.only 0, hv]
    rfl
  simp [turnOf, h.only 0, hone]

theorem LoneRequest.turnOf_other (h : LoneRequest u) (c : Fin 4) {d : Fin 3} (hd : d ≠ 0) : turnOf c u d = u := by
  simp [turnOf, h.only d, hd]

/-- The class of the one request has it refused; the turns of the other classes find none. -/
theorem LoneRequest.classTurns (h : LoneRequest u) (hv : u.verdict (u.reqOf 0) = .fail r) (hrest : Settled (refused u r)) (c : Fin 4) :
    classTurns u c = if hdrClass (u.reqOf 0).h = c.val then refused u r else u := by
  have hturn (d : Fin 3) : turnOf c u d = u ∨ turnOf c u d = if hdrClass (u.reqOf 0).h = c.val then refused u r else u := by
    by_cases hd : d = 0
    · exact .inr (by rw [hd, h.turnOf_zero hv])
    · exact .inl (h.turnOf_other c hd)
  unfold Machine.classTurns
  split at hturn
  next hc =>
    rw [if_pos hc]
    refine foldl_absorbs (fun d => ?_) hturn ((h.turnOf_zero hv c).trans (if_pos hc)) (mem_inTurn u)
    simp [turnOf, hrest.reqs d]
  next hc =>
    rw [if_neg hc]
    exact List.foldl_fixed' (fun d => (hturn d).elim id id) _

/-- A round with one request, which a check refuses, and nothing left afterwards. -/
theorem LoneRequest.triageRound (h : LoneRequest u) (hv : u.verdict (u.reqOf 0) = .fail r) (hrest : Settled (refused u r)) :
    u.triageRound = refused u r := by
  have hpost : u.linkPosts = u := by
    unfold State.linkPosts
    rw [h.inq]
    split <;> rfl
  have hclass : hdrClass (u.reqOf 0).h < 4 := fldOf_lt _ _ _
  rw [triageRound_eq, hpost]
  refine foldl_absorbs (a := ⟨hdrClass (u.reqOf 0).h, hclass⟩) (classTurns_of_settled hrest) (fun c => ?_) ?_ (List.mem_finRange _)
  · rw [h.classTurns hv hrest]
    split
    · exact .inr rfl
    · exact .inl rfl
  · exact (h.classTurns hv hrest _).trans (if_pos rfl)

/-- Firmware refuses the one request that waits, and is then at rest. -/
theorem LoneRequest.fwStep (h : LoneRequest u) (hrun : u.fwRuns = true) (hv : u.verdict (u.reqOf 0) = .fail r)
    (hrest : Settled (refused u r)) : u.fwStep = refused u r := by
  unfold State.fwStep
  rw [if_pos hrun, State.triage, h.triageRound hv hrest, triage_of_settled hrest, linkPosts_of_settled hrest]
  unfold State.fwSettle
  rw [forAll_fixed (drainOut_of_settled hrest)]
  exact ite_self _

/-! ### The answer (R132) -/

theorem binding_ne_stat {e n : Nat} (he : e < 16) : R.MBX_BINDB e ≠ bch n 0x11 := fun h => slotReg_binding he ⟨0x11, by decide, h⟩


/-- A channel of a serial port that owes nothing, and before which nothing waits, is answered at once. -/
theorem owe_posts {d : Fin 3} {n : Nat} {cls0 : Bool} {m : Reply} (hn : outChan d = n) (hd : d ≠ 1) (howed : vget s.fw.owed d = [])
    (houtq : vget s.fw.outq d = []) (hroom : s.bFull n = false) : s.owe d cls0 m = s.post n m.words := by
  subst hn
  have hreply : s.owe d cls0 m = s.reply d m := if_pos (by simp [howed])
  exact hreply.trans (reply_posts hd houtq hroom m)

/-- The one request is taken: its channel is empty, and nothing else changes but the turn. -/
theorem LoneRequest.taken (h : LoneRequest u) : (u.fwTake 0).bFull 0 = false ∧ (u.fwTake 0).lnk = u.lnk ∧ (u.fwTake 0).fw = u.fw
    ∧ ∀ k, k ≠ bch 0 0x11 → (u.fwTake 0).get k = u.get k := by
  obtain ⟨hfull, hrcv⟩ : u.bFull 0 = true ∧ u.rcvOf 0 = 1 := by
    have := h.only 0
    simpa [State.hasReq, inChan] using this
  obtain ⟨htake, hempty, -⟩ := takeEffect_spec (m := .exec) hrcv.symm hfull
  have heq : u.fwTake 0 = { u.takeEffect .exec 0 with turn := 0 } := rfl
  exact ⟨hempty, by rw [heq, htake.1], by rw [heq, htake.1], fun k hk => htake.2 k hk⟩

/-- The result is posted on BCH1. -/
theorem LoneRequest.refused_posts (h : LoneRequest u) (r : Res) : OnlyRegs (slotReg 1) (u.fwTake 0) (refused u r)
    ∧ (refused u r).bFull 1 = true ∧ (refused u r).msg 1 = fullMsg [rspHdr (u.reqOf 0).h r.code 0] := by
  obtain ⟨-, -, hfw, hget⟩ := h.taken
  unfold refused State.respond
  generalize u.fwTake 0 = x at *
  have hroom : x.bFull 1 = false := by
    rw [State.bFull, State.bit, hget _ (by rw [Ne, bch_stat_inj]; decide)]
    exact h.room
  have hsnd : x.sndOf 1 = 1 := by rw [sndOf_congr (hget _ (by decide)), h.bound]
  have hlink : (u.reqOf 0).link = none := rfl
  have hd : (u.reqOf 0).d = 0 := rfl
  rw [hlink, hd]
  dsimp only
  rw [owe_posts (n := 1) rfl (by decide) (by rw [hfw, h.owed]) (by rw [hfw, h.outq]) hroom]
  exact post_spec (by decide) hsnd hroom _

/-- After a refusal no register outside the mailboxes has changed, BCH0 is empty, and nothing waits. -/
theorem LoneRequest.refused_rests (h : LoneRequest u) (r : Res) :
    (∀ k, ¬mailboxPage k → (refused u r).get k = u.get k) ∧ (refused u r).bFull 0 = false ∧ Settled (refused u r) := by
  obtain ⟨hempty, hlnk, hfw, hget⟩ := h.taken
  obtain ⟨honly, -, -⟩ := h.refused_posts r
  have hstat {n : Nat} (hn : n ≠ 1) : (refused u r).bFull n = (u.fwTake 0).bFull n := by
    rw [State.bFull, State.bit, honly.2 _ fun ⟨o, ho, e⟩ => hn (by unfold bch regKey at e; omega)]
    rfl
  have hidle : (refused u r).bFull 0 = false := (hstat (by decide)).trans hempty
  refine ⟨fun k hk => ?_, hidle, fun d => ?_, ?_, fun d => ?_⟩
  · exact (honly.2 k fun e => hk (slotReg_mailbox (by decide) e)).trans (hget k fun e => hk (e ▸ bch_page (by decide) (by decide)))
  · by_cases hd : d = 0
    · rw [hd]
      exact Bool.and_eq_false_imp.2 fun hf => absurd (hidle.symm.trans hf) (by decide)
    · have hin : inChan d ≠ 0 ∧ inChan d ≠ 1 ∧ inChan d < 16 := by
        have := Fin.val_ne_of_ne hd
        simp only [Fin.val_zero] at this
        unfold inChan
        omega
      have hbind := (honly.2 (R.MBX_BINDB (inChan d)) (slotReg_binding hin.2.2)).trans (hget _ (binding_ne_stat hin.2.2))
      have hother := h.only d
      rw [decide_eq_false hd] at hother
      unfold State.hasReq at hother ⊢
      rwa [hstat hin.2.1, State.bFull, State.bit, hget _ (by rw [Ne, bch_stat_inj]; exact hin.1), rcvOf_congr hbind]
  · rw [honly.1]
    exact (congrArg (·.inq) hlnk).trans h.inq
  · rw [honly.1, ← h.outq d, ← hfw]

/-- HOST posts a request that a check refuses: it is answered at once, and registers outside the mailboxes stand. -/
theorem LoneRequest.answers (h : LoneRequest u) (hrun : u.fwRuns = true) (hv : u.verdict (u.reqOf 0) = .fail r)
    (hreq : (u.reqOf 0).h = (s.reqOf 0).h) (hget : ∀ k, ¬mailboxPage k → u.get k = s.get k) :
    Answers s u.fwStep .host r [] ∧ RegsStand s u.fwStep := by
  obtain ⟨hstand, hempty, hrest⟩ := h.refused_rests r
  obtain ⟨-, hfull, hmsg⟩ := h.refused_posts r
  rw [h.fwStep hrun hv hrest]
  refine ⟨⟨hempty, hfull, ?_⟩, fun k hk => (hstand k hk).trans (hget k hk)⟩
  refine (congrArg (List.take 1) hmsg).trans ?_
  rw [hreq]
  exact take_fullMsg (ws := []) _ (by decide)

/-! ### The checks (R134, R141, R143) -/

theorem verdict_badop {q : Req} (hcrc : s.bCrcBad (inChan q.d) = false) (hspec : opSpec (hdrOp q.h) = none) : s.verdict q = .fail .badop := by
  unfold State.verdict
  simp [hcrc, hspec]

theorem verdict_badarg {q : Req} {o : OpSpec} (hcrc : s.bCrcBad (inChan q.d) = false) (hspec : opSpec (hdrOp q.h) = some o)
    (hbase : s.baseline = false) (hbad : s.badReq q o = true) : s.verdict q = .fail .badarg := by
  unfold State.verdict
  simp [hcrc, hspec, hbase, hbad]

/-- A request for another device at a standalone one. -/
theorem verdict_standalone {q : Req} {o : OpSpec} (hcrc : s.bCrcBad (inChan q.d) = false) (hspec : opSpec (hdrOp q.h) = some o)
    (hbase : s.baseline = false) (hgood : s.badReq q o = false) (hfar : s.isLocal q = false) (hrole : s.linkRole = 2) :
    s.verdict q = .fail (if s.relayDenied q = true then .denied else .unreach) := by
  unfold State.verdict State.unreach
  cases hd : s.relayDenied q <;> simp [hcrc, hspec, hbase, hgood, hfar, hrole]

/-- What the checks of a request ask of the device lies outside the mailboxes, but for the channel's sender. -/
theorem checks_congr {t : State} {q : Req} (hget : ∀ k, ¬mailboxPage k → t.get k = s.get k) (hsnd : t.sndOf (inChan q.d) = s.sndOf (inChan q.d)) :
    t.linkRole = s.linkRole ∧ t.baseline = s.baseline ∧ t.isLocal q = s.isLocal q ∧ (∀ o, t.badReq q o = s.badReq q o)
    ∧ t.relayDenied q = s.relayDenied q := by
  have hrole : t.linkRole = s.linkRole := by unfold State.linkRole State.fld; rw [hget _ (by decide)]
  have hbase : t.baseline = s.baseline := by unfold State.baseline State.bit; rw [hget _ (by decide)]
  have haddr : t.linkAddr = s.linkAddr := by unfold State.linkAddr State.fld; rw [hget _ (by decide)]
  have hlocal : t.isLocal q = s.isLocal q := by unfold State.isLocal State.addressed; rw [haddr]
  refine ⟨hrole, hbase, hlocal, fun o => ?_, ?_⟩
  · unfold State.badReq State.noStitch State.isWorker
    rw [hlocal, hrole]
  · unfold State.relayDenied State.isWorker State.isManager
    rw [hrole, hbase, hsnd]

/-! ### The obligation -/

/-- A service command whose turn it is not changes nothing. -/
theorem serve_of_not (ch : ReqChan) (op : Nat) (f : OpFn) (h : s.mayServe (chanIx ch) op = false) : s.serve ch op f = s := by
  unfold State.serve State.serveThen
  dsimp only
  rw [h]
  rfl

theorem reqOf_zero_congr {t : State} (h : ∀ i < 16, t.get (bch 0 i) = s.get (bch 0 i)) : t.reqOf 0 = s.reqOf 0 := by
  have hmsg : t.msg (inChan 0) = s.msg (inChan 0) := msg_congr h
  unfold State.reqOf
  rw [hmsg]
  rfl

/-- HOST's GO on the empty BCH0 of an otherwise idle device. -/
theorem loneRequest_goWrite {x : State} (hsnd : x.sndOf 0 = 0) (hrcv : x.rcvOf 0 = 1) (hbound : x.sndOf 1 = 1) (hempty : x.bFull 0 = false)
    (hroom : x.bFull 1 = false) (h1 : x.hasReq 1 = false) (h2 : x.hasReq 2 = false) (hinq : x.lnk.inq = []) (houtq : ∀ d, vget x.fw.outq d = [])
    (howed : ∀ d, vget x.fw.owed d = []) (hgo : bitOf w 0 = true) : LoneRequest (x.goWrite .host 0 w) := by
  obtain ⟨honly, hfull, -⟩ := goWrite_spec (m := .host) hsnd.symm hempty hgo
  have hbind {e : Nat} (he : e < 16) : (x.goWrite .host 0 w).get (R.MBX_BINDB e) = x.get (R.MBX_BINDB e) :=
    honly.2 _ (binding_ne_stat he)
  have hstat {n : Nat} (hn : n ≠ 0) : (x.goWrite .host 0 w).bFull n = x.bFull n := honly.bit (by rwa [bch_stat_inj])
  have hreq {d : Fin 3} (hd : d ≠ 0) : (x.goWrite .host 0 w).hasReq d = x.hasReq d := by
    have hin : inChan d ≠ 0 ∧ inChan d < 16 := by
      have := Fin.val_ne_of_ne hd
      simp only [Fin.val_zero] at this
      unfold inChan
      omega
    rw [State.hasReq, hstat hin.1, rcvOf_congr (hbind hin.2), ← State.hasReq]
  refine ⟨fun d => ?_, by rw [honly.1]; exact hinq, fun d => by rw [honly.1]; exact houtq d, fun d => by rw [honly.1]; exact howed d,
    (hstat (by decide)).trans hroom, (sndOf_congr (hbind (by decide))).trans hbound⟩
  match d with
  | 0 =>
    unfold State.hasReq
    rw [show inChan 0 = 0 from rfl, hfull, rcvOf_congr (hbind (by decide)), hrcv]
    rfl
  | 1 => exact (hreq (by decide)).trans h1
  | 2 => exact (hreq (by decide)).trans h2

/-- Settles O45: HOST's request is the only one and is refused by one check after another, and a service command looks whose turn it is. -/
theorem requestsAreCheckedInOrder : Obligations.RequestsAreCheckedInOrder := by
  unfold Obligations.RequestsAreCheckedInOrder
  intro s
  refine ⟨fun ch h => congrArg Host.Outcome.next (serve_of_not (s := s.quiet) ch 0x00 opGetId h), ?_⟩
  intro w hopen hrun hsnd hrcv hbound hcrc hempty hroom h1 h2 hinq houtq howed hgo hbase
  set u := (s.opened .host).goWrite .host 0 w with hu
  have hlone : LoneRequest u := loneRequest_goWrite (by rwa [opened_sndOf]) (by rwa [opened_rcvOf]) (by rwa [opened_sndOf]) (by rwa [opened_bFull])
    (by rwa [opened_bFull]) h1 h2 hinq houtq howed hgo
  obtain ⟨honly, -⟩ := goWrite_spec (s := s.opened .host) (m := .host) (by rw [opened_sndOf, hsnd]; rfl) (by rwa [opened_bFull]) hgo
  have hget {k : Nat} (hk : k ≠ bch 0 0x11) : u.get k = s.get k := (honly.2 k hk).trans (opened_get s .host k)
  have hmail : ∀ k, ¬mailboxPage k → u.get k = s.get k := fun k hk => hget fun e => hk (e ▸ bch_page (by decide) (by decide))
  have hreq : u.reqOf 0 = s.reqOf 0 := reqOf_zero_congr fun i hi => hget (by rw [Ne, bch_inj]; omega)
  have hchecked : u.bCrcBad (inChan (s.reqOf 0).d) = false := by
    rw [State.bCrcBad, State.bit, State.bit, hget (binding_ne_stat (by have := inChan_lt (s.reqOf 0).d; omega))]
    exact Bool.and_eq_false_imp.2 fun _ => hcrc
  obtain ⟨hrole, hbaseline, hlocal, hbad, hdenied⟩ :=
    checks_congr (s := s) (q := s.reqOf 0) hmail (sndOf_congr (hget (binding_ne_stat (by have := inChan_lt (s.reqOf 0).d; omega))))
  have hexec : exec (.mailboxGo .host 0 w) s = .next u.fwStep := congrArg _ (access_of_opens _ hopen)
  have hanswer {r : Res} (hv : u.verdict (s.reqOf 0) = .fail r) : Answers s u.fwStep .host r [] ∧ RegsStand s u.fwStep :=
    hlone.answers (by rw [honly.fwRuns, opened_fwRuns, hrun]) (by rw [hreq, hv]) (by rw [hreq]) hmail
  refine ⟨fun hspec => ⟨_, hexec, hanswer (verdict_badop hchecked hspec)⟩, fun o hspec htag => ⟨_, hexec, hanswer ?_⟩,
    fun o hspec hgood hfar hfree => ⟨_, hexec, (hanswer ?_).symm⟩⟩
  · refine verdict_badarg hchecked hspec (hbaseline.trans hbase) ?_
    rw [State.badReq, show hdrTag (s.reqOf 0).h = 0 from htag]
    rfl
  · rw [← hdenied]
    exact verdict_standalone hchecked hspec (hbaseline.trans hbase) ((hbad o).trans hgood) (hlocal.trans hfar) (hrole.trans hfree)

end Sys2Proof.Machine
end

section
/-! PROOFS. What an operation leaves as it was, and first of all the link's marks and counters (R351, R365). -/

namespace Sys2Proof.Machine

/-- From `s` to `t` what `f` reads stands, and every register bit of which `P` does not hold; nothing is set to reset where nothing was. -/
structure Leaves {β : Type} (f : State → β) (P : Nat → Nat → Prop) (s t : State) : Prop where
  view    : f t = f s
  noReset : NoReset s → NoReset t
  bit     : ∀ k i, ¬P k i → t.bit k i = s.bit k i

variable {β : Type} {f : State → β} {P Q : Nat → Nat → Prop} {s t u : State} {k hi lo : Nat} {p : LinkPort} {sf : StitchFrame}

theorem Leaves.refl : Leaves f P s s := ⟨rfl, id, fun _ _ _ => rfl⟩

theorem Leaves.trans (h : Leaves f P s t) (g : Leaves f P t u) : Leaves f P s u :=
  ⟨g.view.trans h.view, g.noReset ∘ h.noReset, fun k i hk => (g.bit k i hk).trans (h.bit k i hk)⟩

theorem Leaves.mono (h : Leaves f P s t) (hPQ : ∀ k i, P k i → Q k i) : Leaves f Q s t :=
  { h with bit := fun k i hk => h.bit k i fun hp => hk (hPQ k i hp) }

theorem Leaves.ite {c : Prop} {_ : Decidable c} (ht : Leaves f P s t) (hu : Leaves f P s u) : Leaves f P s (if c then t else u) := by
  split <;> assumption

theorem Leaves.fld (h : Leaves f P s t) (hk : ∀ i, lo ≤ i → i ≤ hi → ¬P k i) : t.fld k hi lo = s.fld k hi lo :=
  State.fld_congr_bit fun i hlo hhi => h.bit k i (hk i hlo hhi)

theorem Leaves.get (h : Leaves f P s t) (hk : ∀ i, ¬P k i) : t.get k = s.get k :=
  State.get_eq_of_bit fun i => h.bit k i (hk i)

/-- Registers of the blocks alone change, and `f` reads none of them. -/
theorem Keeps.leaves {γ : Type} {g : PwmAx → γ} (h : Keeps g P s t) (hv : f t = f s) : Leaves f P s t := ⟨hv, h.noReset, h.bit⟩

theorem leaves_setBit {i : Nat} {v : Bool} (hk : 0x10 ≤ k / 128) (hi : i < 32) (hP : P k i) (hv : f (s.setBit k i v) = f s := by rfl) :
    Leaves f P s (s.setBit k i v) := (keeps_setBit (f := id) hk hi hP).leaves hv

theorem leaves_set {v : Word} (hk : 0x10 ≤ k / 128) (hP : ∀ i, P k i) (hv : f (s.set k v) = f s := by rfl) : Leaves f P s (s.set k v) :=
  (keeps_set (f := id) hk hP).leaves hv

theorem leaves_setFld {v : Nat} (hk : 0x10 ≤ k / 128) (hhi : hi < 32) (hlo : lo ≤ hi) (hP : ∀ i, P k i)
    (hv : f (s.setFld k hi lo v) = f s := by rfl) : Leaves f P s (s.setFld k hi lo v) :=
  (keeps_setFld (f := id) hk hhi hlo fun i _ _ => hP i).leaves hv

/-- An update in which no register lies and that `f` does not read. -/
theorem leaves_of_regs (hv : f t = f s := by rfl) (hregs : t.regs = s.regs := by rfl) (hrun : t.sys.chipReset = s.sys.chipReset := by rfl)
    (hsafe : t.fcSafe = s.fcSafe := by rfl) : Leaves f P s t :=
  ⟨hv, noReset_of_get hrun hsafe fun k _ => State.get_congr hregs k, fun k i _ => State.bit_of_regs hregs k i⟩

/-- `f` reads nothing of the collector. -/
def BlindToCollector (f : State → β) : Prop := ∀ s t, OnlyCollector s t → f t = f s

theorem OnlyCollector.leaves (h : OnlyCollector s t) (hf : BlindToCollector f) : Leaves f P s t := h.keeps (f := id) |>.leaves (hf s t h)

theorem leaves_raise {src : Nat} {d : Word} (hf : BlindToCollector f) (hs : NoReset s) (hsrc : src < 126) : Leaves f P s (s.raise src d) :=
  (raise_only ⟨hs.1, hs.2 src hsrc d⟩).collector.leaves hf

theorem leaves_level {src : Nat} {v : Bool} {d : Word} (hf : BlindToCollector f) (hs : NoReset s) (hsrc : src < 126) :
    Leaves f P s (s.level src v d) := (level_only ⟨hs.1, hs.2 src hsrc d⟩).leaves hf

theorem leaves_forAll {n : Nat} {g : State → Fin n → State} (hs : NoReset s) (hg : ∀ t i, NoReset t → Leaves f P t (g t i)) :
    Leaves f P s (forAll n s g) :=
  forAll_keeps (P := Leaves f P s) .refl fun t i h => h.trans (hg t i (h.noReset hs))

/-! ### Marks and counters of the link (R351, R365) -/

/-- The state without what marks and counters of the link change: registers, the collector, and each port's errors of the last second. -/
def unmarked (s : State) : State :=
  { s with regs := [], fc := [], fcLast := 0, fcPresent := 0#128, sys := { s.sys with nmiHeld := false }
           lnk := { s.lnk with ports := s.lnk.ports.map fun l => { l with errs := [] } } }

/-- The register bits by which a worker notes a frame of the manager: ORPHAN, and LOOP with the two ports' mark of it. -/
def heardBits (k i : Nat) : Prop := k / 128 = 0x58 ∧ ((k % 128 = 1 ∧ (i = 5 ∨ i = 8)) ∨ ((k % 128 = 4 ∨ k % 128 = 5) ∧ i = 3))

/-- The register bits of those marks and counters. -/
def markBits (k i : Nat) : Prop := heardBits k i ∨ (k / 128 = 0x58 ∧ 8 ≤ k % 128 ∧ k % 128 < 12)

/-- From `s` to `t` marks and counters of the link alone have changed. -/
abbrev Marks (s t : State) : Prop := Leaves unmarked markBits s t

theorem blind_unmarked : BlindToCollector unmarked := fun s t h => by
  unfold unmarked
  rw [h]

theorem map_vset_of_eq {α γ : Type} {n : Nat} {g : α → γ} {v : Vector α n} {i : Fin n} {x : α} (h : g x = g (vget v i)) :
    (vset v i x).map g = v.map g := by
  refine Vector.ext fun j hj => ?_
  rw [Vector.getElem_map, Vector.getElem_map]
  change g (vget (vset v i x) ⟨j, hj⟩) = g (vget v ⟨j, hj⟩)
  rw [vget_vset]
  split
  · next e => rw [h, e]
  · rfl

theorem leaves_errs (p : LinkPort) (e : List (Nat × Nat)) : Leaves unmarked P s (s.onLp p fun l => { l with errs := e }) := by
  refine leaves_of_regs (congrArg (fun v => ({ unmarked s with lnk := { s.lnk with ports := v } } : State)) ?_)
  exact map_vset_of_eq rfl

theorem leaves_errFld (hhi : hi < 32) (hlo : lo ≤ hi) (hv : f (s.incFld (R.LNK_ERR p) hi lo) = f s := by rfl) :
    Leaves f markBits s (s.incFld (R.LNK_ERR p) hi lo) :=
  leaves_setFld (by unfold R.LNK_ERR regKey; omega) hhi hlo (fun _ => by unfold markBits heardBits R.LNK_ERR regKey; omega) hv

theorem leaves_linkErrors (n : Nat) (hs : NoReset s) : Leaves unmarked P s (s.linkErrors p n) := by
  have hnone : Leaves unmarked P s (s.onLp p fun l => { l with errs := [] }) := leaves_errs p []
  unfold State.linkErrors
  exact .ite (hnone.trans (leaves_raise blind_unmarked (hnone.noReset hs) (by decide))) (leaves_errs p _)

theorem marks_crcError (hs : NoReset s) : Marks s (s.crcError p) := by
  have hcount : Marks s (s.incFld (R.LNK_ERR p) 23 16) := leaves_errFld (by decide) (by decide)
  exact hcount.trans (leaves_linkErrors 1 (hcount.noReset hs))

theorem marks_dropFrame : Marks s (s.dropFrame p) := leaves_errFld (by decide) (by decide)

theorem leaves_heardManager : Leaves unmarked heardBits s (s.heardManager p) := by
  have hend : Leaves unmarked heardBits s ((s.setBit R.LNK_STAT 8 false).drop 116) :=
    .trans (leaves_setBit (by decide) (by decide) (by unfold heardBits; decide)) ((drop_only _ _).leaves blind_unmarked)
  have hport (u : State) (k : Nat) (hk : k = 0 ∨ k = 1) : Leaves unmarked heardBits u (u.setBit (R.LNK_PORT k) 3 true) :=
    leaves_setBit (by unfold R.LNK_PORT regKey; omega) (by decide) (by unfold heardBits R.LNK_PORT regKey; omega)
  have hloop : Leaves unmarked heardBits ((s.setBit R.LNK_STAT 8 false).drop 116) (((s.setBit R.LNK_STAT 8 false).drop 116).setBit R.LNK_STAT 5 true) :=
    leaves_setBit (by decide) (by decide) (by unfold heardBits; decide)
  unfold State.heardManager
  exact .ite (((hend.trans hloop).trans (hport _ 0 (.inl rfl))).trans (hport _ 1 (.inr rfl))) hend

theorem marks_heardManager : Marks s (s.heardManager p) := leaves_heardManager.mono fun _ _ => .inl

theorem marks_stitchErrors (hs : NoReset s) : Marks s (s.stitchErrors p sf) := by
  unfold State.stitchErrors
  extract_lets s1
  have h1 : Marks s s1 := .ite .refl (marks_crcError hs)
  exact .ite h1 (h1.trans (marks_crcError (h1.noReset hs)))

theorem marks_stitchHeard (hs : NoReset s) : Marks s ((s.stitchErrors p sf).heardManager p) := (marks_stitchErrors hs).trans marks_heardManager

/-! ### What marks leave of the link -/

/-- Registers of the mailbox pages stand, and nothing waits that did not wait. -/
theorem settled_of_mail (hs : Settled s) (hinq : t.lnk.inq = s.lnk.inq) (houtq : t.fw.outq = s.fw.outq) (hm : ∀ k, mailboxPage k → t.get k = s.get k) :
    Settled t := by
  refine ⟨fun d => ?_, by rw [hinq, hs.inq], fun d => by rw [houtq, hs.outq]⟩
  have hd := inChan_lt d
  have hreq : t.hasReq d = s.hasReq d := by
    unfold State.hasReq State.bFull State.bit
    rw [hm _ (bch_page hd (by decide)), rcvOf_congr (hm _ (by unfold mailboxPage R.MBX_BINDB regKey; omega))]
  rw [hreq, hs.reqs]

section
variable (h : Leaves f markBits s t)
include h

theorem Leaves.linkRole : t.linkRole = s.linkRole := h.fld fun i _ _ => by unfold markBits heardBits R.LNK_STAT regKey; omega

theorem Leaves.isWorker : t.isWorker = s.isWorker := by unfold State.isWorker; rw [h.linkRole]

theorem Leaves.isManager : t.isManager = s.isManager := by unfold State.isManager; rw [h.linkRole]

theorem Leaves.linkAddr : t.linkAddr = s.linkAddr := by
  unfold State.linkAddr
  rw [h.fld fun i _ _ => by unfold markBits heardBits R.LNK_ADDR regKey; omega]

theorem Leaves.addressed : t.addressed = s.addressed := by unfold State.addressed; rw [h.linkAddr]

theorem Leaves.forMe (a : LinkAddr) : t.forMe a = s.forMe a := by
  have hgroup : t.inGroup a = s.inGroup a := by
    unfold State.inGroup
    rw [h.bit _ _ (by unfold markBits heardBits R.LNK_GRP0 R.LNK_GRP1 regKey; split <;> omega)]
  unfold State.forMe
  rw [hgroup, h.linkAddr, h.addressed, h.bit _ _ (by unfold markBits heardBits R.LNK_STAT regKey; omega)]

theorem Leaves.portState (r : LinkPort) : t.portState r = s.portState r := h.fld fun i _ _ => by unfold markBits heardBits R.LNK_PORT regKey; omega

end

section
variable (h : Marks s t)
include h

theorem Marks.buf (r : LinkPort) : (t.lp r).buf = (s.lp r).buf := by
  have heq : (vget (unmarked t).lnk.ports r).buf = (vget (unmarked s).lnk.ports r).buf := by rw [h.view]
  simpa [unmarked, vget, State.lp] using heq

theorem Marks.mot : t.mot = s.mot := congrArg (·.mot) h.view
theorem Marks.saf : t.saf = s.saf := congrArg (·.saf) h.view
theorem Marks.fw : t.fw = s.fw := congrArg (·.fw) h.view
theorem Marks.out : t.out = s.out := congrArg (·.out) h.view
theorem Marks.cyc : t.sys.cyc = s.sys.cyc := congrArg (·.sys.cyc) h.view
theorem Marks.linkRun : t.sys.linkRun = s.sys.linkRun := congrArg (·.sys.linkRun) h.view
theorem Marks.inq : t.lnk.inq = s.lnk.inq := congrArg (·.lnk.inq) h.view
theorem Marks.txns : t.lnk.txns = s.lnk.txns := congrArg (·.lnk.txns) h.view
theorem Marks.accepted : t.lnk.accepted = s.lnk.accepted := congrArg (·.lnk.accepted) h.view
theorem Marks.fwRuns : t.fwRuns = s.fwRuns := congrArg (·.fwRuns) h.view
theorem Marks.upPort : t.upPort = s.upPort := congrArg (·.upPort) h.view

theorem Marks.free {r : LinkPort} (hr : Free s r) : Free t r := by
  obtain ⟨hup, hturn, hbuf⟩ := hr
  refine ⟨?_, ?_, by rw [h.buf, hbuf]⟩
  · rw [State.portUp, h.portState]; exact hup
  · rw [h.bit _ _ (by unfold markBits heardBits R.LNK_PORT regKey; omega), hturn]

theorem Marks.settled (hs : Settled s) : Settled t :=
  settled_of_mail hs h.inq (by rw [h.fw]) fun k hk => h.get fun i => by unfold markBits heardBits mailboxPage at *; omega

end

end Sys2Proof.Machine
end

section
/-! PROOFS. A worker's transmitters, and the regular frames that it forwards or takes (R350, R351, R353, R356, R357, R367). -/

namespace Sys2Proof.Machine

variable {s : State} {k hi lo : Nat} {p : LinkPort} {lf : LinkFrame} {own busy : Bool} {tf : TxFrame}

/-! ### Transmitters (R353, R356, R357) -/

theorem outPort_of_free (h : Free s p) : s.outPort p = some p := by
  unfold State.outPort
  rw [h.1, h.2.1]
  rfl

/-- A free transmitter sends at once. -/
theorem transmit_of_free (h : Free s p) : s.transmit p own false tf = s.sends (.regular p tf) := by
  unfold State.transmit
  rw [h.1, h.2.2]
  rfl

theorem passOn_of_free (h : Free s (otherPort p)) : s.passOn p false tf = s.sends (.regular (otherPort p) tf) := by
  unfold State.passOn
  rw [outPort_of_free h]
  exact transmit_of_free h

theorem sendUp_of_free (h : Free s s.upPort) : s.sendUp tf = s.sends (.regular s.upPort tf) := by
  unfold State.sendUp
  rw [outPort_of_free h]
  exact transmit_of_free h

/-- A frame that meets a busy transmitter is stored where it fits. -/
theorem passOn_busy (h : Free s (otherPort p)) (hgood : tf.bad = false) : s.passOn p true tf
    = if tf.bytes ≤ 8192 then s.onLp (otherPort p) fun l => { l with buf := l.buf ++ [(false, tf)] } else s.dropFrame (otherPort p) := by
  unfold State.passOn
  rw [outPort_of_free h]
  simp [State.transmit, h.1, hgood, LinkP.stored, h.2.2]

/-- A transmitter leaves every register but its port's counter. -/
theorem leaves_transmit : Leaves (fun _ => ()) markBits s (s.transmit p own busy tf) := by
  unfold State.transmit
  exact .ite .refl (.ite (.ite .refl (.ite leaves_of_regs (leaves_errFld (by decide) (by decide)))) leaves_of_regs)

theorem leaves_passOn : Leaves (fun _ => ()) markBits s (s.passOn p busy tf) := by
  unfold State.passOn
  split
  · exact leaves_transmit
  · exact .refl

/-! ### A regular frame arrives (R350, R351, R356, R367) -/

/-- The state in which a worker or manager takes or forwards a frame: one in error has been counted, one of the manager noted. -/
def arrived (s : State) (p : LinkPort) (f : LinkFrame) : State :=
  if !f.intact then s.crcError p else if s.isWorker && f.src = 0#11 then s.heardManager p else s

theorem marks_arrived (hs : NoReset s) : Marks s (arrived s p lf) := by
  unfold arrived
  exact .ite (marks_crcError hs) (.ite marks_heardManager .refl)

theorem manager_of_worker (h : s.isWorker = true) : s.isManager = false := by
  simp_all [State.isWorker, State.isManager]

theorem worker_of_manager (h : s.isManager = true) : s.isWorker = false := by
  simp_all [State.isWorker, State.isManager]

section
variable {take : State → State} {kind : Nat} (hs : NoReset s) (hhears : s.hears p = true) (hcls : lf.cls ≠ 0) (hdest : lf.dest ≠ 0x7FE#11)
include hs hhears hcls hdest

/-- A frame for another device passes a worker. -/
theorem frameIn_passes (hw : s.isWorker = true) (hother : lf.dest ≠ s.linkAddr) (hnot : s.forMe lf.dest = false) :
    s.frameIn p lf kind busy take = (arrived s p lf).passOn p busy (forwarded lf kind) := by
  have hm := marks_arrived (p := p) (lf := lf) hs
  have hpass := leaves_passOn (s := arrived s p lf) (p := p) (busy := busy) (tf := forwarded lf kind)
  unfold State.frameIn
  rw [if_neg (by simp [hhears, hcls, hdest])]
  extract_lets ours t unicast u takes
  have ht : t = arrived s p lf := rfl
  have hu : u = (arrived s p lf).passOn p busy (forwarded lf kind) :=
    (if_pos (by simp [unicast, ht, hm.isWorker, hw, hm.linkAddr, hother])).trans (by rw [ht])
  have htakes : takes = false := by
    simp [takes, hu, hpass.isManager, hm.isManager, manager_of_worker hw, hpass.forMe, hm.forMe, hnot]
  rw [htakes, hu]
  rfl

/-- A frame of the manager for this worker alone is taken, discarded, or dropped while the LINK core is in reset. -/
theorem frameIn_unicast (hw : s.isWorker = true) (haddr : s.addressed = true) (hme : lf.dest = s.linkAddr) (hsrc : lf.src = 0#11)
    (hnew : s.bit R.LNK_STAT 7 = false) : s.frameIn p lf kind busy take
      = if lf.intact then (if s.sys.linkRun then take (arrived s p lf) else (arrived s p lf).dropFrame p) else arrived s p lf := by
  have hm := marks_arrived (p := p) (lf := lf) hs
  unfold State.frameIn
  rw [if_neg (by simp [hhears, hcls, hdest])]
  extract_lets ours t unicast u takes
  have ht : t = arrived s p lf := rfl
  have hu : u = arrived s p lf := if_neg (by simp [unicast, ours, ht, hm.isWorker, hw, hm.linkAddr, hme, hsrc, hm.addressed, haddr])
  have hmine : s.forMe s.linkAddr = true := by simp [State.forMe, hnew, haddr]
  have htakes : takes = lf.intact := by
    simp [takes, ours, hu, hm.isManager, manager_of_worker hw, hm.forMe, hsrc, hme, hmine]
  rw [htakes, hu, hm.linkRun]
  cases lf.intact <;> rfl

omit hs in
/-- The manager takes a worker's frame for it. -/
theorem frameIn_manager (hman : s.isManager = true) (hme : lf.dest = 0#11) (hsrc : lf.src ≠ 0#11) (hgood : lf.intact = true)
    (hrun : s.sys.linkRun = true) : s.frameIn p lf kind busy take = take s := by
  unfold State.frameIn
  rw [if_neg (by simp [hhears, hcls, hdest])]
  extract_lets ours t unicast u takes
  have ht : t = s := by simp [t, ours, hgood, hsrc]
  have hu : u = s := by simp [u, ht, worker_of_manager hman]
  have htakes : takes = true := by simp [takes, ours, hu, hgood, hman, hme, hsrc]
  rw [htakes, hu, hrun]
  rfl

end

/-! ### A worker's regular frames -/

theorem settled_quiet (h : Settled s) : Settled s.quiet := ⟨h.reqs, h.inq, h.outq⟩

section
variable {take : State → State} {kind : Nat} (hs : NoReset s) (hhears : s.hears p = true) (hcls : lf.cls ≠ 0) (hdest : lf.dest ≠ 0x7FE#11)
include hs hhears hcls hdest

/-- A frame for another device leaves by the free port on the other side. -/
theorem frame_forwarded (hw : s.isWorker = true) (hother : lf.dest ≠ s.linkAddr) (hnot : s.forMe lf.dest = false) (hset : Settled s)
    (hfree : Free s (otherPort p)) :
    (s.frameIn p lf kind false take).fwStep = (arrived s p lf).sends (.regular (otherPort p) (forwarded lf kind)) := by
  have hm := marks_arrived (p := p) (lf := lf) hs
  rw [frameIn_passes hs hhears hcls hdest hw hother hnot, passOn_of_free (hm.free hfree)]
  exact fwStep_of_settled (settled_of_mail (hm.settled hset) rfl rfl fun _ _ => rfl)

/-- A frame for another device is stored while the port on the other side is busy. -/
theorem frame_stored (hw : s.isWorker = true) (hother : lf.dest ≠ s.linkAddr) (hnot : s.forMe lf.dest = false) (hset : Settled s)
    (hfree : Free s (otherPort p)) (hgood : lf.intact = true) :
    (s.frameIn p lf kind true take).fwStep.out = s.out
    ∧ (12 + 4 * lf.payload.length ≤ 8192 → ((s.frameIn p lf kind true take).fwStep.lp (otherPort p)).buf = [(false, forwarded lf kind)]) := by
  have hm := marks_arrived (p := p) (lf := lf) hs
  have hpass := leaves_passOn (s := arrived s p lf) (p := p) (busy := true) (tf := forwarded lf kind)
  have heq := passOn_busy (tf := forwarded lf kind) (hm.free hfree) (by simp [forwarded, hgood])
  have hstill : Settled ((arrived s p lf).passOn p true (forwarded lf kind)) := by
    refine settled_of_mail (hm.settled hset) ?_ ?_ fun k hk => hpass.get fun i => by unfold markBits heardBits mailboxPage at *; omega
    all_goals rw [heq]; split <;> rfl
  rw [frameIn_passes hs hhears hcls hdest hw hother hnot, fwStep_of_settled hstill, heq]
  refine ⟨by split <;> exact hm.out, fun (hfit : (forwarded lf kind).bytes ≤ 8192) => ?_⟩
  rw [if_pos hfit, State.lp, State.onLp, vget_vset_same]
  exact congrArg (· ++ [(false, forwarded lf kind)]) (hm.free hfree).2.2

/-- A frame of the manager for this worker alone, with firmware at rest. -/
theorem frame_unicast (hw : s.isWorker = true) (haddr : s.addressed = true) (hme : lf.dest = s.linkAddr) (hsrc : lf.src = 0#11)
    (hnew : s.bit R.LNK_STAT 7 = false) :
    (lf.intact = true → s.sys.linkRun = true → s.frameIn p lf kind busy take = take (s.heardManager p))
    ∧ (lf.intact = true → s.sys.linkRun = false → s.frameIn p lf kind busy take = (s.heardManager p).dropFrame p)
    ∧ (lf.intact = false → s.frameIn p lf kind busy take = s.crcError p) := by
  have harr (h : lf.intact = true) : arrived s p lf = s.heardManager p := by simp [arrived, h, hw, hsrc]
  have hbad (h : lf.intact = false) : arrived s p lf = s.crcError p := by simp [arrived, h]
  rw [frameIn_unicast hs hhears hcls hdest hw haddr hme hsrc hnew]
  refine ⟨fun h hrun => ?_, fun h hrun => ?_, fun h => ?_⟩
  · rw [if_pos h, hrun, harr h]; rfl
  · rw [if_pos h, hrun, harr h]; rfl
  · rw [h, hbad h]; rfl

end

theorem fld_dropFrame : (s.dropFrame p).fld (R.LNK_ERR p) 15 8 = (s.fld (R.LNK_ERR p) 15 8 + 1) % 256 :=
  s.fld_setFld_same _ _ _ _ (by decide) (by decide)

theorem fld_crcError (hs : NoReset s) : (s.crcError p).fld (R.LNK_ERR p) 23 16 = (s.fld (R.LNK_ERR p) 23 16 + 1) % 256 := by
  have hcount : Marks s (s.incFld (R.LNK_ERR p) 23 16) := leaves_errFld (by decide) (by decide)
  have hraise := leaves_linkErrors (P := fun _ _ => False) (p := p) 1 (hcount.noReset hs)
  exact (hraise.fld fun _ _ _ h => h).trans (s.fld_setFld_same _ _ _ _ (by decide) (by decide))

theorem fld_heardManager_err {hi lo : Nat} : (s.heardManager p).fld (R.LNK_ERR p) hi lo = s.fld (R.LNK_ERR p) hi lo :=
  leaves_heardManager.fld fun i _ _ => by unfold heardBits R.LNK_ERR regKey; omega

end Sys2Proof.Machine
end

section
/-! PROOFS. What the manager takes from a worker, and the stitches that it sends (R144, R147, R151, R354). -/

namespace Sys2Proof.Machine

variable {β : Type} {f : State → β} {P : Nat → Nat → Prop} {s t u : State} {k : Nat} {lf : LinkFrame}

/-! ### The manager takes a response (R144, R147) -/

/-- A message posted on BCH1 is no request, and leaves nothing waiting. -/
theorem settled_of_posted (hs : Settled s) (h : OnlyRegs (slotReg 1) s t) : Settled t := by
  have hslot (d : Fin 3) : ¬slotReg 1 (bch (inChan d) 0x11) := fun ⟨o, ho, e⟩ => by unfold bch regKey inChan at e; omega
  refine ⟨fun d => ?_, by rw [h.1]; exact hs.inq, fun d => by rw [h.1]; exact hs.outq d⟩
  have hreq : t.hasReq d = s.hasReq d := by
    unfold State.hasReq State.bFull State.bit
    rw [h.2 _ (hslot d), rcvOf_congr (h.2 _ (slotReg_binding (by have := inChan_lt d; omega)))]
  rw [hreq, hs.reqs]

/-- HOST owes nothing for a transaction any more. -/
def oweNothing (s : State) : State := { s with fw := { s.fw with owed := vset s.fw.owed 0 [] } }

section
variable (houtq : vget s.fw.outq 0 = []) (hroom : s.bFull 1 = false) (hsnd : s.sndOf 1 = 1)
include houtq hroom hsnd

/-- The response that a relayed request of HOST waits for is posted, where no other request was relayed before it. -/
theorem oweTxn_posts {n : Nat} {cls0 : Bool} (howed : vget s.fw.owed 0 = [] ∨ vget s.fw.owed 0 = [.relayed n]) (m : Reply) :
    s.oweTxn 0 n cls0 m = (oweNothing s).post 1 m.words := by
  have hreply : (oweNothing s).reply 0 m = (oweNothing s).post 1 m.words :=
    reply_posts (s := oweNothing s) (d := 0) (by decide) houtq hroom m
  obtain ⟨hkept, -, -⟩ := post_spec (s := oweNothing s) (n := 1) (by decide) hsnd hroom m.words
  have hpaid : ((oweNothing s).post 1 m.words).payOwed 0 = (oweNothing s).post 1 m.words := by
    generalize hp : (oweNothing s).post 1 m.words = p at *
    have hfw : p.fw = (oweNothing s).fw := by rw [hkept.1]
    have hnone : vget p.fw.owed 0 = [] := by rw [hfw]; exact vget_vset_same _ _ _
    unfold State.payOwed
    rw [hnone]
    change ({ p with fw := { p.fw with owed := vset p.fw.owed 0 [] } } : State) = p
    rw [vset_vget_self _ _ hnone]
  have hfilter : (vget s.fw.owed 0).filter (· ≠ Owed.relayed n) = [] := by rcases howed with h | h <;> simp [h]
  unfold State.oweTxn
  dsimp only
  split
  · rw [hfilter]
    exact (congrArg (State.payOwed · 0) hreply).trans hpaid
  next hwait =>
    have hone : vget s.fw.owed 0 = [.relayed n] := howed.resolve_left fun h => hwait (by simp [h])
    rw [hone]
    unfold State.payOwed
    dsimp only
    rw [vget_vset_same]
    simp only [List.map_cons, List.map_nil, if_true, readyOwed, List.foldl_cons, List.foldl_nil, vset_vset]
    exact hreply

end

/-- The state without the transactions and the registers, one of which counts them. -/
def withoutTxns (s : State) : State := { s with regs := [], lnk := { s.lnk with txns := [] } }

theorem leaves_setTxns (ts : List Txn) : Leaves withoutTxns (only R.LNK_TXN) s (s.setTxns ts) := by
  have hlist : Leaves withoutTxns (only R.LNK_TXN) s { s with lnk := { s.lnk with txns := ts } } := leaves_of_regs
  exact .ite (hlist.trans (leaves_set (by decide) fun _ => rfl)) hlist

theorem txns_setTxns (ts : List Txn) : (s.setTxns ts).lnk.txns = ts := by
  unfold State.setTxns
  dsimp only
  split <;> rfl

/-- A relayed request of HOST whose transaction ends is answered on BCH1. -/
theorem endTxn_posts {x : Txn} {result : Nat} {ws : List Word} (hset : Settled s) (hrun : s.fwRuns = true) (hch : x.ch = 0)
    (howed : vget s.fw.owed 0 = [] ∨ vget s.fw.owed 0 = [.relayed x.num]) (hlen : ws.length ≤ 14) (hroom : s.bFull 1 = false) (hsnd : s.sndOf 1 = 1) :
    Settled (s.endTxn x result ws) ∧ (s.endTxn x result ws).bFull 1 = true
    ∧ ((s.endTxn x result ws).msg 1).take (ws.length + 1) = rspHdr x.hdr result ws.length :: ws
    ∧ (∀ y ∈ (s.endTxn x result ws).lnk.txns, y.num ≠ x.num) ∧ (s.endTxn x result ws).mot = s.mot := by
  have hu := leaves_setTxns (s := s) (s.lnk.txns.filter fun y => y.num ≠ x.num)
  have htxns := txns_setTxns (s := s) (s.lnk.txns.filter fun y => y.num ≠ x.num)
  have hend : s.endTxn x result ws = if (s.setTxns (s.lnk.txns.filter fun y => y.num ≠ x.num)).fwRuns then
      (s.setTxns (s.lnk.txns.filter fun y => y.num ≠ x.num)).oweTxn (reqIx x.ch) x.num (hdrClass x.hdr = 0)
        { words := rspHdr x.hdr result ws.length :: ws } else s.setTxns (s.lnk.txns.filter fun y => y.num ≠ x.num) := rfl
  generalize s.setTxns (s.lnk.txns.filter fun y => y.num ≠ x.num) = u at hu htxns hend
  have hfw : u.fw = s.fw := congrArg (·.fw) hu.view
  have hrunu : u.fwRuns = true := (congrArg (·.fwRuns) hu.view).trans hrun
  have hget {k : Nat} (hk : k ≠ R.LNK_TXN) : u.get k = s.get k := hu.get fun _ => hk
  have hroomu : u.bFull 1 = false := by rw [State.bFull, State.bit, hget (by decide)]; exact hroom
  have hsndu : u.sndOf 1 = 1 := by rw [sndOf_congr (hget (by decide)), hsnd]
  have hsetu : Settled u := settled_of_mail hset (congrArg (·.lnk.inq) hu.view) (by rw [hfw]) fun k hk => hget (by rintro rfl; revert hk; decide)
  rw [hend, if_pos hrunu, hch, show reqIx 0 = 0 from rfl, oweTxn_posts (by rw [hfw]; exact hset.outq 0) hroomu hsndu (by rw [hfw]; exact howed)]
  obtain ⟨honly, hfull, hmsg⟩ := post_spec (s := oweNothing u) (n := 1) (by decide) hsndu hroomu (rspHdr x.hdr result ws.length :: ws)
  refine ⟨settled_of_posted (s := oweNothing u) ⟨hsetu.reqs, hsetu.inq, hsetu.outq⟩ honly, hfull, ?_, ?_, ?_⟩
  · rw [hmsg]; exact take_fullMsg _ hlen
  · rw [honly.1]
    change ∀ y ∈ u.lnk.txns, y.num ≠ x.num
    rw [htxns]
    exact fun y hy => by simpa using (List.mem_filter.1 hy).2
  · rw [honly.1]
    exact congrArg (·.mot) hu.view

theorem gotResponse_of_open {x : Txn} {num : Nat} {h : Word} {ws : List Word}
    (hfind : s.lnk.txns.find? (fun y => y.num = num && !y.dead) = some x) (hone : x.group = none) :
    s.gotResponse x.dest num (h :: ws) = s.endTxn x (fldOf h 23 16) ws := by
  unfold State.gotResponse
  rw [hfind]
  dsimp only
  rw [hone]
  exact if_pos rfl

/-- A response for no open transaction is discarded. -/
theorem gotResponse_of_none {src : LinkAddr} {num : Nat} {ws : List Word} (h : ∀ y ∈ s.lnk.txns, y.num = num → y.dead = true) :
    s.gotResponse src num ws = s := by
  have hfind : s.lnk.txns.find? (fun y => y.num = num && !y.dead) = none :=
    List.find?_eq_none.2 fun y hy => by simpa using h y hy
  unfold State.gotResponse
  rw [hfind]

/-! ### The manager takes an event (R151, R394) -/

/-- Parts of the state that the logbook does not change. -/
def unlogged (s : State) : Fw × LinkSt × Vector MotAx 8 := (s.fw, s.lnk, s.mot)

theorem blind_unlogged : BlindToCollector unlogged := fun s t h => by
  unfold unlogged
  rw [h]

theorem Wrote.leaves (h : Wrote P s t) (hv : f t = f s) : Leaves f P s t := ⟨hv, h.noReset, h.bit⟩

theorem leaves_darnUe_wj {word : Nat} (hf : BlindToCollector f) (hs : NoReset s) : Leaves f P s (s.darnUe .wj word) :=
  leaves_raise hf hs (by decide)

theorem leaves_wjPair {base : Nat} {ws : List Word} (hs : NoReset s) : Leaves unlogged spoolBits s (s.wjPair base ws) := by
  have hcheck : Leaves unlogged spoolBits s (s.wjCheck base) := by
    unfold State.wjCheck
    extract_lets u
    have hu : Leaves unlogged spoolBits s u := .ite (leaves_darnUe_wj blind_unlogged hs) .refl
    exact .ite (hu.trans (leaves_darnUe_wj blind_unlogged (hu.noReset hs))) hu
  have hput (u : State) (word : Nat) (ws : List Word) : Leaves unlogged spoolBits u (u.wjPut word ws) :=
    wrote_wjPut.leaves (by unfold State.wjPut State.incSat; split <;> rfl)
  unfold State.wjPair
  exact .ite hcheck (hcheck.trans (hput _ _ _))

theorem leaves_spool {x : Spool} : Leaves unlogged spoolBits s { s with spool := x } := leaves_of_regs

theorem leaves_flashErase {a n : Nat} : Leaves unlogged spoolBits s (s.flashErase a n) := leaves_spool

theorem leaves_flashPut {a : Nat} {bs : List Byte} : Leaves unlogged spoolBits s (s.flashPut a bs) := leaves_spool

theorem leaves_spoolWide {x : Int} (h : k = R.SPL_LOGHEAD ∨ k = R.SPL_LOGTAIL) : Leaves unlogged spoolBits s (s.setWide k x) :=
  (wrote_spoolWide h).leaves rfl

theorem leaves_logFlush (hs : NoReset s) : Leaves unlogged spoolBits s s.logFlush := by
  unfold State.logFlush
  extract_lets g p spool first seq addr erase s1 s2 s3 s4 spool' s5
  have h1 : Leaves unlogged spoolBits s s1 := .ite leaves_flashErase .refl
  have h2 : Leaves unlogged spoolBits s s2 := .ite (h1.trans (leaves_spoolWide (.inr rfl))) h1
  have h3 : Leaves unlogged spoolBits s s3 := h2.trans leaves_flashPut
  have h4 : Leaves unlogged spoolBits s s4 := h3.trans (leaves_spoolWide (.inl rfl))
  have h5 : Leaves unlogged spoolBits s s5 := h4.trans leaves_spool
  exact .ite .refl (.ite leaves_spool (.ite (h5.trans (leaves_wjPair (h5.noReset hs))) h5))

theorem leaves_logEvent {type time : Nat} {body : List Word} (hs : NoReset s) : Leaves unlogged spoolBits s (s.logEvent type time body) := by
  unfold State.logEvent State.logAdd
  extract_lets spool s1 s2
  have h1 : Leaves unlogged spoolBits s s1 := leaves_spool
  have h2 : Leaves unlogged spoolBits s s2 := h1.trans (leaves_spoolWide (.inl rfl))
  exact .ite .refl (.ite (h2.trans (leaves_logFlush (h2.noReset hs))) h2)

/-- An event that SET_EVENTS asks for joins HOST's queue. -/
theorem takeEvent_queues (hs : NoReset s) (hset : Settled s) (hman : s.isManager = true) (hrun : s.fwRuns = true)
    (hmask : bitOf (vget s.fw.masks 0) 31 = true) (hroom : (vget s.fw.events 0).length < 32) :
    Settled (s.takeEvent lf) ∧ vget (s.takeEvent lf).fw.events 0 = vget s.fw.events 0 ++ [lf.payload] ∧ (s.takeEvent lf).mot = s.mot := by
  set u := s.queueEv 0 lf.payload with hu
  have hqueue : u = { s with fw := { s.fw with events := vset s.fw.events 0 (vget s.fw.events 0 ++ [lf.payload]) } } := if_pos hroom
  have hsu : NoReset u := by rw [hqueue]; exact hs
  have htake : ∃ ws, s.takeEvent lf = u.logEvent 0x10 u.sys.time ws := by
    unfold State.takeEvent
    rw [if_neg (by simp [hman, hrun]), hmask]
    exact ⟨_, rfl⟩
  obtain ⟨ws, heq⟩ := htake
  have hlog := leaves_logEvent (type := 0x10) (time := u.sys.time) (body := ws) hsu
  have hfw : (s.takeEvent lf).fw = u.fw := by rw [heq]; exact congrArg (·.1) hlog.view
  rw [hfw, hqueue]
  refine ⟨settled_of_mail hset ?_ ?_ fun k hk => ?_, vget_vset_same _ _ _, ?_⟩
  · rw [heq, ← show u.lnk.inq = s.lnk.inq by rw [hqueue]]
    exact congrArg (·.2.1.inq) hlog.view
  · rw [hfw, hqueue]
  · rw [heq, hlog.get fun i => by unfold spoolBits mailboxPage at *; omega, hqueue]
    rfl
  · rw [heq, ← show u.mot = s.mot by rw [hqueue]]
    exact congrArg (·.2.2) hlog.view

/-! ### The manager sends a stitch (R354) -/

theorem foldl_sends (x : LinkPort → Sent) (l : List LinkPort) : l.foldl (fun u r => if u.portUp r then u.sends (x r) else u) s
    = { s with out := { s.out with sent := s.out.sent ++ (l.filter fun r => s.portUp r).map x } } := by
  induction l generalizing s with
  | nil => simp
  | cons r l ih =>
    rw [List.foldl_cons, List.filter_cons]
    split
    · rw [ih]
      change ({ s with out := { s.out with sent := (s.out.sent ++ [x r]) ++ (l.filter fun r => s.portUp r).map x } } : State) = _
      rw [List.append_assoc]
      rfl
    · exact ih

/-- The manager after a stitch: the oldest request of class 0 is gone, and SSEQ counts. -/
def stitched (s : State) (rest : List Stitch) : State :=
  { s with lnk := { s.lnk with cls0 := rest, sseq := (s.lnk.sseq + 1) % 256, lastStitch := some s.sys.cyc } }

theorem stitchSend_due {x : Stitch} {rest : List Stitch} (hman : s.isManager = true) (hq : s.lnk.cls0 = x :: rest)
    (hdue : ∀ c, s.lnk.lastStitch = some c → c + 2000 ≤ s.sys.cyc) : s.stitchSend = (List.finRange 4).foldl
      (fun u r => if u.portUp r then u.sends (.stitch r x.dest x.act x.txn s.lnk.sseq x.arg true true) else u) (stitched s rest) := by
  unfold State.stitchSend
  extract_lets soon
  have hsoon : soon = false := by
    unfold soon
    split
    next c hc => simpa using hdue c hc
    · rfl
  rw [hsoon, hq, hman]
  rfl

theorem stitchSend_early {c : Nat} (hlast : s.lnk.lastStitch = some c) (hearly : s.sys.cyc < c + 2000) : s.stitchSend = s := by
  unfold State.stitchSend
  rw [hlast]
  cases s.lnk.cls0 with
  | nil => rfl
  | cons x rest => simp [hearly]

end Sys2Proof.Machine
end

section
/-! PROOFS. What the execution of a stitch frame does, and what it leaves as it was (R149, R173, R178, R317, R355). -/

namespace Sys2Proof.Machine

variable {β : Type} {f : State → β} {P : Nat → Nat → Prop} {s t : State} {ax : Axis}

/-! ### What an execution leaves -/

/-- What answering a stitch frame looks at, and what `g` reads. -/
def runView {γ : Type} (g : State → γ) (s : State) : (LinkSt × Vector (List Reply) 3 × Out) × γ := ((s.lnk, s.fw.outq, s.out), g s)

/-- Registers of the axes' pages. -/
def runBits (k _i : Nat) : Prop := 0x10 ≤ k / 128 ∧ k / 128 < 0x38

/-- Registers of the drivers' pages. -/
def driverBits (k _i : Nat) : Prop := 0x30 ≤ k / 128 ∧ k / 128 < 0x38

/-- The axes, and the safety channels. -/
def haltView (s : State) : (LinkSt × Vector (List Reply) 3 × Out) × Vector MotAx 8 × Safety := runView (fun s => (s.mot, s.saf)) s

theorem blind_haltView : BlindToCollector haltView := fun s t h => by
  unfold haltView runView
  rw [h]

theorem leaves_settleGd (hs : NoReset s) : Leaves haltView P s (s.settleGd ax) := (settleGd_only hs).leaves blind_haltView

theorem leaves_endDiag : Leaves haltView driverBits s (s.endDiag ax) := by
  have hstat (u : State) (i : Nat) (hi : i < 32) : Leaves haltView driverBits u (u.setBit (R.GD_STAT ax) i false) :=
    leaves_setBit (by unfold R.GD_STAT regKey; omega) hi (by unfold driverBits R.GD_STAT regKey; omega)
  have hset (u : State) (i : Nat) (hi : i < 128) : Leaves haltView driverBits u (u.set (regKey (0x30 + ax) i) 0#32) :=
    leaves_set (by unfold regKey; omega) fun _ => by unfold driverBits regKey; omega
  unfold State.endDiag
  extract_lets s1
  have h1 : Leaves haltView driverBits s s1 := .ite ((hstat s 18 (by decide)).trans (hset _ _ (by decide))) .refl
  exact .ite (h1.trans ((hstat s1 19 (by decide)).trans (hset _ _ (by decide)))) h1

theorem leaves_gateLost (hs : NoReset s) : Leaves haltView driverBits s (s.gateLost ax) := by
  have hheld : Leaves haltView driverBits s (s.gatesHeld ax) := leaves_of_regs
  have hflt : Leaves haltView driverBits s (((s.gatesHeld ax).endDiag ax).setFld (R.GD_FLT ax) 15 8 0) :=
    (hheld.trans leaves_endDiag).trans (leaves_setFld (page_flt ax) (by decide) (by decide) fun _ => by unfold driverBits R.GD_FLT regKey; omega)
  exact hflt.trans (leaves_settleGd (hflt.noReset hs))

theorem leaves_gdDisable (hs : NoReset s) : Leaves haltView driverBits s (s.gdDisable ax) := by
  have hbit (u : State) (k i : Nat) (hk : k < 128) (hi : i < 32) : Leaves haltView driverBits u (u.setBit (regKey (0x30 + ax) k) i false) :=
    leaves_setBit (by unfold regKey; omega) hi (by unfold driverBits regKey; omega)
  unfold State.gdDisable
  extract_lets s1
  have hheld : Leaves haltView driverBits s (s.gatesHeld ax) := leaves_of_regs
  have h1 : Leaves haltView driverBits s s1 :=
    ((hheld.trans (hbit _ _ 31 (by decide) (by decide))).trans leaves_endDiag).trans (hbit _ _ 17 (by decide) (by decide))
  have hclear (u : State) : Leaves haltView driverBits u (u.setFld (R.GD_FLT ax) 19 8 0) :=
    leaves_setFld (page_flt ax) (by decide) (by decide) fun _ => by unfold driverBits R.GD_FLT regKey; omega
  have hflt := h1.trans (hclear s1)
  exact .ite .refl (hflt.trans (leaves_settleGd (hflt.noReset hs)))

theorem leaves_event {code : EvCode} {result subj obj time : Nat} {data : List Word} :
    Leaves haltView P s (s.event code result subj obj time data) := by
  have hqueue (u : State) (d : Fin 3) (m : List Word) : Leaves haltView P u (u.queueEv d m) := .ite leaves_of_regs leaves_of_regs
  unfold State.event
  refine .ite .refl ?_
  exact forAll_keeps (P := Leaves haltView P s) .refl fun u d h => h.trans (.ite (hqueue _ _ _) .refl)

/-- The end of an axis's long operation. -/
theorem leaves_endLong {result : Nat} {data : List Word} (hs : NoReset s) : Leaves haltView driverBits s (s.endLong (.axis ax) result data) := by
  unfold State.endLong
  dsimp only
  split
  next o _ =>
    have hmend : Leaves haltView driverBits s ((s.gdDisable ax).mend (R.GD_CFG ax)) := by
      rw [mend_frame]
      exact (leaves_gdDisable (ax := ax) hs).trans leaves_of_regs
    have hoff : Leaves haltView driverBits s
        (if o.op = 0x81 ∧ o.args.getD 1 1#32 = 0#32 then (s.gdDisable ax).mend (R.GD_CFG ax) else s) := .ite hmend .refl
    exact (hoff.trans leaves_of_regs).trans leaves_event
  · exact .refl

theorem leaves_haltLong {axes : Nat} (hs : NoReset s) : Leaves haltView driverBits s (s.haltLong axes) :=
  .ite (leaves_forAll hs fun _ _ hu => .ite (leaves_endLong hu) .refl) .refl

/-! ### Executions (R149, R173, R178, R317, R355) -/

theorem Leaves.comp {γ : Type} (h : Leaves f P s t) (g : β → γ) : Leaves (fun s => g (f s)) P s t := ⟨congrArg g h.view, h.noReset, h.bit⟩

theorem bit_meCtl_of_marks (h : Leaves f markBits s t) (ax : Axis) (i : Nat) : t.bit (R.ME_CTL ax) i = s.bit (R.ME_CTL ax) i :=
  h.bit _ _ (by unfold markBits heardBits R.ME_CTL regKey; omega)

theorem get_meCtl_of_marks (h : Leaves f markBits s t) (ax : Axis) : t.get (R.ME_CTL ax) = s.get (R.ME_CTL ax) :=
  h.get fun i => by unfold markBits heardBits R.ME_CTL regKey; omega

theorem testBit_mod_256 {a : Nat} (ax : Axis) : (a % 256).testBit ax = a.testBit ax := by
  rw [show 256 = 2 ^ 8 from rfl, Nat.testBit_mod_two_pow]
  simp

theorem leaves_haltAxes {axes : Nat} : Leaves haltView runBits s (s.haltAxes axes) :=
  forAll_keeps (P := Leaves haltView runBits s) .refl fun u i h => h.trans
    (.ite (leaves_setBit (by unfold R.ME_CTL regKey; omega) (by decide) (by unfold runBits R.ME_CTL regKey; omega)) .refl)

theorem bit_haltAxes (axes : Nat) (ax : Axis) : (s.haltAxes axes).bit (R.ME_CTL ax) 0 = (s.bit (R.ME_CTL ax) 0 || axes.testBit ax) := by
  have hstep (u : State) (i : Axis) : (if axes.testBit i then u.setBit (R.ME_CTL i) 0 true else u).bit (R.ME_CTL ax) 0
      = (u.bit (R.ME_CTL ax) 0 || (axes.testBit i && decide (ax = i))) := by
    have hinj : R.ME_CTL ax = R.ME_CTL i ↔ ax = i := by rw [Fin.ext_iff]; unfold R.ME_CTL regKey; omega
    split
    next hi =>
      rw [State.bit_setBit _ _ _ _ _ _ (by decide)]
      by_cases h : ax = i <;> simp [h, hi, hinj]
    next hi => simp [hi]
  unfold State.haltAxes
  cases haxes : axes.testBit ax with
  | true =>
    rw [Bool.or_true]
    refine forAll_reaches (P := fun u => u.bit (R.ME_CTL ax) 0 = true) ax (fun u => ?_) fun u i hu => ?_
    · exact (hstep u ax).trans (by simp [haxes])
    · exact (hstep u i).trans (by rw [hu, Bool.true_or])
  | false =>
    rw [Bool.or_false]
    refine forAll_keeps (P := fun u => u.bit (R.ME_CTL ax) 0 = s.bit (R.ME_CTL ax) 0) rfl fun u i hu => ?_
    rw [hstep, hu]
    by_cases h : ax = i
    · simp [← h, haxes]
    · simp [h]

/-- HALT by a stitch frame. -/
theorem halt_spec (hs : NoReset s) (axes : Nat) : Leaves haltView runBits s ((s.haltAxes axes).haltLong axes)
    ∧ ∀ ax : Axis, ((s.haltAxes axes).haltLong axes).bit (R.ME_CTL ax) 0 = (s.bit (R.ME_CTL ax) 0 || axes.testBit ax) := by
  have hlong := leaves_haltLong (axes := axes) ((leaves_haltAxes (axes := axes)).noReset hs)
  refine ⟨leaves_haltAxes.trans (hlong.mono fun k _ => by unfold driverBits runBits; omega), fun ax => ?_⟩
  rw [hlong.bit _ _ (by unfold driverBits R.ME_CTL regKey; omega), bit_haltAxes]

/-- OBST_REL by a stitch frame. -/
theorem obstRel_spec (axes : Nat) (abort : Bool) : Leaves (runView fun _ => ()) runBits s (s.obstRel axes abort) ∧ ∀ ax : Axis,
    (axes.testBit ax = false → (s.obstRel axes abort).me ax = s.me ax)
    ∧ (axes.testBit ax = true → (abort = true → ((s.obstRel axes abort).me ax).abortReq = true)
      ∧ (abort = false → ((s.obstRel axes abort).me ax).contReq = true)) := by
  have hwrite (u : State) (i : Axis) (w : Word) : Leaves (runView fun _ => ()) runBits u (u.meCtlWrite i w) := by
    have hset : Leaves (runView fun _ => ()) runBits u (u.set (R.ME_CTL i) (w &&& 1#32)) :=
      leaves_set (by unfold R.ME_CTL regKey; omega) fun _ => by unfold runBits R.ME_CTL regKey; omega
    exact hset.trans leaves_of_regs
  have hother (u : State) (i ax : Axis) (w : Word) (h : ax ≠ i) : (u.meCtlWrite i w).me ax = u.me ax := me_meCtlWrite_other w h
  refine ⟨forAll_keeps (P := Leaves _ runBits s) .refl fun u i h => h.trans (.ite (hwrite _ _ _) .refl), fun ax =>
    ⟨fun haxes => ?_, fun haxes => ?_⟩⟩
  · refine forAll_keeps (P := fun u => u.me ax = s.me ax) rfl fun u i hu => ?_
    split
    next hi => rw [hother u i ax _ (by rintro rfl; simp [haxes] at hi), hu]
    · exact hu
  · have hkeep (u : State) (i : Axis) (w : Word) : ((u.me ax).abortReq = true → ((u.meCtlWrite i w).me ax).abortReq = true)
        ∧ ((u.me ax).contReq = true → ((u.meCtlWrite i w).me ax).contReq = true) := by
      by_cases h : ax = i
      · subst h
        rw [me_meCtlWrite]
        exact ⟨fun hu => by simp [hu], fun hu => by simp [hu]⟩
      · rw [hother u i ax w h]
        exact ⟨id, id⟩
    refine ⟨fun hb => ?_, fun hb => ?_⟩
    · refine forAll_reaches (P := fun u => (u.me ax).abortReq = true) ax (fun u => ?_) fun u i hu => ?_
      · rw [if_pos haxes, me_meCtlWrite, hb]
        simp [bitOf]
      · split
        · exact (hkeep u i _).1 hu
        · exact hu
    · refine forAll_reaches (P := fun u => (u.me ax).contReq = true) ax (fun u => ?_) fun u i hu => ?_
      · rw [if_pos haxes, me_meCtlWrite, hb]
        simp [bitOf]
      · split
        · exact (hkeep u i _).2 hu
        · exact hu

/-! ### SAFE_STOP (R317) -/

/-- What a demand on the safety channels leaves: SAFE_STOP as it stands. -/
def stopView (s : State) : (LinkSt × Vector (List Reply) 3 × Out) × BitVec 2 := runView (fun s => s.saf.stop) s

theorem blind_stopView : BlindToCollector stopView := fun s t h => by
  unfold stopView runView
  rw [h]

theorem Leaves.stop (h : Leaves haltView P s t) : Leaves stopView P s t := h.comp fun v => (v.1, v.2.2.stop)

theorem leaves_settleSafety (hs : NoReset s) : Leaves stopView driverBits s s.settleSafety := by
  have hlost (u : State) (i : Axis) (hu : NoReset u) : Leaves stopView driverBits u (u.enableLost i) :=
    (leaves_gateLost hu).stop.trans leaves_of_regs
  have hlevel (u : State) (src : Nat) (b : Bool) (d : Word) (hsrc : src < 126) (hu : Leaves stopView driverBits s u) :
      Leaves stopView driverBits s (u.level src b d) := hu.trans (leaves_level blind_stopView (hu.noReset hs) hsrc)
  unfold State.settleSafety
  extract_lets was enS enH hit s1 saf s2 s3 sto stoWord trip s4 s5
  have h2 : Leaves stopView driverBits s s2 := leaves_of_regs
  have h3 : Leaves stopView driverBits s s3 :=
    h2.trans (leaves_forAll (h2.noReset hs) fun u i hu => .ite (hlost u i hu) .refl)
  have h4 : Leaves stopView driverBits s s4 := hlevel _ 28 _ _ (by decide) (hlevel _ 27 _ _ (by decide) h3)
  exact hlevel _ 30 _ _ (by decide) (hlevel _ 29 _ _ (by decide) h4)

/-- The stop word of a stitch frame: an apply request for the groups of a bitmap. -/
def stopWord (bm : Nat) : Word := wordOfNat (bm * 1048576 + 1)

theorem safeStop_applies {bm : Nat} (hbm : bm < 4) :
    (s.safeStop (stopWord bm)).1 = { s with saf := { s.saf with stop := s.saf.stop ||| s.groupsOf bm } }.settleSafety := by
  have hword : fldOf (stopWord bm) 21 20 = bm ∧ bitOf (stopWord bm) 0 = true := by
    unfold stopWord
    interval_cases bm <;> decide
  unfold State.safeStop
  extract_lets gs demand
  have hgs : gs = s.groupsOf bm := congrArg s.groupsOf hword.1
  rw [if_pos hword.2, hgs]

/-- What a stitch frame's SAFE_STOP does. -/
def stopRun (bm : Nat) (s : State) : State := (if s.saf.s.ready then (s.safeStop (stopWord bm)).1 else s).haltLong (s.groupAxes bm)

theorem leaves_stopped (hs : NoReset s) (axes : Nat) : Leaves stopView driverBits s (s.settleSafety.haltLong axes) :=
  (leaves_settleSafety hs).trans (leaves_haltLong ((leaves_settleSafety hs).noReset hs)).stop

theorem runBits_of_driver (k i : Nat) (h : driverBits k i) : runBits k i := by
  unfold driverBits at h
  unfold runBits
  omega

theorem stopRun_ready (hs : NoReset s) {bm : Nat} (hbm : bm < 4) (hready : s.saf.s.ready = true) :
    Leaves (runView fun _ => ()) runBits s (stopRun bm s) ∧ (stopRun bm s).saf.stop = s.saf.stop ||| s.groupsOf bm := by
  have heq : stopRun bm s = ({ s with saf := { s.saf with stop := s.saf.stop ||| s.groupsOf bm } } : State).settleSafety.haltLong (s.groupAxes bm) := by
    unfold stopRun
    rw [if_pos hready, safeStop_applies hbm]
  have hu : Leaves (runView fun _ => ()) runBits s { s with saf := { s.saf with stop := s.saf.stop ||| s.groupsOf bm } } := leaves_of_regs
  have hstop := leaves_stopped (hu.noReset hs) (s.groupAxes bm)
  rw [← heq] at hstop
  generalize stopRun bm s = t at *
  exact ⟨hu.trans ((hstop.comp fun v => (v.1, ())).mono runBits_of_driver), congrArg (·.2) hstop.view⟩

theorem stopRun_unready (hs : NoReset s) {bm : Nat} (hready : s.saf.s.ready = false) :
    Leaves (runView fun _ => ()) runBits s (stopRun bm s) ∧ (stopRun bm s).saf = s.saf := by
  have heq : stopRun bm s = s.haltLong (s.groupAxes bm) := by
    unfold stopRun
    rw [if_neg (by rw [hready]; decide)]
  have hhalt := leaves_haltLong (axes := s.groupAxes bm) hs
  rw [← heq] at hhalt
  generalize stopRun bm s = t at *
  exact ⟨(hhalt.comp fun v => (v.1, ())).mono runBits_of_driver, congrArg (·.2.2) hhalt.view⟩

end Sys2Proof.Machine
end

section
/-! PROOFS. A stitch frame at a worker: noted, executed once, answered, or passed on (R354 to R356). -/

namespace Sys2Proof.Machine

variable {s : State} {p : LinkPort} {lf : LinkFrame} {sf : StitchFrame}

/-! ### A stitch frame at a worker (R354 to R356) -/

/-- The worker in which an accepted stitch frame is executed: its copies in error are counted, the manager is noted, and so is the SSEQ. -/
def noted (s : State) (p : LinkPort) (f : StitchFrame) : State :=
  let s := (s.stitchErrors p f).heardManager p
  let acc := (s.lnk.accepted.filter fun e => s.sys.cyc < e.2 + 200000) ++ [(f.sseq.toNat, s.sys.cyc)]
  let s := { s with lnk := { s.lnk with accepted := acc } }
  if f.first then s else s.incFld (R.LNK_ERR p) 7 0

/-- The SSEQ of a stitch frame and its SYS cycle are all that is noted beside marks. -/
theorem noted_spec (hs : NoReset s) : ∃ m acc, Marks s m ∧ noted s p sf = { m with lnk := { m.lnk with accepted := acc } }
    ∧ (sf.sseq.toNat, s.sys.cyc) ∈ acc := by
  have hheard := marks_stitchHeard (p := p) (sf := sf) hs
  unfold noted
  extract_lets m acc m'
  have hin : (sf.sseq.toNat, s.sys.cyc) ∈ acc := by simp [acc, m, hheard.cyc]
  split
  · exact ⟨m, acc, hheard, rfl, hin⟩
  · exact ⟨m.incFld (R.LNK_ERR p) 7 0, acc, hheard.trans (leaves_errFld (by decide) (by decide)), rfl, hin⟩

/-- What is noted of a stitch frame leaves the axes and the safety channels. -/
theorem leaves_noted (hs : NoReset s) : Leaves (fun s => (s.mot, s.saf)) markBits s (noted s p sf) := by
  obtain ⟨m, acc, hm, hnote, -⟩ := noted_spec (p := p) (sf := sf) hs
  rw [hnote]
  exact ⟨by rw [← hm.mot, ← hm.saf], hm.noReset, hm.bit⟩

section
variable (hs : NoReset s) (hhears : s.hears p = true) (hw : s.isWorker = true) (haddr : s.addressed = true)
  (hcopy : (sf.first || sf.second) = true) (hnew : s.bit R.LNK_STAT 7 = false)
include hs hhears hw haddr hcopy hnew

/-- A stitch frame for this worker alone with a fresh SSEQ is executed and answered. -/
theorem stitchIn_executes {act op : Nat} {ws : List Word} {run : State → State} (hme : sf.dest = s.linkAddr) (hfresh : Fresh s sf.sseq) :
    s.stitchIn p sf act op ws run = (run (noted s p sf)).stitchRsp sf op ws := by
  have herr := marks_stitchErrors (p := p) (sf := sf) hs
  have hheard := marks_stitchHeard (p := p) (sf := sf) hs
  have hmine : s.forMe s.linkAddr = true := by simp [State.forMe, hnew, haddr]
  have hunseen : (s.lnk.accepted.any fun e => e.1 = sf.sseq.toNat && s.sys.cyc < e.2 + 200000) = false := by
    rw [List.any_eq_false]
    intro e he
    have := hfresh e he
    simp only [Bool.and_eq_true, decide_eq_true_eq]
    omega
  unfold State.stitchIn
  rw [if_neg (by simp [hhears])]
  extract_lets s1 s2 s3
  have h2 : s2 = (s.stitchErrors p sf).heardManager p := if_pos hcopy
  have h3 : s3 = (s.stitchErrors p sf).heardManager p := (if_pos (by simp [h2, hheard.addressed, haddr, hheard.linkAddr, hme])).trans h2
  have hgo : s3.stitchNew sf = true := by
    unfold State.stitchNew
    rw [h3, hcopy, hheard.forMe, hheard.accepted, hheard.cyc, hme, hmine, hunseen]
    rfl
  rw [if_neg (by simp [s1, herr.isWorker, hw]), if_pos hgo, h3]
  rfl

omit hnew in
/-- A stitch frame whose SSEQ has been accepted within the last 1 ms is not executed again. -/
theorem stitchIn_repeated {act op : Nat} {ws : List Word} {run : State → State} (hme : sf.dest = s.linkAddr) (hseen : ¬Fresh s sf.sseq) :
    s.stitchIn p sf act op ws run = (s.stitchErrors p sf).heardManager p := by
  have herr := marks_stitchErrors (p := p) (sf := sf) hs
  have hheard := marks_stitchHeard (p := p) (sf := sf) hs
  have hany : (s.lnk.accepted.any fun e => e.1 = sf.sseq.toNat && s.sys.cyc < e.2 + 200000) = true := by
    unfold Fresh at hseen
    push Not at hseen
    obtain ⟨e, he, hq, hlt⟩ := hseen
    exact List.any_eq_true.2 ⟨e, he, by simp [hq, hlt]⟩
  unfold State.stitchIn
  rw [if_neg (by simp [hhears])]
  extract_lets s1 s2 s3
  have h2 : s2 = (s.stitchErrors p sf).heardManager p := if_pos hcopy
  have h3 : s3 = (s.stitchErrors p sf).heardManager p := (if_pos (by simp [h2, hheard.addressed, haddr, hheard.linkAddr, hme])).trans h2
  have hstop : s3.stitchNew sf = false := by
    unfold State.stitchNew
    rw [h3, hheard.accepted, hheard.cyc, hany]
    simp
  rw [if_neg (by simp [s1, herr.isWorker, hw]), hstop, h3]
  rfl

omit haddr hnew in
/-- A stitch frame for another worker passes. -/
theorem stitchIn_passes {act op : Nat} {ws : List Word} {run : State → State} (hother : sf.dest ≠ s.linkAddr) (hnot : s.forMe sf.dest = false)
    (hfree : Free s (otherPort p)) : s.stitchIn p sf act op ws run = ((s.stitchErrors p sf).heardManager p).sends
      (.stitch (otherPort p) sf.dest act sf.txn.toNat sf.sseq.toNat sf.arg.toNat sf.first sf.second) := by
  have herr := marks_stitchErrors (p := p) (sf := sf) hs
  have hheard := marks_stitchHeard (p := p) (sf := sf) hs
  have hpass : ((s.stitchErrors p sf).heardManager p).passStitch p sf act = ((s.stitchErrors p sf).heardManager p).sends
      (.stitch (otherPort p) sf.dest act sf.txn.toNat sf.sseq.toNat sf.arg.toNat sf.first sf.second) := by
    unfold State.passStitch
    rw [outPort_of_free (hheard.free hfree)]
    exact if_pos (hheard.free hfree).1
  unfold State.stitchIn
  rw [if_neg (by simp [hhears])]
  extract_lets s1 s2 s3
  have h2 : s2 = (s.stitchErrors p sf).heardManager p := if_pos hcopy
  have h3 : s3 = _ := (if_neg (by simp [h2, hheard.linkAddr, hother])).trans ((congrArg (State.passStitch · p sf act) h2).trans hpass)
  have hstop : s3.stitchNew sf = false := by
    have hforme : s3.forMe sf.dest = false := by rw [h3, ← hnot]; exact hheard.forMe _
    simp [State.stitchNew, hforme]
  rw [if_neg (by simp [s1, herr.isWorker, hw]), hstop, h3]
  rfl

end

/-- The response to a stitch frame, as it leaves. -/
def stitchAnswer (s : State) (f : StitchFrame) (op : Nat) (ws : List Word) : Sent := .regular s.upPort
  { cls := 1, kind := 1, dest := 0#11, src := s.linkAddr, txn := f.txn.toNat, payload := wordOfNat (op * 16777216 + ws.length * 128) :: ws }

/-- An execution that leaves the link and what waits to be sent is answered by the free upstream port. -/
theorem stitch_answered {γ : Type} {g : State → γ} {op : Nat} {ws : List Word} {run : State → State} (hs : NoReset s) (hset : Settled s)
    (hfree : Free s s.upPort) (hrun : Leaves (runView g) runBits (noted s p sf) (run (noted s p sf))) :
    ((run (noted s p sf)).stitchRsp sf op ws).fwStep = (run (noted s p sf)).sends (stitchAnswer s sf op ws)
    ∧ (run (noted s p sf)).out = s.out ∧ (sf.sseq.toNat, s.sys.cyc) ∈ (run (noted s p sf)).lnk.accepted := by
  obtain ⟨m, acc, hm, hnote, hin⟩ := noted_spec (p := p) (sf := sf) hs
  generalize noted s p sf = n at *
  generalize run n = u at *
  have hlnk : u.lnk = n.lnk := congrArg (·.1.1) hrun.view
  have houtq : u.fw.outq = n.fw.outq := congrArg (·.1.2.1) hrun.view
  have hout : u.out = n.out := congrArg (·.1.2.2) hrun.view
  have hlink (k i : Nat) (hk : k / 128 = 0x58) : u.bit k i = m.bit k i :=
    (hrun.bit k i (by unfold runBits; omega)).trans (by rw [hnote]; rfl)
  subst hnote
  have hup : u.upPort = s.upPort := by rw [← hm.upPort, State.upPort, hlnk]; rfl
  have haddr : u.linkAddr = s.linkAddr := by
    rw [← hm.linkAddr, State.linkAddr, State.linkAddr, State.fld_congr_bit fun i _ _ => hlink R.LNK_ADDR i (by decide)]
  have hfreem : Free m s.upPort := hm.free hfree
  have hfreeu : Free u u.upPort := by
    rw [hup]
    refine ⟨?_, (hlink _ _ (by unfold R.LNK_PORT regKey; omega)).trans hfreem.2.1, ?_⟩
    · rw [State.portUp, State.portState, State.fld_congr_bit fun i _ _ => hlink _ i (by unfold R.LNK_PORT regKey; omega)]
      exact hfreem.1
    · rw [State.lp, hlnk]
      exact hfreem.2.2
  have hsetu : Settled u := by
    refine settled_of_mail (hm.settled hset) (by rw [hlnk]) (by rw [houtq]) fun k hk => ?_
    exact hrun.get fun i => by unfold runBits mailboxPage at *; omega
  refine ⟨?_, hout.trans hm.out, by rw [hlnk]; exact hin⟩
  unfold State.stitchRsp stitchAnswer
  rw [sendUp_of_free hfreeu, hup, haddr]
  exact fwStep_of_settled ⟨hsetu.reqs, hsetu.inq, hsetu.outq⟩

/-! ### The parts of the statement -/

theorem sent_sends {x : Sent} (h : s.out.sent = []) : (s.sends x).out.sent = [x] := by
  unfold State.sends
  rw [h]
  rfl

theorem Marks.silent (h : Marks s.quiet t) : t.out.sent = [] := by rw [h.out]; rfl

section
variable (hs : NoReset s) (hhears : s.hears p = true) (hcls : lf.cls ≠ 0) (hdest : lf.dest ≠ 0x7FE#11)
include hs hhears hcls hdest

/-- A worker forwards a frame for another device. -/
theorem frames_forwarded (hw : s.isWorker = true) (hother : lf.dest ≠ s.linkAddr) (hnot : s.forMe lf.dest = false) (hgood : lf.intact = true)
    (hset : Settled s) (hfree : Free s (otherPort p)) :
    (∃ t, exec (.requestFrame p lf false) s = .next t ∧ t.out.sent = [.regular (otherPort p) (forwarded lf 0)] ∧ t.lnk.inq = s.lnk.inq ∧ t.mot = s.mot)
    ∧ (∃ t, exec (.responseFrame p lf false) s = .next t ∧ t.out.sent = [.regular (otherPort p) (forwarded lf 1)] ∧ t.lnk.txns = s.lnk.txns
      ∧ t.mot = s.mot)
    ∧ (∃ t, exec (.eventFrame p lf false) s = .next t ∧ t.out.sent = [.regular (otherPort p) (forwarded lf 2)] ∧ t.fw = s.fw ∧ t.mot = s.mot)
    ∧ ∃ t, exec (.requestFrame p lf true) s = .next t ∧ t.out.sent = []
      ∧ (12 + 4 * lf.payload.length ≤ 8192 → (t.lp (otherPort p)).buf = [(false, forwarded lf 0)]) := by
  have hm : Marks s.quiet (arrived s.quiet p lf) := marks_arrived hs
  have hsent (kind : Nat) : ((arrived s.quiet p lf).sends (.regular (otherPort p) (forwarded lf kind))).out.sent
      = [.regular (otherPort p) (forwarded lf kind)] := sent_sends hm.silent
  have hfwd (kind : Nat) (take : State → State) : (s.quiet.frameIn p lf kind false take).fwStep
      = (arrived s.quiet p lf).sends (.regular (otherPort p) (forwarded lf kind)) :=
    frame_forwarded (s := s.quiet) hs hhears hcls hdest hw hother hnot (settled_quiet hset) hfree
  obtain ⟨hout, hbuf⟩ := frame_stored (s := s.quiet) (take := (·.takeRequest lf)) (kind := 0) hs hhears hcls hdest hw hother hnot (settled_quiet hset)
    hfree hgood
  exact ⟨⟨_, congrArg Host.Outcome.next (hfwd 0 _), hsent 0, hm.inq, hm.mot⟩,
    ⟨_, congrArg Host.Outcome.next (hfwd 1 _), hsent 1, hm.txns, hm.mot⟩, ⟨_, congrArg Host.Outcome.next (hfwd 2 _), hsent 2, hm.fw, hm.mot⟩, _, rfl, by rw [hout]; rfl, hbuf⟩

/-- A worker takes, drops or discards a request for it alone. -/
theorem request_taken (hw : s.isWorker = true) (haddr : s.addressed = true) (hme : lf.dest = s.linkAddr) (hsrc : lf.src = 0#11)
    (hnew : s.bit R.LNK_STAT 7 = false) (hstop : s.fwRuns = false) :
    (lf.intact = true → s.sys.linkRun = true → ∃ t, exec (.requestFrame p lf false) s = .next t ∧ t.out.sent = [] ∧ t.mot = s.mot
      ∧ t.lnk.inq = s.lnk.inq ++ [({ src := lf.src, txn := lf.txn.toNat, cls := lf.cls, pres := lf.pres }, lf.payload)])
    ∧ (lf.intact = true → s.sys.linkRun = false → ∃ t, exec (.requestFrame p lf false) s = .next t ∧ t.out.sent = [] ∧ t.lnk.inq = s.lnk.inq
      ∧ t.fld (R.LNK_ERR p) 15 8 = (s.fld (R.LNK_ERR p) 15 8 + 1) % 256)
    ∧ (lf.intact = false → ∃ t, exec (.requestFrame p lf false) s = .next t ∧ t.out.sent = [] ∧ t.lnk.inq = s.lnk.inq
      ∧ t.fld (R.LNK_ERR p) 23 16 = (s.fld (R.LNK_ERR p) 23 16 + 1) % 256) := by
  obtain ⟨htake, hdrop, hbad⟩ := frame_unicast (s := s.quiet) (busy := false) (take := (·.takeRequest lf)) (kind := 0) hs hhears hcls hdest hw haddr
    hme hsrc hnew
  have hheard : Marks s.quiet (s.quiet.heardManager p) := marks_heardManager
  have hdropped : Marks s.quiet ((s.quiet.heardManager p).dropFrame p) := hheard.trans marks_dropFrame
  have hcrc : Marks s.quiet (s.quiet.crcError p) := marks_crcError hs
  have hexec {t : State} (hrun : t.fwRuns = false) (heq : s.quiet.frameIn p lf 0 false (·.takeRequest lf) = t) :
      exec (.requestFrame p lf false) s = .next t := by
    change Host.Outcome.next (s.quiet.frameIn p lf 0 false (·.takeRequest lf)).fwStep = _
    rw [heq, fwStep_of_stopped hrun]
  refine ⟨fun h hrun => ⟨(s.quiet.heardManager p).takeRequest lf, hexec (hheard.fwRuns.trans hstop) (htake h hrun), hheard.silent, hheard.mot, ?_⟩,
    fun h hrun => ⟨_, hexec (hdropped.fwRuns.trans hstop) (hdrop h hrun), hdropped.silent, hdropped.inq, ?_⟩,
    fun h => ⟨_, hexec (hcrc.fwRuns.trans hstop) (hbad h), hcrc.silent, hcrc.inq, fld_crcError hs⟩⟩
  · exact congrArg (· ++ [_]) hheard.inq
  · rw [fld_dropFrame, fld_heardManager_err]
    rfl

/-- The manager takes a worker's response or event. -/
theorem frames_managed (hman : s.isManager = true) (hme : lf.dest = 0#11) (hsrc : lf.src ≠ 0#11) (hgood : lf.intact = true)
    (hlink : s.sys.linkRun = true) (hrun : s.fwRuns = true) (hset : Settled s) :
    (∀ (x : Txn) (h : Word) (ws : List Word), s.lnk.txns.find? (fun y => y.num = lf.txn.toNat && !y.dead) = some x → x.group = none → x.dest = lf.src →
      x.ch = 0 → (vget s.fw.owed 0 = [] ∨ vget s.fw.owed 0 = [.relayed x.num]) →
      lf.payload = h :: ws → ws.length ≤ 14 → s.bFull 1 = false → s.sndOf 1 = 1 → ∃ t, exec (.responseFrame p lf false) s = .next t ∧ t.bFull 1 = true
      ∧ (t.msg 1).take (ws.length + 1) = rspHdr x.hdr (fldOf h 23 16) ws.length :: ws ∧ (∀ y ∈ t.lnk.txns, y.num ≠ x.num) ∧ t.mot = s.mot)
    ∧ ((∀ y ∈ s.lnk.txns, y.num = lf.txn.toNat → y.dead = true) → ∃ t, exec (.responseFrame p lf false) s = .next t ∧ t.regs = s.regs ∧ t.lnk = s.lnk)
    ∧ (bitOf (vget s.fw.masks 0) 31 = true → (vget s.fw.events 0).length < 32 → ∃ t, exec (.eventFrame p lf false) s = .next t
      ∧ vget t.fw.events 0 = vget s.fw.events 0 ++ [lf.payload] ∧ t.mot = s.mot) := by
  have hset' := settled_quiet hset
  have hframe (kind : Nat) (take : State → State) : s.quiet.frameIn p lf kind false take = take s.quiet :=
    frameIn_manager (s := s.quiet) hhears hcls hdest hman hme hsrc hgood hlink
  have hresp : s.quiet.takeResponse lf = s.quiet.gotResponse lf.src lf.txn.toNat lf.payload := if_pos hman
  have hexec {t : State} (ht : Settled t) (heq : s.quiet.gotResponse lf.src lf.txn.toNat lf.payload = t) :
      exec (.responseFrame p lf false) s = .next t := by
    change Host.Outcome.next (s.quiet.frameIn p lf 1 false (·.takeResponse lf)).fwStep = _
    rw [hframe, hresp, heq, fwStep_of_settled ht]
  refine ⟨fun x h ws hfind hone hsrcx hch howed hpay hlen hroom hsnd => ?_, fun hnone => ?_, fun hmask hroom => ?_⟩
  · obtain ⟨hsett, hfull, hmsg, htxns, hmot⟩ := endTxn_posts (s := s.quiet) (result := fldOf h 23 16) hset' hrun hch howed hlen hroom hsnd
    refine ⟨_, hexec hsett ?_, hfull, hmsg, htxns, hmot⟩
    rw [hpay, ← hsrcx]
    exact gotResponse_of_open (s := s.quiet) hfind hone
  · exact ⟨_, hexec hset' (gotResponse_of_none (s := s.quiet) hnone), rfl, rfl⟩
  · obtain ⟨hsett, hevents, hmot⟩ := takeEvent_queues (s := s.quiet) (lf := lf) hs hset' hman hrun hmask hroom
    refine ⟨_, ?_, hevents, hmot⟩
    change Host.Outcome.next (s.quiet.frameIn p lf 2 false (·.takeEvent lf)).fwStep = _
    rw [hframe, fwStep_of_settled hsett]

end

/-- The manager's stitch leaves when it is due. -/
theorem stitch_sent {x : Stitch} {rest : List Stitch} (hman : s.isManager = true) (hq : s.lnk.cls0 = x :: rest) :
    ((∀ c, s.lnk.lastStitch = some c → c + 2000 ≤ s.sys.cyc) → ∃ t, exec .stitchSend s = .next t ∧ t.lnk.cls0 = rest ∧ t.lnk.sseq = (s.lnk.sseq + 1) % 256
      ∧ t.lnk.lastStitch = some s.sys.cyc ∧ t.regs = s.regs ∧ t.out.sent = ((List.finRange 4).filter fun r => s.portUp r).map fun r =>
          .stitch r x.dest x.act x.txn s.lnk.sseq x.arg true true)
    ∧ (∀ c, s.lnk.lastStitch = some c → s.sys.cyc < c + 2000 → ∃ t, exec .stitchSend s = .next t ∧ t.out.sent = [] ∧ t.lnk = s.lnk ∧ t.regs = s.regs) := by
  refine ⟨fun hdue => ?_, fun c hlast hearly => ?_⟩
  · exact ⟨_, congrArg Host.Outcome.next ((stitchSend_due (s := s.quiet) hman hq hdue).trans (foldl_sends _ _)), rfl, rfl, rfl, rfl, rfl⟩
  · exact ⟨_, congrArg Host.Outcome.next (stitchSend_early (s := s.quiet) hlast hearly), rfl, rfl, rfl⟩

section
variable (hs : NoReset s) (hhears : s.hears p = true) (hw : s.isWorker = true) (haddr : s.addressed = true)
  (hcopy : (sf.first || sf.second) = true) (hnew : s.bit R.LNK_STAT 7 = false) (hset : Settled s)
include hs hhears hw hcopy hset

include haddr hnew in
/-- An execution that leaves the link is carried out in the noted state, answered, and noted. -/
theorem stitch_executed {γ : Type} {g : State → γ} {act op : Nat} {ws : List Word} {run : State → State}
    (hme : sf.dest = s.linkAddr) (hfresh : Fresh s sf.sseq) (hfree : Free s s.upPort)
    (hrun : Leaves (runView g) runBits (noted s.quiet p sf) (run (noted s.quiet p sf))) :
    (s.quiet.stitchIn p sf act op ws run).fwStep = (run (noted s.quiet p sf)).sends (stitchAnswer s sf op ws)
    ∧ ((run (noted s.quiet p sf)).sends (stitchAnswer s sf op ws)).out.sent = [stitchAnswer s sf op ws]
    ∧ (sf.sseq.toNat, s.sys.cyc) ∈ (run (noted s.quiet p sf)).lnk.accepted := by
  obtain ⟨hans, hout, hin⟩ := stitch_answered (s := s.quiet) (op := op) (ws := ws) hs (settled_quiet hset) hfree hrun
  refine ⟨?_, sent_sends (by rw [hout]; rfl), hin⟩
  rw [stitchIn_executes (s := s.quiet) hs hhears hw haddr hcopy hnew hme hfresh]
  exact hans

include haddr hnew in
/-- A fresh stitch frame for this worker. -/
theorem stitches_executed (hme : sf.dest = s.linkAddr) (hfresh : Fresh s sf.sseq) (hfree : Free s s.upPort) :
    let a := sf.arg.toNat
    (∃ t, exec (.stitchHalt p sf) s = .next t ∧ t.out.sent = [stitchAnswer s sf 0x29 []] ∧ (sf.sseq.toNat, s.sys.cyc) ∈ t.lnk.accepted ∧ t.mot = s.mot
      ∧ ∀ ax : Axis, t.bit (R.ME_CTL ax) 0 = (s.bit (R.ME_CTL ax) 0 || a.testBit ax))
    ∧ (∃ t, exec (.stitchObstRel p sf) s = .next t ∧ t.out.sent = [stitchAnswer s sf 0x2C []] ∧ ∀ ax : Axis, (a.testBit ax = false → t.me ax = s.me ax)
      ∧ (a.testBit ax = true → (a.testBit 8 = true → (t.me ax).abortReq = true) ∧ (a.testBit 8 = false → (t.me ax).contReq = true)))
    ∧ (∃ t, exec (.stitchSafeStop p sf) s = .next t ∧ t.out.sent = [stitchAnswer s sf 0x36 []]
      ∧ (s.saf.s.ready = true → t.saf.stop = s.saf.stop ||| s.groupsOf (a % 4)) ∧ (s.saf.s.ready = false → t.saf = s.saf))
    ∧ (∃ t, exec (.stitchPing p sf) s = .next t ∧ t.out.sent = [stitchAnswer s sf 0x06 [wordOfNat a]] ∧ t.mot = s.mot ∧ t.saf = s.saf) := by
  intro a
  have hn : Leaves (fun s => (s.mot, s.saf)) markBits s.quiet (noted s.quiet p sf) := leaves_noted hs
  have hmot : (noted s.quiet p sf).mot = s.mot := congrArg (·.1) hn.view
  have hsaf : (noted s.quiet p sf).saf = s.saf := congrArg (·.2) hn.view
  have hns := hn.noReset hs
  refine ⟨?_, ?_, ?_, ?_⟩
  · obtain ⟨hleaves, hbit⟩ := halt_spec hns (a % 256)
    obtain ⟨heq, hsent, hin⟩ := stitch_executed (act := 0) (op := 0x29) (ws := []) (run := fun s => (s.haltAxes (a % 256)).haltLong (a % 256))
      hs hhears hw haddr hcopy hnew hset hme hfresh hfree hleaves
    refine ⟨_, congrArg Host.Outcome.next heq, hsent, hin, (congrArg (·.2.1) hleaves.view).trans hmot, fun ax => ?_⟩
    refine (hbit ax).trans ?_
    rw [bit_meCtl_of_marks hn, testBit_mod_256]
    rfl
  · obtain ⟨hleaves, hreq⟩ := obstRel_spec (s := noted s.quiet p sf) (a % 256) (sf.arg.getLsbD 8)
    obtain ⟨heq, hsent, -⟩ := stitch_executed (act := 1) (op := 0x2C) (ws := []) (run := (·.obstRel (a % 256) (sf.arg.getLsbD 8)))
      hs hhears hw haddr hcopy hnew hset hme hfresh hfree hleaves
    refine ⟨_, congrArg Host.Outcome.next heq, hsent, fun ax => ⟨fun h => ?_, fun h => ?_⟩⟩
    · refine ((hreq ax).1 (by rw [testBit_mod_256, h])).trans ?_
      rw [State.me, hmot]
      rfl
    · exact (hreq ax).2 (by rw [testBit_mod_256, h])
  · have hlow : a % 4 < 4 := Nat.mod_lt _ (by decide)
    have hgroups : (noted s.quiet p sf).groupsOf (a % 4) = s.groupsOf (a % 4) := by unfold State.groupsOf; rw [hsaf]
    have hready : (noted s.quiet p sf).saf.s.ready = s.saf.s.ready := by rw [hsaf]
    have hleaves : Leaves (runView fun _ => ()) runBits (noted s.quiet p sf) (stopRun (a % 4) (noted s.quiet p sf)) := by
      cases h : s.saf.s.ready with
      | true => exact (stopRun_ready hns hlow (hready.trans h)).1
      | false => exact (stopRun_unready hns (hready.trans h)).1
    obtain ⟨heq, hsent, -⟩ := stitch_executed (act := 2) (op := 0x36) (ws := []) (run := stopRun (a % 4))
      hs hhears hw haddr hcopy hnew hset hme hfresh hfree hleaves
    refine ⟨_, congrArg Host.Outcome.next heq, hsent, fun h => ?_, fun h => ?_⟩
    · refine (stopRun_ready hns hlow (hready.trans h)).2.trans ?_
      rw [hsaf, hgroups]
    · exact (stopRun_unready hns (hready.trans h)).2.trans hsaf
  · obtain ⟨heq, hsent, -⟩ := stitch_executed (act := 3) (op := 0x06) (ws := [wordOfNat a]) (run := id) (g := fun _ => ())
      hs hhears hw haddr hcopy hnew hset hme hfresh hfree .refl
    exact ⟨_, congrArg Host.Outcome.next heq, hsent, hmot, hsaf⟩

include haddr in
/-- A stitch frame for this worker whose SSEQ it has accepted lately. -/
theorem stitches_repeated (hme : sf.dest = s.linkAddr) (hseen : ¬Fresh s sf.sseq) :
    (∃ t, exec (.stitchHalt p sf) s = .next t ∧ t.out.sent = [] ∧ ∀ ax : Axis, t.get (R.ME_CTL ax) = s.get (R.ME_CTL ax))
    ∧ (∃ t, exec (.stitchObstRel p sf) s = .next t ∧ t.out.sent = [] ∧ t.mot = s.mot)
    ∧ (∃ t, exec (.stitchSafeStop p sf) s = .next t ∧ t.out.sent = [] ∧ t.saf = s.saf)
    ∧ ∃ t, exec (.stitchPing p sf) s = .next t ∧ t.out.sent = [] := by
  have hm : Marks s.quiet ((s.quiet.stitchErrors p sf).heardManager p) := marks_stitchHeard hs
  have heq (act op : Nat) (ws : List Word) (run : State → State) :
      (s.quiet.stitchIn p sf act op ws run).fwStep = (s.quiet.stitchErrors p sf).heardManager p := by
    rw [stitchIn_repeated (s := s.quiet) hs hhears hw haddr hcopy hme hseen, fwStep_of_settled (hm.settled (settled_quiet hset))]
  exact ⟨⟨_, congrArg Host.Outcome.next (heq 0 _ _ _), hm.silent, fun ax => (get_meCtl_of_marks hm ax).trans rfl⟩,
    ⟨_, congrArg Host.Outcome.next (heq 1 _ _ _), hm.silent, hm.mot⟩, ⟨_, congrArg Host.Outcome.next (heq 2 _ _ _), hm.silent, hm.saf⟩, _, congrArg Host.Outcome.next (heq 3 _ _ _), hm.silent⟩

/-- A stitch frame for another worker. -/
theorem stitch_passed (hother : sf.dest ≠ s.linkAddr) (hnot : s.forMe sf.dest = false) (hfree : Free s (otherPort p)) :
    ∃ t, exec (.stitchHalt p sf) s = .next t
      ∧ t.out.sent = [.stitch (otherPort p) sf.dest 0 sf.txn.toNat sf.sseq.toNat sf.arg.toNat sf.first sf.second]
      ∧ ∀ ax : Axis, t.get (R.ME_CTL ax) = s.get (R.ME_CTL ax) := by
  have hm : Marks s.quiet ((s.quiet.stitchErrors p sf).heardManager p) := marks_stitchHeard hs
  have hsett := hm.settled (settled_quiet hset)
  refine ⟨_, congrArg Host.Outcome.next ?_, sent_sends hm.silent, fun ax => (get_meCtl_of_marks hm ax).trans rfl⟩
  rw [stitchIn_passes (s := s.quiet) hs hhears hw hcopy hother hnot hfree]
  exact fwStep_of_settled ⟨hsett.reqs, hsett.inq, hsett.outq⟩

end

/-- Settles O58: a worker forwards or takes a frame as its destination says, the manager ends the transaction that a response answers, and a
stitch frame is executed and answered once. -/
theorem framesAndStitchesReachTheirDevice : Obligations.FramesAndStitchesReachTheirDevice := by
  unfold Obligations.FramesAndStitchesReachTheirDevice
  intro s p hs hhears q
  refine ⟨fun f hcls hdest => ⟨?_, ?_, ?_⟩, fun x rest hman hq => stitch_sent hman hq, fun f hw haddr hcopy hnew hset => ⟨?_, ?_, ?_⟩⟩
  · exact fun hw _ hother hnot hgood hset hfree => frames_forwarded hs hhears hcls hdest hw hother hnot hgood hset hfree
  · exact fun hw haddr hme hsrc hnew hstop => request_taken hs hhears hcls hdest hw haddr hme hsrc hnew hstop
  · exact fun hman hme hsrc hgood hlink hrun hset => frames_managed hs hhears hcls hdest hman hme hsrc hgood hlink hrun hset
  · exact fun hme hfresh hfree => stitches_executed hs hhears hw haddr hcopy hnew hset hme hfresh hfree
  · exact fun hme hseen => stitches_repeated hs hhears hw haddr hcopy hset hme hseen
  · exact fun hother hnot hfree => stitch_passed hs hhears hw hcopy hset hother hnot hfree

end Sys2Proof.Machine
end
